-- ==== Sys2Proof/Word.lean ====
section
/-! DEFINITION. The plainest types of the model: bytes, register fields, and little-endian byte strings (R6). -/

namespace Sys2Proof

/-- One byte of memory, of a packet or of an image. -/
abbrev Byte := BitVec 8

/-- A field of a register: the address of its 32-bit word, its lowest bit and its width (R5, R8). -/
structure Field where
  addr : Nat
  lo : Nat
  width : Nat
  deriving DecidableEq, Repr

/-- The one number that names a field in the register store. -/
abbrev Field.key (f : Field) : Nat := f.addr * 32 + f.lo

/-- The bytes of `v`, least significant first, `n` of them (R6). -/
def leBytes : Nat → Nat → List Byte
  | 0, _ => []
  | n + 1, v => BitVec.ofNat 8 v :: leBytes n (v / 256)

/-- The number whose bytes, least significant first, are the list (R6). -/
def leNat : List Byte → Nat
  | [] => 0
  | b :: bs => b.toNat + 256 * leNat bs

/-- `n` bytes of a list from offset `off`; bytes beyond its end read as zero. -/
def sliceBytes (bs : List Byte) (off n : Nat) : List Byte :=
  (List.range n).map fun i => bs.getD (off + i) 0#8

/-- The little-endian integer of `n` bytes at offset `off` (R6). -/
def leAt (bs : List Byte) (off n : Nat) : Nat := leNat (sliceBytes bs off n)

/-- Bit `i` of a number (R5). -/
def bitAt (v i : Nat) : Bool := v / 2 ^ i % 2 == 1

/-- Bits `lo` and up of a number, `w` of them (R5). -/
def bitsAt (v lo w : Nat) : Nat := v / 2 ^ lo % 2 ^ w

/-- A flag as a one-bit number. -/
def bit (b : Bool) : Nat := if b then 1 else 0

/-- `a / b` rounded up. -/
def ceilDiv (a b : Nat) : Nat := (a + b - 1) / b

/-- A number held at the ceiling of a field `w` bits wide. -/
def satW (w v : Nat) : Nat := min v (2 ^ w - 1)

end Sys2Proof
end

