-- ==== Sys2Proof/Syntax.lean ====
section
/-! DEFINITION. The commands of the block: one constructor for each row of spec/opcode_table.json, with the operands the
row's rule gives it. What the spec leaves to the world outside the block (a measurement, a decode result, whether an
operation passed) is an operand of the command that reports it. -/

namespace Sys2Proof

/-- A warden unit (R374). -/
inductive WardenUnit where
  | a | b
  deriving DecidableEq, Repr

/-- Who sends a command over a transport of the block: the span bus, a host port, or one of the wardens itself. -/
inductive Src where
  | span
  | hport (n : Fin 4)
  | warden (u : WardenUnit)
  deriving DecidableEq, Repr

/-- The four event logs of an LD (R188). -/
inductive CxlLogId where
  | informational | warning | failure | fatal
  deriving DecidableEq, Repr

/-- An engine that plays bars: a DRAM channel or a NAND channel (R62). -/
inductive Engine where
  | dram (c : Fin 8)
  | nand (n : Fin 16)
  deriving DecidableEq, Repr

/-- A validated command packet (R471): who sent it, its header fields and its parameter bytes. -/
structure Pkt where
  src : Src
  opcode : Nat
  /-- the FLAGS byte: bit 0 EXPERT, bit 1 NO_REPLY, bit 2 BROADCAST, bit 3 GROUP -/
  flags : Nat
  tag : Nat
  dest : Nat
  gen : Nat
  params : List Byte
  /-- BAR_COUNT when its last byte arrived (R492) -/
  rxBar : Nat
  deriving DecidableEq, Repr

/-- What the decoder of a DRAM read finds (R131, R132). -/
inductive EccResult where
  | clean
  | corrected (device : Fin 16)
  | uncorrectable
  deriving DecidableEq, Repr

/-- A symbol read wrong: its codeword of the line and its place in the codeword (R128, R129). -/
structure SymErr where
  codeword : Fin 8
  symbol : Fin 20
  deriving DecidableEq, Repr

/-- How the devices answered a read of one line (R128 to R130): the symbols that were wrong, whether the data is that of another
line, and, for an error beyond what the code guarantees, what the decoder made of it and the bytes it gave. -/
structure LineRead where
  wrong : List SymErr
  other : Bool
  beyond : EccResult
  data : List Byte
  deriving DecidableEq, Repr

/-- What the SEC-DED code of a tile-map entry or a tile-state word finds (R171, R203). -/
inductive SecDed where
  | clean
  | corrected
  | uncorrectable
  deriving DecidableEq, Repr

/-- A host request as it enters a port's transaction layer: its LD, tag, host physical address in 64-byte lines and slot of the bar
(R41, R167, R172), and what its look-ups in the tile state memory and the tile map find. -/
structure HostAccess where
  port : Fin 4
  ld : Fin 16
  tag : Nat
  line : Nat
  slot : Fin 6240
  word : SecDed
  entry : SecDed
  deriving DecidableEq, Repr

/-- One temperature reading: rank, subchannel, two's-complement degrees C and the device's MR4 2x request (R120). -/
structure TempReading where
  rank : Fin 2
  sub : Fin 2
  celsius : Int
  mr4 : Bool
  deriving DecidableEq, Repr

/-- How a training of a channel ended (R121, R123 to R125, R140): the result the device measured. -/
structure TrainOutcome where
  /-- the SPD's manufacturer, serial number and CRC (R124) -/
  spd : List Byte
  /-- the first temperature read, of mode-register initialisation (R121): its first reading and the others -/
  temp : TempReading
  temps : List TempReading
  /-- the SPD was read and agrees with the card configuration (R115) -/
  spdOk : Bool
  /-- the seed, if one was valid, gave the margin R125 asks for -/
  seededPass : Bool
  /-- full training passed -/
  fullPass : Bool
  /-- the row of R123 that failed -/
  failStep : Fin 9
  ms : Nat
  margin : Fin 256
  lane : Fin 16
  /-- pending rows for which the device reports a spare, in the order of the pending list -/
  spares : List Bool
  deriving DecidableEq, Repr

/-- What the analog front end measured in a phrase (R323): mean current in mA, charge positive; cell voltages in mV; the two
NTCs in degrees C, none where one reads open or short; the input rail in mV. -/
structure Meas where
  ma : Int
  cells : List Nat
  ntc0 : Option Int
  ntc1 : Option Int
  vin : Nat
  deriving DecidableEq, Repr

/-- The end of a start-up step, as the world outside the block reports it (R526): its duration in ms; at step 2 what the analog
front end measures and whether a pack with an ID EEPROM is present (R338), and the self-test of the identity key (R518); at step
3 the first sample of PWR_GO (R350); at step 5 which NAND channels meet R278. -/
structure StepReport where
  ms : Nat
  meas : Meas
  present : Bool
  eeprom : Option (List Byte)
  identityOk : Bool
  pwrGo : Bool
  nandUp : List Bool
  deriving DecidableEq, Repr

/-- Who accesses a register, and the slot of the bar in which the access reaches it (R10). -/
structure SrcSlot where
  src : Src
  slot : Fin 6240
  deriving DecidableEq, Repr

/-- A NAND channel and the slot of the bar in which an operation of it may start (R47). -/
structure NandSlot where
  chan : Fin 16
  slot : Fin 6240
  deriving DecidableEq, Repr

/-- A write of a channel's training record, and whether it completed (R126). -/
structure SeedWrite where
  chan : Fin 8
  ok : Bool
  deriving DecidableEq, Repr

/-- A channel whose walk takes a tile, and the lines of it that read with errors (R145). -/
structure WalkRead where
  chan : Fin 8
  errs : List (Fin 1024 × LineRead)
  deriving DecidableEq, Repr

/-- What the save scan reads for a tile: its word, its tile-map entry, and the lines of its frame that read with errors (R241). -/
structure SaveRead where
  word : SecDed
  entry : SecDed
  errs : List (Fin 1024 × LineRead)
  deriving DecidableEq, Repr

/-- The commands, in the order of the table. Each constructor names the rule of spec/ that gives its effect. -/
inductive Instr where
  /-- REGISTER_WRITE (R11) -/
  | registerWrite (src : SrcSlot) (a : Fin 0x100000) (size : Fin 9) (v : Nat)
  /-- RC_REGISTER_READ (R10) -/
  | rcRegisterRead (src : SrcSlot) (a : Fin 0x100000) (size : Fin 9)
  /-- WIDE_REGISTER_LOW_READ (R13) -/
  | wideRegisterLowRead (src : Src) (a : Fin 0x100000)
  /-- SCORE_VARIANT_REQ_WRITE (R53) -/
  | scoreVariantReqWrite (src : Src) (v : Nat)
  /-- GUARD_REGISTER_WRITE (R378) -/
  | guardRegisterWrite (src : Src) (latch : Fin 5) (word : Fin 4) (v : Nat)
  /-- HPORT_LD_SIZE_WRITE (R195) -/
  | hportLdSizeWrite (src : Src) (port : Fin 4) (ld : Fin 16) (v : Nat)
  /-- HPORT_CFG_WRITE (R194) -/
  | hportCfgWrite (src : Src) (port : Fin 4) (v : Nat)
  /-- EVT_ROUTE_REGISTER_WRITE (R462) -/
  | evtRouteRegisterWrite (src : Src) (w : Fin 128) (v : Nat)
  /-- EVT_MASK_REGISTER_WRITE (R462) -/
  | evtMaskRegisterWrite (src : Src) (w : Fin 16) (v : Nat)
  /-- SEQ_TABLE_REGISTER_WRITE (R364) -/
  | seqTableRegisterWrite (src : Src) (a : Fin 0x100000) (v : Nat)
  /-- FLASH_UNLOCK (R405) -/
  | flashUnlock (src : Src) (value : Nat)
  /-- PROGRAM_WORD (R406) -/
  | programWord (src : Src) (a data : Nat)
  /-- PROGRAM_WORD_DONE (R406) -/
  | programWordDone (ok : Bool)
  /-- ERASE_SECTOR (R409) -/
  | eraseSector (src : Src) (a : Nat)
  /-- ERASE_PULSE_DONE (R409) -/
  | erasePulseDone (ok : Bool)
  /-- ERASE_SUSPEND (R410) -/
  | eraseSuspend (src : Src) (a : Nat)
  /-- ERASE_RESUME (R410) -/
  | eraseResume (src : Src) (a : Nat)
  /-- BLANK_CHECK (R406) -/
  | blankCheck (src : Src) (a : Nat)
  /-- MARGIN_READ (R406) -/
  | marginRead (src : Src) (a : Nat) (margin : Fin 4) (diff : Fin 73)
  /-- FLASH_BANK_READ (R411) -/
  | flashBankRead (u : WardenUnit) (a : Fin 0x1400000) (fetch : Bool) (e : SecDed)
  /-- DOWNBEAT (R20) -/
  | downbeat
  /-- DEFERRED_VARIANT_SWITCH (R52) -/
  | deferredVariantSwitch
  /-- HOT_CONDITION_END_CHECK (R51) -/
  | hotConditionEndCheck
  /-- QUAD_PLAY (R36) -/
  | quadPlay (c : Fin 8) (q : Fin 1560)
  /-- HOST_READ_REQUEST (R172) -/
  | hostReadRequest (a : HostAccess)
  /-- HOST_WRITE_REQUEST (R17) -/
  | hostWriteRequest (a : HostAccess) (data : List Byte) (mask : List Bool)
  /-- HELD_WRITE_RELEASE (R216) -/
  | heldWriteRelease
  /-- HOLD_LONG (R217) -/
  | holdLong (port : Fin 4) (tag : Nat) (slot : Fin 6240)
  /-- DRAM_READ_RETURN (R131) -/
  | dramReadReturn (c : Fin 8) (e : LineRead)
  /-- POISON_MARKER_WRITE (R133) -/
  | poisonMarkerWrite (c : Fin 8)
  /-- URGENCY_RISE (R41) -/
  | urgencyRise (port : Fin 4) (tag : Nat) (slot : Fin 6240)
  /-- LATENCY_TARGET_REACHED (R44) -/
  | latencyTargetReached (port : Fin 4) (tag : Nat) (slot : Fin 6240)
  /-- ALERT_N_REPORT (R116) -/
  | alertNReport (c : Fin 8) (sub rank kind : Fin 2) (excess busy : Nat)
  /-- DRAM_CONTRACT_OVERRUN (R61) -/
  | dramContractOverrun (c : Fin 8) (excess busy : Nat)
  /-- NAND_CONTRACT_OVERRUN (R61) -/
  | nandContractOverrun (n : Fin 16) (die : Fin 8) (excess busy : Nat)
  /-- ENGINE_REST_LIMIT (R63) -/
  | engineRestLimit (e : Engine)
  /-- SCORE_LOAD_BEGIN (R98) -/
  | scoreLoadBegin (p : Pkt)
  /-- SCORE_LOAD_DATA (R99) -/
  | scoreLoadData (p : Pkt)
  /-- SCORE_LOAD_TIMEOUT (R99) -/
  | scoreLoadTimeout
  /-- SCORE_LOAD_END (R100) -/
  | scoreLoadEnd (p : Pkt)
  /-- SCORE_VERIFY_DONE (R95) -/
  | scoreVerifyDone
  /-- SCORE_ARM (R101) -/
  | scoreArm (p : Pkt)
  /-- SCORE_ARM_SWAP (R101) -/
  | scoreArmSwap
  /-- SCORE_QUERY (R104) -/
  | scoreQuery (p : Pkt)
  /-- TEMPERATURE_READ (R120) -/
  | temperatureRead (c : Fin 8) (readings : List TempReading)
  /-- TEMPERATURE_STALE (R121) -/
  | temperatureStale (c : Fin 8) (slot : Fin 6240)
  /-- SELF_REFRESH_ENTRY (R122) -/
  | selfRefreshEntry
  /-- SELF_REFRESH_EXIT (R122) -/
  | selfRefreshExit
  /-- ZQ_CALIBRATION (R127) -/
  | zqCalibration (c : Fin 8)
  /-- DQS_OSCILLATOR_TRACKING (R127) -/
  | dqsOscillatorTracking (c : Fin 8)
  /-- DRAM_TRAINING_DONE (R123) -/
  | dramTrainingDone (c : Fin 8) (o : TrainOutcome)
  /-- TRAINING_SEED_WRITE (R126) -/
  | trainingSeedWrite (c : SeedWrite)
  /-- PATROL_READ (R136) -/
  | patrolRead (c : Fin 8) (e : LineRead)
  /-- SCRUB_WRITEBACK (R138) -/
  | scrubWriteback (c : Fin 8)
  /-- SCRUB_SET (R139) -/
  | scrubSet (p : Pkt)
  /-- DCH_STATUS (R484) -/
  | dchStatus (p : Pkt)
  /-- DCH_OFFLINE (R144) -/
  | dchOffline (p : Pkt)
  /-- RELOCATION_TILE_COPY (R145) -/
  | relocationTileCopy (c : WalkRead)
  /-- RELOCATION_TILE_SWITCH (R145) -/
  | relocationTileSwitch (c : Fin 8)
  /-- RELOCATION_DONE (R147) -/
  | relocationDone (c : Fin 8)
  /-- DCH_ONLINE (R149) -/
  | dchOnline (p : Pkt)
  /-- CHANNEL_RETURN_DONE (R149) -/
  | channelReturnDone (c : Fin 8)
  /-- DRAM_CHANNEL_FAIL (R150) -/
  | dramChannelFail (c : Fin 8)
  /-- LINK_UP (R162) -/
  | linkUp (port : Fin 4) (rate width : Fin 3)
  /-- LINK_RETRAIN (R164) -/
  | linkRetrain (port : Fin 4) (rate width : Fin 3)
  /-- LINK_DOWN (R165) -/
  | linkDown (port : Fin 4)
  /-- PORT_RESET (R165) -/
  | portReset (port : Fin 4)
  /-- HDM_DECODER_COMMIT (R167) -/
  | hdmDecoderCommit (port : Fin 4) (ld : Fin 16) (dec : Fin 2) (base size ways gran : Nat)
  /-- REGION_ASSIGN (R175) -/
  | regionAssign (p : Pkt)
  /-- REGION_RELEASE (R177) -/
  | regionRelease (p : Pkt)
  /-- REGION_QUERY (R484) -/
  | regionQuery (p : Pkt)
  /-- FRAME_ZEROING_ENTRY (R178) -/
  | frameZeroingEntry
  /-- FRAME_ZEROED (R174) -/
  | frameZeroed (c : Fin 8)
  /-- PORT_CONFIG (R184) -/
  | portConfig (p : Pkt)
  /-- LATENCY_TARGET_SET (R45) -/
  | latencyTargetSet (p : Pkt)
  /-- GPF_PHASE1 (R190) -/
  | gpfPhase1 (port : Fin 4)
  /-- GPF_PHASE2 (R190) -/
  | gpfPhase2 (port : Fin 4) (ld : Fin 16) (slot : Fin 6240)
  /-- GPF_PHASE2_COMPLETE (R190) -/
  | gpfPhase2Complete (port : Fin 4) (slot : Fin 6240)
  /-- SET_SHUTDOWN_STATE (R192) -/
  | setShutdownState (port : Fin 4) (ld : Fin 16) (v : Bool)
  /-- GET_POISON_LIST (R189) -/
  | getPoisonList (port : Fin 4) (ld : Fin 16) (dpa len : Nat)
  /-- INJECT_POISON (R161) -/
  | injectPoison (port : Fin 4) (ld : Fin 16) (dpa : Nat)
  /-- CLEAR_POISON (R161) -/
  | clearPoison (port : Fin 4) (ld : Fin 16) (dpa : Nat) (data : List Byte)
  /-- GET_HEALTH_INFO (R189) -/
  | getHealthInfo (port : Fin 4) (ld : Fin 16)
  /-- CDAT_READ (R187) -/
  | cdatRead (port : Fin 4) (ld : Fin 16)
  /-- GET_VERSION (R506) -/
  | getVersion (port : Fin 4) (ld : Fin 16)
  /-- GET_CAPABILITIES (R506) -/
  | getCapabilities (port : Fin 4) (ld : Fin 16)
  /-- NEGOTIATE_ALGORITHMS (R506) -/
  | negotiateAlgorithms (port : Fin 4) (ld : Fin 16) (offers : Bool)
  /-- GET_DIGESTS (R506) -/
  | getDigests (port : Fin 4) (ld : Fin 16)
  /-- GET_CERTIFICATE (R507) -/
  | getCertificate (port : Fin 4) (ld : Fin 16) (slot : Fin 8) (off len : Nat)
  /-- CHALLENGE (R506) -/
  | challenge (port : Fin 4) (ld : Fin 16) (slot : Fin 8)
  /-- GET_MEASUREMENTS (R508) -/
  | getMeasurements (port : Fin 4) (ld : Fin 16) (index : Fin 256) (signed : Bool)
  /-- COOLING_EPOCH_BOUNDARY (R204) -/
  | coolingEpochBoundary
  /-- COOLING_SWEEP_STEP (R204) -/
  | coolingSweepStep (e : SecDed)
  /-- TILE_SELECT (R207) -/
  | tileSelect (c : Fin 8) (e : SecDed)
  /-- TILE_COPY_READ_DONE (R208) -/
  | tileCopyReadDone (tile : Nat) (errs : List (Fin 1024 × LineRead))
  /-- SEGMENT_COPY_ENTRY (R209) -/
  | segmentCopyEntry (tile : Nat)
  /-- STREAM_SEGMENT_CLOSE (R209) -/
  | streamSegmentClose
  /-- SEGMENT_COMMIT (R291) -/
  | segmentCommit (seg : Nat)
  /-- SEGMENT_ABANDON (R291) -/
  | segmentAbandon (seg : Nat)
  /-- STREAM_TOKEN_ADD (R210) -/
  | streamTokenAdd
  /-- NMAX_RECOMPUTE (R213) -/
  | nmaxRecompute
  /-- PERSISTENCE_ASSURED (R223) -/
  | persistenceAssured
  /-- PERSIST_POLICY_SET (R224) -/
  | persistPolicySet (p : Pkt)
  /-- STREAM_TUNE (R225) -/
  | streamTune (p : Pkt)
  /-- PERSIST_STATUS (R226) -/
  | persistStatus (p : Pkt)
  /-- PFAIL_N_CHANGE (R231) -/
  | pfailNChange (level : Bool) (slot : Fin 6240)
  /-- PFAIL_TRIGGER_LATCH (R231) -/
  | pfailTriggerLatch (slot : Fin 6240)
  /-- INPUT_UNDERVOLTAGE (R340) -/
  | inputUndervoltage (mv : Nat)
  /-- SAVE_NOW (R235) -/
  | saveNow (p : Pkt)
  /-- FENCE_IN_PLACE (R239) -/
  | fenceInPlace
  /-- SAVE_TILE_COPY (R240) -/
  | saveTileCopy (c : Fin 8) (r : SaveRead)
  /-- IMAGE_MAP_WRITTEN (R243) -/
  | imageMapWritten
  /-- KEYSTONE_COMMIT (R245) -/
  | keystoneCommit
  /-- SAVE_FAIL_RETURN (R251) -/
  | saveFailReturn
  /-- RESUME_IN_PLACE (R253) -/
  | resumeInPlace
  /-- PORT_FENCE_RELEASE (R253) -/
  | portFenceRelease (ok : Bool)
  /-- POWER_LOSS (R250) -/
  | powerLoss
  /-- BACKGROUND_RESTORE_TILE (R258) -/
  | backgroundRestoreTile (tile : Nat)
  /-- TOUCH_FETCH_ENTER (R263) -/
  | touchFetchEnter
  /-- TOUCH_FETCH_COMPLETE (R264) -/
  | touchFetchComplete (tile : Nat)
  /-- TOUCH_FETCH_LONG (R267) -/
  | touchFetchLong (tile : Nat)
  /-- RESTORE_CONTROL (R262) -/
  | restoreControl (p : Pkt)
  /-- NAND_PROGRAM_START (R292) -/
  | nandProgramStart (n : NandSlot)
  /-- NAND_PROGRAM_DONE (R286) -/
  | nandProgramDone (n : Fin 16) (die : Fin 8) (ok : Bool) (time : Nat)
  /-- NAND_READ_START (R258) -/
  | nandReadStart (n : NandSlot)
  /-- NAND_READ_DONE (R284) -/
  | nandReadDone (n : Fin 16) (die : Fin 8) (bits : Option (Fin 41))
  /-- NAND_ERASE_START (R293) -/
  | nandEraseStart (n : NandSlot)
  /-- NAND_ERASE_DONE (R307) -/
  | nandEraseDone (n : Fin 16) (die : Fin 8) (ok : Bool)
  /-- NAND_CHANNEL_FAIL (R289) -/
  | nandChannelFail (n : Fin 16) (noAnswer : Option (Fin 8))
  /-- COMPACTION_SHARE_MOVE (R293) -/
  | compactionShareMove
  /-- REFRESH_KEYSTONE (R295) -/
  | refreshKeystone
  /-- GOVERNOR_RECOMPUTE (R308) -/
  | governorRecompute
  /-- NCH_RETIRE (R310) -/
  | nchRetire (p : Pkt)
  /-- DECK_FORMAT (R311) -/
  | deckFormat (p : Pkt)
  /-- DECK_FORMAT_DONE (R311) -/
  | deckFormatDone
  /-- IMAGE_LIST (R313) -/
  | imageList (p : Pkt)
  /-- DECK_STATUS (R486) -/
  | deckStatus (p : Pkt)
  /-- ESTIMATOR_PHRASE (R325) -/
  | estimatorPhrase (m : Meas)
  /-- OCV_CORRECTION (R326) -/
  | ocvCorrection
  /-- ESTIMATOR_RECORD_WRITE (R337) -/
  | estimatorRecordWrite
  /-- REST_WINDOW (R330) -/
  | restWindow (p : Pkt)
  /-- REST_WINDOW_TIMEOUT (R331) -/
  | restWindowTimeout
  /-- PACK_REMOVAL (R332) -/
  | packRemoval
  /-- PACK_INSERTION (R332) -/
  | packInsertion (eeprom : Option (List Byte))
  /-- PACK_SETTLED (R332) -/
  | packSettled
  /-- PACK_PRESENT_GLITCH (R332) -/
  | packPresentGlitch (phrases : Fin 16)
  /-- PACK_PROTECT_WARN (R339) -/
  | packProtectWarn (cond : Fin 4) (value : Nat)
  /-- PACK_PROTECT_TRIP (R339) -/
  | packProtectTrip (cond : Fin 4) (value : Nat)
  /-- PACK_CHARGE_FAULT (R339) -/
  | packChargeFault (cell : Fin 6)
  /-- SHIP_MODE (R341) -/
  | shipMode (p : Pkt)
  /-- SHIP_DISCONNECT (R341) -/
  | shipDisconnect
  /-- SHIP_WAKE (R341) -/
  | shipWake (straps : Fin 64)
  /-- PACK_PARAMS_SET (R342) -/
  | packParamsSet (p : Pkt)
  /-- PACK_STATUS (R342) -/
  | packStatus (p : Pkt)
  /-- PMBUS_ALERT (R559) -/
  | pmbusAlert (status : Nat)
  /-- PWR_GO_START (R348) -/
  | pwrGoStart
  /-- START (R349) -/
  | start (p : Pkt)
  /-- SEQ_IN_START (R351) -/
  | seqInStart
  /-- PWR_GO_STUCK_LOW (R350) -/
  | pwrGoStuckLow
  /-- RAIL_ENABLE (R352) -/
  | railEnable (n : Fin 16)
  /-- RAIL_GOOD (R352) -/
  | railGood (n : Fin 16) (linear : Bool)
  /-- RAIL_PG_TIMEOUT (R352) -/
  | railPgTimeout (n : Fin 16)
  /-- PG_DROP (R353) -/
  | pgDrop (n : Fin 16)
  /-- PG_RETURN (R353) -/
  | pgReturn (n : Fin 16)
  /-- PG_GLITCH_EXPIRE (R353) -/
  | pgGlitchExpire (n : Fin 16)
  /-- SHUTDOWN_BEGIN (R359) -/
  | shutdownBegin
  /-- RAIL_RELEASE (R359) -/
  | railRelease (n : Fin 16)
  /-- RAIL_DISCHARGED (R360) -/
  | railDischarged (n : Fin 16) (mv : Nat)
  /-- RAIL_DISCHARGE_TIMEOUT (R360) -/
  | railDischargeTimeout (n : Fin 16) (mv : Nat)
  /-- POWER_UP_RETRY (R356) -/
  | powerUpRetry
  /-- OFF_STATE_RESTART (R362) -/
  | offStateRestart (offMs pfailHighMs : Nat) (dieTemp : Int)
  /-- SEQ_TABLE_SET (R364) -/
  | seqTableSet (p : Pkt)
  /-- SEQ_STATUS (R489) -/
  | seqStatus (p : Pkt)
  /-- MARGIN_SET (R366) -/
  | marginSet (p : Pkt)
  /-- MARGIN_STEP (R365) -/
  | marginStep (n : Fin 16) (ack : Bool)
  /-- WATCHDOG_RESET (R374) -/
  | watchdogReset (u : WardenUnit)
  /-- LATCH_CLAIM (R378) -/
  | latchClaim (u : WardenUnit) (latch : Fin 5) (claim : Fin 65536)
  /-- CLAIM_RESOLUTION (R378) -/
  | claimResolution
  /-- LATCH_REFRESH (R378) -/
  | latchRefresh (u : WardenUnit) (latch : Fin 5) (claim : Fin 65536)
  /-- LATCH_COMMAND (R378) -/
  | latchCommand (u : WardenUnit) (latch : Fin 5) (claim out : Fin 65536)
  /-- LEASE_CHECK (R379) -/
  | leaseCheck
  /-- TOLL_SEND (R383) -/
  | tollSend (u : WardenUnit)
  /-- TOLL_RECEIVE (R383) -/
  | tollReceive (u : WardenUnit) (frame : Nat)
  /-- TOLL_MISSED (R384) -/
  | tollMissed (u : WardenUnit)
  /-- PARTNER_CHECK (R385) -/
  | partnerCheck (u : WardenUnit)
  /-- CLAIM_READBACK (R386) -/
  | claimReadback (u : WardenUnit)
  /-- WARDEN_BOOT_DONE (R388) -/
  | wardenBootDone (u : WardenUnit) (result : Fin 5)
  /-- NO_WARDEN_TIMEOUT (R388) -/
  | noWardenTimeout
  /-- REVERTIVE_RETURN (R392) -/
  | revertiveReturn
  /-- WARDEN_HANDOVER (R393) -/
  | wardenHandover (p : Pkt)
  /-- FW_UPDATE_BEGIN (R394) -/
  | fwUpdateBegin (p : Pkt)
  /-- FW_UPDATE_DATA (R394) -/
  | fwUpdateData (p : Pkt)
  /-- FW_UPDATE_TIMEOUT (R394) -/
  | fwUpdateTimeout
  /-- FW_UPDATE_END (R395) -/
  | fwUpdateEnd (p : Pkt)
  /-- FW_UPDATE_BOOT_TIMEOUT (R395) -/
  | fwUpdateBootTimeout
  /-- WARDEN_STATUS (R489) -/
  | wardenStatus (p : Pkt)
  /-- MIN_SV_RAISE (R502) -/
  | minSvRaise
  /-- OPTION_WRITE (R426) -/
  | optionWrite (p : Pkt)
  /-- FLASH_READ (R427) -/
  | flashRead (p : Pkt)
  /-- SPAN_IBI_REQUEST (R442) -/
  | spanIbiRequest
  /-- RECORDER_RECORD_DONE (R449) -/
  | recorderRecordDone
  /-- RECORDER_DRAIN_END (R454) -/
  | recorderDrainEnd
  /-- SET_TIME_ANCHOR (R448) -/
  | setTimeAnchor (p : Pkt)
  /-- RECORDER_READ (R460) -/
  | recorderRead (p : Pkt)
  /-- RECORDER_CLEAR (R457) -/
  | recorderClear (p : Pkt)
  /-- RECORDER_CLEAR_DONE (R457) -/
  | recorderClearDone
  /-- EVT_ROUTE_SET (R461) -/
  | evtRouteSet (p : Pkt)
  /-- EVT_MASK (R462) -/
  | evtMask (p : Pkt)
  /-- MAILBOX_COMMAND_PACKET (R466) -/
  | mailboxCommandPacket (port : Fin 4) (ld : Fin 16) (bytes : List Byte) (late : Bool)
  /-- SPAN_PRIVATE_WRITE (R469) -/
  | spanPrivateWrite (bytes : List Byte) (late : Bool)
  /-- SPAN_PRIVATE_READ (R469) -/
  | spanPrivateRead
  /-- REPLY_UNREAD_TIMEOUT (R469) -/
  | replyUnreadTimeout
  /-- VENDOR_BROADCAST_CCC (R470) -/
  | vendorBroadcastCcc (bytes : List Byte) (late : Bool)
  /-- ENTDAA (R468) -/
  | entdaa (addr : Fin 128)
  /-- RSTDAA (R468) -/
  | rstdaa
  /-- SETNEWDA (R467) -/
  | setnewda (addr : Fin 128)
  /-- SETDASA (R467) -/
  | setdasa
  /-- ENEC (R442) -/
  | enec
  /-- DISEC (R442) -/
  | disec
  /-- GETPID (R468) -/
  | getpid
  /-- GETBCR (R467) -/
  | getbcr
  /-- GETDCR (R467) -/
  | getdcr
  /-- GETSTATUS (R467) -/
  | getstatus
  /-- GETMWL (R467) -/
  | getmwl
  /-- GETMRL (R467) -/
  | getmrl
  /-- SETMWL (R467) -/
  | setmwl
  /-- SETMRL (R467) -/
  | setmrl
  /-- ENTHDR0 (R467) -/
  | enthdr0
  /-- ECHO (R482) -/
  | echo (p : Pkt)
  /-- IDENTIFY (R482) -/
  | identify (p : Pkt)
  /-- GET_STATUS (R482) -/
  | getStatus (p : Pkt)
  /-- RESET_DEVICE (R522) -/
  | resetDevice (p : Pkt)
  /-- RESET_DEVICE_EXECUTE (R522) -/
  | resetDeviceExecute
  /-- SET_GROUPS (R480) -/
  | setGroups (p : Pkt)
  /-- IDLE_HINT (R532) -/
  | idleHint (p : Pkt)
  /-- IDLE_HINT_EXPIRE (R532) -/
  | idleHintExpire (src : Fin 5)
  /-- DIAG_LOOPBACK (R492) -/
  | diagLoopback (p : Pkt)
  /-- REG_READ (R493) -/
  | regRead (p : Pkt)
  /-- REG_WRITE (R493) -/
  | regWrite (p : Pkt)
  /-- SEC_GET_CERT (R507) -/
  | secGetCert (p : Pkt)
  /-- SEC_CRYPTO_ERASE (R517) -/
  | secCryptoErase (p : Pkt)
  /-- SEC_KEY_ROTATE (R516) -/
  | secKeyRotate (p : Pkt)
  /-- SEC_ESCROW_SET (R514) -/
  | secEscrowSet (p : Pkt)
  /-- COLD_POWER_ON (R521) -/
  | coldPowerOn (straps : Fin 64)
  /-- SYS_RST_N_ASSERT (R556) -/
  | sysRstNAssert (slot : Fin 6240)
  /-- STARTUP_STEP_DONE (R526) -/
  | startupStepDone (r : StepReport)
  /-- PKG_PG_TIMEOUT (R548) -/
  | pkgPgTimeout
  /-- SUPPLY_UNDERVOLTAGE (R550) -/
  | supplyUndervoltage
  /-- CRYSTAL_FAULT (R562) -/
  | crystalFault
  /-- DIE_TEMP_READ (R563) -/
  | dieTempRead (temps : List Int)
  /-- THERMAL_TRIP (R563) -/
  | thermalTrip
  /-- THERMAL_CUTOFF (R563) -/
  | thermalCutoff
  /-- POWER_STATE_SELECT (R533) -/
  | powerStateSelect
  /-- POWER_STATE_WAKE (R533) -/
  | powerStateWake (us : Nat)
  /-- HIBERNATE_EXIT (R535) -/
  | hibernateExit (cause : Fin 6)
  /-- OPERATING_SECOND (R524) -/
  | operatingSecond
  /-- OPTION_STAGING_TIMEOUT (R426) -/
  | optionStagingTimeout
  /-- SYS_RST_N_RELEASE (R556) -/
  | sysRstNRelease
  /-- IBI_ACCEPTED (R442) -/
  | ibiAccepted (accepted : Bool)
  /-- HDR_EXIT_PATTERN (R467) -/
  | hdrExitPattern
  /-- CLEAR_EVENT_RECORDS (R188) -/
  | clearEventRecords (port : Fin 4) (ld : Fin 16) (log : CxlLogId) (n : Nat)
  deriving DecidableEq, Repr

end Sys2Proof
end

