-- ==== Sys2Proof/WellFormed.lean ====
section
/-! DEFINITION. Well-formed commands: operands of the widths the spec gives their fields. A command that is not well formed
cannot be put on the wire; the machine gives it a meaning all the same. -/

namespace Sys2Proof

/-- A packet's header fields fit their widths and its parameters their limit (R471). -/
def wfPkt (p : Pkt) : Bool :=
  decide (p.opcode < 2 ^ 16) && decide (p.flags < 2 ^ 4) && decide (p.tag < 2 ^ 16) && decide (p.dest < 2 ^ 8)
    && decide (p.gen < 2 ^ 32) && decide (p.params.length ≤ 4060)

/-- A line of data: 64 bytes (R17). -/
def wfLine (data : List Byte) : Bool := decide (data.length = 64)

/-- A pack has at most six cells (R320), and cell and input voltages fit sixteen bits (R321, R334). -/
def wfMeas (m : Meas) : Bool :=
  decide (m.cells.length ≤ 6) && m.cells.all (fun x => decide (x < 2 ^ 16)) && decide (m.vin < 2 ^ 16)

/-- What a read's decoder may have made of the line is a line. -/
def wfRead (e : LineRead) : Bool := wfLine e.data

/-- Is a command well formed? -/
def Instr.wellFormed (i : Instr) : Bool :=
  match i with
  | .registerWrite _ _ _ v => decide (v < 2 ^ 64)
  | .scoreVariantReqWrite _ v => decide (v < 2 ^ 32)
  | .guardRegisterWrite _ _ _ v => decide (v < 2 ^ 32)
  | .hportLdSizeWrite _ _ _ v => decide (v < 2 ^ 32)
  | .hportCfgWrite _ _ v => decide (v < 2 ^ 32)
  | .evtRouteRegisterWrite _ _ v => decide (v < 2 ^ 32)
  | .evtMaskRegisterWrite _ _ v => decide (v < 2 ^ 32)
  | .seqTableRegisterWrite _ _ v => decide (v < 2 ^ 32)
  | .flashUnlock _ value => decide (value < 2 ^ 32)
  | .programWord _ a data => decide (a < 2 ^ 32) && decide (data < 2 ^ 64)
  | .eraseSector _ a => decide (a < 2 ^ 32)
  | .eraseSuspend _ a => decide (a < 2 ^ 32)
  | .eraseResume _ a => decide (a < 2 ^ 32)
  | .blankCheck _ a => decide (a < 2 ^ 32)
  | .marginRead _ a _ _ => decide (a < 2 ^ 32)
  | .hostWriteRequest _ data mask => wfLine data && decide (mask.length = 64)
  | .scoreLoadBegin p => wfPkt p
  | .scoreLoadData p => wfPkt p
  | .scoreLoadEnd p => wfPkt p
  | .scoreArm p => wfPkt p
  | .scoreQuery p => wfPkt p
  | .scrubSet p => wfPkt p
  | .dchStatus p => wfPkt p
  | .dchOffline p => wfPkt p
  | .dchOnline p => wfPkt p
  | .regionAssign p => wfPkt p
  | .regionRelease p => wfPkt p
  | .regionQuery p => wfPkt p
  | .portConfig p => wfPkt p
  | .latencyTargetSet p => wfPkt p
  | .clearPoison _ _ _ data => wfLine data
  | .getCertificate _ _ _ off len => decide (off < 2 ^ 16) && decide (len < 2 ^ 16)
  | .persistPolicySet p => wfPkt p
  | .streamTune p => wfPkt p
  | .persistStatus p => wfPkt p
  | .saveNow p => wfPkt p
  | .restoreControl p => wfPkt p
  | .nchRetire p => wfPkt p
  | .deckFormat p => wfPkt p
  | .imageList p => wfPkt p
  | .deckStatus p => wfPkt p
  | .estimatorPhrase m => wfMeas m
  | .restWindow p => wfPkt p
  | .shipMode p => wfPkt p
  | .packParamsSet p => wfPkt p
  | .packStatus p => wfPkt p
  | .pmbusAlert status => decide (status < 2 ^ 16)
  | .start p => wfPkt p
  | .seqTableSet p => wfPkt p
  | .seqStatus p => wfPkt p
  | .marginSet p => wfPkt p
  | .tollReceive _ frame => decide (frame < 2 ^ 64)
  | .wardenHandover p => wfPkt p
  | .fwUpdateBegin p => wfPkt p
  | .fwUpdateData p => wfPkt p
  | .fwUpdateEnd p => wfPkt p
  | .wardenStatus p => wfPkt p
  | .optionWrite p => wfPkt p
  | .flashRead p => wfPkt p
  | .setTimeAnchor p => wfPkt p
  | .recorderRead p => wfPkt p
  | .recorderClear p => wfPkt p
  | .evtRouteSet p => wfPkt p
  | .evtMask p => wfPkt p
  | .echo p => wfPkt p
  | .identify p => wfPkt p
  | .getStatus p => wfPkt p
  | .resetDevice p => wfPkt p
  | .setGroups p => wfPkt p
  | .idleHint p => wfPkt p
  | .diagLoopback p => wfPkt p
  | .regRead p => wfPkt p
  | .regWrite p => wfPkt p
  | .secGetCert p => wfPkt p
  | .secCryptoErase p => wfPkt p
  | .secKeyRotate p => wfPkt p
  | .secEscrowSet p => wfPkt p
  | .dramReadReturn _ e => wfRead e
  | .patrolRead _ e => wfRead e
  | .relocationTileCopy x => x.errs.all fun e => wfRead e.2
  | .tileCopyReadDone _ l => l.all fun e => wfRead e.2
  | .saveTileCopy _ x => x.errs.all fun e => wfRead e.2
  | .startupStepDone r => wfMeas r.meas && decide (r.nandUp.length = 16)
  | .rcRegisterRead .. | .wideRegisterLowRead .. | .programWordDone .. | .erasePulseDone .. | .flashBankRead ..
  | .downbeat | .deferredVariantSwitch | .hotConditionEndCheck | .quadPlay .. | .hostReadRequest .. | .heldWriteRelease
  | .holdLong .. | .poisonMarkerWrite .. | .urgencyRise .. | .latencyTargetReached ..
  | .alertNReport .. | .dramContractOverrun .. | .nandContractOverrun .. | .engineRestLimit .. | .scoreLoadTimeout
  | .scoreVerifyDone | .scoreArmSwap | .temperatureRead .. | .temperatureStale .. | .selfRefreshEntry | .selfRefreshExit
  | .zqCalibration .. | .dqsOscillatorTracking .. | .dramTrainingDone .. | .trainingSeedWrite ..
  | .scrubWriteback .. | .relocationTileSwitch .. | .relocationDone .. | .channelReturnDone ..
  | .dramChannelFail .. | .linkUp .. | .linkRetrain .. | .linkDown .. | .portReset .. | .hdmDecoderCommit ..
  | .frameZeroingEntry | .frameZeroed .. | .gpfPhase1 .. | .gpfPhase2 .. | .gpfPhase2Complete .. | .setShutdownState ..
  | .getPoisonList .. | .injectPoison .. | .getHealthInfo .. | .cdatRead .. | .getVersion .. | .getCapabilities ..
  | .negotiateAlgorithms .. | .getDigests .. | .challenge .. | .getMeasurements .. | .coolingEpochBoundary
  | .coolingSweepStep .. | .tileSelect .. | .segmentCopyEntry .. | .streamSegmentClose
  | .segmentCommit .. | .segmentAbandon .. | .streamTokenAdd | .nmaxRecompute | .persistenceAssured | .pfailNChange ..
  | .pfailTriggerLatch .. | .inputUndervoltage .. | .fenceInPlace | .imageMapWritten
  | .keystoneCommit | .saveFailReturn | .resumeInPlace | .portFenceRelease .. | .powerLoss | .backgroundRestoreTile ..
  | .touchFetchEnter | .touchFetchComplete .. | .touchFetchLong .. | .nandProgramStart .. | .nandProgramDone ..
  | .nandReadStart .. | .nandReadDone .. | .nandEraseStart .. | .nandEraseDone .. | .nandChannelFail ..
  | .compactionShareMove | .refreshKeystone | .governorRecompute | .deckFormatDone | .ocvCorrection
  | .estimatorRecordWrite | .restWindowTimeout | .packRemoval | .packInsertion .. | .packSettled | .packPresentGlitch ..
  | .packProtectWarn .. | .packProtectTrip .. | .packChargeFault .. | .shipDisconnect | .shipWake .. | .pwrGoStart
  | .seqInStart | .pwrGoStuckLow | .railEnable .. | .railGood .. | .railPgTimeout .. | .pgDrop .. | .pgReturn ..
  | .pgGlitchExpire .. | .shutdownBegin | .railRelease .. | .railDischarged .. | .railDischargeTimeout ..
  | .powerUpRetry | .offStateRestart .. | .marginStep .. | .watchdogReset .. | .latchClaim .. | .claimResolution
  | .latchRefresh .. | .latchCommand .. | .leaseCheck | .tollSend .. | .tollMissed .. | .partnerCheck ..
  | .claimReadback .. | .wardenBootDone .. | .noWardenTimeout | .revertiveReturn | .fwUpdateTimeout
  | .fwUpdateBootTimeout | .minSvRaise | .spanIbiRequest | .recorderRecordDone | .recorderDrainEnd | .recorderClearDone
  | .mailboxCommandPacket .. | .spanPrivateWrite .. | .spanPrivateRead | .replyUnreadTimeout | .vendorBroadcastCcc ..
  | .entdaa .. | .rstdaa | .setnewda .. | .setdasa | .enec | .disec | .getpid | .getbcr | .getdcr | .getstatus | .getmwl
  | .getmrl | .setmwl | .setmrl | .enthdr0 | .resetDeviceExecute | .idleHintExpire .. | .coldPowerOn ..
  | .sysRstNAssert .. | .pkgPgTimeout | .supplyUndervoltage | .crystalFault | .dieTempRead .. | .thermalTrip
  | .thermalCutoff | .powerStateSelect | .powerStateWake .. | .hibernateExit .. | .operatingSecond
  | .optionStagingTimeout | .sysRstNRelease | .ibiAccepted .. | .hdrExitPattern | .clearEventRecords .. => true

end Sys2Proof
end

