-- ==== Sys2Proof/Decode.lean ====
section
/-! DEFINITION. The decoder of table words. The block has no instruction words: spec/opcode_table.json gives no row any bits
(its `fields` are empty), so no word spells a command. Command packets are bytes, and their form stands in
Machine/Operands.lean (R471). -/

namespace Sys2Proof

/-- The command that a word of the table's bits spells: none, since no row has bits. -/
def decodeTableWord (_nbits _w : Nat) : Option Instr := none

end Sys2Proof
end

