-- ==== Sys2Proof/Config.lean ====
section
/-! DEFINITION. What the spec leaves open or does not compute: the free values. Each is a constant without a body, so a
statement holds whatever it is. A draw is applied to the counter `State.draws`. -/

namespace Sys2Proof

/-- SHA-384 of a byte string (R6); the standard's function, not computed in the model (notes/assumptions/3.md). -/
opaque Config.sha384 : List Byte → List Byte

/-- ECDSA on brainpoolP384r1 with SHA-384: does the signature verify under the public key over the message?
Arguments: key, message, signature (R94, R500; notes/assumptions/3.md). -/
opaque Config.ecdsaVerify : List Byte → List Byte → List Byte → Bool

/-- A signature of the alias key after so many rotations, under the n-th drawn nonce (R499, R506; notes/assumptions/3.md). -/
opaque Config.signature : Nat → Nat → List Byte

/-- The DER certificate chains of SEC_GET_CERT, by slot and rotations of the alias key (R507; notes/assumptions/3.md). -/
opaque Config.certChain : Nat → Nat → List Byte

/-- The digest of the boot ROM (R508; notes/assumptions/3.md). -/
opaque Config.bootRomDigest : List Byte

/-- A byte that decryption under a media key other than the copy's yields, by copy sequence and offset (R510;
notes/assumptions/32.md). -/
opaque Config.wrongKeyByte : Nat → Nat → Byte

/-- Does the public key lie on the curve, and is it not the point at infinity (R499; notes/assumptions/3.md)? -/
opaque Config.onCurve : List Byte → Bool

/-- The Azinador firmware, score and option public keys in boot ROM (R496; notes/assumptions/3.md). -/
opaque Config.azFirmwareKey : List Byte
opaque Config.azScoreKey : List Byte
opaque Config.azOptionKey : List Byte

/-- The public part of the identity key of this Niril (R496, R511). -/
opaque Config.identityKey : List Byte

/-- What the bytes of a flash sector that is not NORMAL, or of a word that failed to program, are (R406, R410, R416), by a
counter and the address; and how many bits a MARGIN_READ without a measured result differs by
(notes/assumptions/38.md). -/
opaque Config.flashNoise : Nat → Nat → Byte

/-- Does IMP_WRAP, under the wrapping key of the named escrow entry, unwrap to a media key (R515; notes/assumptions/3.md)? -/
opaque Config.importUnwraps : List Byte → Nat → Bool

/-- WRAP and MK_CHECK of a KEY_REF, 56 bytes, by media key (R511; notes/assumptions/3.md). -/
opaque Config.wrapBytes : Nat → List Byte

/-- The 16-bit record kinds of the vendor Persistence, Region Change and CDAT Change records, which the spec does not number (R188;
notes/assumptions/86.md). -/
opaque Config.vendorKind : Nat → BitVec 16

/-- Random draws (R6, R468, R509): the n-th number drawn. -/
opaque Config.entropy : Nat → Nat

end Sys2Proof
end

