-- ==== Sys2Proof/Machine/DeckTypes.lean ====
section
/-! DEFINITION. The data types of the Deck (spec/08_deck.md R277 to R313): copies, stripes, bands, Keystones, and the
NAND channel engines. What lies on NAND is held as the structures the formats describe, not as scrambled pages
(notes/assumptions/30.md). -/

namespace Sys2Proof.Machine

/-- Kinds of segment, numbered from 1 as R299 codes them. -/
inductive SegKind where
  | stream | save | map | lostList | gc
  deriving DecidableEq, Repr

def SegKind.code : SegKind → Nat
  | .stream => 1 | .save => 2 | .map => 3 | .lostList => 4 | .gc => 5

/-- A share's contents: the tile (or, in MAP and LOST_LIST segments, the share index), its copy sequence, the media key it
is encrypted under, its plaintext bytes that are not zero and its poisoned lines (R299, R510). -/
structure Copy where
  tile : Nat
  seq : Nat
  mediaKey : Nat
  bytes : List Host.Cell
  poison : List Nat
  deriving DecidableEq, Repr

/-- A tile record (R300): ZERO, DATA at a location, or LOST. -/
inductive TileRec where
  | zero
  | data (die sb page pos seg : Nat)
  | lost
  deriving DecidableEq, Repr

/-- A stripe: its place, its segment, the channels out of service when it was written, its data shares, the channels whose
share is still to be programmed, and the share positions that are missing (R281 to R284, R299). -/
structure Stripe where
  die : Nat
  sb : Nat
  page : Nat
  kind : SegKind
  seg : Nat
  out : Nat
  shares : List (Nat × Copy)
  /-- no further copy enters it; its parity is formed -/
  closed : Bool
  todo : List Nat
  gone : List Nat
  /-- positions programmed into patch pages: position and patch page (R286) -/
  patches : List (Nat × Nat)
  deriving DecidableEq, Repr

/-- An open or closed segment (R209, R291): its number, kind, bar at which the first of its tiles became IN_FLIGHT, the
tiles it carries with their records, and whether it is closed. -/
structure Segment where
  num : Nat
  kind : SegKind
  first : Nat
  tiles : List (Nat × TileRec)
  closed : Bool
  deriving DecidableEq, Repr

/-- What a band is (R281, R292, R293). `raw` has not been erased since the format. -/
inductive BandState where
  | raw | erased
  | filling (next : Nat)
  | full
  /-- channels whose superblock is still to be erased -/
  | erasing (left : List Nat)
  | withdrawn
  deriving DecidableEq, Repr

/-- The region map as R168 gives it. -/
structure Region where
  active : Bool
  port : Nat
  ld : Nat
  base : Nat
  size : Nat
  tileBase : Nat
  gen : Nat
  deriving DecidableEq, Repr

/-- KEY_REF (R511): MODE 1 DEVICE or 2 ESCROW, the erase epoch, the escrow key's number in the key store of the writer,
and the media key it wraps. -/
structure KeyRef where
  mode : Nat
  epoch : Nat
  escrowId : Nat
  mediaKey : Nat
  deriving DecidableEq, Repr

/-- A Keystone (R243, R303): its image tile map lists every tile whose record is not ZERO. -/
structure Keystone where
  seq : Nat
  parent : Nat
  cause : Nat
  deckId : List Byte
  device : List Byte
  opSeconds : Nat
  pwrCycles : Nat
  bar : Nat
  regions : List Region
  map : List (Nat × TileRec)
  lost : List (Nat × Nat)
  out : Nat
  keyRef : KeyRef
  /-- NAND channels of the copies whose commit page verified -/
  copies : List Nat
  /-- NAND channels of copies that are not valid: torn, or failing their digest or signature (R246) -/
  bad : List Nat
  /-- NAND channels of copies with commit word and digest good whose signature does not verify (R246, R500): no write of this
  device leaves one -/
  forged : List Nat
  deriving DecidableEq, Repr

/-- A Keystone copy being written: its channel (16 while none has room, R249), body pages left, and whether its commit page is
still to come (R245). -/
structure KCopy where
  chan : Nat
  body : Nat
  commit : Bool
  deriving DecidableEq, Repr

/-- A Keystone being written: of a save, or a refresh (R245, R295). -/
structure KWrite where
  ks : Keystone
  copies : List KCopy
  refresh : Bool
  deriving DecidableEq, Repr

/-- What a die does. -/
inductive NandWork where
  /-- program the share of position `pos` of a stripe, or its patch -/
  | share (die sb page pos : Nat) (patch : Option Nat)
  /-- program the next page of a copy of the Keystone of sequence number `seq` -/
  | keyPage (seq copy : Nat)
  /-- read one share of a stripe for a tile that is fetched -/
  | fetch (tile pos : Nat)
  | patrol (die sb page pos : Nat)
  /-- read one share for a tile's copy that compaction moves -/
  | move (tile pos : Nat)
  | band (b : Nat)
  | ring (r : Nat)
  deriving DecidableEq, Repr

/-- An operation in progress: its die, what it does and the bar of its start (R79). -/
structure NandOp where
  die : Nat
  work : NandWork
  start : Nat
  deriving DecidableEq, Repr

/-- The two ring superblocks of a channel: the one being written, pages used in each and the sequence numbers each holds
(R296). -/
structure Ring where
  cur : Nat
  used : List Nat
  seqs : List (List Nat)
  deriving DecidableEq, Repr

/-- A NAND contract overrun of the current bar: its die, the class of the operation (1 program, 2 read, 3 erase) and the excess in
slots (R61, R62). -/
structure NandOverrun where
  die : Nat
  cls : Nat
  excess : Nat
  deriving DecidableEq, Repr

/-- A NAND channel. -/
structure NandCh where
  ops : List NandOp
  /-- dies held for their contract worst-case time: die and the slot, since bar 0, at which it is free (R79) -/
  held : List (Nat × Nat)
  /-- operations started in this bar in each of its two windows (R47) -/
  used : List Nat
  ring : Ring
  /-- the last 1,024 program times, in 0.1 µs, newest first (R307) -/
  times : List Nat
  /-- the wear warning of R307 was raised -/
  warned : Bool
  /-- the overruns reported in the current bar, in the order reported (R61, R62) -/
  overruns : List NandOverrun
  restBars : Nat
  busy : Nat
  /-- a failure cause that takes effect at the next downbeat (R289) -/
  failNext : Option Nat
  /-- spares on which the erase of a superblock has failed in a row, by die × 65,536 + logical superblock (R289) -/
  tried : List (Nat × Nat)
  deriving DecidableEq, Repr

/-- A tile that is fetched from the Deck: by touch or by background restore (R258, R263). -/
structure Fetch where
  tile : Nat
  /-- stamp of its first request, in slots -/
  stamp : Nat
  /-- bar at which it entered the touch queue; none while it waits for entry -/
  entered : Option Nat
  /-- share positions still to be read; empty once the data is in hand -/
  need : List Nat
  /-- reconstruction is under way -/
  rebuild : Bool
  /-- the copy can neither be read nor reconstructed (R260) -/
  lost : Bool
  /-- background restore, not touch -/
  bg : Bool
  /-- its data is in hand, and its write into DRAM was queued (R258, R264) -/
  queued : Bool
  /-- a die it needs was held by an ERASE that started before the tile became ABSENT (R265) -/
  eraseHeld : Bool
  /-- 0x15C was raised for it -/
  long : Bool
  deriving DecidableEq, Repr

/-- A live copy that compaction or the rebuild moves: its tile and record, the share positions still to be read, and whether the data
is reconstructed (R293). -/
structure Move where
  tile : Nat
  record : TileRec
  need : List Nat
  deriving DecidableEq, Repr

/-- The Deck: what lies on NAND, and the Deck engine's own tables. -/
structure DeckState where
  /-- Deck header: DECK_ID, and OP_SECONDS at format; none on a blank Deck (R297) -/
  header : Option (List Byte × Nat)
  /-- every system area was found erased (R306) -/
  blank : Bool
  /-- the format that runs is one of AUTO_FORMAT (R312) -/
  autoFormat : Bool
  /-- channels that failed for the life of the format, with their cause (R289) -/
  failed : List (Nat × Nat)
  /-- the stripes that hold live or stale copies (R281) -/
  stripes : List Stripe
  /-- bands by number; an unlisted band is raw (R293) -/
  bands : List (Nat × BandState)
  /-- the Keystones with a copy in some ring superblock (R296, R303) -/
  keystones : List Keystone
  /-- the Keystone whose copies are being written (R245, R295) -/
  writing : Option KWrite
  /-- a rebuild has ended and its refresh Keystone is still to be written (R289, R295) -/
  refreshWanted : Bool
  /-- location table (R290): tiles of ACTIVE regions whose record is not ZERO -/
  loc : List (Nat × TileRec)
  /-- segments not yet committed (R291) -/
  segs : List Segment
  /-- the next segment number, which is never reused within a format (R291) -/
  segNext : Nat
  /-- copies placed since start-up; with PWR_CYCLES they number the copy sequence (R299, R510) -/
  copies : Nat
  /-- bytes streamed and raw bytes programmed since format (R308) -/
  streamed : Nat
  raw : Nat
  /-- operating seconds when the wear governor last ran, and the bytes streamed then -/
  govPhrase : Nat
  govStreamed : Nat
  /-- die index on which the next stripe is placed (R281, notes/assumptions/34.md) -/
  nextDie : Nat
  /-- erase counts by channel, die and physical superblock (R298) -/
  wear : List (Nat × Nat)
  /-- logical superblocks that are remapped: key to physical number plus one; R280 -/
  remap : List (Nat × Nat)
  /-- superblocks marked for retirement at their next erase (R307), with the cause -/
  marked : List (Nat × Nat)
  /-- spares used on each die, by channel × 8 + die -/
  sparesUsed : List (Nat × Nat)
  /-- highest sequence number seen in any copy at the last scan, or started since start-up (R248) -/
  seqHigh : Nat
  /-- bands still to be rebuilt (R289) -/
  rebuild : List Nat
  /-- copies that compaction reads or has read and not yet moved (R293), and shares whose read is retried, with the next retry level
  (R284) -/
  moves : List Move
  retries : List (NandWork × Nat)
  /-- NAND patrol: the bar at which a pass began and the shares read in it -/
  patrolAt : Nat
  patrolPos : Nat
  chans : List NandCh
  deriving DecidableEq, Repr

/-- The parts of the card configuration that R105, R278 and R280 use and for which R422 gives no place
(notes/assumptions/33.md): dies per NAND channel, superblocks per die, populated channels; and the strap of TEST_EN (R554). -/
structure CardInfo where
  nandDies : Nat
  sbPerDie : Nat
  dchMask : Nat
  nchMask : Nat
  testEn : Bool
  deriving DecidableEq, Repr

end Sys2Proof.Machine
end

