-- ==== Sys2Proof/Machine/Regs.lean ====
section
/-! DEFINITION. The register map: every register of the spec, its address (R8), its fields, their access types (R9)
and their reset column (R15). `Reg.<REGISTER>_<FIELD>` names one field; an indexed register takes its instance index.
The rule of spec/ that gives each register stands beside it. -/

namespace Sys2Proof.Machine

/-- The access types of R9. -/
inductive AccessType where
  | ro | rw | wo | w1c | rc
  deriving DecidableEq, Repr

/-- The Reset column of a field map (R15). -/
inductive ResetKind where
  /-- a number, which the field holds after every reset -/
  | num (v : Nat)
  /-- loaded from the option area during start-up -/
  | opt
  /-- sampled from strap pins at power-on -/
  | strap
  /-- tracks a measured or computed quantity; reads zero before its first valid value -/
  | live
  deriving DecidableEq, Repr

/-- One field of a register map. -/
structure FieldDesc where
  lo : Nat
  width : Nat
  access : AccessType
  reset : ResetKind
  deriving DecidableEq, Repr

/-- One register of the map: the address of instance 0, the stride and the number of instances (R8). -/
structure RegDesc where
  base : Nat
  stride : Nat
  count : Nat
  fields : List FieldDesc
  deriving DecidableEq, Repr

-- SYS_ID (R538, 16_startup_power_states.md)
abbrev Reg.SYS_ID_PART : Field := ⟨0x00000, 16, 16⟩
abbrev Reg.SYS_ID_SILICON : Field := ⟨0x00000, 12, 4⟩
abbrev Reg.SYS_ID_GRADE : Field := ⟨0x00000, 8, 4⟩
abbrev Reg.SYS_ID_ESCROW_P : Field := ⟨0x00000, 7, 1⟩
-- SYS_STATE (R539, 16_startup_power_states.md)
abbrev Reg.SYS_STATE_STEP : Field := ⟨0x00004, 28, 4⟩
abbrev Reg.SYS_STATE_HALT : Field := ⟨0x00004, 27, 1⟩
abbrev Reg.SYS_STATE_HALT_STEP : Field := ⟨0x00004, 23, 4⟩
abbrev Reg.SYS_STATE_FIRST_USE : Field := ⟨0x00004, 18, 5⟩
-- SYS_RESET_CAUSE (R540, 16_startup_power_states.md)
abbrev Reg.SYS_RESET_CAUSE_KIND : Field := ⟨0x00008, 28, 4⟩
abbrev Reg.SYS_RESET_CAUSE_OFF_CAUSE : Field := ⟨0x00008, 24, 4⟩
abbrev Reg.SYS_RESET_CAUSE_WARDEN_RESETS : Field := ⟨0x00008, 16, 8⟩
-- SYS_PWR_STATE (R541, 16_startup_power_states.md)
abbrev Reg.SYS_PWR_STATE_STATE : Field := ⟨0x0000C, 29, 3⟩
abbrev Reg.SYS_PWR_STATE_LAST : Field := ⟨0x0000C, 26, 3⟩
abbrev Reg.SYS_PWR_STATE_LIMIT : Field := ⟨0x0000C, 22, 4⟩
abbrev Reg.SYS_PWR_STATE_T_KNOWN_MS : Field := ⟨0x0000C, 0, 16⟩
-- SYS_STAT (R542, 16_startup_power_states.md)
abbrev Reg.SYS_STAT_DIE_TEMP_C : Field := ⟨0x00010, 24, 8⟩
abbrev Reg.SYS_STAT_BAD_ACCESS : Field := ⟨0x00010, 0, 16⟩
-- SYS_PWR_CFG (R542, 16_startup_power_states.md)
abbrev Reg.SYS_PWR_CFG_H_EN : Field := ⟨0x00014, 31, 1⟩
abbrev Reg.SYS_PWR_CFG_D2_EN : Field := ⟨0x00014, 30, 1⟩
abbrev Reg.SYS_PWR_CFG_D1_QUIET : Field := ⟨0x00014, 16, 8⟩
abbrev Reg.SYS_PWR_CFG_SCRUB_DEFER_S : Field := ⟨0x00014, 0, 16⟩
-- SYS_STARTUP (R542, 16_startup_power_states.md)
abbrev Reg.SYS_STARTUP_TOTAL_MS : Field := ⟨0x00018, 16, 16⟩
abbrev Reg.SYS_STARTUP_TRAIN_MS : Field := ⟨0x00018, 0, 16⟩
-- SYS_HINT_n (R542, 16_startup_power_states.md)
abbrev Reg.SYS_HINT_REMAIN_US (n : Nat) : Field := ⟨0x00020 + 0x4 * n, 0, 32⟩
-- SYS_HINT_SPAN (R542, 16_startup_power_states.md)
abbrev Reg.SYS_HINT_SPAN_REMAIN_US : Field := ⟨0x00030, 0, 32⟩
-- BAR_COUNT_LO (R542, 16_startup_power_states.md)
abbrev Reg.BAR_COUNT_LO_BARS : Field := ⟨0x00040, 0, 32⟩
-- BAR_COUNT_HI (R542, 16_startup_power_states.md)
abbrev Reg.BAR_COUNT_HI_BARS : Field := ⟨0x00044, 0, 32⟩
-- PHRASE_COUNT (R542, 16_startup_power_states.md)
abbrev Reg.PHRASE_COUNT_PHRASES : Field := ⟨0x00048, 0, 32⟩
-- OP_SECONDS (R542, 16_startup_power_states.md)
abbrev Reg.OP_SECONDS_SECONDS : Field := ⟨0x0004C, 0, 32⟩
-- PWR_CYCLES (R542, 16_startup_power_states.md)
abbrev Reg.PWR_CYCLES_CYCLES : Field := ⟨0x00050, 0, 24⟩
-- EVT_REC_STAT (R463, 13_events_recorder.md)
abbrev Reg.EVT_REC_STAT_FULL : Field := ⟨0x10000, 31, 1⟩
abbrev Reg.EVT_REC_STAT_CLEARING : Field := ⟨0x10000, 30, 1⟩
abbrev Reg.EVT_REC_STAT_PROGRAMMING : Field := ⟨0x10000, 29, 1⟩
abbrev Reg.EVT_REC_STAT_DROPPED_LOST : Field := ⟨0x10000, 28, 1⟩
abbrev Reg.EVT_REC_STAT_QUEUE : Field := ⟨0x10000, 22, 6⟩
abbrev Reg.EVT_REC_STAT_NEXT : Field := ⟨0x10000, 0, 14⟩
-- EVT_REC_DROPPED (R464, 13_events_recorder.md)
abbrev Reg.EVT_REC_DROPPED_COUNT : Field := ⟨0x10004, 0, 32⟩
-- EVT_REC_SUPP (R464, 13_events_recorder.md)
abbrev Reg.EVT_REC_SUPP_SOURCES : Field := ⟨0x10008, 16, 10⟩
abbrev Reg.EVT_REC_SUPP_EVENTS : Field := ⟨0x10008, 0, 16⟩
-- EVT_REC_SCAN (R464, 13_events_recorder.md)
abbrev Reg.EVT_REC_SCAN_USABLE : Field := ⟨0x1000C, 16, 14⟩
abbrev Reg.EVT_REC_SCAN_TORN : Field := ⟨0x1000C, 0, 16⟩
-- EVT_GEN (R464, 13_events_recorder.md)
abbrev Reg.EVT_GEN_GEN : Field := ⟨0x10010, 0, 16⟩
-- EVT_ANCHOR_LO (R464, 13_events_recorder.md)
abbrev Reg.EVT_ANCHOR_LO_WALL : Field := ⟨0x10014, 0, 32⟩
-- EVT_ANCHOR_HI (R464, 13_events_recorder.md)
abbrev Reg.EVT_ANCHOR_HI_WALL : Field := ⟨0x10018, 0, 32⟩
-- EVT_ANCHOR_OPS (R464, 13_events_recorder.md)
abbrev Reg.EVT_ANCHOR_OPS_OPS : Field := ⟨0x1001C, 0, 32⟩
-- EVT_IBI (R464, 13_events_recorder.md)
abbrev Reg.EVT_IBI_IBI_EN : Field := ⟨0x10020, 31, 1⟩
abbrev Reg.EVT_IBI_SENT : Field := ⟨0x10020, 0, 16⟩
-- EVT_ROUTE_REFUSED (R196, 05_host_ports_regions.md)
abbrev Reg.EVT_ROUTE_REFUSED_COUNT : Field := ⟨0x10040, 0, 32⟩
-- EVT_MASK_w (R464, 13_events_recorder.md)
abbrev Reg.EVT_MASK_MASK (n : Nat) : Field := ⟨0x10080 + 0x4 * n, 0, 32⟩
-- EVT_PEND_w (R464, 13_events_recorder.md)
abbrev Reg.EVT_PEND_PEND (n : Nat) : Field := ⟨0x100C0 + 0x4 * n, 0, 32⟩
-- EVT_MSIX_n (R464, 13_events_recorder.md)
abbrev Reg.EVT_MSIX_VEC_0 (n : Nat) : Field := ⟨0x10100 + 0x4 * n, 0, 8⟩
abbrev Reg.EVT_MSIX_VEC_1 (n : Nat) : Field := ⟨0x10100 + 0x4 * n, 8, 8⟩
abbrev Reg.EVT_MSIX_VEC_2 (n : Nat) : Field := ⟨0x10100 + 0x4 * n, 16, 8⟩
abbrev Reg.EVT_MSIX_VEC_3 (n : Nat) : Field := ⟨0x10100 + 0x4 * n, 24, 8⟩
-- EVT_MSIX_LAST_n (R464, 13_events_recorder.md)
abbrev Reg.EVT_MSIX_LAST_SOURCE (n : Nat) : Field := ⟨0x10110 + 0x4 * n, 16, 9⟩
abbrev Reg.EVT_MSIX_LAST_COUNT (n : Nat) : Field := ⟨0x10110 + 0x4 * n, 0, 16⟩
-- EVT_ROUTE_w (R464, 13_events_recorder.md)
abbrev Reg.EVT_ROUTE_ROUTE (n : Nat) : Field := ⟨0x10400 + 0x4 * n, 0, 32⟩
-- SCORE_CTL (R69, 02_score_model.md)
abbrev Reg.SCORE_CTL_HOT_HYST : Field := ⟨0x20000, 20, 4⟩
abbrev Reg.SCORE_CTL_HOT_DWELL : Field := ⟨0x20000, 16, 4⟩
abbrev Reg.SCORE_CTL_FORCE_HOT : Field := ⟨0x20000, 2, 1⟩
abbrev Reg.SCORE_CTL_FILL_BG : Field := ⟨0x20000, 1, 1⟩
abbrev Reg.SCORE_CTL_FILL_EN : Field := ⟨0x20000, 0, 1⟩
-- SCORE_STAT (R70, 02_score_model.md)
abbrev Reg.SCORE_STAT_ARMED : Field := ⟨0x20004, 31, 1⟩
abbrev Reg.SCORE_STAT_BOOT : Field := ⟨0x20004, 30, 1⟩
abbrev Reg.SCORE_STAT_SAVE : Field := ⟨0x20004, 29, 1⟩
abbrev Reg.SCORE_STAT_HOT : Field := ⟨0x20004, 28, 1⟩
abbrev Reg.SCORE_STAT_INHERITED_DEBT : Field := ⟨0x20004, 27, 1⟩
abbrev Reg.SCORE_STAT_BOUND_VOID : Field := ⟨0x20004, 26, 1⟩
abbrev Reg.SCORE_STAT_PRESSED_MASK : Field := ⟨0x20004, 16, 8⟩
abbrev Reg.SCORE_STAT_OFFLINE_MASK : Field := ⟨0x20004, 8, 8⟩
abbrev Reg.SCORE_STAT_VOID_MASK : Field := ⟨0x20004, 0, 8⟩
-- SCORE_VARIANT (R71, 02_score_model.md)
abbrev Reg.SCORE_VARIANT_PRESENT : Field := ⟨0x20008, 16, 8⟩
abbrev Reg.SCORE_VARIANT_REQ_PENDING : Field := ⟨0x20008, 11, 1⟩
abbrev Reg.SCORE_VARIANT_REQ : Field := ⟨0x20008, 8, 3⟩
abbrev Reg.SCORE_VARIANT_LAST : Field := ⟨0x20008, 4, 3⟩
abbrev Reg.SCORE_VARIANT_HOT_CAP : Field := ⟨0x20008, 3, 1⟩
abbrev Reg.SCORE_VARIANT_ACTIVE : Field := ⟨0x20008, 0, 3⟩
-- SCORE_OVERRUN (R72, 02_score_model.md)
abbrev Reg.SCORE_OVERRUN_COUNT : Field := ⟨0x2000C, 24, 8⟩
abbrev Reg.SCORE_OVERRUN_LAST_NAND : Field := ⟨0x2000C, 23, 1⟩
abbrev Reg.SCORE_OVERRUN_LAST_ENGINE : Field := ⟨0x2000C, 16, 4⟩
abbrev Reg.SCORE_OVERRUN_LAST_BAR : Field := ⟨0x2000C, 0, 16⟩
-- SCORE_LOAD_STAT (R109, 03_score_contract.md)
abbrev Reg.SCORE_LOAD_STAT_STATE : Field := ⟨0x20010, 28, 4⟩
abbrev Reg.SCORE_LOAD_STAT_SOURCE : Field := ⟨0x20010, 25, 3⟩
abbrev Reg.SCORE_LOAD_STAT_OWNER_KEY : Field := ⟨0x20010, 24, 1⟩
abbrev Reg.SCORE_LOAD_STAT_PROGRESS : Field := ⟨0x20010, 16, 8⟩
abbrev Reg.SCORE_LOAD_STAT_DETAIL : Field := ⟨0x20010, 0, 16⟩
-- SCORE_LOAD_LOC (R110, 03_score_contract.md)
abbrev Reg.SCORE_LOAD_LOC_VARIANT : Field := ⟨0x20014, 28, 4⟩
abbrev Reg.SCORE_LOAD_LOC_UNIT : Field := ⟨0x20014, 24, 4⟩
abbrev Reg.SCORE_LOAD_LOC_BAR : Field := ⟨0x20014, 16, 8⟩
abbrev Reg.SCORE_LOAD_LOC_QUAD : Field := ⟨0x20014, 0, 11⟩
-- SCORE_LOAD_BYTES (R111, 03_score_contract.md)
abbrev Reg.SCORE_LOAD_BYTES_BYTES : Field := ⟨0x20018, 0, 32⟩
-- SCORE_PLAY_ID (R111, 03_score_contract.md)
abbrev Reg.SCORE_PLAY_ID_ID : Field := ⟨0x2001C, 0, 32⟩
-- SCORE_PLAY_REV (R111, 03_score_contract.md)
abbrev Reg.SCORE_PLAY_REV_REV : Field := ⟨0x20020, 0, 32⟩
-- SCORE_ARM_BAR (R111, 03_score_contract.md)
abbrev Reg.SCORE_ARM_BAR_BAR : Field := ⟨0x20024, 0, 32⟩
-- SCORE_BOUND_n (R112, 03_score_contract.md)
abbrev Reg.SCORE_BOUND_READ_NS (n : Nat) : Field := ⟨0x20030 + 0x4 * n, 16, 16⟩
abbrev Reg.SCORE_BOUND_WRITE_NS (n : Nat) : Field := ⟨0x20030 + 0x4 * n, 0, 16⟩
-- DCH_n_STAT (R156, 04_dram_engine.md)
abbrev Reg.DCH_STAT_STATE (n : Nat) : Field := ⟨0x40000 + 0x4000 * n, 29, 3⟩
abbrev Reg.DCH_STAT_FAIL_CAUSE (n : Nat) : Field := ⟨0x40000 + 0x4000 * n, 25, 4⟩
abbrev Reg.DCH_STAT_REF_ACTIVE (n : Nat) : Field := ⟨0x40000 + 0x4000 * n, 24, 1⟩
abbrev Reg.DCH_STAT_SELF_REFRESH (n : Nat) : Field := ⟨0x40000 + 0x4000 * n, 23, 1⟩
abbrev Reg.DCH_STAT_HOT (n : Nat) : Field := ⟨0x40000 + 0x4000 * n, 22, 1⟩
abbrev Reg.DCH_STAT_PPR_PENDING (n : Nat) : Field := ⟨0x40000 + 0x4000 * n, 21, 1⟩
abbrev Reg.DCH_STAT_SEEDED (n : Nat) : Field := ⟨0x40000 + 0x4000 * n, 20, 1⟩
abbrev Reg.DCH_STAT_RCD (n : Nat) : Field := ⟨0x40000 + 0x4000 * n, 19, 1⟩
abbrev Reg.DCH_STAT_WIDTH (n : Nat) : Field := ⟨0x40000 + 0x4000 * n, 18, 1⟩
abbrev Reg.DCH_STAT_DENSITY (n : Nat) : Field := ⟨0x40000 + 0x4000 * n, 16, 2⟩
abbrev Reg.DCH_STAT_RANKS (n : Nat) : Field := ⟨0x40000 + 0x4000 * n, 14, 2⟩
-- DCH_n_REF_DEBT (R157, 04_dram_engine.md)
abbrev Reg.DCH_REF_DEBT_PAID (n : Nat) : Field := ⟨0x40004 + 0x4000 * n, 16, 16⟩
abbrev Reg.DCH_REF_DEBT_MAX (n : Nat) : Field := ⟨0x40004 + 0x4000 * n, 12, 4⟩
abbrev Reg.DCH_REF_DEBT_INHERITED (n : Nat) : Field := ⟨0x40004 + 0x4000 * n, 4, 4⟩
abbrev Reg.DCH_REF_DEBT_DEBT (n : Nat) : Field := ⟨0x40004 + 0x4000 * n, 0, 4⟩
-- DCH_n_TEMP (R158, 04_dram_engine.md)
abbrev Reg.DCH_TEMP_PEAK_C (n : Nat) : Field := ⟨0x40008 + 0x4000 * n, 24, 8⟩
abbrev Reg.DCH_TEMP_VALID (n : Nat) : Field := ⟨0x40008 + 0x4000 * n, 11, 1⟩
abbrev Reg.DCH_TEMP_MR4_2X (n : Nat) : Field := ⟨0x40008 + 0x4000 * n, 10, 1⟩
abbrev Reg.DCH_TEMP_HOT_RANK (n : Nat) : Field := ⟨0x40008 + 0x4000 * n, 9, 1⟩
abbrev Reg.DCH_TEMP_HOT_SUB (n : Nat) : Field := ⟨0x40008 + 0x4000 * n, 8, 1⟩
abbrev Reg.DCH_TEMP_TEMP_C (n : Nat) : Field := ⟨0x40008 + 0x4000 * n, 0, 8⟩
-- DCH_n_ECC_CE (R159, 04_dram_engine.md)
abbrev Reg.DCH_ECC_CE_COUNT (n : Nat) : Field := ⟨0x4000C + 0x4000 * n, 0, 32⟩
-- DCH_n_ECC_UE (R159, 04_dram_engine.md)
abbrev Reg.DCH_ECC_UE_MARKS (n : Nat) : Field := ⟨0x40010 + 0x4000 * n, 16, 16⟩
abbrev Reg.DCH_ECC_UE_COUNT (n : Nat) : Field := ⟨0x40010 + 0x4000 * n, 0, 16⟩
-- DCH_n_ECC_LAST (R159, 04_dram_engine.md)
abbrev Reg.DCH_ECC_LAST_UE (n : Nat) : Field := ⟨0x40014 + 0x4000 * n, 31, 1⟩
abbrev Reg.DCH_ECC_LAST_SUB (n : Nat) : Field := ⟨0x40014 + 0x4000 * n, 30, 1⟩
abbrev Reg.DCH_ECC_LAST_RANK (n : Nat) : Field := ⟨0x40014 + 0x4000 * n, 29, 1⟩
abbrev Reg.DCH_ECC_LAST_BANK (n : Nat) : Field := ⟨0x40014 + 0x4000 * n, 24, 5⟩
abbrev Reg.DCH_ECC_LAST_DEVICE (n : Nat) : Field := ⟨0x40014 + 0x4000 * n, 20, 4⟩
abbrev Reg.DCH_ECC_LAST_ROW (n : Nat) : Field := ⟨0x40014 + 0x4000 * n, 0, 18⟩
-- DCH_n_ECC_LAST_LINE (R159, 04_dram_engine.md)
abbrev Reg.DCH_ECC_LAST_LINE_G (n : Nat) : Field := ⟨0x40018 + 0x4000 * n, 10, 22⟩
abbrev Reg.DCH_ECC_LAST_LINE_LINE (n : Nat) : Field := ⟨0x40018 + 0x4000 * n, 0, 10⟩
-- DCH_n_ECC_CFG (R159, 04_dram_engine.md)
abbrev Reg.DCH_ECC_CFG_CE_EVT_LIMIT (n : Nat) : Field := ⟨0x4001C + 0x4000 * n, 16, 16⟩
abbrev Reg.DCH_ECC_CFG_UE_FAIL_LIMIT (n : Nat) : Field := ⟨0x4001C + 0x4000 * n, 8, 8⟩
abbrev Reg.DCH_ECC_CFG_CE_ROW_LIMIT (n : Nat) : Field := ⟨0x4001C + 0x4000 * n, 4, 4⟩
-- DCH_n_SCRUB (R159, 04_dram_engine.md)
abbrev Reg.DCH_SCRUB_PASSES (n : Nat) : Field := ⟨0x40020 + 0x4000 * n, 16, 16⟩
abbrev Reg.DCH_SCRUB_PROGRESS (n : Nat) : Field := ⟨0x40020 + 0x4000 * n, 0, 16⟩
-- DCH_n_SCRUB_CTL (R159, 04_dram_engine.md)
abbrev Reg.DCH_SCRUB_CTL_WRITEBACK (n : Nat) : Field := ⟨0x40024 + 0x4000 * n, 1, 1⟩
abbrev Reg.DCH_SCRUB_CTL_PATROL_EN (n : Nat) : Field := ⟨0x40024 + 0x4000 * n, 0, 1⟩
-- DCH_n_TRAIN (R159, 04_dram_engine.md)
abbrev Reg.DCH_TRAIN_LAST_MS (n : Nat) : Field := ⟨0x40028 + 0x4000 * n, 16, 16⟩
abbrev Reg.DCH_TRAIN_RESULT (n : Nat) : Field := ⟨0x40028 + 0x4000 * n, 12, 4⟩
abbrev Reg.DCH_TRAIN_FAIL_STEP (n : Nat) : Field := ⟨0x40028 + 0x4000 * n, 8, 4⟩
abbrev Reg.DCH_TRAIN_MARGIN (n : Nat) : Field := ⟨0x40028 + 0x4000 * n, 0, 8⟩
-- DCH_n_RELOC (R159, 04_dram_engine.md)
abbrev Reg.DCH_RELOC_RESULT (n : Nat) : Field := ⟨0x4002C + 0x4000 * n, 28, 4⟩
abbrev Reg.DCH_RELOC_REMAIN (n : Nat) : Field := ⟨0x4002C + 0x4000 * n, 0, 23⟩
-- DCH_n_REPAIR (R159, 04_dram_engine.md)
abbrev Reg.DCH_REPAIR_PPR_DONE (n : Nat) : Field := ⟨0x40030 + 0x4000 * n, 24, 8⟩
abbrev Reg.DCH_REPAIR_PENDING (n : Nat) : Field := ⟨0x40030 + 0x4000 * n, 16, 8⟩
abbrev Reg.DCH_REPAIR_RETIRED (n : Nat) : Field := ⟨0x40030 + 0x4000 * n, 0, 11⟩
-- DCH_n_FRAMES_FREE (R159, 04_dram_engine.md)
abbrev Reg.DCH_FRAMES_FREE_FREE (n : Nat) : Field := ⟨0x40034 + 0x4000 * n, 0, 23⟩
-- DCH_n_FRAMES_USED (R159, 04_dram_engine.md)
abbrev Reg.DCH_FRAMES_USED_USED (n : Nat) : Field := ⟨0x40038 + 0x4000 * n, 0, 23⟩
-- DCH_n_GEN (R159, 04_dram_engine.md)
abbrev Reg.DCH_GEN_GEN (n : Nat) : Field := ⟨0x4003C + 0x4000 * n, 0, 16⟩
-- HPORT_n_STAT (R193, 05_host_ports_regions.md)
abbrev Reg.HPORT_STAT_LINK_STATE (n : Nat) : Field := ⟨0x60000 + 0x4000 * n, 29, 3⟩
abbrev Reg.HPORT_STAT_RATE (n : Nat) : Field := ⟨0x60000 + 0x4000 * n, 27, 2⟩
abbrev Reg.HPORT_STAT_WIDTH (n : Nat) : Field := ⟨0x60000 + 0x4000 * n, 25, 2⟩
abbrev Reg.HPORT_STAT_BOUND_SCALE (n : Nat) : Field := ⟨0x60000 + 0x4000 * n, 23, 2⟩
abbrev Reg.HPORT_STAT_MLD (n : Nat) : Field := ⟨0x60000 + 0x4000 * n, 22, 1⟩
abbrev Reg.HPORT_STAT_LD_COUNT (n : Nat) : Field := ⟨0x60000 + 0x4000 * n, 17, 5⟩
abbrev Reg.HPORT_STAT_ISOCH (n : Nat) : Field := ⟨0x60000 + 0x4000 * n, 16, 1⟩
abbrev Reg.HPORT_STAT_ISOCH_IMAGE (n : Nat) : Field := ⟨0x60000 + 0x4000 * n, 15, 1⟩
abbrev Reg.HPORT_STAT_GPF_MODE (n : Nat) : Field := ⟨0x60000 + 0x4000 * n, 14, 1⟩
abbrev Reg.HPORT_STAT_DEVLOAD (n : Nat) : Field := ⟨0x60000 + 0x4000 * n, 12, 2⟩
abbrev Reg.HPORT_STAT_PRESENT (n : Nat) : Field := ⟨0x60000 + 0x4000 * n, 11, 1⟩
-- HPORT_n_CFG (R194, 05_host_ports_regions.md)
abbrev Reg.HPORT_CFG_ENABLE (n : Nat) : Field := ⟨0x60004 + 0x4000 * n, 31, 1⟩
abbrev Reg.HPORT_CFG_MLD (n : Nat) : Field := ⟨0x60004 + 0x4000 * n, 30, 1⟩
abbrev Reg.HPORT_CFG_LD_COUNT (n : Nat) : Field := ⟨0x60004 + 0x4000 * n, 25, 5⟩
abbrev Reg.HPORT_CFG_ISOCH (n : Nat) : Field := ⟨0x60004 + 0x4000 * n, 24, 1⟩
abbrev Reg.HPORT_CFG_GPF_MODE (n : Nat) : Field := ⟨0x60004 + 0x4000 * n, 23, 1⟩
-- HPORT_n_LAT_TARGET (R195, 05_host_ports_regions.md)
abbrev Reg.HPORT_LAT_TARGET_READ_NS (n : Nat) : Field := ⟨0x60008 + 0x4000 * n, 16, 16⟩
abbrev Reg.HPORT_LAT_TARGET_WRITE_NS (n : Nat) : Field := ⟨0x60008 + 0x4000 * n, 0, 16⟩
-- HPORT_n_VIOL_COUNT (R195, 05_host_ports_regions.md)
abbrev Reg.HPORT_VIOL_COUNT_COUNT (n : Nat) : Field := ⟨0x6000C + 0x4000 * n, 0, 32⟩
-- HPORT_n_LAT_STAT (R195, 05_host_ports_regions.md)
abbrev Reg.HPORT_LAT_STAT_EXCEEDED (n : Nat) : Field := ⟨0x60010 + 0x4000 * n, 16, 16⟩
abbrev Reg.HPORT_LAT_STAT_MAX_NS (n : Nat) : Field := ⟨0x60010 + 0x4000 * n, 0, 16⟩
-- HPORT_n_CREDITS (R195, 05_host_ports_regions.md)
abbrev Reg.HPORT_CREDITS_REQ_POOL (n : Nat) : Field := ⟨0x60014 + 0x4000 * n, 16, 16⟩
abbrev Reg.HPORT_CREDITS_RWD_POOL (n : Nat) : Field := ⟨0x60014 + 0x4000 * n, 0, 16⟩
-- HPORT_n_GPF (R195, 05_host_ports_regions.md)
abbrev Reg.HPORT_GPF_PH2_COUNT (n : Nat) : Field := ⟨0x60018 + 0x4000 * n, 16, 16⟩
abbrev Reg.HPORT_GPF_NOT_PERSIST (n : Nat) : Field := ⟨0x60018 + 0x4000 * n, 8, 8⟩
abbrev Reg.HPORT_GPF_LAST_US (n : Nat) : Field := ⟨0x60018 + 0x4000 * n, 0, 8⟩
-- HPORT_n_BOUND_ADJ (R195, 05_host_ports_regions.md)
abbrev Reg.HPORT_BOUND_ADJ_SLOTS (n : Nat) : Field := ⟨0x6001C + 0x4000 * n, 0, 16⟩
-- HPORT_n_GEN (R195, 05_host_ports_regions.md)
abbrev Reg.HPORT_GEN_GEN (n : Nat) : Field := ⟨0x60020 + 0x4000 * n, 0, 16⟩
-- HPORT_n_HOLD (R195, 05_host_ports_regions.md)
abbrev Reg.HPORT_HOLD_HELD_NOW (n : Nat) : Field := ⟨0x60024 + 0x4000 * n, 16, 16⟩
abbrev Reg.HPORT_HOLD_HELD (n : Nat) : Field := ⟨0x60024 + 0x4000 * n, 0, 16⟩
-- HPORT_n_GPF_MAX (R195, 05_host_ports_regions.md)
abbrev Reg.HPORT_GPF_MAX_MAX_US (n : Nat) : Field := ⟨0x60028 + 0x4000 * n, 0, 32⟩
-- HPORT_n_REGIONS_LO (R195, 05_host_ports_regions.md)
abbrev Reg.HPORT_REGIONS_LO_MASK (n : Nat) : Field := ⟨0x60030 + 0x4000 * n, 0, 32⟩
-- HPORT_n_REGIONS_HI (R195, 05_host_ports_regions.md)
abbrev Reg.HPORT_REGIONS_HI_MASK (n : Nat) : Field := ⟨0x60034 + 0x4000 * n, 0, 32⟩
-- HPORT_n_LD_l (R195, 05_host_ports_regions.md)
abbrev Reg.HPORT_LD_LD_SIZE (n l : Nat) : Field := ⟨0x60040 + 0x4000 * n + 4 * l, 0, 12⟩
-- TILE_STAT (R227, 06_streaming_budget.md)
abbrev Reg.TILE_STAT_ASSURED : Field := ⟨0x80000, 31, 1⟩
abbrev Reg.TILE_STAT_CAUSE : Field := ⟨0x80000, 28, 3⟩
abbrev Reg.TILE_STAT_STRAIN : Field := ⟨0x80000, 27, 1⟩
abbrev Reg.TILE_STAT_HOLD : Field := ⟨0x80000, 26, 1⟩
abbrev Reg.TILE_STAT_OVER_WINDOW : Field := ⟨0x80000, 25, 1⟩
abbrev Reg.TILE_STAT_SWEEP : Field := ⟨0x80000, 24, 1⟩
abbrev Reg.TILE_STAT_EXPEDITED : Field := ⟨0x80000, 23, 1⟩
-- TILE_D (R228, 06_streaming_budget.md)
abbrev Reg.TILE_D_TILES : Field := ⟨0x80004, 0, 26⟩
-- TILE_DMAX (R228, 06_streaming_budget.md)
abbrev Reg.TILE_DMAX_LIMIT : Field := ⟨0x80008, 31, 1⟩
abbrev Reg.TILE_DMAX_TILES : Field := ⟨0x80008, 0, 26⟩
-- TILE_DMAX_T (R228, 06_streaming_budget.md)
abbrev Reg.TILE_DMAX_T_TILES : Field := ⟨0x8000C, 0, 26⟩
-- TILE_DMAX_E (R228, 06_streaming_budget.md)
abbrev Reg.TILE_DMAX_E_TILES : Field := ⟨0x80010, 0, 26⟩
-- TILE_HOLD_STAT (R228, 06_streaming_budget.md)
abbrev Reg.TILE_HOLD_STAT_MAX_US : Field := ⟨0x80014, 16, 16⟩
abbrev Reg.TILE_HOLD_STAT_HELD_TILES : Field := ⟨0x80014, 0, 13⟩
-- TILE_HOLD_BOUND (R228, 06_streaming_budget.md)
abbrev Reg.TILE_HOLD_BOUND_BOUND_US : Field := ⟨0x80018, 13, 19⟩
abbrev Reg.TILE_HOLD_BOUND_MARGIN : Field := ⟨0x80018, 0, 13⟩
-- TILE_COOL_EPOCH (R228, 06_streaming_budget.md)
abbrev Reg.TILE_COOL_EPOCH_EPOCHS : Field := ⟨0x8001C, 16, 16⟩
abbrev Reg.TILE_COOL_EPOCH_PHRASES : Field := ⟨0x8001C, 0, 12⟩
-- TILE_STREAM_RATE (R228, 06_streaming_budget.md)
abbrev Reg.TILE_STREAM_RATE_GOV_MBS : Field := ⟨0x80020, 16, 16⟩
abbrev Reg.TILE_STREAM_RATE_LAST_MBS : Field := ⟨0x80020, 0, 16⟩
-- TILE_STREAM_CTL (R228, 06_streaming_budget.md)
abbrev Reg.TILE_STREAM_CTL_EXP_CAP_MBS : Field := ⟨0x80024, 16, 16⟩
abbrev Reg.TILE_STREAM_CTL_BURST : Field := ⟨0x80024, 8, 8⟩
abbrev Reg.TILE_STREAM_CTL_STREAM_EN : Field := ⟨0x80024, 0, 1⟩
-- TILE_POLICY (R228, 06_streaming_budget.md)
abbrev Reg.TILE_POLICY_WINDOW_MS : Field := ⟨0x80028, 16, 16⟩
abbrev Reg.TILE_POLICY_FLOOR_GIB : Field := ⟨0x80028, 8, 8⟩
abbrev Reg.TILE_POLICY_POLICY : Field := ⟨0x80028, 0, 1⟩
-- TILE_SAVE_DRAW (R228, 06_streaming_budget.md)
abbrev Reg.TILE_SAVE_DRAW_WATTS : Field := ⟨0x8002C, 0, 10⟩
-- TILE_COUNT_STREAMED (R228, 06_streaming_budget.md)
abbrev Reg.TILE_COUNT_STREAMED_TILES : Field := ⟨0x80030, 0, 32⟩
-- TILE_COUNT_ZEROED (R228, 06_streaming_budget.md)
abbrev Reg.TILE_COUNT_ZEROED_TILES : Field := ⟨0x80034, 0, 32⟩
-- TILE_STATE_ERR (R228, 06_streaming_budget.md)
abbrev Reg.TILE_STATE_ERR_UE : Field := ⟨0x80038, 16, 16⟩
abbrev Reg.TILE_STATE_ERR_CE : Field := ⟨0x80038, 0, 16⟩
-- TILE_GEN (R228, 06_streaming_budget.md)
abbrev Reg.TILE_GEN_GEN : Field := ⟨0x8003C, 0, 16⟩
-- TILE_MAP_CE (R196, 05_host_ports_regions.md)
abbrev Reg.TILE_MAP_CE_COUNT : Field := ⟨0x80040, 0, 32⟩
-- TILE_HEAT_h (R228, 06_streaming_budget.md)
abbrev Reg.TILE_HEAT_TILES (n : Nat) : Field := ⟨0x80050 + 0x4 * n, 0, 26⟩
-- TILE_CENSUS_ZERO (R228, 06_streaming_budget.md)
abbrev Reg.TILE_CENSUS_ZERO_TILES : Field := ⟨0x80060, 0, 26⟩
-- TILE_CENSUS_CLEAN (R228, 06_streaming_budget.md)
abbrev Reg.TILE_CENSUS_CLEAN_TILES : Field := ⟨0x80064, 0, 26⟩
-- TILE_CENSUS_FLIGHT (R228, 06_streaming_budget.md)
abbrev Reg.TILE_CENSUS_FLIGHT_TILES : Field := ⟨0x80068, 0, 26⟩
-- TILE_CENSUS_ABSENT (R228, 06_streaming_budget.md)
abbrev Reg.TILE_CENSUS_ABSENT_TILES : Field := ⟨0x8006C, 0, 26⟩
-- TILE_CENSUS_LOST (R228, 06_streaming_budget.md)
abbrev Reg.TILE_CENSUS_LOST_TILES : Field := ⟨0x80070, 0, 26⟩
-- TILE_SAVE_STAT (R271, 07_save_restore.md)
abbrev Reg.TILE_SAVE_STAT_STATE : Field := ⟨0x80100, 28, 4⟩
abbrev Reg.TILE_SAVE_STAT_CAUSE : Field := ⟨0x80100, 24, 4⟩
abbrev Reg.TILE_SAVE_STAT_PFAIL : Field := ⟨0x80100, 23, 1⟩
abbrev Reg.TILE_SAVE_STAT_OFF_AFTER : Field := ⟨0x80100, 22, 1⟩
abbrev Reg.TILE_SAVE_STAT_LAST_RESULT : Field := ⟨0x80100, 20, 2⟩
abbrev Reg.TILE_SAVE_STAT_COPIES : Field := ⟨0x80100, 18, 2⟩
abbrev Reg.TILE_SAVE_STAT_GLITCHES : Field := ⟨0x80100, 0, 16⟩
-- TILE_SAVE_TOTAL (R275, 07_save_restore.md)
abbrev Reg.TILE_SAVE_TOTAL_TILES : Field := ⟨0x80104, 0, 26⟩
-- TILE_SAVE_REMAIN (R275, 07_save_restore.md)
abbrev Reg.TILE_SAVE_REMAIN_TILES : Field := ⟨0x80108, 0, 26⟩
-- TILE_SAVE_LOST (R275, 07_save_restore.md)
abbrev Reg.TILE_SAVE_LOST_TILES : Field := ⟨0x8010C, 0, 26⟩
-- TILE_SAVE_TIME (R275, 07_save_restore.md)
abbrev Reg.TILE_SAVE_TIME_LAST_MS : Field := ⟨0x80110, 16, 16⟩
abbrev Reg.TILE_SAVE_TIME_FENCE_US : Field := ⟨0x80110, 0, 16⟩
-- TILE_SAVE_SEQ_LO (R275, 07_save_restore.md)
abbrev Reg.TILE_SAVE_SEQ_LO_SEQ : Field := ⟨0x80114, 0, 32⟩
-- TILE_SAVE_SEQ_HI (R275, 07_save_restore.md)
abbrev Reg.TILE_SAVE_SEQ_HI_SEQ : Field := ⟨0x80118, 0, 32⟩
-- TILE_SAVE_CTL (R272, 07_save_restore.md)
abbrev Reg.TILE_SAVE_CTL_RESUME_DWELL : Field := ⟨0x8011C, 24, 8⟩
abbrev Reg.TILE_SAVE_CTL_PFAIL_EN : Field := ⟨0x8011C, 0, 1⟩
-- TILE_RESTORE_STAT (R273, 07_save_restore.md)
abbrev Reg.TILE_RESTORE_STAT_STATE : Field := ⟨0x80120, 29, 3⟩
abbrev Reg.TILE_RESTORE_STAT_VALID_COPIES : Field := ⟨0x80120, 27, 2⟩
abbrev Reg.TILE_RESTORE_STAT_CHAINED : Field := ⟨0x80120, 26, 1⟩
abbrev Reg.TILE_RESTORE_STAT_NO_KEY : Field := ⟨0x80120, 25, 1⟩
-- TILE_RESTORE_DONE (R275, 07_save_restore.md)
abbrev Reg.TILE_RESTORE_DONE_TILES : Field := ⟨0x80124, 0, 26⟩
-- TILE_RESTORE_CTL (R274, 07_save_restore.md)
abbrev Reg.TILE_RESTORE_CTL_PAUSE : Field := ⟨0x80128, 31, 1⟩
abbrev Reg.TILE_RESTORE_CTL_HOST_GATE : Field := ⟨0x80128, 30, 1⟩
abbrev Reg.TILE_RESTORE_CTL_PRIO_EN : Field := ⟨0x80128, 29, 1⟩
abbrev Reg.TILE_RESTORE_CTL_PRIO_REGION : Field := ⟨0x80128, 16, 6⟩
-- TILE_TOUCH_STAT (R275, 07_save_restore.md)
abbrev Reg.TILE_TOUCH_STAT_OUTSTANDING : Field := ⟨0x8012C, 24, 8⟩
abbrev Reg.TILE_TOUCH_STAT_WAITING : Field := ⟨0x8012C, 16, 8⟩
abbrev Reg.TILE_TOUCH_STAT_MAX_US : Field := ⟨0x8012C, 0, 16⟩
-- TILE_TOUCH_BOUND (R275, 07_save_restore.md)
abbrev Reg.TILE_TOUCH_BOUND_BOUND_US : Field := ⟨0x80130, 16, 16⟩
abbrev Reg.TILE_TOUCH_BOUND_BARS : Field := ⟨0x80130, 0, 16⟩
-- TILE_TOUCH_COUNT (R275, 07_save_restore.md)
abbrev Reg.TILE_TOUCH_COUNT_FETCHES : Field := ⟨0x80134, 0, 32⟩
-- TILE_DSC (R275, 07_save_restore.md)
abbrev Reg.TILE_DSC_COUNT : Field := ⟨0x80138, 0, 32⟩
-- DECK_STAT (R314, 08_deck.md)
abbrev Reg.DECK_STAT_STATE : Field := ⟨0xA0000, 29, 3⟩
abbrev Reg.DECK_STAT_REBUILD : Field := ⟨0xA0000, 28, 1⟩
abbrev Reg.DECK_STAT_REFRESH : Field := ⟨0xA0000, 27, 1⟩
abbrev Reg.DECK_STAT_ERASE_HELD : Field := ⟨0xA0000, 26, 1⟩
abbrev Reg.DECK_STAT_SUSPENDED : Field := ⟨0xA0000, 25, 1⟩
abbrev Reg.DECK_STAT_OUT_MASK : Field := ⟨0xA0000, 0, 16⟩
-- DECK_SAVE_RATE (R315, 08_deck.md)
abbrev Reg.DECK_SAVE_RATE_LIMIT : Field := ⟨0xA0004, 30, 2⟩
abbrev Reg.DECK_SAVE_RATE_CHANNELS : Field := ⟨0xA0004, 16, 5⟩
abbrev Reg.DECK_SAVE_RATE_MBS : Field := ⟨0xA0004, 0, 16⟩
-- DECK_KEYSTONE_SEQ_LO (R315, 08_deck.md)
abbrev Reg.DECK_KEYSTONE_SEQ_LO_SEQ : Field := ⟨0xA0008, 0, 32⟩
-- DECK_KEYSTONE_SEQ_HI (R315, 08_deck.md)
abbrev Reg.DECK_KEYSTONE_SEQ_HI_SEQ : Field := ⟨0xA000C, 0, 32⟩
-- DECK_CFG (R315, 08_deck.md)
abbrev Reg.DECK_CFG_REFRESH_BANDS : Field := ⟨0xA0010, 24, 8⟩
abbrev Reg.DECK_CFG_RESERVE_EXTRA : Field := ⟨0xA0010, 16, 8⟩
abbrev Reg.DECK_CFG_PATROL_DAYS : Field := ⟨0xA0010, 8, 8⟩
abbrev Reg.DECK_CFG_AUTO_FORMAT : Field := ⟨0xA0010, 0, 1⟩
-- DECK_BANDS (R315, 08_deck.md)
abbrev Reg.DECK_BANDS_ERASED : Field := ⟨0xA0014, 16, 16⟩
abbrev Reg.DECK_BANDS_PINNED : Field := ⟨0xA0014, 0, 16⟩
-- DECK_RESERVE (R315, 08_deck.md)
abbrev Reg.DECK_RESERVE_NEEDED : Field := ⟨0xA0018, 16, 16⟩
abbrev Reg.DECK_RESERVE_USABLE : Field := ⟨0xA0018, 0, 16⟩
-- DECK_LIFE (R315, 08_deck.md)
abbrev Reg.DECK_LIFE_PROJECTED_MONTHS : Field := ⟨0xA001C, 16, 16⟩
abbrev Reg.DECK_LIFE_TARGET_MONTHS : Field := ⟨0xA001C, 8, 8⟩
abbrev Reg.DECK_LIFE_USED_PCT : Field := ⟨0xA001C, 0, 8⟩
-- DECK_WA (R315, 08_deck.md)
abbrev Reg.DECK_WA_WA_MILLI : Field := ⟨0xA0020, 0, 16⟩
-- DECK_REBUILD (R315, 08_deck.md)
abbrev Reg.DECK_REBUILD_REMAIN : Field := ⟨0xA0024, 0, 16⟩
-- DECK_GEN (R315, 08_deck.md)
abbrev Reg.DECK_GEN_GEN : Field := ⟨0xA0028, 0, 16⟩
-- DECK_SEGMENT (R315, 08_deck.md)
abbrev Reg.DECK_SEGMENT_NEXT : Field := ⟨0xA002C, 0, 32⟩
-- NCH_n_STAT (R316, 08_deck.md)
abbrev Reg.NCH_STAT_STATE (n : Nat) : Field := ⟨0xB0000 + 0x1000 * n, 29, 3⟩
abbrev Reg.NCH_STAT_FAIL_CAUSE (n : Nat) : Field := ⟨0xB0000 + 0x1000 * n, 25, 4⟩
abbrev Reg.NCH_STAT_DIES (n : Nat) : Field := ⟨0xB0000 + 0x1000 * n, 21, 4⟩
abbrev Reg.NCH_STAT_SPARES_MIN (n : Nat) : Field := ⟨0xB0000 + 0x1000 * n, 8, 8⟩
abbrev Reg.NCH_STAT_DIE_FAIL (n : Nat) : Field := ⟨0xB0000 + 0x1000 * n, 0, 8⟩
-- NCH_n_WEAR (R317, 08_deck.md)
abbrev Reg.NCH_WEAR_PE_AVG (n : Nat) : Field := ⟨0xB0004 + 0x1000 * n, 16, 16⟩
abbrev Reg.NCH_WEAR_PE_MAX (n : Nat) : Field := ⟨0xB0004 + 0x1000 * n, 0, 16⟩
-- NCH_n_ERR (R317, 08_deck.md)
abbrev Reg.NCH_ERR_CBITS_MAX (n : Nat) : Field := ⟨0xB0008 + 0x1000 * n, 24, 8⟩
abbrev Reg.NCH_ERR_PROG_FAIL (n : Nat) : Field := ⟨0xB0008 + 0x1000 * n, 16, 8⟩
abbrev Reg.NCH_ERR_ERASE_FAIL (n : Nat) : Field := ⟨0xB0008 + 0x1000 * n, 8, 8⟩
abbrev Reg.NCH_ERR_READ_FAIL (n : Nat) : Field := ⟨0xB0008 + 0x1000 * n, 0, 8⟩
-- NCH_n_TPROG (R317, 08_deck.md)
abbrev Reg.NCH_TPROG_AVG (n : Nat) : Field := ⟨0xB000C + 0x1000 * n, 16, 16⟩
abbrev Reg.NCH_TPROG_MAX (n : Nat) : Field := ⟨0xB000C + 0x1000 * n, 0, 16⟩
-- NCH_n_GEN (R317, 08_deck.md)
abbrev Reg.NCH_GEN_GEN (n : Nat) : Field := ⟨0xB0010 + 0x1000 * n, 0, 16⟩
-- PACK_STAT (R343, 09_energy_pack.md)
abbrev Reg.PACK_STAT_STATE : Field := ⟨0xC0000, 29, 3⟩
abbrev Reg.PACK_STAT_VALID : Field := ⟨0xC0000, 28, 1⟩
abbrev Reg.PACK_STAT_CHARGING : Field := ⟨0xC0000, 27, 1⟩
abbrev Reg.PACK_STAT_AT_REST : Field := ⟨0xC0000, 26, 1⟩
abbrev Reg.PACK_STAT_PROTECT_WARN : Field := ⟨0xC0000, 25, 1⟩
abbrev Reg.PACK_STAT_CHG_INHIBIT : Field := ⟨0xC0000, 24, 1⟩
abbrev Reg.PACK_STAT_EEPROM_OK : Field := ⟨0xC0000, 23, 1⟩
abbrev Reg.PACK_STAT_UNKNOWN_PACK : Field := ⟨0xC0000, 22, 1⟩
abbrev Reg.PACK_STAT_TABLE_END : Field := ⟨0xC0000, 21, 1⟩
abbrev Reg.PACK_STAT_FLOAT : Field := ⟨0xC0000, 20, 1⟩
-- PACK_SOC (R344, 09_energy_pack.md)
abbrev Reg.PACK_SOC_TARGET : Field := ⟨0xC0004, 16, 16⟩
abbrev Reg.PACK_SOC_SOC : Field := ⟨0xC0004, 0, 16⟩
-- PACK_UNCERT (R344, 09_energy_pack.md)
abbrev Reg.PACK_UNCERT_RATE : Field := ⟨0xC0008, 16, 16⟩
abbrev Reg.PACK_UNCERT_UNCERT : Field := ⟨0xC0008, 0, 16⟩
-- PACK_EAVAIL (R344, 09_energy_pack.md)
abbrev Reg.PACK_EAVAIL_JOULES : Field := ⟨0xC000C, 0, 32⟩
-- PACK_CURRENT (R344, 09_energy_pack.md)
abbrev Reg.PACK_CURRENT_MA : Field := ⟨0xC0010, 0, 32⟩
-- PACK_TEMP (R344, 09_energy_pack.md)
abbrev Reg.PACK_TEMP_NTC_1_C : Field := ⟨0xC0014, 8, 8⟩
abbrev Reg.PACK_TEMP_NTC_0_C : Field := ⟨0xC0014, 0, 8⟩
-- PACK_EFC (R344, 09_energy_pack.md)
abbrev Reg.PACK_EFC_LIFE_PCT : Field := ⟨0xC0018, 24, 8⟩
abbrev Reg.PACK_EFC_TENTHS : Field := ⟨0xC0018, 0, 24⟩
-- PACK_CAP (R344, 09_energy_pack.md)
abbrev Reg.PACK_CAP_F_CYC : Field := ⟨0xC001C, 16, 16⟩
abbrev Reg.PACK_CAP_F_T : Field := ⟨0xC001C, 0, 16⟩
-- PACK_CELL_c (R344, 09_energy_pack.md)
abbrev Reg.PACK_CELL_MV (n : Nat) : Field := ⟨0xC0020 + 0x4 * n, 0, 16⟩
-- PACK_REST (R344, 09_energy_pack.md)
abbrev Reg.PACK_REST_MAX_MIN : Field := ⟨0xC0038, 24, 8⟩
abbrev Reg.PACK_REST_SINCE_CORR : Field := ⟨0xC0038, 0, 24⟩
-- PACK_CTL (R344, 09_energy_pack.md)
abbrev Reg.PACK_CTL_REST_PERMIT : Field := ⟨0xC003C, 31, 1⟩
abbrev Reg.PACK_CTL_REST_AUTO : Field := ⟨0xC003C, 30, 1⟩
abbrev Reg.PACK_CTL_AUTO_UNCERT : Field := ⟨0xC003C, 0, 16⟩
-- PACK_INPUT (R344, 09_energy_pack.md)
abbrev Reg.PACK_INPUT_UV_MV : Field := ⟨0xC0040, 16, 16⟩
abbrev Reg.PACK_INPUT_VIN_MV : Field := ⟨0xC0040, 0, 16⟩
-- PACK_OFF (R344, 09_energy_pack.md)
abbrev Reg.PACK_OFF_VALID : Field := ⟨0xC0044, 31, 1⟩
abbrev Reg.PACK_OFF_SECONDS : Field := ⟨0xC0044, 0, 31⟩
-- PACK_GEN (R344, 09_energy_pack.md)
abbrev Reg.PACK_GEN_GEN : Field := ⟨0xC0048, 0, 16⟩
-- SEQ_CTL (R368, 10_power_sequencing.md)
abbrev Reg.SEQ_CTL_MODE : Field := ⟨0xC8000, 30, 2⟩
abbrev Reg.SEQ_CTL_RETRY : Field := ⟨0xC8000, 27, 3⟩
abbrev Reg.SEQ_CTL_AUTO_CASCADE : Field := ⟨0xC8000, 26, 1⟩
abbrev Reg.SEQ_CTL_RAIL_EN : Field := ⟨0xC8000, 0, 16⟩
-- SEQ_STAT (R369, 10_power_sequencing.md)
abbrev Reg.SEQ_STAT_STATE : Field := ⟨0xC8004, 28, 4⟩
abbrev Reg.SEQ_STAT_START_SRC : Field := ⟨0xC8004, 26, 2⟩
abbrev Reg.SEQ_STAT_CASCADE_NOW : Field := ⟨0xC8004, 25, 1⟩
abbrev Reg.SEQ_STAT_PWR_GO : Field := ⟨0xC8004, 24, 1⟩
abbrev Reg.SEQ_STAT_SEQ_IN : Field := ⟨0xC8004, 23, 1⟩
abbrev Reg.SEQ_STAT_SEQ_OUT : Field := ⟨0xC8004, 22, 1⟩
abbrev Reg.SEQ_STAT_STUCK : Field := ⟨0xC8004, 20, 2⟩
abbrev Reg.SEQ_STAT_RETRIES : Field := ⟨0xC8004, 17, 3⟩
abbrev Reg.SEQ_STAT_GOOD : Field := ⟨0xC8004, 0, 16⟩
-- SEQ_TIMING (R370, 10_power_sequencing.md)
abbrev Reg.SEQ_TIMING_START_WAIT : Field := ⟨0xC8008, 16, 16⟩
abbrev Reg.SEQ_TIMING_GLITCH_BARS : Field := ⟨0xC8008, 8, 8⟩
abbrev Reg.SEQ_TIMING_CHATTER_LIMIT : Field := ⟨0xC8008, 4, 4⟩
-- SEQ_OFF (R370, 10_power_sequencing.md)
abbrev Reg.SEQ_OFF_MIN_OFF_MS : Field := ⟨0xC800C, 16, 16⟩
abbrev Reg.SEQ_OFF_LAST_OFF_MS : Field := ⟨0xC800C, 0, 16⟩
-- SEQ_LIVE (R370, 10_power_sequencing.md)
abbrev Reg.SEQ_LIVE_EN : Field := ⟨0xC8010, 16, 16⟩
abbrev Reg.SEQ_LIVE_PG : Field := ⟨0xC8010, 0, 16⟩
-- SEQ_DIS (R370, 10_power_sequencing.md)
abbrev Reg.SEQ_DIS_DIS : Field := ⟨0xC8014, 0, 16⟩
-- SEQ_LAST (R370, 10_power_sequencing.md)
abbrev Reg.SEQ_LAST_UP_TICKS : Field := ⟨0xC8018, 16, 16⟩
abbrev Reg.SEQ_LAST_DOWN_TICKS : Field := ⟨0xC8018, 0, 16⟩
-- SEQ_GEN (R370, 10_power_sequencing.md)
abbrev Reg.SEQ_GEN_GEN : Field := ⟨0xC801C, 0, 16⟩
-- SEQ_RAIL_n_CFG (R371, 10_power_sequencing.md)
abbrev Reg.SEQ_RAIL_CFG_ON_DELAY (n : Nat) : Field := ⟨0xC8100 + 0x20 * n, 20, 12⟩
abbrev Reg.SEQ_RAIL_CFG_OFF_DELAY (n : Nat) : Field := ⟨0xC8100 + 0x20 * n, 8, 12⟩
abbrev Reg.SEQ_RAIL_CFG_STABLE (n : Nat) : Field := ⟨0xC8100 + 0x20 * n, 0, 8⟩
-- SEQ_RAIL_n_DIS (R371, 10_power_sequencing.md)
abbrev Reg.SEQ_RAIL_DIS_THRESH_MV (n : Nat) : Field := ⟨0xC8104 + 0x20 * n, 20, 12⟩
abbrev Reg.SEQ_RAIL_DIS_DIS_TIMEOUT (n : Nat) : Field := ⟨0xC8104 + 0x20 * n, 12, 8⟩
abbrev Reg.SEQ_RAIL_DIS_PG_TIMEOUT (n : Nat) : Field := ⟨0xC8104 + 0x20 * n, 4, 8⟩
abbrev Reg.SEQ_RAIL_DIS_DIS_ALWAYS (n : Nat) : Field := ⟨0xC8104 + 0x20 * n, 3, 1⟩
-- SEQ_RAIL_n_FEED (R371, 10_power_sequencing.md)
abbrev Reg.SEQ_RAIL_FEED_NCH (n : Nat) : Field := ⟨0xC8108 + 0x20 * n, 16, 16⟩
abbrev Reg.SEQ_RAIL_FEED_DCH (n : Nat) : Field := ⟨0xC8108 + 0x20 * n, 8, 8⟩
-- SEQ_RAIL_n_PMBUS (R371, 10_power_sequencing.md)
abbrev Reg.SEQ_RAIL_PMBUS_PAGE (n : Nat) : Field := ⟨0xC810C + 0x20 * n, 24, 8⟩
abbrev Reg.SEQ_RAIL_PMBUS_ADDR (n : Nat) : Field := ⟨0xC810C + 0x20 * n, 17, 7⟩
abbrev Reg.SEQ_RAIL_PMBUS_NOM_MV (n : Nat) : Field := ⟨0xC810C + 0x20 * n, 0, 16⟩
-- SEQ_RAIL_n_STAT (R371, 10_power_sequencing.md)
abbrev Reg.SEQ_RAIL_STAT_MARGIN (n : Nat) : Field := ⟨0xC8110 + 0x20 * n, 27, 5⟩
abbrev Reg.SEQ_RAIL_STAT_MARGIN_FAIL (n : Nat) : Field := ⟨0xC8110 + 0x20 * n, 26, 1⟩
abbrev Reg.SEQ_RAIL_STAT_FORCED (n : Nat) : Field := ⟨0xC8110 + 0x20 * n, 25, 1⟩
abbrev Reg.SEQ_RAIL_STAT_LOST (n : Nat) : Field := ⟨0xC8110 + 0x20 * n, 24, 1⟩
abbrev Reg.SEQ_RAIL_STAT_CHATTER (n : Nat) : Field := ⟨0xC8110 + 0x20 * n, 19, 4⟩
abbrev Reg.SEQ_RAIL_STAT_UP_TICK (n : Nat) : Field := ⟨0xC8110 + 0x20 * n, 6, 13⟩
-- SEQ_RAIL_n_SENSE (R371, 10_power_sequencing.md)
abbrev Reg.SEQ_RAIL_SENSE_DROPS (n : Nat) : Field := ⟨0xC8114 + 0x20 * n, 16, 16⟩
abbrev Reg.SEQ_RAIL_SENSE_MV (n : Nat) : Field := ⟨0xC8114 + 0x20 * n, 0, 16⟩
-- WARDEN_STAT (R397, 11_wardens.md)
abbrev Reg.WARDEN_STAT_ACTIVE : Field := ⟨0xD0000, 30, 2⟩
abbrev Reg.WARDEN_STAT_A_STATE : Field := ⟨0xD0000, 27, 3⟩
abbrev Reg.WARDEN_STAT_B_STATE : Field := ⟨0xD0000, 24, 3⟩
abbrev Reg.WARDEN_STAT_TOLL_A_OK : Field := ⟨0xD0000, 23, 1⟩
abbrev Reg.WARDEN_STAT_TOLL_B_OK : Field := ⟨0xD0000, 22, 1⟩
abbrev Reg.WARDEN_STAT_LINK_FAULT : Field := ⟨0xD0000, 21, 1⟩
abbrev Reg.WARDEN_STAT_REVERT_HELD : Field := ⟨0xD0000, 20, 1⟩
abbrev Reg.WARDEN_STAT_PREFERRED : Field := ⟨0xD0000, 18, 2⟩
-- WARDEN_CTL (R398, 11_wardens.md)
abbrev Reg.WARDEN_CTL_REVERT_HOLD : Field := ⟨0xD0004, 16, 16⟩
abbrev Reg.WARDEN_CTL_REVERT_EN : Field := ⟨0xD0004, 15, 1⟩
abbrev Reg.WARDEN_CTL_RANK_B : Field := ⟨0xD0004, 2, 2⟩
abbrev Reg.WARDEN_CTL_RANK_A : Field := ⟨0xD0004, 0, 2⟩
-- WARDEN_TOLL (R398, 11_wardens.md)
abbrev Reg.WARDEN_TOLL_GOOD_RUN : Field := ⟨0xD0008, 16, 16⟩
abbrev Reg.WARDEN_TOLL_MISS_A : Field := ⟨0xD0008, 8, 8⟩
abbrev Reg.WARDEN_TOLL_MISS_B : Field := ⟨0xD0008, 0, 8⟩
-- WARDEN_A_INFO (R398, 11_wardens.md)
abbrev Reg.WARDEN_A_INFO_FW_REV : Field := ⟨0xD0010, 16, 16⟩
abbrev Reg.WARDEN_A_INFO_BOOTS : Field := ⟨0xD0010, 8, 8⟩
abbrev Reg.WARDEN_A_INFO_SELF_TEST : Field := ⟨0xD0010, 4, 4⟩
-- WARDEN_B_INFO (R398, 11_wardens.md)
abbrev Reg.WARDEN_B_INFO_FW_REV : Field := ⟨0xD0014, 16, 16⟩
abbrev Reg.WARDEN_B_INFO_BOOTS : Field := ⟨0xD0014, 8, 8⟩
abbrev Reg.WARDEN_B_INFO_SELF_TEST : Field := ⟨0xD0014, 4, 4⟩
-- WARDEN_GEN (R398, 11_wardens.md)
abbrev Reg.WARDEN_GEN_GEN : Field := ⟨0xD0018, 0, 16⟩
-- WARDEN_FW (R398, 11_wardens.md)
abbrev Reg.WARDEN_FW_STATE : Field := ⟨0xD001C, 28, 4⟩
abbrev Reg.WARDEN_FW_SOURCE : Field := ⟨0xD001C, 25, 3⟩
abbrev Reg.WARDEN_FW_BYTES : Field := ⟨0xD001C, 0, 24⟩
-- GUARD_n_HOLDER (R399, 11_wardens.md)
abbrev Reg.GUARD_HOLDER_PREV (n : Nat) : Field := ⟨0xD0100 + 0x10 * n, 16, 16⟩
abbrev Reg.GUARD_HOLDER_CLAIM (n : Nat) : Field := ⟨0xD0100 + 0x10 * n, 0, 16⟩
-- GUARD_n_LEASE (R399, 11_wardens.md)
abbrev Reg.GUARD_LEASE_MISSED (n : Nat) : Field := ⟨0xD0104 + 0x10 * n, 28, 4⟩
abbrev Reg.GUARD_LEASE_REFUSED (n : Nat) : Field := ⟨0xD0104 + 0x10 * n, 16, 8⟩
abbrev Reg.GUARD_LEASE_COUNT (n : Nat) : Field := ⟨0xD0104 + 0x10 * n, 0, 16⟩
-- GUARD_n_OUT (R399, 11_wardens.md)
abbrev Reg.GUARD_OUT_HW (n : Nat) : Field := ⟨0xD0108 + 0x10 * n, 31, 1⟩
abbrev Reg.GUARD_OUT_OUT (n : Nat) : Field := ⟨0xD0108 + 0x10 * n, 0, 16⟩
-- CMD_STAT (R494, 14_command_packets.md)
abbrev Reg.CMD_STAT_SPAN_ID : Field := ⟨0xD0200, 24, 6⟩
abbrev Reg.CMD_STAT_STRAP_ID : Field := ⟨0xD0200, 18, 6⟩
abbrev Reg.CMD_STAT_OVERRIDE : Field := ⟨0xD0200, 17, 1⟩
abbrev Reg.CMD_STAT_HDR : Field := ⟨0xD0200, 16, 1⟩
abbrev Reg.CMD_STAT_DYN_ADDR : Field := ⟨0xD0200, 9, 7⟩
abbrev Reg.CMD_STAT_OUTSTANDING : Field := ⟨0xD0200, 4, 4⟩
-- CMD_GROUPS (R495, 14_command_packets.md)
abbrev Reg.CMD_GROUPS_MASK : Field := ⟨0xD0204, 0, 16⟩
-- CMD_LAST_NR_0 (R495, 14_command_packets.md)
abbrev Reg.CMD_LAST_NR_0_TAG : Field := ⟨0xD0208, 16, 16⟩
abbrev Reg.CMD_LAST_NR_0_OPCODE : Field := ⟨0xD0208, 0, 16⟩
-- CMD_LAST_NR_1 (R495, 14_command_packets.md)
abbrev Reg.CMD_LAST_NR_1_STATUS : Field := ⟨0xD020C, 16, 16⟩
abbrev Reg.CMD_LAST_NR_1_DEST : Field := ⟨0xD020C, 8, 8⟩
abbrev Reg.CMD_LAST_NR_1_FLAGS : Field := ⟨0xD020C, 0, 8⟩
-- CMD_NR_COUNT (R495, 14_command_packets.md)
abbrev Reg.CMD_NR_COUNT_COUNT : Field := ⟨0xD0210, 0, 32⟩
-- CMD_ERR (R495, 14_command_packets.md)
abbrev Reg.CMD_ERR_CRC : Field := ⟨0xD0214, 24, 8⟩
abbrev Reg.CMD_ERR_MALFORMED : Field := ⟨0xD0214, 16, 8⟩
abbrev Reg.CMD_ERR_NACKED : Field := ⟨0xD0214, 8, 8⟩
abbrev Reg.CMD_ERR_UNREAD : Field := ⟨0xD0214, 0, 8⟩
-- CMD_NOPRIV_n (R495, 14_command_packets.md)
abbrev Reg.CMD_NOPRIV_COUNT (n : Nat) : Field := ⟨0xD0220 + 0x4 * n, 0, 32⟩
-- FL_KEY (R431, 12_code_flash.md)
abbrev Reg.FL_KEY_KEY : Field := ⟨0xE0000, 0, 32⟩
-- FL_CMD (R431, 12_code_flash.md)
abbrev Reg.FL_CMD_MARGIN : Field := ⟨0xE0004, 8, 2⟩
abbrev Reg.FL_CMD_OP : Field := ⟨0xE0004, 0, 4⟩
-- FL_ADDR (R431, 12_code_flash.md)
abbrev Reg.FL_ADDR_ADDR : Field := ⟨0xE0008, 0, 25⟩
-- FL_DATA (R431, 12_code_flash.md)
abbrev Reg.FL_DATA_DATA : Field := ⟨0xE000C, 0, 32⟩
-- FL_STAT (R430, 12_code_flash.md)
abbrev Reg.FL_STAT_BUSY : Field := ⟨0xE0010, 31, 1⟩
abbrev Reg.FL_STAT_SUSPENDED : Field := ⟨0xE0010, 30, 1⟩
abbrev Reg.FL_STAT_LOCKED : Field := ⟨0xE0010, 29, 1⟩
abbrev Reg.FL_STAT_IGNORED : Field := ⟨0xE0010, 28, 1⟩
abbrev Reg.FL_STAT_IGN_CAUSE : Field := ⟨0xE0010, 25, 3⟩
abbrev Reg.FL_STAT_SEQ_ERR : Field := ⟨0xE0010, 24, 1⟩
abbrev Reg.FL_STAT_PROG_FAIL : Field := ⟨0xE0010, 23, 1⟩
abbrev Reg.FL_STAT_ERASE_FAIL : Field := ⟨0xE0010, 22, 1⟩
abbrev Reg.FL_STAT_READ_UE : Field := ⟨0xE0010, 21, 1⟩
abbrev Reg.FL_STAT_JOURNAL_FULL : Field := ⟨0xE0010, 20, 1⟩
abbrev Reg.FL_STAT_LAST_OP : Field := ⟨0xE0010, 17, 3⟩
abbrev Reg.FL_STAT_SECTOR : Field := ⟨0xE0010, 0, 13⟩
-- FL_RESULT (R431, 12_code_flash.md)
abbrev Reg.FL_RESULT_FAIL : Field := ⟨0xE0014, 31, 1⟩
abbrev Reg.FL_RESULT_BITS : Field := ⟨0xE0014, 24, 7⟩
abbrev Reg.FL_RESULT_OFFSET : Field := ⟨0xE0014, 0, 12⟩
-- FL_LAST_ERASE_PULSES (R431, 12_code_flash.md)
abbrev Reg.FL_LAST_ERASE_PULSES_LIMIT : Field := ⟨0xE0018, 16, 16⟩
abbrev Reg.FL_LAST_ERASE_PULSES_PULSES : Field := ⟨0xE0018, 0, 16⟩
-- FL_ECC (R431, 12_code_flash.md)
abbrev Reg.FL_ECC_UE : Field := ⟨0xE001C, 16, 16⟩
abbrev Reg.FL_ECC_CE : Field := ⟨0xE001C, 0, 16⟩
-- FL_JOURNAL (R431, 12_code_flash.md)
abbrev Reg.FL_JOURNAL_SEQ : Field := ⟨0xE0020, 16, 16⟩
abbrev Reg.FL_JOURNAL_USED : Field := ⟨0xE0020, 5, 5⟩
abbrev Reg.FL_JOURNAL_OPEN : Field := ⟨0xE0020, 0, 5⟩
-- FL_OPTION (R431, 12_code_flash.md)
abbrev Reg.FL_OPTION_LOADED : Field := ⟨0xE0024, 31, 1⟩
abbrev Reg.FL_OPTION_DEFAULTS : Field := ⟨0xE0024, 30, 1⟩
abbrev Reg.FL_OPTION_COPY0 : Field := ⟨0xE0024, 28, 2⟩
abbrev Reg.FL_OPTION_COPY1 : Field := ⟨0xE0024, 26, 2⟩
-- FL_OPTION_SEQ (R431, 12_code_flash.md)
abbrev Reg.FL_OPTION_SEQ_SEQ : Field := ⟨0xE0028, 0, 32⟩
-- FL_SECT_STAT_w (R432, 12_code_flash.md)
abbrev Reg.FL_SECT_STAT_SECTORS (n : Nat) : Field := ⟨0xE1000 + 0x4 * n, 0, 32⟩
-- SEC_STAT (R518, 15_security.md)
abbrev Reg.SEC_STAT_IDENTITY_OK : Field := ⟨0xF0000, 31, 1⟩
abbrev Reg.SEC_STAT_ESCROW : Field := ⟨0xF0000, 30, 1⟩
abbrev Reg.SEC_STAT_OWNER : Field := ⟨0xF0000, 29, 1⟩
abbrev Reg.SEC_STAT_IMPORT : Field := ⟨0xF0000, 28, 1⟩
abbrev Reg.SEC_STAT_FOREIGN : Field := ⟨0xF0000, 27, 1⟩
abbrev Reg.SEC_STAT_ROTATE_PENDING : Field := ⟨0xF0000, 26, 1⟩
abbrev Reg.SEC_STAT_MK_SOURCE : Field := ⟨0xF0000, 24, 2⟩
abbrev Reg.SEC_STAT_STORE_FREE : Field := ⟨0xF0000, 16, 8⟩
abbrev Reg.SEC_STAT_EPOCH_LEFT : Field := ⟨0xF0000, 8, 8⟩
abbrev Reg.SEC_STAT_EPOCH : Field := ⟨0xF0000, 0, 8⟩
-- SEC_GEN (R519, 15_security.md)
abbrev Reg.SEC_GEN_GEN : Field := ⟨0xF0004, 0, 16⟩
-- SEC_FW (R519, 15_security.md)
abbrev Reg.SEC_FW_MIN_SV : Field := ⟨0xF0008, 0, 6⟩
-- SEC_ESCROW_ID (R519, 15_security.md)
abbrev Reg.SEC_ESCROW_ID_ID : Field := ⟨0xF000C, 0, 32⟩
-- SEC_OWNER_ID (R519, 15_security.md)
abbrev Reg.SEC_OWNER_ID_ID : Field := ⟨0xF0010, 0, 32⟩
-- SEC_SIG_FAIL (R519, 15_security.md)
abbrev Reg.SEC_SIG_FAIL_KEYSTONE : Field := ⟨0xF0014, 24, 8⟩
abbrev Reg.SEC_SIG_FAIL_OPTION : Field := ⟨0xF0014, 16, 8⟩
abbrev Reg.SEC_SIG_FAIL_SCORE : Field := ⟨0xF0014, 8, 8⟩
abbrev Reg.SEC_SIG_FAIL_FIRMWARE : Field := ⟨0xF0014, 0, 8⟩
-- SEC_FOREIGN_SEQ_LO (R519, 15_security.md)
abbrev Reg.SEC_FOREIGN_SEQ_LO_SEQ : Field := ⟨0xF0018, 0, 32⟩
-- SEC_FOREIGN_SEQ_HI (R519, 15_security.md)
abbrev Reg.SEC_FOREIGN_SEQ_HI_SEQ : Field := ⟨0xF001C, 0, 32⟩
-- SEC_FOREIGN_DECK_ID_w (R519, 15_security.md)
abbrev Reg.SEC_FOREIGN_DECK_ID_BYTES (n : Nat) : Field := ⟨0xF0020 + 0x4 * n, 0, 32⟩
-- SEC_FOREIGN_DEVICE_ID_w (R519, 15_security.md)
abbrev Reg.SEC_FOREIGN_DEVICE_ID_BYTES (n : Nat) : Field := ⟨0xF0040 + 0x4 * n, 0, 32⟩
-- SEC_FOREIGN_KEY_REF_w (R519, 15_security.md)
abbrev Reg.SEC_FOREIGN_KEY_REF_BYTES (n : Nat) : Field := ⟨0xF0080 + 0x4 * n, 0, 32⟩

/-- Registers of the map, part 0. -/
def regTable0 : List RegDesc :=
  [ ⟨0x00000, 0x4, 1, [⟨16, 16, .ro, .num 2112⟩, ⟨12, 4, .ro, .live⟩, ⟨8, 4, .ro, .live⟩, ⟨7, 1, .ro, .live⟩]⟩,
    ⟨0x00004, 0x4, 1, [⟨28, 4, .ro, .num 1⟩, ⟨27, 1, .ro, .num 0⟩, ⟨23, 4, .ro, .num 0⟩, ⟨18, 5, .ro, .num 0⟩]⟩,
    ⟨0x00008, 0x4, 1, [⟨28, 4, .ro, .live⟩, ⟨24, 4, .ro, .live⟩, ⟨16, 8, .ro, .num 0⟩]⟩,
    ⟨0x0000C, 0x4, 1, [⟨29, 3, .ro, .num 0⟩, ⟨26, 3, .ro, .num 0⟩, ⟨22, 4, .ro, .num 0⟩, ⟨0, 16, .ro, .live⟩]⟩,
    ⟨0x00010, 0x4, 1, [⟨24, 8, .ro, .live⟩, ⟨0, 16, .rc, .num 0⟩]⟩,
    ⟨0x00014, 0x4, 1, [⟨31, 1, .rw, .opt⟩, ⟨30, 1, .rw, .opt⟩, ⟨16, 8, .rw, .opt⟩, ⟨0, 16, .rw, .opt⟩]⟩,
    ⟨0x00018, 0x4, 1, [⟨16, 16, .ro, .live⟩, ⟨0, 16, .ro, .live⟩]⟩,
    ⟨0x00020, 0x4, 4, [⟨0, 32, .ro, .num 0⟩]⟩,
    ⟨0x00030, 0x4, 1, [⟨0, 32, .ro, .num 0⟩]⟩,
    ⟨0x00040, 0x4, 1, [⟨0, 32, .ro, .num 0⟩]⟩,
    ⟨0x00044, 0x4, 1, [⟨0, 32, .ro, .num 0⟩]⟩,
    ⟨0x00048, 0x4, 1, [⟨0, 32, .ro, .num 0⟩]⟩,
    ⟨0x0004C, 0x4, 1, [⟨0, 32, .ro, .live⟩]⟩,
    ⟨0x00050, 0x4, 1, [⟨0, 24, .ro, .live⟩]⟩,
    ⟨0x10000, 0x4, 1, [⟨31, 1, .ro, .live⟩, ⟨30, 1, .ro, .num 0⟩, ⟨29, 1, .ro, .num 0⟩, ⟨28, 1, .ro, .live⟩, ⟨22, 6, .ro, .num 0⟩, ⟨0, 14, .ro, .live⟩]⟩,
    ⟨0x10004, 0x4, 1, [⟨0, 32, .ro, .live⟩]⟩,
    ⟨0x10008, 0x4, 1, [⟨16, 10, .ro, .num 0⟩, ⟨0, 16, .rc, .num 0⟩]⟩,
    ⟨0x1000C, 0x4, 1, [⟨16, 14, .ro, .live⟩, ⟨0, 16, .ro, .live⟩]⟩,
    ⟨0x10010, 0x4, 1, [⟨0, 16, .ro, .num 0⟩]⟩,
    ⟨0x10014, 0x4, 1, [⟨0, 32, .ro, .num 0⟩]⟩,
    ⟨0x10018, 0x4, 1, [⟨0, 32, .ro, .num 0⟩]⟩,
    ⟨0x1001C, 0x4, 1, [⟨0, 32, .ro, .num 0⟩]⟩,
    ⟨0x10020, 0x4, 1, [⟨31, 1, .ro, .num 1⟩, ⟨0, 16, .rc, .num 0⟩]⟩,
    ⟨0x10040, 0x4, 1, [⟨0, 32, .rc, .num 0⟩]⟩ ]

/-- Registers of the map, part 1. -/
def regTable1 : List RegDesc :=
  [ ⟨0x10080, 0x4, 16, [⟨0, 32, .rw, .num 0⟩]⟩,
    ⟨0x100C0, 0x4, 16, [⟨0, 32, .w1c, .num 0⟩]⟩,
    ⟨0x10100, 0x4, 4, [⟨0, 8, .rw, .num 0⟩, ⟨8, 8, .rw, .num 1⟩, ⟨16, 8, .rw, .num 2⟩, ⟨24, 8, .rw, .num 3⟩]⟩,
    ⟨0x10110, 0x4, 4, [⟨16, 9, .ro, .num 0⟩, ⟨0, 16, .rc, .num 0⟩]⟩,
    ⟨0x10400, 0x4, 128, [⟨0, 32, .rw, .opt⟩]⟩,
    ⟨0x20000, 0x4, 1, [⟨20, 4, .rw, .opt⟩, ⟨16, 4, .rw, .opt⟩, ⟨2, 1, .rw, .num 0⟩, ⟨1, 1, .rw, .num 1⟩, ⟨0, 1, .rw, .num 1⟩]⟩,
    ⟨0x20004, 0x4, 1, [⟨31, 1, .ro, .num 0⟩, ⟨30, 1, .ro, .live⟩, ⟨29, 1, .ro, .num 0⟩, ⟨28, 1, .ro, .num 0⟩, ⟨27, 1, .ro, .num 0⟩, ⟨26, 1, .ro, .num 0⟩, ⟨16, 8, .ro, .num 0⟩, ⟨8, 8, .ro, .num 0⟩, ⟨0, 8, .ro, .num 0⟩]⟩,
    ⟨0x20008, 0x4, 1, [⟨16, 8, .ro, .live⟩, ⟨11, 1, .ro, .num 0⟩, ⟨8, 3, .rw, .num 0⟩, ⟨4, 3, .ro, .num 0⟩, ⟨3, 1, .ro, .num 0⟩, ⟨0, 3, .ro, .num 0⟩]⟩,
    ⟨0x2000C, 0x4, 1, [⟨24, 8, .rc, .num 0⟩, ⟨23, 1, .ro, .num 0⟩, ⟨16, 4, .ro, .num 0⟩, ⟨0, 16, .ro, .num 0⟩]⟩,
    ⟨0x20010, 0x4, 1, [⟨28, 4, .ro, .num 0⟩, ⟨25, 3, .ro, .num 0⟩, ⟨24, 1, .ro, .num 0⟩, ⟨16, 8, .ro, .num 0⟩, ⟨0, 16, .ro, .num 0⟩]⟩,
    ⟨0x20014, 0x4, 1, [⟨28, 4, .ro, .num 15⟩, ⟨24, 4, .ro, .num 0⟩, ⟨16, 8, .ro, .num 0⟩, ⟨0, 11, .ro, .num 0⟩]⟩,
    ⟨0x20018, 0x4, 1, [⟨0, 32, .ro, .num 0⟩]⟩,
    ⟨0x2001C, 0x4, 1, [⟨0, 32, .ro, .num 0⟩]⟩,
    ⟨0x20020, 0x4, 1, [⟨0, 32, .ro, .num 0⟩]⟩,
    ⟨0x20024, 0x4, 1, [⟨0, 32, .ro, .num 0⟩]⟩,
    ⟨0x20030, 0x4, 4, [⟨16, 16, .ro, .live⟩, ⟨0, 16, .ro, .live⟩]⟩,
    ⟨0x40000, 0x4000, 8, [⟨29, 3, .ro, .num 0⟩, ⟨25, 4, .ro, .num 0⟩, ⟨24, 1, .ro, .num 0⟩, ⟨23, 1, .ro, .num 0⟩, ⟨22, 1, .ro, .num 0⟩, ⟨21, 1, .ro, .num 0⟩, ⟨20, 1, .ro, .num 0⟩, ⟨19, 1, .ro, .opt⟩, ⟨18, 1, .ro, .opt⟩, ⟨16, 2, .ro, .opt⟩, ⟨14, 2, .ro, .opt⟩]⟩,
    ⟨0x40004, 0x4000, 8, [⟨16, 16, .ro, .num 0⟩, ⟨12, 4, .rc, .num 0⟩, ⟨4, 4, .ro, .num 0⟩, ⟨0, 4, .ro, .num 0⟩]⟩,
    ⟨0x40008, 0x4000, 8, [⟨24, 8, .rc, .num 0⟩, ⟨11, 1, .ro, .num 0⟩, ⟨10, 1, .ro, .num 0⟩, ⟨9, 1, .ro, .num 0⟩, ⟨8, 1, .ro, .num 0⟩, ⟨0, 8, .ro, .live⟩]⟩,
    ⟨0x4000C, 0x4000, 8, [⟨0, 32, .rc, .num 0⟩]⟩,
    ⟨0x40010, 0x4000, 8, [⟨16, 16, .rc, .num 0⟩, ⟨0, 16, .rc, .num 0⟩]⟩,
    ⟨0x40014, 0x4000, 8, [⟨31, 1, .ro, .num 0⟩, ⟨30, 1, .ro, .num 0⟩, ⟨29, 1, .ro, .num 0⟩, ⟨24, 5, .ro, .num 0⟩, ⟨20, 4, .ro, .num 0⟩, ⟨0, 18, .ro, .num 0⟩]⟩,
    ⟨0x40018, 0x4000, 8, [⟨10, 22, .ro, .num 0⟩, ⟨0, 10, .ro, .num 0⟩]⟩,
    ⟨0x4001C, 0x4000, 8, [⟨16, 16, .rw, .opt⟩, ⟨8, 8, .rw, .opt⟩, ⟨4, 4, .rw, .opt⟩]⟩ ]

/-- Registers of the map, part 2. -/
def regTable2 : List RegDesc :=
  [ ⟨0x40020, 0x4000, 8, [⟨16, 16, .ro, .num 0⟩, ⟨0, 16, .ro, .num 0⟩]⟩,
    ⟨0x40024, 0x4000, 8, [⟨1, 1, .rw, .opt⟩, ⟨0, 1, .rw, .opt⟩]⟩,
    ⟨0x40028, 0x4000, 8, [⟨16, 16, .ro, .num 0⟩, ⟨12, 4, .ro, .num 0⟩, ⟨8, 4, .ro, .num 0⟩, ⟨0, 8, .ro, .num 0⟩]⟩,
    ⟨0x4002C, 0x4000, 8, [⟨28, 4, .ro, .num 0⟩, ⟨0, 23, .ro, .num 0⟩]⟩,
    ⟨0x40030, 0x4000, 8, [⟨24, 8, .ro, .opt⟩, ⟨16, 8, .ro, .num 0⟩, ⟨0, 11, .ro, .opt⟩]⟩,
    ⟨0x40034, 0x4000, 8, [⟨0, 23, .ro, .live⟩]⟩,
    ⟨0x40038, 0x4000, 8, [⟨0, 23, .ro, .live⟩]⟩,
    ⟨0x4003C, 0x4000, 8, [⟨0, 16, .ro, .num 0⟩]⟩,
    ⟨0x60000, 0x4000, 4, [⟨29, 3, .ro, .num 0⟩, ⟨27, 2, .ro, .num 0⟩, ⟨25, 2, .ro, .num 0⟩, ⟨23, 2, .ro, .num 0⟩, ⟨22, 1, .ro, .opt⟩, ⟨17, 5, .ro, .opt⟩, ⟨16, 1, .ro, .opt⟩, ⟨15, 1, .ro, .num 0⟩, ⟨14, 1, .ro, .opt⟩, ⟨12, 2, .ro, .num 0⟩, ⟨11, 1, .ro, .live⟩]⟩,
    ⟨0x60004, 0x4000, 4, [⟨31, 1, .rw, .opt⟩, ⟨30, 1, .rw, .opt⟩, ⟨25, 5, .rw, .opt⟩, ⟨24, 1, .rw, .opt⟩, ⟨23, 1, .rw, .opt⟩]⟩,
    ⟨0x60008, 0x4000, 4, [⟨16, 16, .rw, .opt⟩, ⟨0, 16, .rw, .opt⟩]⟩,
    ⟨0x6000C, 0x4000, 4, [⟨0, 32, .rc, .num 0⟩]⟩,
    ⟨0x60010, 0x4000, 4, [⟨16, 16, .rc, .num 0⟩, ⟨0, 16, .rc, .num 0⟩]⟩,
    ⟨0x60014, 0x4000, 4, [⟨16, 16, .ro, .live⟩, ⟨0, 16, .ro, .live⟩]⟩,
    ⟨0x60018, 0x4000, 4, [⟨16, 16, .ro, .num 0⟩, ⟨8, 8, .ro, .num 0⟩, ⟨0, 8, .ro, .num 0⟩]⟩,
    ⟨0x6001C, 0x4000, 4, [⟨0, 16, .ro, .num 0⟩]⟩,
    ⟨0x60020, 0x4000, 4, [⟨0, 16, .ro, .num 0⟩]⟩,
    ⟨0x60024, 0x4000, 4, [⟨16, 16, .ro, .num 0⟩, ⟨0, 16, .rc, .num 0⟩]⟩,
    ⟨0x60028, 0x4000, 4, [⟨0, 32, .rc, .num 0⟩]⟩,
    ⟨0x60030, 0x4000, 4, [⟨0, 32, .ro, .live⟩]⟩,
    ⟨0x60034, 0x4000, 4, [⟨0, 32, .ro, .live⟩]⟩,
    ⟨0x60040, 0x4, 16, [⟨0, 12, .rw, .opt⟩]⟩,
    ⟨0x64040, 0x4, 16, [⟨0, 12, .rw, .opt⟩]⟩,
    ⟨0x68040, 0x4, 16, [⟨0, 12, .rw, .opt⟩]⟩ ]

/-- Registers of the map, part 3. -/
def regTable3 : List RegDesc :=
  [ ⟨0x6C040, 0x4, 16, [⟨0, 12, .rw, .opt⟩]⟩,
    ⟨0x80000, 0x4, 1, [⟨31, 1, .ro, .num 0⟩, ⟨28, 3, .ro, .num 1⟩, ⟨27, 1, .ro, .num 0⟩, ⟨26, 1, .ro, .num 0⟩, ⟨25, 1, .ro, .num 0⟩, ⟨24, 1, .ro, .num 0⟩, ⟨23, 1, .ro, .num 0⟩]⟩,
    ⟨0x80004, 0x4, 1, [⟨0, 26, .ro, .live⟩]⟩,
    ⟨0x80008, 0x4, 1, [⟨31, 1, .ro, .num 0⟩, ⟨0, 26, .ro, .live⟩]⟩,
    ⟨0x8000C, 0x4, 1, [⟨0, 26, .ro, .live⟩]⟩,
    ⟨0x80010, 0x4, 1, [⟨0, 26, .ro, .live⟩]⟩,
    ⟨0x80014, 0x4, 1, [⟨16, 16, .rc, .num 0⟩, ⟨0, 13, .ro, .num 0⟩]⟩,
    ⟨0x80018, 0x4, 1, [⟨13, 19, .ro, .live⟩, ⟨0, 13, .ro, .live⟩]⟩,
    ⟨0x8001C, 0x4, 1, [⟨16, 16, .ro, .num 0⟩, ⟨0, 12, .rw, .opt⟩]⟩,
    ⟨0x80020, 0x4, 1, [⟨16, 16, .ro, .live⟩, ⟨0, 16, .ro, .live⟩]⟩,
    ⟨0x80024, 0x4, 1, [⟨16, 16, .rw, .opt⟩, ⟨8, 8, .rw, .opt⟩, ⟨0, 1, .rw, .opt⟩]⟩,
    ⟨0x80028, 0x4, 1, [⟨16, 16, .rw, .opt⟩, ⟨8, 8, .rw, .opt⟩, ⟨0, 1, .rw, .opt⟩]⟩,
    ⟨0x8002C, 0x4, 1, [⟨0, 10, .rw, .opt⟩]⟩,
    ⟨0x80030, 0x4, 1, [⟨0, 32, .rc, .num 0⟩]⟩,
    ⟨0x80034, 0x4, 1, [⟨0, 32, .rc, .num 0⟩]⟩,
    ⟨0x80038, 0x4, 1, [⟨16, 16, .rc, .num 0⟩, ⟨0, 16, .rc, .num 0⟩]⟩,
    ⟨0x8003C, 0x4, 1, [⟨0, 16, .ro, .num 0⟩]⟩,
    ⟨0x80040, 0x4, 1, [⟨0, 32, .rc, .num 0⟩]⟩,
    ⟨0x80050, 0x4, 4, [⟨0, 26, .ro, .live⟩]⟩,
    ⟨0x80060, 0x4, 1, [⟨0, 26, .ro, .live⟩]⟩,
    ⟨0x80064, 0x4, 1, [⟨0, 26, .ro, .live⟩]⟩,
    ⟨0x80068, 0x4, 1, [⟨0, 26, .ro, .live⟩]⟩,
    ⟨0x8006C, 0x4, 1, [⟨0, 26, .ro, .live⟩]⟩,
    ⟨0x80070, 0x4, 1, [⟨0, 26, .ro, .live⟩]⟩ ]

/-- Registers of the map, part 4. -/
def regTable4 : List RegDesc :=
  [ ⟨0x80100, 0x4, 1, [⟨28, 4, .ro, .num 0⟩, ⟨24, 4, .ro, .num 0⟩, ⟨23, 1, .ro, .live⟩, ⟨22, 1, .ro, .num 0⟩, ⟨20, 2, .ro, .num 0⟩, ⟨18, 2, .ro, .num 0⟩, ⟨0, 16, .rc, .num 0⟩]⟩,
    ⟨0x80104, 0x4, 1, [⟨0, 26, .ro, .num 0⟩]⟩,
    ⟨0x80108, 0x4, 1, [⟨0, 26, .ro, .num 0⟩]⟩,
    ⟨0x8010C, 0x4, 1, [⟨0, 26, .ro, .num 0⟩]⟩,
    ⟨0x80110, 0x4, 1, [⟨16, 16, .ro, .num 0⟩, ⟨0, 16, .ro, .num 0⟩]⟩,
    ⟨0x80114, 0x4, 1, [⟨0, 32, .ro, .num 0⟩]⟩,
    ⟨0x80118, 0x4, 1, [⟨0, 32, .ro, .num 0⟩]⟩,
    ⟨0x8011C, 0x4, 1, [⟨24, 8, .rw, .opt⟩, ⟨0, 1, .rw, .opt⟩]⟩,
    ⟨0x80120, 0x4, 1, [⟨29, 3, .ro, .num 0⟩, ⟨27, 2, .ro, .num 0⟩, ⟨26, 1, .ro, .num 0⟩, ⟨25, 1, .ro, .num 0⟩]⟩,
    ⟨0x80124, 0x4, 1, [⟨0, 26, .ro, .num 0⟩]⟩,
    ⟨0x80128, 0x4, 1, [⟨31, 1, .rw, .num 0⟩, ⟨30, 1, .rw, .opt⟩, ⟨29, 1, .rw, .num 0⟩, ⟨16, 6, .rw, .num 0⟩]⟩,
    ⟨0x8012C, 0x4, 1, [⟨24, 8, .ro, .num 0⟩, ⟨16, 8, .ro, .num 0⟩, ⟨0, 16, .rc, .num 0⟩]⟩,
    ⟨0x80130, 0x4, 1, [⟨16, 16, .ro, .live⟩, ⟨0, 16, .ro, .live⟩]⟩,
    ⟨0x80134, 0x4, 1, [⟨0, 32, .rc, .num 0⟩]⟩,
    ⟨0x80138, 0x4, 1, [⟨0, 32, .ro, .live⟩]⟩,
    ⟨0xA0000, 0x4, 1, [⟨29, 3, .ro, .num 0⟩, ⟨28, 1, .ro, .num 0⟩, ⟨27, 1, .ro, .num 0⟩, ⟨26, 1, .ro, .num 0⟩, ⟨25, 1, .ro, .num 0⟩, ⟨0, 16, .ro, .num 0⟩]⟩,
    ⟨0xA0004, 0x4, 1, [⟨30, 2, .ro, .num 0⟩, ⟨16, 5, .ro, .num 0⟩, ⟨0, 16, .ro, .live⟩]⟩,
    ⟨0xA0008, 0x4, 1, [⟨0, 32, .ro, .live⟩]⟩,
    ⟨0xA000C, 0x4, 1, [⟨0, 32, .ro, .live⟩]⟩,
    ⟨0xA0010, 0x4, 1, [⟨24, 8, .rw, .opt⟩, ⟨16, 8, .rw, .opt⟩, ⟨8, 8, .rw, .opt⟩, ⟨0, 1, .rw, .opt⟩]⟩,
    ⟨0xA0014, 0x4, 1, [⟨16, 16, .ro, .live⟩, ⟨0, 16, .ro, .live⟩]⟩,
    ⟨0xA0018, 0x4, 1, [⟨16, 16, .ro, .live⟩, ⟨0, 16, .ro, .live⟩]⟩,
    ⟨0xA001C, 0x4, 1, [⟨16, 16, .ro, .live⟩, ⟨8, 8, .ro, .opt⟩, ⟨0, 8, .ro, .live⟩]⟩,
    ⟨0xA0020, 0x4, 1, [⟨0, 16, .ro, .live⟩]⟩ ]

/-- Registers of the map, part 5. -/
def regTable5 : List RegDesc :=
  [ ⟨0xA0024, 0x4, 1, [⟨0, 16, .ro, .num 0⟩]⟩,
    ⟨0xA0028, 0x4, 1, [⟨0, 16, .ro, .num 0⟩]⟩,
    ⟨0xA002C, 0x4, 1, [⟨0, 32, .ro, .live⟩]⟩,
    ⟨0xB0000, 0x1000, 16, [⟨29, 3, .ro, .num 0⟩, ⟨25, 4, .ro, .num 0⟩, ⟨21, 4, .ro, .opt⟩, ⟨8, 8, .ro, .live⟩, ⟨0, 8, .ro, .num 0⟩]⟩,
    ⟨0xB0004, 0x1000, 16, [⟨16, 16, .ro, .live⟩, ⟨0, 16, .ro, .live⟩]⟩,
    ⟨0xB0008, 0x1000, 16, [⟨24, 8, .rc, .num 0⟩, ⟨16, 8, .rc, .num 0⟩, ⟨8, 8, .rc, .num 0⟩, ⟨0, 8, .rc, .num 0⟩]⟩,
    ⟨0xB000C, 0x1000, 16, [⟨16, 16, .ro, .live⟩, ⟨0, 16, .rc, .num 0⟩]⟩,
    ⟨0xB0010, 0x1000, 16, [⟨0, 16, .ro, .num 0⟩]⟩,
    ⟨0xC0000, 0x4, 1, [⟨29, 3, .ro, .num 0⟩, ⟨28, 1, .ro, .num 0⟩, ⟨27, 1, .ro, .num 0⟩, ⟨26, 1, .ro, .num 0⟩, ⟨25, 1, .ro, .num 0⟩, ⟨24, 1, .ro, .num 0⟩, ⟨23, 1, .ro, .num 0⟩, ⟨22, 1, .ro, .num 0⟩, ⟨21, 1, .ro, .num 0⟩, ⟨20, 1, .ro, .num 0⟩]⟩,
    ⟨0xC0004, 0x4, 1, [⟨16, 16, .ro, .live⟩, ⟨0, 16, .ro, .live⟩]⟩,
    ⟨0xC0008, 0x4, 1, [⟨16, 16, .ro, .opt⟩, ⟨0, 16, .ro, .live⟩]⟩,
    ⟨0xC000C, 0x4, 1, [⟨0, 32, .ro, .live⟩]⟩,
    ⟨0xC0010, 0x4, 1, [⟨0, 32, .ro, .live⟩]⟩,
    ⟨0xC0014, 0x4, 1, [⟨8, 8, .ro, .live⟩, ⟨0, 8, .ro, .live⟩]⟩,
    ⟨0xC0018, 0x4, 1, [⟨24, 8, .ro, .live⟩, ⟨0, 24, .ro, .live⟩]⟩,
    ⟨0xC001C, 0x4, 1, [⟨16, 16, .ro, .live⟩, ⟨0, 16, .ro, .live⟩]⟩,
    ⟨0xC0020, 0x4, 6, [⟨0, 16, .ro, .live⟩]⟩,
    ⟨0xC0038, 0x4, 1, [⟨24, 8, .rw, .opt⟩, ⟨0, 24, .ro, .num 0⟩]⟩,
    ⟨0xC003C, 0x4, 1, [⟨31, 1, .ro, .opt⟩, ⟨30, 1, .rw, .opt⟩, ⟨0, 16, .rw, .opt⟩]⟩,
    ⟨0xC0040, 0x4, 1, [⟨16, 16, .rw, .opt⟩, ⟨0, 16, .ro, .live⟩]⟩,
    ⟨0xC0044, 0x4, 1, [⟨31, 1, .ro, .live⟩, ⟨0, 31, .ro, .live⟩]⟩,
    ⟨0xC0048, 0x4, 1, [⟨0, 16, .ro, .num 0⟩]⟩,
    ⟨0xC8000, 0x4, 1, [⟨30, 2, .rw, .opt⟩, ⟨27, 3, .rw, .opt⟩, ⟨26, 1, .rw, .opt⟩, ⟨0, 16, .rw, .opt⟩]⟩,
    ⟨0xC8004, 0x4, 1, [⟨28, 4, .ro, .num 0⟩, ⟨26, 2, .ro, .num 0⟩, ⟨25, 1, .ro, .num 0⟩, ⟨24, 1, .ro, .live⟩, ⟨23, 1, .ro, .live⟩, ⟨22, 1, .ro, .num 0⟩, ⟨20, 2, .ro, .num 0⟩, ⟨17, 3, .ro, .num 0⟩, ⟨0, 16, .ro, .num 0⟩]⟩ ]

/-- Registers of the map, part 6. -/
def regTable6 : List RegDesc :=
  [ ⟨0xC8008, 0x4, 1, [⟨16, 16, .rw, .opt⟩, ⟨8, 8, .rw, .opt⟩, ⟨4, 4, .rw, .opt⟩]⟩,
    ⟨0xC800C, 0x4, 1, [⟨16, 16, .rw, .opt⟩, ⟨0, 16, .ro, .live⟩]⟩,
    ⟨0xC8010, 0x4, 1, [⟨16, 16, .ro, .live⟩, ⟨0, 16, .ro, .live⟩]⟩,
    ⟨0xC8014, 0x4, 1, [⟨0, 16, .ro, .num 0⟩]⟩,
    ⟨0xC8018, 0x4, 1, [⟨16, 16, .ro, .num 0⟩, ⟨0, 16, .ro, .num 0⟩]⟩,
    ⟨0xC801C, 0x4, 1, [⟨0, 16, .ro, .num 0⟩]⟩,
    ⟨0xC8100, 0x20, 16, [⟨20, 12, .rw, .opt⟩, ⟨8, 12, .rw, .opt⟩, ⟨0, 8, .rw, .opt⟩]⟩,
    ⟨0xC8104, 0x20, 16, [⟨20, 12, .rw, .opt⟩, ⟨12, 8, .rw, .opt⟩, ⟨4, 8, .rw, .opt⟩, ⟨3, 1, .rw, .opt⟩]⟩,
    ⟨0xC8108, 0x20, 16, [⟨16, 16, .rw, .opt⟩, ⟨8, 8, .rw, .opt⟩]⟩,
    ⟨0xC810C, 0x20, 16, [⟨24, 8, .rw, .opt⟩, ⟨17, 7, .rw, .opt⟩, ⟨0, 16, .rw, .opt⟩]⟩,
    ⟨0xC8110, 0x20, 16, [⟨27, 5, .ro, .num 0⟩, ⟨26, 1, .ro, .num 0⟩, ⟨25, 1, .ro, .num 0⟩, ⟨24, 1, .ro, .num 0⟩, ⟨19, 4, .ro, .num 0⟩, ⟨6, 13, .ro, .num 0⟩]⟩,
    ⟨0xC8114, 0x20, 16, [⟨16, 16, .rc, .num 0⟩, ⟨0, 16, .ro, .live⟩]⟩,
    ⟨0xD0000, 0x4, 1, [⟨30, 2, .ro, .num 0⟩, ⟨27, 3, .ro, .num 0⟩, ⟨24, 3, .ro, .num 0⟩, ⟨23, 1, .ro, .num 0⟩, ⟨22, 1, .ro, .num 0⟩, ⟨21, 1, .ro, .num 0⟩, ⟨20, 1, .ro, .num 0⟩, ⟨18, 2, .ro, .opt⟩]⟩,
    ⟨0xD0004, 0x4, 1, [⟨16, 16, .rw, .opt⟩, ⟨15, 1, .rw, .opt⟩, ⟨2, 2, .ro, .opt⟩, ⟨0, 2, .ro, .opt⟩]⟩,
    ⟨0xD0008, 0x4, 1, [⟨16, 16, .ro, .num 0⟩, ⟨8, 8, .rc, .num 0⟩, ⟨0, 8, .rc, .num 0⟩]⟩,
    ⟨0xD0010, 0x4, 1, [⟨16, 16, .ro, .live⟩, ⟨8, 8, .ro, .num 0⟩, ⟨4, 4, .ro, .num 0⟩]⟩,
    ⟨0xD0014, 0x4, 1, [⟨16, 16, .ro, .live⟩, ⟨8, 8, .ro, .num 0⟩, ⟨4, 4, .ro, .num 0⟩]⟩,
    ⟨0xD0018, 0x4, 1, [⟨0, 16, .ro, .num 0⟩]⟩,
    ⟨0xD001C, 0x4, 1, [⟨28, 4, .ro, .num 0⟩, ⟨25, 3, .ro, .num 0⟩, ⟨0, 24, .ro, .num 0⟩]⟩,
    ⟨0xD0100, 0x10, 5, [⟨16, 16, .ro, .num 0⟩, ⟨0, 16, .ro, .num 0⟩]⟩,
    ⟨0xD0104, 0x10, 5, [⟨28, 4, .ro, .num 0⟩, ⟨16, 8, .rc, .num 0⟩, ⟨0, 16, .ro, .num 0⟩]⟩,
    ⟨0xD0108, 0x10, 5, [⟨31, 1, .ro, .num 0⟩, ⟨0, 16, .ro, .num 0⟩]⟩,
    ⟨0xD0200, 0x4, 1, [⟨24, 6, .ro, .live⟩, ⟨18, 6, .ro, .strap⟩, ⟨17, 1, .ro, .opt⟩, ⟨16, 1, .ro, .num 0⟩, ⟨9, 7, .ro, .num 0⟩, ⟨4, 4, .ro, .num 0⟩]⟩,
    ⟨0xD0204, 0x4, 1, [⟨0, 16, .ro, .opt⟩]⟩ ]

/-- Registers of the map, part 7. -/
def regTable7 : List RegDesc :=
  [ ⟨0xD0208, 0x4, 1, [⟨16, 16, .ro, .num 0⟩, ⟨0, 16, .ro, .num 0⟩]⟩,
    ⟨0xD020C, 0x4, 1, [⟨16, 16, .ro, .num 0⟩, ⟨8, 8, .ro, .num 0⟩, ⟨0, 8, .ro, .num 0⟩]⟩,
    ⟨0xD0210, 0x4, 1, [⟨0, 32, .ro, .num 0⟩]⟩,
    ⟨0xD0214, 0x4, 1, [⟨24, 8, .rc, .num 0⟩, ⟨16, 8, .rc, .num 0⟩, ⟨8, 8, .rc, .num 0⟩, ⟨0, 8, .rc, .num 0⟩]⟩,
    ⟨0xD0220, 0x4, 4, [⟨0, 32, .rc, .num 0⟩]⟩,
    ⟨0xE0000, 0x4, 1, [⟨0, 32, .wo, .num 0⟩]⟩,
    ⟨0xE0004, 0x4, 1, [⟨8, 2, .rw, .num 0⟩, ⟨0, 4, .rw, .num 0⟩]⟩,
    ⟨0xE0008, 0x4, 1, [⟨0, 25, .rw, .num 0⟩]⟩,
    ⟨0xE000C, 0x4, 1, [⟨0, 32, .wo, .num 0⟩]⟩,
    ⟨0xE0010, 0x4, 1, [⟨31, 1, .ro, .num 0⟩, ⟨30, 1, .ro, .num 0⟩, ⟨29, 1, .ro, .num 1⟩, ⟨28, 1, .w1c, .num 0⟩, ⟨25, 3, .ro, .num 0⟩, ⟨24, 1, .w1c, .num 0⟩, ⟨23, 1, .w1c, .num 0⟩, ⟨22, 1, .w1c, .num 0⟩, ⟨21, 1, .w1c, .num 0⟩, ⟨20, 1, .w1c, .num 0⟩, ⟨17, 3, .ro, .num 0⟩, ⟨0, 13, .ro, .num 0⟩]⟩,
    ⟨0xE0014, 0x4, 1, [⟨31, 1, .ro, .num 0⟩, ⟨24, 7, .ro, .num 0⟩, ⟨0, 12, .ro, .num 0⟩]⟩,
    ⟨0xE0018, 0x4, 1, [⟨16, 16, .ro, .num 50⟩, ⟨0, 16, .ro, .num 0⟩]⟩,
    ⟨0xE001C, 0x4, 1, [⟨16, 16, .rc, .num 0⟩, ⟨0, 16, .rc, .num 0⟩]⟩,
    ⟨0xE0020, 0x4, 1, [⟨16, 16, .ro, .live⟩, ⟨5, 5, .ro, .live⟩, ⟨0, 5, .ro, .live⟩]⟩,
    ⟨0xE0024, 0x4, 1, [⟨31, 1, .ro, .live⟩, ⟨30, 1, .ro, .live⟩, ⟨28, 2, .ro, .live⟩, ⟨26, 2, .ro, .live⟩]⟩,
    ⟨0xE0028, 0x4, 1, [⟨0, 32, .ro, .live⟩]⟩,
    ⟨0xE1000, 0x4, 320, [⟨0, 32, .ro, .live⟩]⟩,
    ⟨0xF0000, 0x4, 1, [⟨31, 1, .ro, .live⟩, ⟨30, 1, .ro, .live⟩, ⟨29, 1, .ro, .live⟩, ⟨28, 1, .ro, .live⟩, ⟨27, 1, .ro, .num 0⟩, ⟨26, 1, .ro, .num 0⟩, ⟨24, 2, .ro, .num 0⟩, ⟨16, 8, .ro, .live⟩, ⟨8, 8, .ro, .live⟩, ⟨0, 8, .ro, .live⟩]⟩,
    ⟨0xF0004, 0x4, 1, [⟨0, 16, .ro, .live⟩]⟩,
    ⟨0xF0008, 0x4, 1, [⟨0, 6, .ro, .live⟩]⟩,
    ⟨0xF000C, 0x4, 1, [⟨0, 32, .ro, .live⟩]⟩,
    ⟨0xF0010, 0x4, 1, [⟨0, 32, .ro, .live⟩]⟩,
    ⟨0xF0014, 0x4, 1, [⟨24, 8, .rc, .num 0⟩, ⟨16, 8, .rc, .num 0⟩, ⟨8, 8, .rc, .num 0⟩, ⟨0, 8, .rc, .num 0⟩]⟩,
    ⟨0xF0018, 0x4, 1, [⟨0, 32, .ro, .num 0⟩]⟩ ]

/-- Registers of the map, part 8. -/
def regTable8 : List RegDesc :=
  [ ⟨0xF001C, 0x4, 1, [⟨0, 32, .ro, .num 0⟩]⟩,
    ⟨0xF0020, 0x4, 4, [⟨0, 32, .ro, .num 0⟩]⟩,
    ⟨0xF0040, 0x4, 12, [⟨0, 32, .ro, .num 0⟩]⟩,
    ⟨0xF0080, 0x4, 16, [⟨0, 32, .ro, .num 0⟩]⟩ ]

/-- The whole register map (R8, R9, R15). -/
def regTable : List RegDesc :=
  regTable0 ++ regTable1 ++ regTable2 ++ regTable3 ++ regTable4 ++ regTable5 ++ regTable6 ++ regTable7 ++ regTable8

/-- Does register `d` have an instance at word address `a`? -/
def RegDesc.covers (d : RegDesc) (a : Nat) : Bool :=
  decide (d.base ≤ a) && (a - d.base) % d.stride == 0 && decide ((a - d.base) / d.stride < d.count)

/-- The fields of the register at word address `a`; none where no register is (R12). -/
def fieldsAt (a : Nat) : List FieldDesc :=
  match regTable.find? (·.covers a) with
  | some d => d.fields
  | none => []

end Sys2Proof.Machine
end

