-- ==== Sys2Proof/Machine/ScoreTypes.lean ====
section
/-! DEFINITION. The score as the device plays it (spec/02_score_model.md R31 to R60, spec/03_score_contract.md R86 to
R94): voices, bar tables, NAND windows, copy passes, XTS roles, credit grants, variants and pressed windows. -/

namespace Sys2Proof.Machine

/-- The voice kinds of R34, numbered as R90 codes them; `invalid` holds the codes 9 to 15 that R90 does not allow. -/
inductive VoiceKind where
  | undefined | refresh | hostRead | hostWrite | stream | scrub | restore | save | maint
  | invalid (code : Nat)
  deriving DecidableEq, Repr

def VoiceKind.ofCode : Nat → VoiceKind
  | 0 => .undefined | 1 => .refresh | 2 => .hostRead | 3 => .hostWrite | 4 => .stream
  | 5 => .scrub | 6 => .restore | 7 => .save | 8 => .maint | n => .invalid n

/-- One entry of a voice directory (R90). -/
structure Voice where
  kind : VoiceKind
  port : Nat
  deriving DecidableEq, Repr

/-- Who holds a quad of a bar table (R33, R91). -/
inductive QuadOwner where
  | voice (v : Nat)
  | rest
  /-- slots of the mask belong to MAINT voice `v`; the others are REST -/
  | split (v mask : Nat)
  deriving DecidableEq, Repr

/-- One run of a bar table: its CODE, its LENGTH in quads and, for a split run, the extension word (R91). -/
structure BarRun where
  code : Nat
  len : Nat
  ext : Nat
  deriving DecidableEq, Repr

/-- A bar table: its RUN_COUNT field and its runs (R91). -/
structure BarTable where
  runCount : Nat
  runs : List BarRun
  deriving DecidableEq, Repr

/-- The holder a run gives its quads. -/
def BarRun.owner (r : BarRun) : QuadOwner :=
  if r.code < 16 then .voice r.code
  else if r.code = 17 then .split (bitsAt r.ext 4 4) (bitsAt r.ext 0 4)
  else .rest

/-- The quads of a table, in order. -/
def BarTable.quads (t : BarTable) : List QuadOwner :=
  t.runs.flatMap fun r => List.replicate r.len r.owner

/-- Operation classes of a NAND window (R47, R92). -/
inductive WinClass where
  | idle | program | read | erase
  | invalid (code : Nat)
  deriving DecidableEq, Repr

def WinClass.ofCode : Nat → WinClass
  | 0 => .idle | 1 => .program | 2 => .read | 3 => .erase | n => .invalid n

/-- A NAND issue window (R92). -/
structure NandWindow where
  first : Nat
  length : Nat
  cls : WinClass
  budget : Nat
  dieMask : Nat
  deriving DecidableEq, Repr

/-- Kinds of copy pass (R48, R92). -/
inductive PassKind where
  | none | stream | save | restore | scrubZero
  | invalid (code : Nat)
  deriving DecidableEq, Repr

def PassKind.ofCode : Nat → PassKind
  | 0 => .none | 1 => .stream | 2 => .save | 3 => .restore | 4 => .scrubZero | n => .invalid n

/-- A copy pass (R92). -/
structure CopyPass where
  kind : PassKind
  mask : Nat
  bytes : Nat
  deriving DecidableEq, Repr

/-- The roles of an XTS engine in a bar (R49, R92). -/
inductive XtsRole where
  | idle | encryptStream | encryptSave | decryptRestore | decryptTouch
  | invalid (code : Nat)
  deriving DecidableEq, Repr

def XtsRole.ofCode : Nat → XtsRole
  | 0 => .idle | 1 => .encryptStream | 2 => .encryptSave | 3 => .decryptRestore | 4 => .decryptTouch
  | n => .invalid n

/-- The credits a bar grants one port (R50). -/
structure Grant where
  req : Nat
  rwd : Nat
  deriving DecidableEq, Repr

/-- An engine record: two windows for each NAND channel (channel-major), copy passes, XTS roles and grants (R92). -/
structure EngineRec where
  windows : List NandWindow
  copy : List CopyPass
  xts : List XtsRole
  grants : List Grant
  deriving DecidableEq, Repr

/-- A port record of the header (R88). -/
structure PortRec where
  reqPool : Nat
  rwdPool : Nat
  readBound : Nat
  writeBound : Nat
  isoch : Bool
  present : Bool
  deriving DecidableEq, Repr

/-- A variant, or the save score: refresh rate, bar index lists, engine index list and voice directory (R89, R90). -/
structure VariantTab where
  rate : Nat
  chIndex : List (List Nat)
  engIndex : List Nat
  voices : List Voice
  deriving DecidableEq, Repr

/-- A pressed-window entry (R93). -/
structure PressedWindow where
  variant : Nat
  channel : Nat
  firstBar : Nat
  length : Nat
  postponed : Nat
  deriving DecidableEq, Repr

/-- A score image as played; `variants` holds V0 to V7, then the save score (R86 to R93). -/
structure Score where
  id : Nat
  rev : Nat
  density : Nat
  ranks : Nat
  dchMask : Nat
  nandDies : Nat
  nchMask : Nat
  variantMask : Nat
  ports : List PortRec
  variants : List (Option VariantTab)
  tables : List BarTable
  engines : List EngineRec
  windows : List PressedWindow
  boot : Bool
  deriving DecidableEq, Repr

/-- The card as the option area describes it (R422), against which a score is verified and the boot score built. -/
structure CardCfg where
  density : Nat
  ranks : Nat
  dchMask : Nat
  nandDies : Nat
  nchMask : Nat
  deriving DecidableEq, Repr

/-- tRFC in quads for a DENSITY code (R39, R74). -/
def trfcQuads : Nat → Nat
  | 0 => 118 | 1 => 164 | 2 => 164 | _ => 236

/-- The index of the save score in `Score.variants`. -/
def saveIndex : Nat := 8

/-- The table set numbered `v`, if present. -/
def Score.tab (g : Score) (v : Nat) : Option VariantTab := g.variants.getD v none

/-- The directory entry of voice `v` on channel `c` (R90). -/
def VariantTab.voice (t : VariantTab) (c v : Nat) : Voice := t.voices.getD (16 * c + v) ⟨.undefined, 0⟩

/-- The cycle length L of a channel (R31). -/
def VariantTab.cycle (t : VariantTab) (c : Nat) : Nat := (t.chIndex.getD c []).length

/-- The bar table that channel `c` plays in bar `bar` (R31, R89). -/
def Score.barTable (g : Score) (t : VariantTab) (c bar : Nat) : BarTable :=
  let l := t.chIndex.getD c []
  g.tables.getD (l.getD (bar % l.length) 0) ⟨0, []⟩

/-- The engine record that plays in bar `bar` (R89). -/
def Score.engine (g : Score) (t : VariantTab) (bar : Nat) : EngineRec :=
  g.engines.getD (t.engIndex.getD (bar % t.engIndex.length) 0) ⟨[], [], [], []⟩

/-- Start quads of the refresh runs of a bar table: each maximal stretch of voice 0 is cut into runs of `r` quads
(R33, R39). -/
def refreshStarts (r : Nat) (quads : List QuadOwner) : List Nat :=
  let step := fun (st : Nat × Nat × List Nat) (o : QuadOwner) =>
    -- quad number, quads left of the run being played, starts found
    if o = .voice 0 then
      if st.2.1 = 0 then (st.1 + 1, r - 1, st.2.2 ++ [st.1]) else (st.1 + 1, st.2.1 - 1, st.2.2)
    else (st.1 + 1, 0, st.2.2)
  (quads.foldl step (0, 0, [])).2.2

/-- The own refresh slots of a channel of a variant: the first REFRESH_RATE run starts, in quads, of any bar that
carries at least that many (R55). -/
def Score.ownStarts (g : Score) (t : VariantTab) (c : Nat) : List Nat :=
  let r := trfcQuads g.density
  match (List.range (t.cycle c)).findSome? fun b =>
      let st := refreshStarts r (g.barTable t c b).quads
      if t.rate ≤ st.length then some (st.take t.rate) else none with
  | some st => st
  | none => []

/-- The pressed windows of channel `c` of variant `v`. -/
def Score.pressed (g : Score) (v c : Nat) : List PressedWindow :=
  g.windows.filter fun w => w.variant = v && w.channel = c

/-- Is bar position `b` inside the window? -/
def PressedWindow.holds (w : PressedWindow) (b : Nat) : Bool :=
  decide (w.firstBar ≤ b) && decide (b < w.firstBar + w.length)

/-- Is bar position `b` of channel `c` a payback bar: a bar of a pressed window that carries a run beside its own
(R55, R56)? -/
def Score.paybackBar (g : Score) (v : Nat) (t : VariantTab) (c b : Nat) : Bool :=
  (g.pressed v c).any (·.holds b) &&
    (refreshStarts (trfcQuads g.density) (g.barTable t c b).quads).any fun q => !(g.ownStarts t c).contains q

end Sys2Proof.Machine
end

