-- ==== Sys2Proof/Machine/Store.lean ====
section
/-! DEFINITION. Sparse stores in one canonical form: keys strictly rising, and no entry equal to the value an unlisted
key reads as. Registers, DRAM, flash, tile states and every other table of the machine are such stores, so that equal
contents are equal data. -/

namespace Sys2Proof.Machine

/-- The value at `k`: the listed one, or the default `d`. -/
def Store.get {α : Type} (d : α) : List (Nat × α) → Nat → α
  | [], _ => d
  | e :: m, k => if e.1 = k then e.2 else Store.get d m k

/-- The store without its entry at `k`. -/
def Store.erase {α : Type} (m : List (Nat × α)) (k : Nat) : List (Nat × α) := m.filter fun e => e.1 ≠ k

/-- Put an entry before the first larger key. -/
def Store.insert {α : Type} (k : Nat) (v : α) : List (Nat × α) → List (Nat × α)
  | [] => [(k, v)]
  | e :: m => if k < e.1 then (k, v) :: e :: m else e :: Store.insert k v m

/-- Write `v` at `k`; writing the default removes the entry. -/
def Store.set {α : Type} [DecidableEq α] (d : α) (m : List (Nat × α)) (k : Nat) (v : α) : List (Nat × α) :=
  if v = d then Store.erase m k else Store.insert k v (Store.erase m k)

/-- The canonical form: keys strictly rising, no entry at the default value. -/
def Store.wf {α : Type} [DecidableEq α] (d : α) (m : List (Nat × α)) : Bool :=
  decide (m.Pairwise fun a b => a.1 < b.1) && m.all fun e => decide (e.2 ≠ d)

/-- Write a byte string from key `k` on. -/
def Store.setRange {α : Type} [DecidableEq α] (d : α) (m : List (Nat × α)) (k : Nat) : List α → List (Nat × α)
  | [] => m
  | v :: vs => Store.setRange d (Store.set d m k v) (k + 1) vs

/-- `n` values from key `k` on. -/
def Store.getRange {α : Type} (d : α) (m : List (Nat × α)) (k n : Nat) : List α :=
  (List.range n).map fun i => Store.get d m (k + i)

/-- The store with every key of `[lo, hi)` back at the default value. -/
def Store.clearRange {α : Type} (m : List (Nat × α)) (lo hi : Nat) : List (Nat × α) :=
  m.filter fun e => !(decide (lo ≤ e.1) && decide (e.1 < hi))

/-- A list of `n` things with the `i`-th one changed; a place the list lacks holds the default `d`. -/
def setAt {α : Type} (n : Nat) (d : α) (l : List α) (i : Nat) (x : α) : List α :=
  (List.range n).map fun k => if k = i then x else l.getD k d

/-- Put an element before the first one that it does not follow. -/
def insertBy {α : Type} (le : α → α → Bool) (x : α) : List α → List α
  | [] => [x]
  | y :: l => if le x y then x :: y :: l else y :: insertBy le x l

/-- The list in order; elements that are equal in the order keep their places. -/
def sortBy {α : Type} (le : α → α → Bool) (l : List α) : List α := l.foldr (insertBy le) []

end Sys2Proof.Machine
end

