-- ==== Sys2Proof/Machine/Verifier.lean ====
section
/-! DEFINITION. The score verifier: reading an image (R86 to R94) and the checks of R95 and R96, in their order, each with
its detail code and location; and the latency bounds it computes (R80 to R83). -/

namespace Sys2Proof.Machine

/-- A staged image: its bytes, sparse over zero, and how many were loaded. -/
structure Image where
  bytes : List Host.Cell
  length : Nat
  deriving DecidableEq, Repr

/-- Where a check failed (R110); variant 15 is no location. -/
structure Loc where
  variant : Nat
  unit : Nat
  bar : Nat
  quad : Nat
  deriving DecidableEq, Repr

def Loc.none : Loc := ⟨15, 0, 0, 0⟩

/-- A failed check: its detail code and its location (R95, R96). -/
structure VFail where
  code : Nat
  loc : Loc
  deriving DecidableEq, Repr

/-- What the verifier judges the image by: the card, the identity BEGIN carried, and the keys and policy of the signature
group (R95, R98, R500, R501). -/
structure VerifyCtx where
  card : CardCfg
  scoreId : Nat
  revision : Nat
  /-- public keys of KEY_SLOT 0 and 1; none for an empty slot -/
  keys : List (Option (List Byte))
  /-- the policy refuses KEY_SLOT 0 -/
  refuse0 : Bool
  deriving DecidableEq, Repr

def Image.byte (g : Image) (o : Nat) : Byte := Store.get 0#8 g.bytes o
def Image.u8 (g : Image) (o : Nat) : Nat := (g.byte o).toNat
def Image.u16 (g : Image) (o : Nat) : Nat := g.u8 o + 256 * g.u8 (o + 1)
def Image.u32 (g : Image) (o : Nat) : Nat := g.u16 o + 65536 * g.u16 (o + 2)
def Image.slice (g : Image) (o n : Nat) : List Byte := Store.getRange 0#8 g.bytes o n
def Image.has (g : Image) (o : Nat) (s : List Nat) : Bool :=
  (List.range s.length).all fun i => g.u8 (o + i) = s.getD i 0

/-! ### Reading the structures -/

/-- The runs of a bar table and the offset just past them (R91). -/
def Image.readRuns (g : Image) : Nat → Nat → List BarRun × Nat
  | 0, o => ([], o)
  | n + 1, o =>
    let w := g.u16 o
    let split := bitsAt w 11 5 = 17
    let o' := if split then o + 4 else o + 2
    let rest := g.readRuns n o'
    (⟨bitsAt w 11 5, bitsAt w 0 11, if split then g.u16 (o + 2) else 0⟩ :: rest.1, rest.2)

/-- The bar table at offset `o` of the image. -/
def Image.barTable (g : Image) (o : Nat) : BarTable := ⟨g.u16 o, (g.readRuns (g.u16 o) (o + 4)).1⟩

/-- Its extent in bytes. -/
def Image.barTableLen (g : Image) (o : Nat) : Nat := (g.readRuns (g.u16 o) (o + 4)).2 - o

def Image.poolOffset (g : Image) : Nat := g.u32 0x1C
def Image.poolLength (g : Image) : Nat := g.u32 0x20
def Image.engineOffset (g : Image) : Nat := g.u32 0x24
def Image.engineCount (g : Image) : Nat := g.u16 0x28
def Image.tableCount (g : Image) : Nat := g.u16 0x2A
def Image.windowOffset (g : Image) : Nat := g.u32 0x2C
def Image.windowCount (g : Image) : Nat := g.u16 0x30
def Image.tableOffset (g : Image) (i : Nat) : Nat := g.poolOffset + g.u32 (g.poolOffset + 4 * i)
/-- Directory entry of table set `v` (R89). -/
def dirEntry (v : Nat) : Nat := 0x100 + 64 * v
def Image.presentSet (g : Image) (v : Nat) : Bool := g.u8 (dirEntry v) ≠ 0
/-- The table sets the directory marks present, V0 to V7 and then the save score. -/
def Image.sets (g : Image) : List Nat := (List.range 9).filter g.presentSet
/-- The channels of the directory: a table set has a column for each of the eight, whatever DCH_MASK says (R89, R90;
notes/assumptions/59.md). -/
def Image.channels : List Nat := List.range 8

def Image.engineRec (g : Image) (o : Nat) : EngineRec where
  windows := (List.range 32).map fun i =>
    let w := o + 8 * i
    ⟨g.u16 w, g.u16 (w + 2), .ofCode (g.u8 (w + 4)), g.u8 (w + 5), g.u8 (w + 6)⟩
  copy := (List.range 4).map fun i =>
    let w := o + 0x100 + 8 * i
    ⟨.ofCode (g.u8 w), g.u8 (w + 1), g.u32 (w + 4)⟩
  xts := (List.range 8).map fun i => .ofCode (g.u8 (o + 0x120 + i))
  grants := (List.range 4).map fun i => ⟨g.u16 (o + 0x128 + 4 * i), g.u16 (o + 0x12A + 4 * i)⟩

def Image.voice (g : Image) (o : Nat) : Voice :=
  let w := g.u16 o
  ⟨.ofCode (bitsAt w 12 4), bitsAt w 10 2⟩

/-- Table set `v` of the directory (R89, R90). -/
def Image.variantTab (g : Image) (v : Nat) : VariantTab :=
  let e := dirEntry v
  { rate := g.u8 (e + 1)
    chIndex := Image.channels.map fun c =>
      (List.range (2 ^ g.u8 (e + 4 + c))).map fun i => g.u16 (g.u32 (e + 0x10 + 4 * c) + 2 * i)
    engIndex := (List.range (2 ^ g.u8 (e + 2))).map fun i => g.u16 (g.u32 (e + 0x30) + 2 * i)
    voices := (List.range 128).map fun i => g.voice (g.u32 (e + 0x34) + 2 * i) }

def Image.portRec (g : Image) (p : Nat) : PortRec :=
  let o := 0x40 + 16 * p
  ⟨g.u16 o, g.u16 (o + 2), g.u32 (o + 4), g.u32 (o + 8), bitAt (g.u8 (o + 0xC)) 0, bitAt (g.u8 (o + 0xC)) 1⟩

/-- The image as the device plays it. -/
def Image.score (g : Image) : Score where
  id := g.u32 0x0C
  rev := g.u32 0x10
  density := g.u8 0x14
  ranks := g.u8 0x15
  dchMask := g.u8 0x16
  nandDies := g.u8 0x17
  nchMask := g.u16 0x18
  variantMask := g.u8 0x1A
  ports := (List.range 4).map g.portRec
  variants := (List.range 9).map fun v => if g.presentSet v then some (g.variantTab v) else none
  tables := (List.range g.tableCount).map fun i => g.barTable (g.tableOffset i)
  engines := (List.range g.engineCount).map fun i => g.engineRec (g.engineOffset + 320 * i)
  windows := (List.range g.windowCount).map fun i =>
    let o := g.windowOffset + 8 * i
    ⟨g.u8 o, g.u8 (o + 1), g.u8 (o + 2), g.u8 (o + 3), g.u8 (o + 4)⟩
  boot := false

/-! ### Checks 0x0101 to 0x0104 and the signature group -/

def fail (code : Nat) : Option VFail := some ⟨code, .none⟩
def failIf (b : Bool) (code : Nat) : Option VFail := if b then fail code else none

/-- 0x0101 to 0x0104. -/
def Image.checkHead (g : Image) : Option VFail :=
  failIf (!(g.has 0 [0x4E, 0x53, 0x43, 0x4F]) || !(g.has (g.length - 176) [0x4E, 0x53, 0x49, 0x47])) 0x0101
    <|> failIf (g.u16 4 ≠ 1) 0x0102
    <|> failIf (g.u16 6 ≠ 1) 0x0103
    <|> failIf (g.u32 8 ≠ g.length || g.length > 8388608 || g.length % 16 ≠ 0) 0x0104

/-- The signature group in the order of R95: DIGEST, an empty KEY_SLOT, SIGNATURE, a refused KEY_SLOT. -/
def Image.checkSignature (g : Image) (x : VerifyCtx) : Option VFail :=
  let s := g.length - 176
  let slot := g.u8 (s + 4)
  failIf (Config.sha384 (g.slice 0 s) ≠ g.slice (s + 0x10) 48) 0x0A01
    <|> match x.keys.getD slot none with
      | none => fail 0x0A03
      | some key =>
        failIf (!(Config.ecdsaVerify key (g.slice 0 (s + 0x40)) (g.slice (s + 0x40) 96))) 0x0A02
          <|> failIf (slot = 0 && x.refuse0) 0x0A03

/-! ### Checks 0x0105 to 0x010A -/

/-- The structures the header and directory point at: offset, length and the table set that names them. -/
def Image.extents (g : Image) : List (Nat × Nat × Nat) :=
  [(g.poolOffset, g.poolLength, 15), (g.engineOffset, 320 * g.engineCount, 15)]
    ++ (if g.windowCount = 0 then [] else [(g.windowOffset, 8 * g.windowCount, 15)])
    ++ g.sets.flatMap fun v =>
      let e := dirEntry v
      [(g.u32 (e + 0x34), 256, v)]
        ++ Image.channels.map (fun c => (g.u32 (e + 0x10 + 4 * c), 2 * 2 ^ g.u8 (e + 4 + c), v))
        ++ [(g.u32 (e + 0x30), 2 * 2 ^ g.u8 (e + 2), v)]

/-- Do two extents overlap without being one shared structure? -/
def partOverlap (a b : Nat × Nat) : Bool :=
  !(a.1 = b.1 && a.2 = b.2) && decide (a.1 < b.1 + b.2) && decide (b.1 < a.1 + a.2)

def anyOverlap : List (Nat × Nat) → Bool
  | [] => false
  | a :: l => l.any (partOverlap a) || anyOverlap l

/-- Extents inside the bar-table pool: its offset list and every bar table. -/
def Image.poolExtents (g : Image) : List (Nat × Nat) :=
  (g.poolOffset, 4 * g.tableCount) ::
    (List.range g.tableCount).map fun i => (g.tableOffset i, g.barTableLen (g.tableOffset i))

/-- 0x0105 OFFSET; `tail` is the length of the signature block. A structure off a multiple of 4 (R86) fails it too
(DEDUCED). -/
def Image.checkOffset (g : Image) (tail : Nat) : Option VFail :=
  let lim := g.length - tail
  let inside := fun (o n : Nat) => decide (0x340 ≤ o) && decide (o + n ≤ lim) && o % 4 = 0
  failIf (g.engineCount < 1 || g.engineCount > 4096 || g.tableCount < 1 || g.tableCount > 4096
      || g.windowCount > 256 || (decide (g.windowOffset = 0) != decide (g.windowCount = 0))) 0x0105
    <|> (g.extents.find? fun x => !(inside x.1 x.2.1)).map (fun x => ⟨0x0105, ⟨x.2.2, 0, 0, 0⟩⟩)
    <|> failIf (anyOverlap (g.extents.map fun x => (x.1, x.2.1))) 0x0105
    <|> failIf (g.poolExtents.any fun x =>
          x.1 % 4 ≠ 0 || x.1 < g.poolOffset || x.1 + x.2 > g.poolOffset + g.poolLength) 0x0105
    <|> failIf (anyOverlap g.poolExtents) 0x0105

/-- Byte ranges that carry meaning, each with a mask of the bits that do; every other byte of the image, reserved or
padding, must be zero (R86). -/
def Image.meaningful (g : Image) (tail : Nat) : List (Nat × Nat × Nat) :=
  [(0, 0x1B, 255), (0x1C, 0x16, 255), (0x80, 16, 255), (g.length - tail, 5, 255), (g.length - tail + 0x10, 144, 255)]
    ++ (List.range 4).flatMap (fun p => [(0x40 + 16 * p, 12, 255), (0x4C + 16 * p, 1, 3)])
    ++ g.sets.flatMap (fun v =>
      let e := dirEntry v
      [(e, 3, 255), (e + 4, 8, 255), (e + 0x10, 0x28, 255)]
        ++ Image.channels.map (fun c => (g.u32 (e + 0x10 + 4 * c), 2 * 2 ^ g.u8 (e + 4 + c), 255))
        ++ [(g.u32 (e + 0x30), 2 * 2 ^ g.u8 (e + 2), 255)]
        ++ (List.range 128).map fun i => (g.u32 (e + 0x34) + 2 * i + 1, 1, 0xFC))
    ++ [(g.poolOffset, 4 * g.tableCount, 255)]
    ++ (List.range g.tableCount).flatMap (fun i =>
      let t := g.tableOffset i
      [(t, 2, 255), (t + 4, g.barTableLen t - 4, 255)])
    ++ (List.range g.engineCount).flatMap (fun i =>
      let o := g.engineOffset + 320 * i
      (List.range 32).map (fun w => (o + 8 * w, 7, 255))
        ++ (List.range 4).flatMap (fun c => [(o + 0x100 + 8 * c, 2, 255), (o + 0x104 + 8 * c, 4, 255)])
        ++ [(o + 0x120, 24, 255)])
    ++ (List.range g.windowCount).map fun i => (g.windowOffset + 8 * i, 5, 255)

/-- Reserved bits inside meaningful bytes: bits [15:8] of a split extension word (R91). -/
def Image.splitReserved (g : Image) : Bool :=
  (List.range g.tableCount).any fun i =>
    (g.barTable (g.tableOffset i)).runs.any fun r => r.ext ≥ 256

/-- 0x0106 RESERVED, judged over the bytes that are not zero. It carries no location: VARIANT 15 (DESIGN CHOICE,
notes/assumptions/73.md). -/
def Image.checkReserved (g : Image) (tail : Nat) : Option VFail :=
  let ok := g.meaningful tail
  let covered := fun (o b : Nat) => ok.any fun x =>
    decide (x.1 ≤ o) && decide (o < x.1 + x.2.1) && (Nat.land b x.2.2 = b)
  failIf (g.splitReserved ||
    g.bytes.any fun x => decide (x.1 < g.length) && x.2.toNat ≠ 0 && !(covered x.1 x.2.toNat)) 0x0106

/-- 0x0107 VARIANT_SET. -/
def Image.checkSets (g : Image) : Option VFail :=
  ((List.range 9).find? fun v =>
    let p := g.u8 (dirEntry v)
    decide (p > 1) || ((v = 0 || v = 1 || v = 8) && p ≠ 1) || (decide (v < 8) && (p = 1) != bitAt (g.u8 0x1A) v)).map
    fun v => ⟨0x0107, ⟨v, 0, 0, 0⟩⟩

/-- 0x0108 CYCLE: UNIT names the channel of a CH_LOG2L that is too large, and is 0 where the engine track's LOG2L is (DESIGN CHOICE,
notes/assumptions/73.md). -/
def Image.checkCycle (g : Image) : Option VFail :=
  g.sets.findSome? fun v =>
    if g.u8 (dirEntry v + 2) > 8 then some ⟨0x0108, ⟨v, 0, 0, 0⟩⟩
    else (Image.channels.find? fun c => decide (g.u8 (dirEntry v + 4 + c) > 8)).map fun c => ⟨0x0108, ⟨v, c, 0, 0⟩⟩

/-! ### Checks on the read score -/

/-- The present table sets of a score, V0 to V7 and then the save score. -/
def Score.sets (g : Score) : List (Nat × VariantTab) :=
  (List.range 9).filterMap fun v => (g.tab v).map fun t => (v, t)

/-- The channels in the image's channel mask: those of the bounds and the passes (R82, R92). -/
def Score.channels (g : Score) : List Nat := (List.range 8).filter (bitAt g.dchMask)

/-- The first failure of a check made per table set and channel. -/
def Score.perChannel (g : Score) (f : Nat → VariantTab → Nat → Option VFail) : Option VFail :=
  g.sets.findSome? fun vt => Image.channels.findSome? fun c => f vt.1 vt.2 c

/-- The first failure of a check made per table set, channel and bar position. -/
def Score.perBar (g : Score) (f : Nat → VariantTab → Nat → Nat → BarTable → Option VFail) : Option VFail :=
  g.perChannel fun v t c => (List.range (t.cycle c)).findSome? fun b => f v t c b (g.barTable t c b)

/-- 0x0109 INDEX. -/
def Score.checkIndex (g : Score) : Option VFail :=
  g.sets.findSome? fun vt =>
    let pos := fun (l : List Nat) (n : Nat) => (List.range l.length).find? fun b => decide (n ≤ l.getD b 0)
    (Image.channels.findSome? fun c =>
        (pos (vt.2.chIndex.getD c []) g.tables.length).map fun b => ⟨0x0109, ⟨vt.1, c, b, 0⟩⟩)
      <|> (pos vt.2.engIndex g.engines.length).map fun b => ⟨0x0109, ⟨vt.1, 0, b, 0⟩⟩

/-- 0x010A IDENTITY, not made for the boot score (R105). -/
def Score.checkIdentity (g : Score) (x : VerifyCtx) : Option VFail :=
  failIf (!g.boot && (g.id = 0 || g.id ≠ x.scoreId || g.rev ≠ x.revision)) 0x010A

/-- 0x0201 to 0x0204. -/
def Score.checkCard (g : Score) (k : CardCfg) : Option VFail :=
  failIf (g.density ≠ k.density) 0x0201
    <|> failIf (g.ranks ≠ k.ranks) 0x0202
    <|> failIf (g.dchMask ≠ k.dchMask) 0x0203
    <|> failIf (g.nandDies ≠ k.nandDies || g.nchMask ≠ k.nchMask) 0x0204

def voiceNumbers : List Nat := List.range 16

/-- 0x0301 REFRESH_VOICE. -/
def Score.checkRefreshVoice (g : Score) : Option VFail :=
  g.perChannel fun v t c =>
    if (t.voice c 0).kind ≠ .refresh || voiceNumbers.any (fun i => i ≠ 0 && (t.voice c i).kind = .refresh) then
      some ⟨0x0301, ⟨v, c, 0, 0⟩⟩ else none

/-- 0x0302 VOICE_UNDEFINED. -/
def Score.checkVoices (g : Score) : Option VFail :=
  g.perChannel fun v t c =>
    let codeBad := voiceNumbers.any fun i => match (t.voice c i).kind with | .invalid _ => true | _ => false
    if codeBad then some ⟨0x0302, ⟨v, c, 0, 0⟩⟩ else
      (List.range (t.cycle c)).findSome? fun b =>
        ((g.barTable t c b).quads.findIdx? fun o => match o with
          | .voice i => (t.voice c i).kind = .undefined
          | .split i _ => (t.voice c i).kind = .undefined
          | .rest => false).map fun q => ⟨0x0302, ⟨v, c, b, q⟩⟩

def VoiceKind.isHost : VoiceKind → Bool
  | .hostRead => true | .hostWrite => true | _ => false

/-- 0x0303 KIND_PORT. -/
def Score.checkKindPort (g : Score) : Option VFail :=
  g.perChannel fun v t c =>
    if voiceNumbers.any fun i =>
        let e := t.voice c i
        if e.kind.isHost then !((g.ports.map (·.present)).getD e.port false) else e.port ≠ 0 then
      some ⟨0x0303, ⟨v, c, 0, 0⟩⟩ else none

/-- 0x0304 SAVE_PLACE. -/
def Score.checkSavePlace (g : Score) : Option VFail :=
  g.perChannel fun v t c =>
    if voiceNumbers.any fun i =>
        let k := (t.voice c i).kind
        if v = saveIndex then k.isHost else k = .save then
      some ⟨0x0304, ⟨v, c, 0, 0⟩⟩ else none

/-- The quad at which the runs of a table go wrong: a bad CODE or LENGTH at its run, a wrong sum at the end of the runs. -/
def badRun : Nat → List BarRun → Option Nat
  | q, [] => if q = 1560 then none else some q
  | q, r :: l => if decide (r.code > 17) || r.len = 0 || decide (r.len > 1560) || decide (1560 ≤ q) then some q else badRun (q + r.len) l

/-- 0x0305 RUNS. -/
def Score.checkRuns (g : Score) : Option VFail :=
  g.perBar fun v _ c b t =>
    (if t.runCount < 1 || t.runCount > 1560 then some 0 else badRun 0 t.runs).map fun q => ⟨0x0305, ⟨v, c, b, min q 1559⟩⟩

/-- 0x0306 SPLIT. -/
def Score.checkSplit (g : Score) : Option VFail :=
  g.perBar fun v t c b tab =>
    (tab.quads.findIdx? fun o => match o with
      | .split i m => (t.voice c i).kind ≠ .maint || m = 0
      | _ => false).map fun q => ⟨0x0306, ⟨v, c, b, q⟩⟩

/-! ### Refresh checks 0x0401 to 0x0407 -/

/-- Maximal stretches of voice 0 over the whole cycle of a channel, as start quad and length; a stretch that runs over
the end of the cycle is joined to the one it runs into. -/
def Score.refreshBlocks (g : Score) (t : VariantTab) (c : Nat) : List (Nat × Nat) :=
  let quads := (List.range (t.cycle c)).flatMap fun b => (g.barTable t c b).quads
  let step := fun (st : Nat × List (Nat × Nat)) (o : QuadOwner) =>
    if o = .voice 0 then
      match st.2 with
      | (a, n) :: l => if a + n = st.1 then (st.1 + 1, (a, n + 1) :: l) else (st.1 + 1, (st.1, 1) :: (a, n) :: l)
      | [] => (st.1 + 1, [(st.1, 1)])
    else (st.1 + 1, st.2)
  let found := (quads.foldl step (0, [])).2   -- last first
  match found, found.getLast? with
  | (a, n) :: _ :: _, some (0, m) =>
    if a + n = quads.length then (a, n + m) :: (found.drop 1).dropLast else found
  | _, _ => found

/-- Run starts of the cycle in ascending order, each a bar position and a quad. -/
def Score.runStarts (g : Score) (t : VariantTab) (c : Nat) : List (Nat × Nat) :=
  let r := trfcQuads g.density
  let total := 1560 * t.cycle c
  let l := (g.refreshBlocks t c).reverse.flatMap fun x => (List.range (x.2 / r)).map fun k => x.1 + k * r
  ((l.filter (total ≤ ·)).map (· - total) ++ l.filter (· < total)).map fun a => (a / 1560, a % 1560)

/-- Start quads in bar `b`, ascending. -/
def Score.barStarts (g : Score) (t : VariantTab) (c b : Nat) : List Nat :=
  sortBy (fun a b => decide (a ≤ b)) (((g.runStarts t c).filter (·.1 = b)).map (·.2))

def pressLimit (rate : Nat) : Nat := if rate = 1 then 4 else 2

/-- Where the debt of one pressed window goes wrong, if it does (R55, R56): its bars in order, +1 at an own slot without its
run, -1 at an extra run; the debt passes the limit or falls below 0, an extra run does not follow a run back-to-back, or, at
the last bar, the paybacks are not POSTPONED or debt is left. POSTPONED lies in 1 to 4 (R93). -/
def Score.windowFault (g : Score) (t : VariantTab) (c : Nat) (w : PressedWindow) : Option (Nat × Nat) :=
  let own := g.ownStarts t c
  let r := trfcQuads g.density
  let bar := fun (st : Except (Nat × Nat) (Nat × Nat)) (b : Nat) =>
    let starts := g.barStarts t c b
    let ends := starts.map (· + r)
    let events := sortBy (fun a b => decide (a.1 ≤ b.1)) ((own.filter fun q => !starts.contains q).map (fun q => (q, true))
      ++ (starts.filter fun q => !own.contains q).map (fun q => (q, false)))
    events.foldl (fun st e => st.bind fun x =>
      if e.2 then (if x.2 + 1 > pressLimit t.rate then .error (b, e.1) else .ok (x.1, x.2 + 1))
      else if x.2 = 0 || !(ends.contains e.1) then .error (b, e.1) else .ok (x.1 + 1, x.2 - 1)) st
  if w.postponed = 0 || 4 < w.postponed then some (w.firstBar, 0) else
    match ((List.range w.length).map (w.firstBar + ·)).foldl bar (.ok (0, 0)) with
    | .error x => some x
    | .ok x => if x = (w.postponed, 0) then none else some (w.firstBar + w.length - 1, 0)

def Score.checkRunLength (g : Score) : Option VFail :=
  g.perChannel fun v t c =>
    ((g.refreshBlocks t c).reverse.find? fun x => x.2 % trfcQuads g.density ≠ 0).map fun x =>
      ⟨0x0401, ⟨v, c, x.1 / 1560, x.1 % 1560⟩⟩

def Score.checkRunCount (g : Score) : Option VFail :=
  g.perChannel fun v t c =>
    if g.pressed v c ≠ [] then none else
      ((List.range (t.cycle c)).find? fun b => (g.barStarts t c b).length ≠ t.rate).map fun b =>
        ⟨0x0402, ⟨v, c, b, 0⟩⟩

/-- The refresh rates R38 allows: V0 1x in a loaded image and 2x in the boot score (R106), V1 and the save score 2x. -/
def rateOk (boot : Bool) (v rate : Nat) : Bool :=
  if v = 0 then rate = (if boot then 2 else 1)
  else if v = 1 || v = saveIndex then rate = 2
  else rate = 1 || rate = 2

def Score.checkRunPosition (g : Score) : Option VFail :=
  g.sets.findSome? fun vt =>
    if !(rateOk g.boot vt.1 vt.2.rate) then some ⟨0x0403, ⟨vt.1, 0, 0, 0⟩⟩ else
      Image.channels.findSome? fun c =>
        let own := g.ownStarts vt.2 c
        if vt.2.rate = 2 && own.length = 2 && own.getD 1 0 ≠ own.getD 0 0 + 780 then
          some ⟨0x0403, ⟨vt.1, c, 0, own.getD 1 0⟩⟩
        else (List.range (vt.2.cycle c)).findSome? fun b =>
          let st := (g.barStarts vt.2 c b).take vt.2.rate
          if st.length < vt.2.rate then none else
            ((own.filter (fun q => !st.contains q) ++ st.filter fun q => !own.contains q).min?).map fun q =>
              ⟨0x0403, ⟨vt.1, c, b, q⟩⟩

def Score.checkRunSpan (g : Score) : Option VFail :=
  g.perChannel fun v t c =>
    ((g.runStarts t c).find? fun x => x.2 + trfcQuads g.density > 1560).map fun x => ⟨0x0404, ⟨v, c, x.1, x.2⟩⟩

/-- 0x0405 PRESS_SHAPE; a window on an absent variant or channel is outside every cycle (DEDUCED,
notes/assumptions/73.md). The first fault by variant, channel and bar counts (R95). -/
def Score.checkPressShape (g : Score) : Option VFail :=
  let bad := fun (w : PressedWindow) =>
    let cyc := match g.tab w.variant with | some t => t.cycle w.channel | none => 0
    decide (w.variant > 7) || decide (w.length < 2) || decide (w.length > 16) || decide (w.firstBar + w.length > cyc)
      || (g.pressed w.variant w.channel).any fun u =>
        decide (u.firstBar < w.firstBar) && decide (w.firstBar < u.firstBar + u.length)
  let twice := fun (w : PressedWindow) =>
    decide (((g.pressed w.variant w.channel).filter fun u => u.firstBar = w.firstBar).length > 1)
  let place := fun (w : PressedWindow) => (w.variant * 16 + w.channel) * 65536 + w.firstBar
  ((sortBy (fun a b => decide (place a ≤ place b)) g.windows).find? fun w => bad w || twice w).map fun w =>
    ⟨0x0405, ⟨min w.variant 15, min w.channel 15, w.firstBar, 0⟩⟩

def Score.checkPressDebt (g : Score) : Option VFail :=
  g.perChannel fun v t c =>
    ((sortBy (fun a b => decide (a.firstBar ≤ b.firstBar)) (g.pressed v c)).findSome? (g.windowFault t c)).map fun x =>
      ⟨0x0406, ⟨v, c, x.1, x.2⟩⟩

def Score.checkPressUndeclared (g : Score) : Option VFail :=
  g.perChannel fun v t c =>
    if g.pressed v c = [] then none else
      ((List.range (t.cycle c)).find? fun b =>
        !((g.pressed v c).any (·.holds b)) && (g.barStarts t c b).length ≠ t.rate).map fun b =>
          ⟨0x0407, ⟨v, c, b, 0⟩⟩

/-! ### Turnaround and maintenance 0x0501, 0x0502 -/

/-- The classes of R78. -/
inductive TurnClass where
  | read | write | either | gap
  deriving DecidableEq, Repr

def VoiceKind.turn : VoiceKind → TurnClass
  | .hostRead => .read | .stream => .read | .save => .read
  | .hostWrite => .write | .restore => .write
  | .scrub => .either
  | _ => .gap

def VariantTab.turnOf (t : VariantTab) (c : Nat) : QuadOwner → TurnClass
  | .voice v => (t.voice c v).kind.turn
  | _ => .gap

/-- Gap quads that must stand between two data quads (R78). -/
def turnGap : TurnClass → TurnClass → Nat
  | .read, .write => 2
  | .write, .read => 5
  | .either, .either => 0
  | .either, _ => 5
  | _, .either => 5
  | _, _ => 0

/-- The first short gap of a channel's cycle, counted across bars and with the cycle wrapping (R78). -/
def Score.turnFail (g : Score) (t : VariantTab) (c : Nat) : Option (Nat × Nat) :=
  let cls := (List.range (t.cycle c)).flatMap fun b => (g.barTable t c b).quads.map (t.turnOf c)
  let step := fun (st : (Option TurnClass × Nat) × Nat × Option Nat) (k : TurnClass) =>
    let bad := match st.1.1 with
      | some p => decide (st.1.2 < turnGap p k)
      | none => false
    if k = .gap then ((st.1.1, st.1.2 + 1), st.2.1 + 1, st.2.2)
    else ((some k, 0), st.2.1 + 1, st.2.2 <|> if bad then some st.2.1 else none)
  let lap := fun st => cls.foldl step (st, 0, none)
  match (lap (lap (none, 0)).1).2.2 with
  | some i => some (i / 1560, i % 1560)
  | none => none

def Score.checkTurnaround (g : Score) : Option VFail :=
  g.perChannel fun v t c => (g.turnFail t c).map fun x => ⟨0x0501, ⟨v, c, x.1, x.2⟩⟩

/-- MAINT slots of one quad. -/
def VariantTab.maintSlots (t : VariantTab) (c : Nat) : QuadOwner → Nat
  | .voice v => if (t.voice c v).kind = .maint then 4 else 0
  | .split _ m => bit (bitAt m 0) + bit (bitAt m 1) + bit (bitAt m 2) + bit (bitAt m 3)
  | .rest => 0

def Score.checkMaint (g : Score) : Option VFail :=
  g.perBar fun v t c b tab =>
    if (tab.quads.map (t.maintSlots c)).sum < 16 then some ⟨0x0502, ⟨v, c, b, 0⟩⟩ else none

/-! ### NAND windows 0x0601 to 0x0605 -/

/-- Window `w` (0 or 1) of NAND channel `n`. -/
def EngineRec.window (e : EngineRec) (n w : Nat) : NandWindow := e.windows.getD (2 * n + w) ⟨0, 0, .idle, 0, 0⟩

def popcount (v n : Nat) : Nat := ((List.range n).filter (bitAt v)).length

/-- The first failure of a check made per table set, NAND channel, engine-track bar and window. -/
def Score.perWindow (g : Score) (f : Nat → Nat → Nat → Nat → NandWindow → Bool) (code : Nat) : Option VFail :=
  g.sets.findSome? fun vt => (List.range 16).findSome? fun n => (List.range vt.2.engIndex.length).findSome? fun b =>
    (List.range 2).findSome? fun w =>
      if f vt.1 n b w ((g.engine vt.2 b).window n w) then some ⟨code, ⟨vt.1, n, b, w⟩⟩ else none

def WinClass.isInvalid : WinClass → Bool
  | .invalid _ => true | _ => false

def Score.checkWindowShape (g : Score) : Option VFail :=
  g.sets.findSome? fun vt => (List.range 16).findSome? fun n => (List.range vt.2.engIndex.length).findSome? fun b =>
    let e := g.engine vt.2 b
    let w0 := e.window n 0
    let w1 := e.window n 1
    let shape := fun (w : NandWindow) => decide (w.first + w.length > 6240) || w.cls.isInvalid
    if shape w0 then some ⟨0x0601, ⟨vt.1, n, b, 0⟩⟩
    else if shape w1 || (w0.length ≠ 0 && w1.length ≠ 0 && decide (w0.first < w1.first + w1.length)
        && decide (w1.first < w0.first + w0.length)) then some ⟨0x0601, ⟨vt.1, n, b, 1⟩⟩
    else none

def Score.checkWindowBudget (g : Score) : Option VFail :=
  g.perWindow (fun _ _ _ _ w => decide (w.dieMask ≥ 2 ^ g.nandDies) || decide (w.budget > popcount w.dieMask g.nandDies))
    0x0602

/-- Bars a die is held for an operation of a class (R79). -/
def WinClass.bars : WinClass → Nat
  | .program => 77 | .read => 12 | .erase => 2052 | _ => 0

def Score.checkDieLoad (g : Score) : Option VFail :=
  g.sets.findSome? fun vt => (List.range 16).findSome? fun n =>
    let load := ((List.range vt.2.engIndex.length).flatMap fun b =>
      [(g.engine vt.2 b).window n 0, (g.engine vt.2 b).window n 1]).map fun w =>
        if w.cls = .program || w.cls = .read then w.budget * w.cls.bars else 0
    if load.sum > g.nandDies * vt.2.engIndex.length then some ⟨0x0603, ⟨vt.1, n, 0, 0⟩⟩ else none

def Score.checkNchOutside (g : Score) : Option VFail :=
  g.perWindow (fun _ n _ _ w => w.cls ≠ .idle && !(bitAt g.nchMask n)) 0x0604

def Score.checkTouchRead (g : Score) : Option VFail :=
  g.sets.findSome? fun vt => if vt.1 = saveIndex then none else
    ((List.range 16).filter (bitAt g.nchMask)).findSome? fun n =>
      let le := vt.2.engIndex.length
      let reads := fun b => [(g.engine vt.2 b).window n 0, (g.engine vt.2 b).window n 1].any fun w =>
        w.cls = .read && decide (w.budget ≥ 1)
      ((List.range le).find? fun b => (List.range 32).all fun i => !(reads ((b + i) % le))).map fun b =>
        ⟨0x0605, ⟨vt.1, n, b, 0⟩⟩

/-! ### Copy passes and XTS roles 0x0701 to 0x0704 -/

def PassKind.isInvalid : PassKind → Bool
  | .invalid _ => true | _ => false

def XtsRole.isInvalid : XtsRole → Bool
  | .invalid _ => true | _ => false

/-- The voice that carries a pass kind (R48). -/
def PassKind.voice : PassKind → VoiceKind
  | .stream => .stream | .save => .save | .restore => .restore | .scrubZero => .scrub | _ => .undefined

/-- The XTS role that serves a pass kind (R49); zeroing needs none. -/
def PassKind.role : PassKind → Option XtsRole
  | .stream => some .encryptStream | .save => some .encryptSave | .restore => some .decryptRestore
  | _ => Option.none

def Score.perRecord (g : Score) (f : Nat → VariantTab → Nat → EngineRec → Option VFail) : Option VFail :=
  g.sets.findSome? fun vt => (List.range vt.2.engIndex.length).findSome? fun b => f vt.1 vt.2 b (g.engine vt.2 b)

def Score.checkPassKind (g : Score) : Option VFail :=
  g.perRecord fun v _ b e =>
    (e.copy.findIdx? fun p => p.kind.isInvalid || (if v = saveIndex then p.kind = .stream else p.kind = .save)).map
      fun i => ⟨0x0701, ⟨v, 0, b, i⟩⟩

/-- Quads of a voice kind, plus REST quads, that channel `c` plays in bar `b`. -/
def Score.passQuads (g : Score) (t : VariantTab) (c b : Nat) (k : VoiceKind) : Nat :=
  ((g.barTable t c b).quads.filter fun o => match o with
    | .voice v => (t.voice c v).kind = k
    | .rest => true
    | .split _ _ => false).length

/-- 0x0702 PASS_CAPACITY, over every bar of the common cycle of tables and engine track (DEDUCED). -/
def Score.checkPassCapacity (g : Score) : Option VFail :=
  g.sets.findSome? fun vt =>
    let span := (g.channels.map vt.2.cycle).foldl max vt.2.engIndex.length
    (List.range span).findSome? fun b =>
      ((g.engine vt.2 b).copy.findIdx? fun p =>
        p.kind ≠ .none && decide (p.bytes > 128 *
          ((g.channels.filter (bitAt p.mask)).map fun c => g.passQuads vt.2 c b p.kind.voice).sum)).map
        fun i => ⟨0x0702, ⟨vt.1, 0, b % vt.2.engIndex.length, i⟩⟩

def Score.checkXtsRole (g : Score) : Option VFail :=
  g.perRecord fun v _ b e => (e.xts.findIdx? (·.isInvalid)).map fun i => ⟨0x0703, ⟨v, i, b, 0⟩⟩

def Score.checkXtsCapacity (g : Score) : Option VFail :=
  g.perRecord fun v _ b e =>
    let engines := fun r => (e.xts.filter (· = r)).length
    let exceeds := [PassKind.stream, .save, .restore].any fun k => match k.role with
      | some r => decide (((e.copy.filter (·.kind = k)).map (·.bytes)).sum > 62144 * engines r)
      | none => false
    if exceeds || (v = saveIndex && decide (engines .encryptSave < 2)) || (v ≠ saveIndex && engines .decryptTouch = 0) then
      some ⟨0x0704, ⟨v, 0, b, 0⟩⟩ else none

/-! ### Ports 0x0801 to 0x0803 -/

def Score.port (g : Score) (p : Nat) : PortRec := g.ports.getD p ⟨0, 0, 0, 0, false, false⟩

def Score.checkPools (g : Score) : Option VFail :=
  ((List.range 4).find? fun p =>
    let r := g.port p
    decide (r.reqPool < 8) || decide (r.reqPool > 1024) || decide (r.rwdPool < 8) || decide (r.rwdPool > 1024)).map
    fun p => ⟨0x0801, ⟨15, p, 0, 0⟩⟩

/-- 0x0802 GRANT_RANGE; a grant to a port with PRESENT 0, which R88 forbids, fails it too (DEDUCED). -/
def Score.checkGrants (g : Score) : Option VFail :=
  g.perRecord fun v _ b e => ((List.range 4).find? fun p =>
    let r := g.port p
    let x := e.grants.getD p ⟨0, 0⟩
    decide (x.req > r.reqPool) || decide (x.rwd > r.rwdPool)
      || (r.present && v ≠ saveIndex && (x.req = 0 || x.rwd = 0))
      || (!r.present && (x.req ≠ 0 || x.rwd ≠ 0))).map fun p => ⟨0x0802, ⟨v, p, b, 0⟩⟩

/-- Start slots, over the cycle of channel `c`, of the quads that the voices of port `p` and kind `k` hold (R80). -/
def Score.heldSlots (g : Score) (t : VariantTab) (c p : Nat) (k : VoiceKind) : List Nat :=
  (List.range (t.cycle c)).flatMap fun b =>
    ((g.barTable t c b).quads.zipIdx).filterMap fun x => match x.1 with
      | .voice v => if t.voice c v = ⟨k, p⟩ then some (6240 * b + 4 * x.2) else none
      | _ => none

def Score.checkPortVoices (g : Score) : Option VFail :=
  g.sets.findSome? fun vt => if vt.1 = saveIndex then none else
    Image.channels.findSome? fun c =>
      (((List.range 4).filter fun p => (g.port p).present).find? fun p =>
        (g.heldSlots vt.2 c p .hostRead).isEmpty || (g.heldSlots vt.2 c p .hostWrite).isEmpty).map
        fun p => ⟨0x0803, ⟨vt.1, p, 0, 0⟩⟩

/-! ### Bounds (R80 to R83) and 0x0901 to 0x0903 -/

/-- h_Q(s): the start slot of the Q-th element of H at or after `s`, the cycle of `span` slots repeating (R81). -/
def hSlot (held : List Nat) (span q s : Nat) : Nat :=
  let before := (held.filter (· < s)).length
  let i := before + q - 1
  held.getD (i % held.length) 0 + span * (i / held.length)

/-- Is a window from slot `s` to slot `e` left out by R83: it meets a payback bar, or `s` lies in the two bars after
one? -/
def windowExcluded (payback : Nat → Bool) (cyc s e : Nat) : Bool :=
  let b := s / 6240
  ((List.range (e / 6240 - b + 1)).any fun i => payback ((b + i) % cyc))
    || payback ((b + cyc - 1) % cyc) || payback ((b + 2 * cyc - 2) % cyc)

/-- Queue-entry slots at which a wait can be largest: one slot after each held quad's start, and each bar's first slot
(R81). -/
def waitStarts (held : List Nat) (cyc : Nat) : List Nat :=
  held.map (fun h => (h + 1) % (6240 * cyc)) ++ (List.range cyc).map (6240 * ·)

/-- W_v,c(Q) (R81), with the exclusions of R83; 0 where they leave no window. -/
def Score.wait (g : Score) (v : Nat) (t : VariantTab) (c p : Nat) (k : VoiceKind) (q : Nat) : Nat :=
  let held := g.heldSlots t c p k
  let cyc := t.cycle c
  let pay := fun b => g.paybackBar v t c b
  ((waitStarts held cyc).filterMap fun s =>
    let h := hSlot held (6240 * cyc) q s
    if held.isEmpty || windowExcluded pay cyc s h then none else some (h - s)).foldl max 0

/-- The wait term of one variant and channel: the larger of W(Q) and W_bank (R81). -/
def Score.waitTerm (g : Score) (v : Nat) (t : VariantTab) (c p : Nat) (k : VoiceKind) (q : Nat) : Nat :=
  let w1 := g.wait v t c p k 1
  max (g.wait v t c p k q) (if w1 = 0 then 0 else w1 + 240)

/-- Queue depth of a port and direction (R80). -/
def PortRec.depth (r : PortRec) (write : Bool) : Nat :=
  (if write then r.rwdPool else r.reqPool) + (if r.isoch then 0 else 4)

/-- B_R(p) or B_W(p) in slots (R82). -/
def Score.boundSlots (g : Score) (p : Nat) (write : Bool) : Nat :=
  let k := if write then VoiceKind.hostWrite else .hostRead
  let terms := (g.sets.filter (·.1 ≠ saveIndex)).flatMap fun vt =>
    g.channels.map fun c => g.waitTerm vt.1 vt.2 c p k ((g.port p).depth write)
  64 + terms.foldl max 0 + (if write then 96 else 256)

/-- The computed bound in ns, rounded up; 0 if the port has no voices (R82, R112). -/
def Score.boundNs (g : Score) (p : Nat) (write : Bool) : Nat :=
  if (g.port p).present then ceilDiv (g.boundSlots p write * 5) 8 else 0

def Score.checkBound (g : Score) (write : Bool) (code : Nat) : Option VFail :=
  ((List.range 4).find? fun p =>
    decide (g.boundNs p write > if write then (g.port p).writeBound else (g.port p).readBound)).map
    fun p => ⟨code, ⟨15, p, 0, 0⟩⟩

/-- 0x0903 DRAIN. -/
def Score.checkDrain (g : Score) : Option VFail :=
  g.sets.findSome? fun vt => if vt.1 = saveIndex then none else
    g.channels.findSome? fun c =>
      ((List.range 4).filter fun p => (g.port p).present).findSome? fun p =>
        [(VoiceKind.hostRead, false), (.hostWrite, true)].findSome? fun kw =>
          let held := g.heldSlots vt.2 c p kw.1
          let cyc := vt.2.cycle c
          ((List.range cyc).find? fun b =>
            let h := hSlot held (6240 * cyc) ((g.port p).depth kw.2) (6240 * b)
            !held.isEmpty && !(windowExcluded (fun x => g.paybackBar vt.1 vt.2 c x) cyc (6240 * b) h)
              && decide (h - 6240 * b > 12480)).map fun b => ⟨0x0903, ⟨vt.1, p, b, 0⟩⟩

/-- The checks made on the read score, in the order of R96 from 0x0109 on. -/
def Score.check (g : Score) (x : VerifyCtx) : Option VFail :=
  g.checkIndex <|> g.checkIdentity x <|> g.checkCard x.card
    <|> g.checkRefreshVoice <|> g.checkVoices <|> g.checkKindPort <|> g.checkSavePlace <|> g.checkRuns <|> g.checkSplit
    <|> g.checkRunLength <|> g.checkRunCount <|> g.checkRunPosition <|> g.checkRunSpan <|> g.checkPressShape
    <|> g.checkPressDebt <|> g.checkPressUndeclared
    <|> g.checkTurnaround <|> g.checkMaint
    <|> g.checkWindowShape <|> g.checkWindowBudget <|> g.checkDieLoad <|> g.checkNchOutside <|> g.checkTouchRead
    <|> g.checkPassKind <|> g.checkPassCapacity <|> g.checkXtsRole <|> g.checkXtsCapacity
    <|> g.checkPools <|> g.checkGrants <|> g.checkPortVoices
    <|> g.checkBound false 0x0901 <|> g.checkBound true 0x0902 <|> g.checkDrain

/-- The verifier (R95): the first failed check, or the score the image spells. -/
def Image.verify (g : Image) (x : VerifyCtx) : Except VFail Score :=
  match g.checkHead <|> g.checkSignature x <|> g.checkOffset 176 <|> g.checkReserved 176 <|> g.checkSets <|> g.checkCycle
      <|> g.score.check x with
  | some f => .error f
  | none => .ok g.score

end Sys2Proof.Machine
end

