-- ==== Sys2Proof/Machine/State.lean ====
section
/-! DEFINITION. The state of the block: every register (one store of fields), and every memory, queue, table and mode the
spec gives it, as plain data; faults and refusals; the state right after reset. -/

namespace Sys2Proof.Machine

/-! ### Events -/

/-- What a detail field names, for R439 and R440. -/
inductive Scope where
  | plain | port | ld (p : Nat) | tile | region
  deriving DecidableEq, Repr

/-- One field of an event's detail: its size in bytes, its value and what it names (R446). -/
structure DField where
  size : Nat
  val : Nat
  scope : Scope := .plain
  deriving DecidableEq, Repr

/-- The kinds of CXL event record the block logs (R188, R440). -/
inductive CxlKind where
  | generalMedia | dram | memoryModule | vendorPersistence | vendorRegion | vendorCdat | vendorEvent
  deriving DecidableEq, Repr

/-- A record that R188 gives an event: the LD it goes to (none for all), its log, kind and DPA. -/
structure CxlRec where
  target : Option (Nat × Nat)
  log : CxlLogId
  kind : CxlKind
  dpa : Nat
  deriving DecidableEq, Repr

/-- A raised event: its source, detail, the bar of the raise and the records R188 gives it (R26, R434). -/
structure Event where
  src : Nat
  detail : List DField
  bar : Nat
  cxl : List CxlRec
  deriving DecidableEq, Repr

/-! ### DRAM channels -/

/-- A host request waiting in a channel controller's queue, or a read issued from it (R36, R41, R131). -/
structure HostReq where
  port : Fin 4
  ld : Nat
  tag : Nat
  write : Bool
  tile : Nat
  frame : Nat
  line : Nat
  /-- the stamp, in slots since bar 0 -/
  stamp : Nat
  /-- the slot from which a write that was held may stand in its queue (R84); 0 where it was not held -/
  enters : Nat
  /-- write data, and the bytes it writes -/
  data : List Byte
  mask : List Bool
  /-- younger requests issued ahead of it (R77) -/
  bypassed : Nat
  /-- urgency as last raised (R41) -/
  urgency : Nat
  /-- 0x04A was raised for it (R44) -/
  exceeded : Bool
  /-- read data sampled at issue, and whether the line carried the poison marker -/
  result : List Byte
  poison : Bool
  deriving DecidableEq, Repr

/-- A row of the error table (R135). -/
structure RowEntry where
  rank : Nat
  sub : Nat
  bank : Nat
  row : Nat
  count : Nat
  deriving DecidableEq, Repr

/-- A line that waits for its poison marker or its write-back (R131 to R133). -/
structure LineRef where
  frame : Nat
  line : Nat
  /-- the line is rewritten with zeros instead (R137) -/
  zero : Bool := false
  /-- the port whose write voice writes the marker (R132); none where the SCRUB voice does -/
  port : Option (Fin 4) := none
  /-- the line's data as read, where it is not what DRAM holds (R128, R129, R133) -/
  data : List Byte := []
  deriving DecidableEq, Repr

/-- A seed as a full training leaves it: the SPD identity, the temperature and the operating second (R124). -/
structure Seed where
  spd : List Byte
  celsius : Int
  opSeconds : Nat
  deriving DecidableEq, Repr

/-- One of a channel's two slots of the training record area (R126): which is the newer, who wrote it, the card configuration
(width, density, ranks, RCD), the seed, and the repairs and retired frames kept with it; whether its commit word is
programmed and its CRC-32C holds (notes/assumptions/92.md). -/
structure TrainSlot where
  seq : Nat
  identity : List Byte
  config : List Nat
  seed : Option Seed
  pending : List RowEntry
  retired : List Nat
  done : Nat
  commit : Bool
  crcOk : Bool
  deriving DecidableEq, Repr

/-- Kinds of work that the copy engine moves in 64-byte accesses (R36, R48). -/
inductive Bulk where
  | stream | touch | restore
  /-- background restore of a tile with a ZERO record (R258) -/
  | fill
  | save | zero
  deriving DecidableEq, Repr

/-- A tile's worth of such work on a channel: its frame (none: every frame of a channel that returns, R149) and the bytes still to
be moved, the tile set-up of R80 counted as bytes of its quads. -/
structure Job where
  kind : Bulk
  frame : Option Nat
  left : Nat
  deriving DecidableEq, Repr

/-- Operations of MAINT slots (R120, R127). -/
inductive MaintOp where
  | temp | zq | dqs
  deriving DecidableEq, Repr

/-- Work queued on a channel beside host requests: copy-engine work, oldest first, and maintenance with the MAINT slots it still
needs (R36). -/
structure ChanWork where
  jobs : List Job
  maint : List (MaintOp × Nat)
  deriving DecidableEq, Repr

/-- An access issued in a quad, whose outcome the row that names it brings (R34, R36). -/
inductive Task where
  | patrol
  | writeback (x : LineRef)
  | marker (x : LineRef)
  | maint (op : MaintOp)
  deriving DecidableEq, Repr

/-- A line that the relocation copy has read and not yet written: its number, its bytes and its poison (R145). -/
structure CopiedLine where
  line : Nat
  bytes : List Byte
  poison : Bool
  deriving DecidableEq, Repr

/-- A tile under relocation copy: its destination frame, the next line to read, and the lines read and not yet written
(R145, R146). -/
structure Reloc where
  tile : Nat
  dst : Nat
  readAt : Nat
  buf : List CopiedLine
  deriving DecidableEq, Repr

/-- How the current bar of a channel lies to a pressed window (R56, R59, R60). -/
inductive Press where
  | none | played | suppressed
  deriving DecidableEq, Repr

/-- One DRAM channel. -/
structure DramCh where
  reqs : List HostReq
  issued : List HostReq
  work : ChanWork
  /-- last issue slot of each bank, plus one; 0 none (R77) -/
  banks : List (Nat × Nat)
  /-- the last quad that carried data, counted from bar 0, and its direction class (R78) -/
  lastData : Option (Nat × TurnClass)
  rows : List RowEntry
  pendingRows : List RowEntry
  retired : List Nat
  marks : List LineRef
  writebacks : List LineRef
  /-- patrol position in lines and errors of the pass -/
  patrolLine : Nat
  patrolErrors : Nat
  /-- correctable errors in the current phrase, and whether k = 0 was raised for it -/
  ceCount : Nat
  cePhrase : Nat
  /-- new uncorrectable reads in the current window of 1,024 phrases, and its first bar (R150) -/
  ueCount : Nat
  ueWindow : Nat
  /-- bar and slot, in slots since bar 0, of the last completed temperature read -/
  tempSlot : Nat
  stale : Bool
  zqBar : Nat
  dqsBar : Nat
  trained : Bool
  /-- the channel's two slots of the training record area (R126) -/
  slots : List (Option TrainSlot)
  /-- the seed of a full training still to be written there, and whether repairs or retired frames are (R126) -/
  seedNew : Option Seed
  recordDue : Bool
  /-- an accepted DCH_OFFLINE waits for a downbeat without refresh debt (R60, R143) -/
  leaving : Bool
  copying : Option Reloc
  /-- accesses issued in quads whose row is still to come (R36) -/
  tasks : List Task
  /-- the direction of the SCRUB run that plays, once it is fixed (R78) -/
  scrubDir : Option TurnClass
  press : Press
  /-- payback runs of the unbroken block from slot 0 of this bar (R57, R58) -/
  block : Nat
  /-- this bar carries one inherited run after its second own run (R58) -/
  inheritRun : Bool
  /-- overruns reported in the current bar: their excess slots, in the order reported (R61, R62) -/
  overruns : List Nat
  /-- consecutive rest bars played, and whether the operation is still incomplete (R62, R63) -/
  restBars : Nat
  busy : Nat
  /-- a failure cause and the bar in which it arose; it takes effect at the next downbeat (R150) -/
  failNext : Option (Nat × Nat)
  deriving DecidableEq, Repr

/-- The DRAM of the card. -/
structure DramState where
  chans : List DramCh
  /-- bytes by frame × 65,536 + offset; an unlisted byte reads 0 (the pool's frames hold zeros, R118) -/
  bytes : List Host.Cell
  /-- lines that carry the poison marker, as frame × 1,024 + line (R133) -/
  poison : List (Nat × Bool)
  /-- frames waiting for scrub-to-zero, oldest first (R174) -/
  zeroQueue : List Nat
  deriving DecidableEq, Repr

/-! ### The score -/

/-- The staged score memory (R97 to R101). -/
structure Staged where
  img : Image
  /-- 16-byte units received -/
  units : List (Nat × Bool)
  id : Nat
  rev : Nat
  score : Option Score
  /-- bar of the accepted BEGIN or of the last accepted chunk (R99) -/
  since : Nat
  deriving DecidableEq, Repr

/-- The score sequencer. -/
structure SeqState where
  play : Score
  /-- DIGEST of the playing score's image; empty for the boot score (R508) -/
  playDigest : List Byte
  staged : Staged
  /-- STAGED_RESULT of SCORE_QUERY (R483); 0xFFFF none -/
  result : Nat
  /-- phrase starts counted towards the end of the hot condition, and the bar of the last one judged (R51) -/
  hotTally : Nat
  hotJudged : Nat
  /-- an entry into self-refresh waits for a downbeat without debt (R60, R122), and an exit for a downbeat -/
  selfRefreshWait : Bool
  selfRefreshExit : Bool
  /-- 0x055 was raised for the arm that waits, and the bar of its SCORE_ARM (R101) -/
  armDeferred : Bool
  armAt : Nat
  /-- bytes moved in this bar under each copy pass (R48), by zeroing on each channel, and through the XTS engines of each role
  (R49; ENCRYPT_STREAM, ENCRYPT_SAVE, DECRYPT_RESTORE, DECRYPT_TOUCH) -/
  passUsed : List Nat
  zeroUsed : List Nat
  xtsUsed : List Nat
  /-- number, plus one, of the last bar planned, of the last in which a variant or image began to play (R66), and of the last in
  which a quad was played; the downbeat lasts until then -/
  plannedBar : Nat
  switchBar : Nat
  playedBar : Nat
  /-- credits each port has returned in this bar (R50) -/
  granted : List (Nat × Nat)
  deriving DecidableEq, Repr

/-! ### Regions and tiles -/

/-- A host write held by admission control (R215). -/
structure HeldWrite where
  req : HostReq
  /-- 0x148 was raised for it (R217) -/
  long : Bool
  deriving DecidableEq, Repr

/-- A stream copy between its selection and its segment's end (R207 to R209). -/
structure StreamCopy where
  tile : Nat
  frame : Nat
  /-- bar at which the tile became IN_FLIGHT -/
  start : Nat
  /-- the tile was rewritten or released since -/
  stale : Bool
  /-- the copy's contents, once read, and the segment it entered -/
  copy : Option Copy
  seg : Option Nat
  deriving DecidableEq, Repr

/-- Who a frame that waits for zeroing came from: region, port and the bar of the release (R178, k = 6). -/
structure FrameOrigin where
  frame : Nat
  region : Nat
  port : Nat
  bar : Nat
  deriving DecidableEq, Repr

/-- The tile engine's memories (R168 to R170, R198) and its running work (R204 to R223). -/
structure TileState where
  regions : List Region
  /-- 4-bit code of each tile; an unlisted tile is UNMAPPED, 0xF (R198) -/
  codes : List (Nat × Nat)
  /-- frame of each tile plus one; 0, unlisted, holds no frame (R170) -/
  map : List (Nat × Nat)
  /-- homeless tiles (R152) -/
  homeless : List (Nat × Bool)
  /-- frames released whose requests may still be in a queue (R178) -/
  releasing : List FrameOrigin
  /-- frames of released regions that wait for zeroing or release, by origin -/
  origins : List FrameOrigin
  /-- frames whose tile-map entry was uncorrectable, out of the accounting until start-up (R171) -/
  strayFrames : List Nat
  /-- writes held by admission control, oldest first (R215) -/
  held : List HeldWrite
  /-- writes held in the current hold, and the longest hold in µs (0x143) -/
  heldCount : Nat
  heldLongest : Nat
  /-- requests that wait for a touch fetch (R263) -/
  waits : List HostReq
  fetches : List Fetch
  /-- next word of the cooling sweep, while one runs or is stopped; a boundary that falls before a resumed sweep has ended has its
  own sweep begin after it (R204) -/
  sweep : Option Nat
  sweepStopped : Bool
  sweepNext : Bool
  epochAt : Nat
  /-- next tile number of each channel's selection scan (R207) -/
  scans : List Nat
  flights : List StreamCopy
  /-- stream token count in tenths of a byte (R210) -/
  tokens : Nat
  tokenPhrase : Nat
  /-- bytes committed by stream segments in the current phrase; and, in tenths of a byte, what the expedited stream has taken beyond
  what the phrases before allowed under EXP_CAP_MBS (R211) -/
  phraseBytes : Nat
  expBytes : Nat
  /-- the copy engine's tile buffers (R207); the spec gives no number (DESIGN CHOICE, notes/assumptions/74.md) -/
  buffers : Nat
  /-- N_max is recomputed at the next downbeat (R213) -/
  recompute : Bool
  /-- phrase recomputations in a row that met R221 (R223) -/
  assuredRun : Nat
  assuredPhrase : Nat
  /-- PACK_EAVAIL and DECK_SAVE_RATE used at the last recomputation (R226) -/
  eUsed : Nat
  rUsed : Nat
  /-- bar at which the host ports came up on the image being restored (R259) -/
  restoreBar : Nat
  deriving DecidableEq, Repr

/-- A save in progress or last run, and its triggers. -/
structure SaveState where
  /-- residual tiles that became LOST in the save, with their cause (R241) -/
  lost : List (Nat × Nat)
  /-- causes latched and not yet at their fence downbeat, oldest first; the flag asks for OFF (R232, R235) -/
  latched : List (Nat × Bool)
  /-- shut-down merged or asked for (R232, R252), and it is a reset (R522) -/
  off : Bool
  reset : Bool
  start : Nat
  /-- writes admitted in the fence, and tiles abandoned from the stream -/
  admitted : Nat
  abandoned : Nat
  /-- residual tiles still to be written, and those recorded ZERO -/
  residual : List Nat
  zeroed : List Nat
  /-- changes since the Keystone was last committed or restored (R234) -/
  dirtied : Bool
  /-- Keystone last committed or restored: its sequence number -/
  parent : Nat
  /-- bar at which the in-service entry was started; the ports stay fenced until it verifies (R253) -/
  entry : Option Nat
  /-- OP_SECONDS, PWR_CYCLES and BAR_COUNT at the fence downbeat (R243) -/
  opSeconds : Nat
  pwrCycles : Nat
  /-- bar since which PFAIL_N is high (R252) -/
  pfailHigh : Nat
  /-- the pin's level now, the slot of its last fall, and whether that fall has latched its trigger (R231) -/
  pfailPin : Bool
  pfailFell : Nat
  pfailTaken : Bool
  glitchPhrase : Nat
  /-- cause 4 is still present (R252) -/
  inputLow : Bool
  /-- a CXL.mem request or a link wake reached a port since the last power-state choice (R533, R536) -/
  wake : Bool
  /-- the save ends, or has ended, in a shut-down that is still to begin (R233, R252) -/
  shut : Bool
  /-- sequence number of the save in progress or last started (R248) -/
  seq : Nat
  /-- the media key in security RAM (R509) -/
  mediaKey : Nat
  deriving DecidableEq, Repr

/-! ### Host ports -/

/-- An HDM decoder as committed (R167): its base and size in bytes, its ways and granularity. -/
structure Decoder where
  base : Nat
  size : Nat
  ways : Nat
  gran : Nat
  deriving DecidableEq, Repr

/-- A record in an event log of an LD (R188, R440): its log, kind and DPA, a vendor record's UUID and 16-bit record kind, the source and
the record stamps of R445. `detail` is the detail of a vendor Event record as that LD may see it. -/
structure LogEntry where
  port : Nat
  ld : Nat
  log : CxlLogId
  kind : CxlKind
  vendor : Option (Nat × BitVec 16)
  dpa : Nat
  src : Nat
  seconds : Nat
  cycle : Nat
  bar : Nat
  detail : List (Nat × Nat)
  deriving DecidableEq, Repr

/-- A GPF Phase 2 in progress (R190). -/
structure Gpf where
  ld : Nat
  /-- SAVE mode -/
  save : Bool
  /-- slots since bar 0 of the request -/
  stamp : Nat
  deriving DecidableEq, Repr

/-- A host port's protocol state. -/
structure PortState where
  /-- committed decoders by LD × 2 + decoder -/
  decoders : List (Nat × Option Decoder)
  /-- Phase 2 requests not yet complete -/
  gpf : List Gpf
  /-- the figure in the GPF DVSEC: time base in bits [3:0], time scale in bits [11:8] (R190) -/
  gpfFigure : Nat
  /-- responses are discarded: the link went down with requests in queues (R165) -/
  dropBefore : Nat
  /-- a rate and width that take effect at the next downbeat after L0 (R164) -/
  relink : Option (Nat × Nat)
  /-- lines poisoned by Inject Poison are kept with the frames; acknowledged records by log (R165) -/
  acked : List (Nat × Nat)
  /-- M2S requests and RwD not yet answered -/
  owed : Nat × Nat
  /-- credits of answered ones that the port has not yet returned (R50) -/
  freed : Nat × Nat
  deriving DecidableEq, Repr

/-- The CXL side of the ports. -/
structure CxlState where
  ports : List PortState
  logs : List LogEntry
  /-- overflow counts by (port × 16 + LD) × 4 + log (R188) -/
  overflow : List (Nat × Nat)
  deriving DecidableEq, Repr

/-! ### Code flash (spec/12_code_flash.md) -/

/-- An OPTION_WRITE under way (R426): the packet that carried FINAL, the copy written, and the next step: the erases of its
two sectors, then its 1,024 words. -/
structure OptJob where
  pkt : Pkt
  copy : Nat
  next : Nat
  deriving DecidableEq, Repr

/-- The staging buffer of OPTION_WRITE (R426): who stages, the bytes, the 16-byte units received and the bar of the last
chunk. -/
structure OptStage where
  src : Src
  bytes : List Host.Cell
  units : List (Nat × Bool)
  since : Nat
  deriving DecidableEq, Repr

/-- The flash and its controller (R401 to R417), and the staging buffer of OPTION_WRITE (R426). -/
structure FlashState where
  /-- bytes by flash address; an unlisted byte reads 0xFF, erased -/
  bytes : List Host.Cell
  /-- sectors that are not NORMAL: 1 INDETERMINATE, 2 ERASING, 3 WORN (R432) -/
  sect : List (Nat × Nat)
  /-- words last found uncorrectable, by address -/
  ue : List (Nat × Bool)
  /-- what the undefined bytes of sectors that are not NORMAL are drawn from -/
  noise : Nat
  /-- steps of R405 done: 0 locked, 1 first key, 2 unlocked, 3 operation, 4 address, 5 low data word -/
  step : Nat
  low : Nat
  /-- the word program that runs: address and data -/
  prog : Option (Nat × Nat)
  /-- the erase that runs or is suspended: sector and pulses -/
  erase : Option (Nat × Nat)
  /-- the erase was suspended at a save's fence and waits for the save's end (R412) -/
  fenced : Bool
  stage : Option OptStage
  job : Option OptJob
  /-- persistence record: position after the newest entry, its ENTRY_SEQ, and LD_SHUTDOWN (R420, R421) -/
  prsPos : Nat
  prsSeq : Nat
  ldShutdown : Nat
  /-- estimator record: SEQ of the newest record, and the next position of each chain (R336) -/
  estSeq : Nat
  estPos : List Nat
  deriving DecidableEq, Repr

/-! ### Energy pack (spec/09_energy_pack.md) -/

/-- The estimator. SoC and uncertainty are held in units of 10^-12 percent, EFC in 10^-14 cycles. -/
structure PackState where
  /-- the parameters of R321 in the layout of R488 -/
  params : List Byte
  soc : Nat
  unc : Nat
  efc : Nat
  /-- the charge target, 0.01 % -/
  tgt : Nat
  /-- operating seconds at rest in a row (R326) -/
  rest : Nat
  /-- the running rest window: bar of its start and the largest current seen (R331) -/
  window : Option (Nat × Nat)
  /-- a window waits for the next downbeat (R330) -/
  windowNext : Bool
  /-- bar of the insertion being settled (R332) -/
  settle : Nat
  /-- the ID EEPROM, 256 bytes, none where there is none (R333) -/
  eeprom : Option (List Byte)
  /-- NTCs excluded: open or short (R323) -/
  ntcBad : List Bool
  /-- causes that inhibit charging now (R329), by number -/
  inhibit : List Nat
  chargerFault : Bool
  chargeFault : Bool
  /-- a trip opened the disconnect (R339) -/
  tripped : Bool
  /-- the save of SHIP_MODE runs, or its shut-down (R341) -/
  ship : Bool
  /-- an estimator record is due (R337), and the phrase of the last one -/
  recordDue : Bool
  recordPhrase : Nat
  /-- whole cycles for which the EEPROM slot was written -/
  cyclesWritten : Nat
  /-- bar of the last phrase the estimator took -/
  phrase : Nat
  /-- the settling is the 16 phrases after a long off time, not an insertion's 64 (R338) -/
  short : Bool
  /-- parameters that take effect at the next downbeat (R342) -/
  paramsNext : Option (List Byte)
  deriving DecidableEq, Repr

/-! ### Card power sequencing (spec/10_power_sequencing.md) -/

/-- One rail: the bar from which its stable count runs, or in which its EN fell; the bar in which its PG fell; the phrase of
its last DROPS event, plus one; whether a shut-down or reverse has finished with it; its margin target, whether its
VOUT_MODE is linear, and the bar of its last margin step. -/
structure RailState where
  from' : Nat
  low : Option Nat
  dropPhrase : Nat
  finished : Bool
  target : Int
  linear : Bool
  stepBar : Nat
  /-- its PMBUS word as its last power-up took it (R364) -/
  pmbus : Nat
  deriving DecidableEq, Repr

/-- The sequencer. -/
structure SeqPwr where
  rails : List RailState
  /-- of the table as it is in force: GLITCH_BARS and RAIL_EN from the last power-up, MIN_OFF_MS from the last reverse (R364) -/
  glitch : Nat
  inUse : Nat
  minOff : Nat
  /-- bar of tick 0 of the sequence that runs -/
  tick0 : Nat
  /-- bar at which WAIT_START was entered -/
  waitBar : Nat
  /-- a START is latched (R349) -/
  startLatched : Bool
  /-- a rail and cause of a fault that waits for the tick boundary (R355) -/
  fault : Option (Nat × Nat)
  /-- the last fault, for 0x1EF -/
  lastFault : Nat × Nat
  /-- rails turn off for H, counted from this bar (R535) -/
  hTick : Option Nat
  /-- bar at which RAILS_OFF was entered -/
  offBar : Nat
  /-- a power-up waits for its tick 0 after a retry, START or an exit from H -/
  go : Bool
  deriving DecidableEq, Repr

/-! ### Wardens (spec/11_wardens.md) -/

/-- One warden. Numbers of phrases are held plus one, 0 for none. -/
structure WardenUnitState where
  /-- the island is held in reset (R394 to R396) -/
  held : Bool
  /-- the cause of a claim that waits for its readback: 0 none, 1 boot, 2 takeover, 3 revert, 4 handover; its number and
  its tries (R386) -/
  claiming : Nat
  claim : Nat
  tries : Nat
  /-- tolls from it missed in a row and good in a row, the phrase its direction failed, and that of its last good toll -/
  missed : Nat
  good : Nat
  failedAt : Nat
  goodAt : Nat
  /-- the phrase, plus one, of its last missed toll -/
  missedAt : Nat
  /-- what its last good toll said (R383) -/
  rxRun : Nat
  tollState : Nat
  tollRev : Nat
  tollTest : Bool
  /-- the COUNT readings it took, and their phrase; 0x025 was raised for a silent partner; its partner has stopped (R385) -/
  counts : List Nat
  checkedAt : Nat
  silent : Bool
  stopped : Bool
  /-- SEC_VERSION of the image in its bank, and whether its last self-test passed -/
  secVersion : Nat
  pass : Bool
  /-- it has passed, and claims or stands by at the next phrase start (R388) -/
  booted : Bool
  deriving DecidableEq, Repr

/-- A firmware update (R394): its source, image length, units received, the bar of the last chunk and its revision, and
the packet of FW_UPDATE_END while the standby boots. -/
structure FwUpdate where
  src : Src
  length : Nat
  units : List (Nat × Bool)
  since : Nat
  rev : Nat
  finish : Option Pkt
  deriving DecidableEq, Repr

/-- A claim offered to a latch, and the bar of the offer (R378). -/
structure ClaimOffer where
  latch : Nat
  claim : Nat
  bar : Nat
  deriving DecidableEq, Repr

structure WardenState where
  units : List WardenUnitState
  offers : List ClaimOffer
  /-- latches refreshed in the current phrase, and the phrase last checked, plus one (R379) -/
  refreshed : List Nat
  leaseAt : Nat
  /-- an accepted handover waits for the phrase start: unit -/
  handover : Option Nat
  update : Option FwUpdate
  deriving DecidableEq, Repr

/-! ### The recorder (spec/13_events_recorder.md) -/

/-- A delivery to the recorder (R445): source, REPEAT, stamps and DETAIL. -/
structure RecEntry where
  src : Nat
  repeats : Nat
  opSeconds : Nat
  cycle : Nat
  bar : Nat
  detail : List Byte
  deriving DecidableEq, Repr

/-- A clear that runs (R457): DROPPED and NEXT before it, the source, and the sectors still to erase. -/
structure RecClear where
  dropped : Nat
  next : Nat
  src : Nat
  left : Nat
  deriving DecidableEq, Repr

structure RecState where
  queue : List RecEntry
  /-- the record being programmed, with the counts it carries -/
  prog : Option (RecEntry × List (Nat × Nat))
  supp : List (Nat × Nat)
  /-- phrase in which 0x1FB was last raised, plus one -/
  floodPhrase : Nat
  clear : Option RecClear
  /-- the start-up scan has ended (R452) -/
  ready : Bool
  /-- events delivered to the active warden, and the last of them (R443) -/
  wardenEvents : Nat
  lastWarden : Nat
  deriving DecidableEq, Repr

/-! ### Security (spec/15_security.md) -/

/-- A key-store entry (R497): owner or escrow, the public key, and whether it is revoked. -/
structure KeyEntry where
  owner : Bool
  key : List Byte
  revoked : Bool
  deriving DecidableEq, Repr

structure SecState where
  store : List KeyEntry
  /-- rotations of the alias key (R516) -/
  aliasRot : Nat
  /-- a crypto erase's format runs (R517) -/
  erasing : Bool
  /-- SPDM sessions per port and LD: the transcript's negotiated algorithm support (R506) -/
  spdmAlg : List (Nat × Bool)
  deriving DecidableEq, Repr

/-! ### The system (spec/16_startup_power_states.md, spec/17_electrical_package.md) -/

/-- A host request that reached a port while memory was off in H (R535): the access, its data and its stamp. -/
structure HReq where
  acc : HostAccess
  write : Bool
  data : List Byte
  mask : List Bool
  stamp : Nat
  deriving DecidableEq, Repr

structure SysState where
  /-- the device is in the off state or in ship mode: only the always-on domain is powered -/
  off : Bool
  /-- everything has lost power, the always-on domain included -/
  dead : Bool
  /-- trigger cause the off state was entered with, and every cause merged into it (R362) -/
  offCauses : List Nat
  /-- PFAIL_N has fallen, and then risen, since the completion (R362) -/
  pfailFell : Bool
  pfailRose : Bool
  /-- a shut-down completed; the recorder drains until this bar (R454) -/
  drain : Option Nat
  /-- a RESET_DEVICE of kind 2 or 1 applied: kind, bar and source (R522) -/
  resetReq : Option (Nat × Nat × Nat)
  /-- SYS_RST_N is low (R556); the reset it asks for waits for a save; it holds the device in reset -/
  rstLow : Bool
  rstWaits : Bool
  rstHeld : Bool
  /-- bar in which the current start-up step began, and milliseconds of the steps before -/
  stepBar : Nat
  totalMs : Nat
  /-- start-up has set the tile states (R233, R526) -/
  tilesSet : Bool
  /-- tries of PKG_PG (R548) -/
  pkgTries : Nat
  pkgHeld : Bool
  /-- hints of the four ports and the span timer: the bar at which each ends (R532) -/
  hints : List (Nat × Nat)
  /-- phrases without work, and the phrase start, plus one, at which the power state was last chosen (R533) -/
  idle : Nat
  chosenAt : Nat
  /-- phrases in a row at or above 112 °C, and whether the warning of R563 holds -/
  hotPhrases : Nat
  /-- the phrase, plus one, of the last reading of the sensors -/
  dieAt : Nat
  dieWarn : Bool
  /-- the crystal failed (R562) -/
  clockFault : Bool
  /-- phrase of the last 0x00C event, plus one (R543) -/
  badPhrase : Nat
  /-- exit from H under way: cause and its bar (R535) -/
  hExit : Option (Nat × Nat)
  /-- causes of an exit from H that have arisen in H: 2 span timer, 4 IDLE_HINT of 0, 5 packet (R535, R537) -/
  wakes : List Nat
  /-- packets that wait for the end of an exit from H (R537), and host requests that caused one (R535) -/
  hPackets : List Pkt
  hReqs : List HReq
  patrolBar : Nat
  deriving DecidableEq, Repr

/-- An SPDM answer (R506). -/
inductive Spdm where
  | version (v : List Nat)
  | capabilities (cert chal measSigned : Bool)
  | algorithms (ext : Bool)
  | digests (slots : Nat) (d : List Byte)
  | certificate (chain : List Byte)
  | challengeAuth (signature : List Byte)
  | measurements (blocks : List (Nat × List Byte)) (signature : List Byte)
  | unsupported
  deriving DecidableEq, Repr

/-- What the block sends out, in the order sent. -/
inductive Out where
  /-- the answer to a register read -/
  | word (src : Src) (v : Nat)
  /-- a reply packet over a mailbox (R466, R472); replies over the span bus wait in `cmd.replies` -/
  | reply (src : Src) (bytes : List Byte)
  /-- a host read's data, and whether it carries poison -/
  | readData (port ld tag : Nat) (data : List Byte) (poison : Bool)
  /-- a host write's completion -/
  | writeDone (port ld tag : Nat)
  /-- an MSI-X message: port and table entry (R441) -/
  | msix (port entry : Nat)
  /-- an in-band interrupt's payload (R442, R469) -/
  | ibi (payload : List Byte)
  /-- a CXL mailbox answer: return code and payload -/
  | mailbox (port ld code : Nat) (payload : List Byte)
  /-- a span-bus answer: acknowledged or not, and the bytes returned -/
  | span (ack : Bool) (bytes : List Byte)
  /-- a protocol answer of a port: CDAT, GPF or SPDM -/
  | port (port ld : Nat) (payload : List Byte)
  /-- a PMBus write to a rail's regulator: address, page, command code and value (R365, R559) -/
  | pmbus (addr page : Nat) (bytes : List Byte)
  /-- a toll frame of a unit (R557) -/
  | toll (unit : Nat) (frame : Nat)
  /-- words read from the flash by a warden (R403) -/
  | flash (unit : Nat) (bytes : List Byte)
  /-- an SPDM answer (R506) -/
  | spdm (port ld : Nat) (r : Spdm)
  /-- the card's charger: enabled or not, and in float (R328) -/
  | charger (on float : Bool)
  deriving DecidableEq, Repr

/-! ### Command packets and the span bus -/

/-- A reply that waits to be read over the span bus (R469). -/
structure Reply where
  tag : Nat
  bytes : List Byte
  ready : Nat
  deriving DecidableEq, Repr

/-- A packet that waits for its downbeat; `fail` where validation already decided its status, with whether it is answered by
reply or by record (R474, R477, R478). -/
structure QPkt where
  pkt : Pkt
  /-- the downbeat at which its validation completes -/
  due : Nat
  fail : Option (Nat × Bool)
  deriving DecidableEq, Repr

/-- The command path (R466 to R481). -/
structure CmdState where
  queue : List QPkt
  replies : List Reply
  /-- the provisioned ID's random bits (R468) -/
  pidRandom : Nat
  /-- IBIs requested and not yet accepted, oldest first (R442, R469) -/
  ibis : List (List Byte)
  /-- sources whose pending bit was set since the last event IBI the controller accepted (R442) -/
  fresh : List Nat
  /-- the bus is in HDR-DDR (R467) -/
  hdr : Bool
  deriving DecidableEq, Repr

/-- The state of the block. -/
structure State where
  /-- commands that wait, first in, first out -/
  pending : List Instr
  /-- register fields that do not read zero (R8, R9) -/
  regs : List (Nat × Nat)
  /-- shadows of 64-bit registers by the address of the high word (R13) -/
  shadows : List (Nat × Nat)
  /-- BAR_COUNT -/
  bar : Nat
  /-- the slot of the bar the last command named -/
  slot : Nat
  /-- counters that rose in this slot: the value at its start, and what was added (R10) -/
  slotIncs : List (Nat × (Nat × Nat))
  /-- W1C bits that hardware set in this slot, by field (R10) -/
  slotSets : List (Nat × Nat)
  /-- field writes that take effect at the next downbeat, oldest first -/
  writes : List (Field × Nat)
  /-- events raised in the current bar, in the order raised (R434) -/
  raised : List Event
  /-- draws taken from Config.entropy -/
  draws : Nat
  /-- what the block has sent out, in order -/
  outs : List Out
  /-- the option image in force, sparse over zero (R422, R424) -/
  opt : List Host.Cell
  cmd : CmdState
  seq : SeqState
  dram : DramState
  tile : TileState
  save : SaveState
  cxl : CxlState
  deck : DeckState
  card : CardInfo
  flash : FlashState
  pack : PackState
  pwr : SeqPwr
  warden : WardenState
  recorder : RecState
  sec : SecState
  sys : SysState
  deriving DecidableEq, Repr

/-! ### Reset (R15, R521) -/

def ChanWork.none : ChanWork := ⟨[], []⟩

/-- A channel right after reset. -/
def DramCh.init : DramCh where
  reqs := []
  issued := []
  work := .none
  banks := []
  lastData := Option.none
  rows := []
  pendingRows := []
  retired := []
  marks := []
  writebacks := []
  patrolLine := 0
  patrolErrors := 0
  ceCount := 0
  cePhrase := 0
  ueCount := 0
  ueWindow := 0
  tempSlot := 0
  stale := false
  zqBar := 0
  dqsBar := 0
  trained := false
  slots := [Option.none, Option.none]
  seedNew := Option.none
  recordDue := false
  leaving := false
  copying := Option.none
  tasks := []
  scrubDir := Option.none
  press := .none
  block := 0
  inheritRun := false
  overruns := []
  restBars := 0
  busy := 0
  failNext := Option.none

/-- A region that is FREE and was never assigned. -/
def Region.free : Region := ⟨false, 0, 0, 0, 0, 0, 0⟩

/-- A NAND channel right after reset. -/
def NandCh.init : NandCh where
  ops := []
  held := []
  used := [0, 0]
  ring := ⟨0, [0, 0], [[], []]⟩
  times := []
  warned := false
  overruns := []
  restBars := 0
  busy := 0
  failNext := none
  tried := []

/-- A rail that is off. -/
def RailState.init : RailState := ⟨0, none, 0, false, 0, true, 0, 0⟩

/-- A warden that is off. -/
def WardenUnitState.init : WardenUnitState where
  held := false
  claiming := 0
  claim := 0
  tries := 0
  missed := 0
  good := 0
  failedAt := 0
  goodAt := 0
  missedAt := 0
  rxRun := 0
  tollState := 0
  tollRev := 0
  tollTest := false
  counts := []
  checkedAt := 0
  silent := false
  stopped := false
  secVersion := 0
  pass := false
  booted := false

/-- An empty staged score memory (R97). -/
def Staged.empty : Staged := ⟨⟨[], 0⟩, [], 0, 0, none, 0⟩

/-- No score: what plays before step 5 ends. -/
def Score.silent : Score where
  id := 0
  rev := 0
  density := 0
  ranks := 0
  dchMask := 0
  nandDies := 0
  nchMask := 0
  variantMask := 0
  ports := []
  variants := []
  tables := []
  engines := []
  windows := []
  boot := false

/-- Field values right after a cold power-on: every number of a Reset column that is not zero (R15), and DROPPED_LOST, which the
loss of the always-on domain sets (R456). -/
def resetRegs : List (Nat × Nat) :=
  [(0x00000 * 32 + 16, 0x0840), (0x00004 * 32 + 28, 1), (0x10000 * 32 + 28, 1), (0x10020 * 32 + 31, 1), (0x100A8 * 32, 0x1000)]
    ++ [(0x10100 * 32 + 8, 1), (0x10100 * 32 + 16, 2), (0x10100 * 32 + 24, 3)]
    ++ [(0x10104 * 32 + 8, 1), (0x10104 * 32 + 16, 2), (0x10104 * 32 + 24, 3)]
    ++ [(0x10108 * 32 + 8, 1), (0x10108 * 32 + 16, 2), (0x10108 * 32 + 24, 3)]
    ++ [(0x1010C * 32 + 8, 1), (0x1010C * 32 + 16, 2), (0x1010C * 32 + 24, 3)]
    ++ [(0x20000 * 32 + 0, 1), (0x20000 * 32 + 1, 1), (0x20014 * 32 + 28, 15), (0x80000 * 32 + 28, 1)]
    ++ [(0xE0010 * 32 + 29, 1), (0xE0018 * 32 + 16, 50)]

/-- The command path after reset; the provisioned ID's random bits are the first draw (R468). -/
def CmdState.init : CmdState where
  queue := []
  replies := []
  pidRandom := Config.entropy 0 % 64
  ibis := []
  fresh := []
  hdr := false

def SeqState.init : SeqState where
  play := .silent
  playDigest := []
  staged := .empty
  result := 0xFFFF
  hotTally := 0
  hotJudged := 0
  selfRefreshWait := false
  selfRefreshExit := false
  armDeferred := false
  armAt := 0
  passUsed := [0, 0, 0, 0]
  zeroUsed := List.replicate 8 0
  xtsUsed := [0, 0, 0, 0]
  plannedBar := 0
  switchBar := 0
  playedBar := 0
  granted := List.replicate 4 (0, 0)

def DramState.init : DramState where
  chans := List.replicate 8 .init
  bytes := []
  poison := []
  zeroQueue := []

def TileState.init : TileState where
  regions := List.replicate 64 .free
  codes := []
  map := []
  homeless := []
  releasing := []
  origins := []
  strayFrames := []
  held := []
  heldCount := 0
  heldLongest := 0
  waits := []
  fetches := []
  sweep := none
  sweepStopped := false
  sweepNext := false
  epochAt := 0
  scans := List.replicate 8 0
  flights := []
  tokens := 0
  tokenPhrase := 0
  phraseBytes := 0
  expBytes := 0
  buffers := 64
  recompute := false
  assuredRun := 0
  assuredPhrase := 0
  eUsed := 0
  rUsed := 0
  restoreBar := 0

/-- Saves after reset; PFAIL_N stands high (DESIGN CHOICE, notes/assumptions/1.md). -/
def SaveState.init : SaveState where
  lost := []
  latched := []
  off := false
  reset := false
  start := 0
  admitted := 0
  abandoned := 0
  residual := []
  zeroed := []
  dirtied := false
  parent := 0
  entry := none
  opSeconds := 0
  pwrCycles := 0
  pfailHigh := 0
  pfailPin := true
  pfailFell := 0
  pfailTaken := false
  glitchPhrase := 0
  inputLow := false
  wake := false
  shut := false
  seq := 0
  mediaKey := 0

def PortState.init : PortState := ⟨[], [], 0, 0, none, [], (0, 0), (0, 0)⟩

def CxlState.init : CxlState := ⟨List.replicate 4 .init, [], []⟩

/-- A Deck that was never formatted, every system area erased (DESIGN CHOICE, notes/assumptions/1.md). -/
def DeckState.init : DeckState where
  header := none
  blank := true
  autoFormat := false
  failed := []
  stripes := []
  bands := []
  keystones := []
  writing := none
  refreshWanted := false
  loc := []
  segs := []
  copies := 0
  streamed := 0
  raw := 0
  govPhrase := 0
  govStreamed := 0
  nextDie := 0
  segNext := 1
  wear := []
  remap := []
  marked := []
  sparesUsed := []
  seqHigh := 0
  rebuild := []
  moves := []
  retries := []
  patrolAt := 0
  patrolPos := 0
  chans := List.replicate 16 .init

/-- The reference card (notes/assumptions/33.md). -/
def CardInfo.reference : CardInfo := ⟨8, 1264, 0xFF, 0xFFFF, false⟩

/-- A code flash every word of which is erased (DESIGN CHOICE, notes/assumptions/1.md). -/
def FlashState.init : FlashState where
  bytes := []
  sect := []
  ue := []
  noise := 0
  step := 0
  low := 0
  prog := none
  erase := none
  fenced := false
  stage := none
  job := none
  prsPos := 0
  prsSeq := 0
  ldShutdown := 0
  estSeq := 0
  estPos := [0, 0]

def PackState.init : PackState where
  params := []
  soc := 0
  unc := 0
  efc := 0
  tgt := 0
  rest := 0
  window := none
  windowNext := false
  settle := 0
  eeprom := none
  ntcBad := [false, false]
  inhibit := []
  chargerFault := false
  chargeFault := false
  tripped := false
  ship := false
  recordDue := false
  recordPhrase := 0
  cyclesWritten := 0
  phrase := 0
  short := false
  paramsNext := none

def SeqPwr.init : SeqPwr where
  rails := List.replicate 16 .init
  glitch := 0
  inUse := 0
  minOff := 0
  tick0 := 0
  waitBar := 0
  startLatched := false
  fault := none
  lastFault := (0, 0)
  hTick := none
  offBar := 0
  go := false

def WardenState.init : WardenState where
  units := [.init, .init]
  offers := []
  refreshed := []
  leaseAt := 0
  handover := none
  update := none

def RecState.init : RecState where
  queue := []
  prog := none
  supp := []
  floodPhrase := 0
  clear := none
  ready := false
  wardenEvents := 0
  lastWarden := 0

/-- An empty key store (DESIGN CHOICE, notes/assumptions/1.md). -/
def SecState.init : SecState := ⟨[], 0, false, []⟩

def SysState.init : SysState where
  off := false
  dead := false
  offCauses := []
  pfailFell := false
  pfailRose := false
  drain := none
  resetReq := none
  rstLow := false
  rstWaits := false
  rstHeld := false
  stepBar := 0
  totalMs := 0
  tilesSet := false
  pkgTries := 0
  pkgHeld := false
  hints := []
  idle := 0
  chosenAt := 0
  hotPhrases := 0
  dieAt := 0
  dieWarn := false
  clockFault := false
  badPhrase := 0
  hExit := none
  wakes := []
  hPackets := []
  hReqs := []
  patrolBar := 0

/-- Right after a cold power-on (R521, kind 0): start-up step 1 is in progress, and every field holds its Reset value. What
survives a power-off has the contents of a part never used (notes/assumptions/1.md). -/
def State.reset : State where
  pending := []
  regs := resetRegs
  shadows := []
  bar := 0
  slot := 0
  slotIncs := []
  slotSets := []
  writes := []
  raised := []
  draws := 1
  outs := []
  opt := []
  cmd := .init
  seq := .init
  dram := .init
  tile := .init
  save := .init
  cxl := .init
  deck := .init
  card := .reference
  flash := .init
  pack := .init
  pwr := .init
  warden := .init
  recorder := .init
  sec := .init
  sys := .init

/-! ### Outcomes -/

/-- Faults. The spec gives the block no condition that stops it: an access to an address that does not exist reads zero
or is ignored (R11, R12, R14), and a violation is answered (R173). So there is no fault, and no constructor. -/
inductive Fault : Type where
  deriving DecidableEq, Repr

/-- Refusals. -/
inductive Refusal where
  /-- raised by Dispatch.lean alone, for a row without its meaning: no row of the table at present; safe -/
  | notModelled (mnemonic : String)
  deriving DecidableEq, Repr

/-- What a command answers. -/
abbrev Answer := Host.Outcome State Fault Refusal

end Sys2Proof.Machine
end

