-- ==== Sys2Proof/Machine/Ops.lean ====
section
/-! DEFINITION. The named operations every family is written over: register fields, events, DRAM channels and frames,
tiles and regions. -/

namespace Sys2Proof.Machine

/-! ### Register fields -/

/-- The value a field holds. -/
def State.get (s : State) (f : Field) : Nat := Store.get 0 s.regs f.key

/-- Set a field, to its width. -/
def State.set (s : State) (f : Field) (v : Nat) : State :=
  { s with regs := Store.set 0 s.regs f.key (v % 2 ^ f.width) }

/-- Is a one-bit field 1? -/
def State.flag (s : State) (f : Field) : Bool := s.get f ≠ 0

/-- Set a one-bit field. -/
def State.setB (s : State) (f : Field) (b : Bool) : State := s.set f (bit b)

/-- Add to a counter that wraps. -/
def State.bump (s : State) (f : Field) (n : Nat := 1) : State := s.set f (s.get f + n)

/-- What a counter held at the start of the slot, and its increments in the slot (R10). -/
def State.risen (s : State) (f : Field) : Nat × Nat :=
  let e := Store.get (0, 0) s.slotIncs f.key
  if e.2 = 0 then (s.get f, 0) else e

def State.setRisen (s : State) (f : Field) (e : Nat × Nat) : State :=
  { s with slotIncs := Store.set (0, 0) s.slotIncs f.key e }

/-- Add to a counter that saturates; the increment is noted for a read in the same slot (R10). -/
def State.count (s : State) (f : Field) (n : Nat := 1) : State :=
  let e := s.risen f
  (s.set f (satW f.width (s.get f + n))).setRisen f (e.1, e.2 + n)

/-- Raise a highest-value field to `v`, noted for a read in the same slot (R10). -/
def State.peak (s : State) (f : Field) (v : Nat) : State :=
  let e := s.risen f
  (s.set f (max (s.get f) (satW f.width v))).setRisen f (e.1, max e.2 (satW f.width v))

/-- A read of an RC field: what it held at the start of the slot, and the field cleared but for what the slot has added (R9, R10).
A second read in one slot finds the cleared counter as its start (DESIGN CHOICE, notes/assumptions/63.md). -/
def State.takeRc (s : State) (f : Field) : State :=
  let e := s.risen f
  (s.set f (satW f.width e.2)).setRisen f (0, e.2)

/-- Hardware sets bits of a W1C field; a write that clears them in the same slot loses (R10). -/
def State.latch (s : State) (f : Field) (bits : Nat := 1) : State :=
  { s.set f (Nat.lor (s.get f) bits) with
    slotSets := Store.set 0 s.slotSets f.key (Nat.lor (Store.get 0 s.slotSets f.key) bits) }

/-- A write of a W1C field: a 1 clears its bit, unless hardware set it in this slot (R9, R10). -/
def State.clearW1c (s : State) (f : Field) (x : Nat) : State :=
  let x := x - Nat.land x (Store.get 0 s.slotSets f.key)
  s.set f (s.get f - Nat.land (s.get f) x)

/-- Subtract, stopping at zero. -/
def State.drop (s : State) (f : Field) (n : Nat := 1) : State := s.set f (s.get f - n)

/-- Set bit `n` of a field. -/
def State.setBit (s : State) (f : Field) (n : Nat) (b : Bool) : State :=
  let v := s.get f
  s.set f (if bitAt v n = b then v else if b then v + 2 ^ n else v - 2 ^ n)

/-- Fold an update over a list. -/
def State.each {α : Type} (s : State) (l : List α) (f : State → α → State) : State := l.foldl f s

/-- Apply an update where a condition holds. -/
def State.when (s : State) (b : Bool) (f : State → State) : State := if b then f s else s

/-- A two's-complement byte. -/
def signed8 (v : Nat) : Int := if v < 128 then v else (v : Int) - 256

/-- Its encoding. -/
def byteOfInt (i : Int) : Nat := (i % 256).toNat

/-! ### Power -/

/-- Is the device powered, and not held in reset by SYS_RST_N or by PKG_PG (R361, R537, R548, R556), nor in test mode, in which only
JTAG answers (R554)? -/
def State.on (s : State) : Bool := !s.sys.off && !s.sys.dead && !s.sys.rstHeld && !s.sys.pkgHeld && !s.card.testEn

/-- What a command does while the device is powered; without power it does nothing (R537). -/
def State.powered (s : State) (x : Answer) : Answer := if s.on then x else .next s

/-- The engines' domains are powered and clocked: not in D2, whose domains are stopped, nor in H (R29, R530, R535). -/
def State.clocked (s : State) : Bool :=
  s.get Reg.SYS_PWR_STATE_STATE ≠ 3 && !(decide (s.get Reg.SYS_PWR_STATE_STATE = 4) && s.sys.hExit.isNone)

/-- What a command of the score, of the DRAM engine, of the streams or of the Deck does: nothing without power, and nothing while the
engines' domains are stopped (R29, R530, R535, R537). -/
def State.engines (s : State) (x : Answer) : Answer := if s.on && s.clocked then x else .next s

def State.updSys (s : State) (f : SysState → SysState) : State := { s with sys := f s.sys }

/-- The device is in H, or on its way out of it (R535, R537). -/
def State.inH (s : State) : Bool := s.get Reg.SYS_PWR_STATE_STATE = 4 || s.sys.hExit.isSome

/-! ### Time -/

/-- Slots since bar 0. -/
def State.now (s : State) : Nat := s.bar * 6240 + s.slot

def State.phraseStart (s : State) : Bool := s.bar % 256 = 0

/-- Have `us` microseconds passed since bar `b`? A bar lasts 3.9 µs (R2). -/
def State.elapsed (s : State) (b us : Nat) : Bool := decide ((s.bar - b) * 39 ≥ us * 10)

/-- The slot moves on: what R10 keeps for one slot ends. -/
def State.at (s : State) (k : Nat) : State :=
  if s.slot = k then s else { s with slot := k, slotIncs := [], slotSets := [] }

/-! ### Events -/

def d1 (v : Nat) : DField := ⟨1, v, .plain⟩
def d2 (v : Nat) : DField := ⟨2, v, .plain⟩
def d4 (v : Nat) : DField := ⟨4, v, .plain⟩
def d8 (v : Nat) : DField := ⟨8, v, .plain⟩
def dPort (p : Nat) : DField := ⟨1, p, .port⟩
def dLd (p l : Nat) : DField := ⟨1, l, .ld p⟩
def dTile (t : Nat) : DField := ⟨4, t, .tile⟩
def dRegion (r : Nat) : DField := ⟨1, r, .region⟩

/-- Raise an event; it is delivered at the next downbeat (R434). -/
def State.raise (s : State) (src : Nat) (detail : List DField := []) (cxl : List CxlRec := []) : State :=
  { s with raised := s.raised ++ [⟨src, detail, s.bar, cxl⟩] }

/-- DRAM source k of channel c (R25). -/
def srcDram (c k : Nat) : Nat := 0x080 + 16 * c + k
/-- Port source k of port n (R25). -/
def srcPort (n k : Nat) : Nat := 0x100 + 16 * n + k
/-- NAND source k of channel n (R25). -/
def srcNand (n k : Nat) : Nat := 0x180 + 4 * n + k

/-! ### Start-up halts (R527) -/

/-- Start-up halts at a step, with the number of its reason: 1 no option copy, 2 no warden, 3 boot score, 4 sequencer, 5 image
key, 6 unformatted Deck, 7 no DRAM channel (DESIGN CHOICE, notes/assumptions/43.md). -/
def State.halt (s : State) (step reason : Nat) : State :=
  if s.flag Reg.SYS_STATE_HALT then s
  else ((s.set Reg.SYS_STATE_HALT 1).set Reg.SYS_STATE_HALT_STEP step).raise 0x003 [d1 step, d1 reason]

def State.unhalt (s : State) : State := (s.set Reg.SYS_STATE_HALT 0).set Reg.SYS_STATE_HALT_STEP 0

/-! ### DRAM channels -/

def State.ch (s : State) (c : Nat) : DramCh := s.dram.chans.getD c .init

def State.updCh (s : State) (c : Nat) (f : DramCh → DramCh) : State :=
  { s with dram := { s.dram with chans := setAt 8 .init s.dram.chans c (f (s.ch c)) } }

/-- The states of R142. -/
def chNotStarted : Nat := 0
def chTraining : Nat := 1
def chInService : Nat := 2
def chRelocating : Nat := 3
def chOffline : Nat := 4
def chReturning : Nat := 5
def chFailed : Nat := 6

def State.chState (s : State) (c : Nat) : Nat := s.get (Reg.DCH_STAT_STATE c)

/-- Does the channel play the image's tables: IN_SERVICE or RELOCATING (R142)? -/
def State.serving (s : State) (c : Nat) : Bool := s.chState c = chInService || s.chState c = chRelocating

/-- Does the channel play its maintenance-only table (R68, R142)? -/
def State.outOfService (s : State) (c : Nat) : Bool := decide (chOffline ≤ s.chState c)

def channels : List Nat := List.range 8
def ports : List Nat := List.range 4
def nandChannels : List Nat := List.range 16

/-- A state change of a channel: DCH_n_GEN increments and k = 9 is raised with the old and new state (R142). -/
def State.setChState (s : State) (c st : Nat) : State :=
  if s.chState c = st then s else
  ((s.set (Reg.DCH_STAT_STATE c) st).bump (Reg.DCH_GEN_GEN c)).raise (srcDram c 9) [d1 (s.chState c), d1 st]

/-- Current refresh debt of a channel (R56). -/
def State.debt (s : State) (c : Nat) : Nat := s.get (Reg.DCH_REF_DEBT_DEBT c)

def State.anyDebt (s : State) : Bool := channels.any fun c => s.debt c ≠ 0

/-- Debt rises at the slot of a postponed run (R56). -/
def State.debtUp (s : State) (c : Nat) : State :=
  let s := s.count (Reg.DCH_REF_DEBT_DEBT c)
  s.peak (Reg.DCH_REF_DEBT_MAX c) (s.debt c)

/-- Debt falls at the first slot of a payback or inherited run (R56). -/
def State.debtDown (s : State) (c : Nat) : State :=
  let s := s.drop (Reg.DCH_REF_DEBT_DEBT c)
  let s := s.set (Reg.DCH_REF_DEBT_INHERITED c) (min (s.get (Reg.DCH_REF_DEBT_INHERITED c)) (s.debt c))
  s.setB Reg.SCORE_STAT_INHERITED_DEBT (channels.any fun c => s.get (Reg.DCH_REF_DEBT_INHERITED c) ≠ 0)

/-- A failed channel's debt is set to 0 (R143). -/
def State.debtClear (s : State) (c : Nat) : State :=
  let s := (s.set (Reg.DCH_REF_DEBT_DEBT c) 0).set (Reg.DCH_REF_DEBT_INHERITED c) 0
  s.setB Reg.SCORE_STAT_INHERITED_DEBT (channels.any fun c => s.get (Reg.DCH_REF_DEBT_INHERITED c) ≠ 0)

/-! ### Work queued on a channel (R36, R80, R120, R127) -/

/-- The copy-engine set-up of 32 slots, as bytes of its eight quads; zeroing copies no tile and has none (R80). -/
def Bulk.setUp : Bulk → Nat
  | .zero => 0
  | _ => 1024

/-- Queue a tile's work of a kind. -/
def State.addJob (s : State) (c : Nat) (k : Bulk) (f : Nat) : State :=
  s.updCh c fun x => { x with work := { x.work with jobs := x.work.jobs ++ [⟨k, some f, 65536 + k.setUp⟩] } }

def State.dropJobs (s : State) (c : Nat) (p : Job → Bool) : State :=
  s.updCh c fun x => { x with work := { x.work with jobs := x.work.jobs.filter fun j => !(p j) } }

/-- Is work of a kind on a frame still to be moved? -/
def State.jobLeft (s : State) (c : Nat) (k : Bulk) (f : Nat) : Bool :=
  (s.ch c).work.jobs.any fun j => j.kind = k && j.frame = some f

/-- MAINT slots of one operation. The rules give none; the model takes one quad (DESIGN CHOICE, notes/assumptions/23.md). -/
def maintSlots : Nat := 4

/-- Queue a MAINT operation, unless one of its kind still waits. -/
def State.addMaint (s : State) (c : Nat) (o : MaintOp) : State :=
  if (s.ch c).work.maint.any (fun m => m.1 = o) then s
  else s.updCh c fun x => { x with work := { x.work with maint := x.work.maint ++ [(o, maintSlots)] } }

/-- An operation or access that a quad has issued completes: its task, if one stands. -/
def State.hasTask (s : State) (c : Nat) (k : Task) : Bool := (s.ch c).tasks.contains k

def State.takeTask (s : State) (c : Nat) (k : Task) : State := s.updCh c fun x => { x with tasks := x.tasks.erase k }

/-! ### Frames (R117, R118) -/

/-- FPR: frames per row, 8 for x4 and 4 for x8 devices. -/
def State.fpr (s : State) : Nat := if s.get (Reg.DCH_STAT_WIDTH 0) = 0 then 8 else 4

/-- ROWS for the card's density. -/
def State.rowsPerBank (s : State) : Nat :=
  match s.get (Reg.DCH_STAT_DENSITY 0) with
  | 0 => 65536 | 1 => 98304 | 2 => 131072 | _ => 262144

/-- Frames of one channel: ranks × FPR × ROWS. -/
def State.framesPerChannel (s : State) : Nat := s.get (Reg.DCH_STAT_RANKS 0) * s.fpr * s.rowsPerBank

/-- Where a line of a frame lies (R117). -/
structure LineAddr where
  channel : Nat
  rank : Nat
  sub : Nat
  bankGroup : Nat
  bank : Nat
  row : Nat
  column : Nat
  deriving DecidableEq, Repr

/-- The address mapping of R117 for `fpr` frames a row and `rows` rows. -/
def mapLine (fpr rows f i : Nat) : LineAddr :=
  let g := f / 8
  let j := i / 2
  { channel := f % 8
    rank := g / (fpr * rows)
    sub := i % 2
    bankGroup := j % 8
    bank := j / 8 % 4
    row := g % (fpr * rows) / fpr
    column := (g % fpr * 16 + j / 32) * 16 }

def State.lineAddr (s : State) (f i : Nat) : LineAddr := mapLine s.fpr s.rowsPerBank f i

/-- Frames mapped to tiles on a channel. -/
def State.mappedFrames (s : State) (c : Nat) : List Nat :=
  (s.tile.map.map fun e => e.2 - 1).filter fun f => f % 8 = c

/-- Frames in use beside the mapped ones: waiting for zeroing or for their last request (R178), under a stream copy or a
relocation copy, or out of the accounting (R171). -/
def State.busyFrames (s : State) : List Nat :=
  s.dram.zeroQueue ++ (s.tile.releasing.map (·.frame)) ++ (s.tile.flights.map (·.frame)) ++ s.tile.strayFrames
    ++ s.dram.chans.filterMap fun x => x.copying.map (·.dst)

/-- g of every frame of a channel that is mapped, in use or retired. -/
def State.takenFrames (s : State) (c : Nat) : List Nat :=
  ((s.mappedFrames c ++ s.busyFrames.filter fun f => f % 8 = c).map (· / 8)) ++ (s.ch c).retired

/-- DCH_n_FRAMES_FREE: frames of the channel in the pool, 0 while out of service; a relocating channel gives none
(R118, R145). -/
def State.freeFrames (s : State) (c : Nat) : Nat :=
  if s.chState c = chInService then s.framesPerChannel - (s.takenFrames c).dedup.length else 0

/-- Frames in the pool. -/
def State.poolFrames (s : State) : Nat := (channels.map s.freeFrames).sum

/-- The frame the tile engine takes next: the channel with the most free frames, lowest on a tie, and its lowest g
(R118). -/
def State.nextFrame (s : State) : Option Nat :=
  let best := channels.foldl (fun b c => if s.freeFrames b < s.freeFrames c then c else b) 0
  if s.freeFrames best = 0 then none else
    let taken := s.takenFrames best
    ((List.range (taken.length + 1)).find? fun g => !taken.contains g).map fun g => 8 * g + best

/-! ### DRAM contents -/

def State.readLine (s : State) (f i : Nat) : List Byte := Store.getRange 0#8 s.dram.bytes (f * 65536 + i * 64) 64

def State.poisoned (s : State) (f i : Nat) : Bool := Store.get false s.dram.poison (f * 1024 + i)

def State.setPoison (s : State) (f i : Nat) (b : Bool) : State :=
  { s with dram := { s.dram with poison := Store.set false s.dram.poison (f * 1024 + i) b } }

/-- Write bytes at an offset of a frame. -/
def State.writeFrame (s : State) (f off : Nat) (bs : List Byte) : State :=
  { s with dram := { s.dram with bytes := Store.setRange 0#8 s.dram.bytes (f * 65536 + off) bs } }

/-- The frame at zero, with valid check symbols (R118). -/
def State.zeroFrame (s : State) (f : Nat) : State :=
  { s with dram := { s.dram with
      bytes := Store.clearRange s.dram.bytes (f * 65536) ((f + 1) * 65536)
      poison := Store.clearRange s.dram.poison (f * 1024) ((f + 1) * 1024) } }

/-- Bytes of the write merged over a line's old bytes. -/
def mergeLine (old data : List Byte) (mask : List Bool) : List Byte :=
  (List.range 64).map fun i => if mask.getD i false then data.getD i 0#8 else old.getD i 0#8

/-- A host write reaches DRAM: a full write clears a poison marker, a partial write of a marked line leaves it marked and
unchanged (R133). -/
def State.writeHostLine (s : State) (f i : Nat) (data : List Byte) (mask : List Bool) : State :=
  let full := (List.range 64).all fun k => mask.getD k false
  if s.poisoned f i && !full then s
  else (s.setPoison f i false).writeFrame f (i * 64) (mergeLine (s.readLine f i) data mask)

/-! ### Tiles (R198 to R200) and regions (R168) -/

/-- The codes of R198. -/
def codeCold : Nat := 0x0
def codeHot : Nat := 0x3
def codeFresh : Nat := 0x4
def codeFlight : Nat := 0x5
def codeZero : Nat := 0x8
def codeClean : Nat := 0x9
def codeAbsent : Nat := 0xA
def codeLost : Nat := 0xB
def codeUnmapped : Nat := 0xF

def State.code (s : State) (t : Nat) : Nat := Store.get codeUnmapped s.tile.codes t

def State.setCode (s : State) (t c : Nat) : State :=
  { s with tile := { s.tile with codes := Store.set codeUnmapped s.tile.codes t c } }

/-- Tiles listed with a code for which `p` holds. -/
def State.tilesWith (s : State) (p : Nat → Bool) : List Nat := (s.tile.codes.filter fun e => p e.2).map (·.1)

/-- A code is in D exactly when it is 0x5 or lower (R198). -/
def inD (c : Nat) : Bool := decide (c ≤ 5)

/-- N: the tiles in D (R199). -/
def State.dirtyCount (s : State) : Nat := (s.tilesWith inD).length

/-- The frame of a tile, if it holds one (R170). -/
def State.frameOf (s : State) (t : Nat) : Option Nat :=
  match Store.get 0 s.tile.map t with
  | 0 => none
  | f + 1 => some f

def State.setFrame (s : State) (t : Nat) (f : Option Nat) : State :=
  { s with tile := { s.tile with map := Store.set 0 s.tile.map t (match f with | some f => f + 1 | none => 0) } }

def State.isHomeless (s : State) (t : Nat) : Bool := Store.get false s.tile.homeless t

def State.setHomeless (s : State) (t : Nat) (b : Bool) : State :=
  { s with tile := { s.tile with homeless := Store.set false s.tile.homeless t b } }

/-- The location table's record of a tile (R290). -/
def State.recOf (s : State) (t : Nat) : TileRec := Store.get .zero s.deck.loc t

def State.setRec (s : State) (t : Nat) (r : TileRec) : State :=
  { s with deck := { s.deck with loc := Store.set .zero s.deck.loc t r } }

/-- OVER_WINDOW follows N > N_T (R218). -/
def State.updOverWindow (s : State) : State :=
  let past := s.get Reg.TILE_DMAX_T_TILES < s.dirtyCount
  if past = s.flag Reg.TILE_STAT_OVER_WINDOW then s
  else (s.setB Reg.TILE_STAT_OVER_WINDOW past).raise 0x146 [d1 (bit past), d4 s.dirtyCount, d4 (s.get Reg.TILE_DMAX_T_TILES)]

/-- A tile's code changes; where it enters or leaves D, OVER_WINDOW follows N (R199, R218). -/
def State.moveCode (s : State) (t c : Nat) : State :=
  if inD (s.code t) = inD c then s.setCode t c else (s.setCode t c).updOverWindow

/-- Something changed since the Keystone was last committed or restored (R234). -/
def State.dirtied (s : State) : State := { s with save := { s.save with dirtied := true } }

def State.updTile (s : State) (f : TileState → TileState) : State := { s with tile := f s.tile }

/-- A frame leaves the tile map: it enters the zeroing queue once no request admitted before and no stream copy uses it, and only
then can join the pool (R118, R145, R178). Region 64 stands for none. -/
def State.vacate (s : State) (f : Nat) (region : Nat := 64) (port : Nat := 0) : State :=
  s.updTile fun x => { x with releasing := x.releasing ++ [⟨f, region, port, s.bar⟩] }

/-- The tile was written, released or lost: a copy of it already read is older than DRAM (R19, R178). -/
def State.staleFlight (s : State) (t : Nat) : State :=
  s.updTile fun x => { x with flights := x.flights.map fun k => if k.tile = t then { k with stale := true } else k }

/-- A relocation copy ends without its switch: what was copied is zeroed before the destination frame joins the pool again
(R118, R148, R154). -/
def State.dropCopy (s : State) (c : Nat) : State :=
  match (s.ch c).copying with
  | none => s
  | some k => (s.updCh c fun x => { x with copying := none }).vacate k.dst

/-- The relocation copies of the tiles for which `p` holds end. -/
def State.dropCopies (s : State) (p : Nat → Bool) : State :=
  s.each channels fun s c => match (s.ch c).copying with
    | some k => if p k.tile then s.dropCopy c else s
    | none => s

/-- A LOST tile holds no frame and is not homeless (R151, R170); its record is LOST (R290). The frame it held is zeroed before it
joins the pool (R118). -/
def State.loseTile (s : State) (t : Nat) : State :=
  let s := (s.dropCopies (· = t)).staleFlight t
  let s := match s.frameOf t with
    | some f => s.vacate f
    | none => s
  ((((s.moveCode t codeLost).setFrame t none).setHomeless t false).setRec t .lost).dirtied

def State.updSave (s : State) (f : SaveState → SaveState) : State := { s with save := f s.save }
def State.updDeck (s : State) (f : DeckState → DeckState) : State := { s with deck := f s.deck }
def State.updCxl (s : State) (f : CxlState → CxlState) : State := { s with cxl := f s.cxl }
def State.send (s : State) (o : Out) : State := { s with outs := s.outs ++ [o] }

def State.portState (s : State) (p : Nat) : PortState := s.cxl.ports.getD p .init

def State.updPort (s : State) (p : Nat) (f : PortState → PortState) : State :=
  s.updCxl fun x => { x with ports := setAt 4 .init x.ports p (f (s.portState p)) }

/-- Add one to the class a request belongs to: an M2S request, or one with data (R50). -/
def addCredit (write : Bool) (k : Nat × Nat) : Nat × Nat := if write then (k.1, k.2 + 1) else (k.1 + 1, k.2)
def subCredit (write : Bool) (k : Nat × Nat) : Nat × Nat := if write then (k.1, k.2 - 1) else (k.1 - 1, k.2)
def creditOf (write : Bool) (k : Nat × Nat) : Nat := if write then k.2 else k.1

/-- The credits a host holds of a class: the pool, less those of requests not answered and those not yet returned (R50, R88). -/
def State.heldCredits (s : State) (p : Nat) (write : Bool) : Nat :=
  creditOf write ((s.seq.play.port p).reqPool, (s.seq.play.port p).rwdPool)
    - creditOf write (s.portState p).owed - creditOf write (s.portState p).freed

/-- A bar's grant at the port's link: scaled by R163, down to no less than 1; a grant of none stays none (DEDUCED,
notes/assumptions/57.md). -/
def scaledGrant (scale g : Nat) : Nat := if g = 0 then 0 else max 1 (g / 2 ^ scale)

/-- A port in service returns at the start of a bar what the bar's grant allows; the rest of the grant lapses (R50, R163). A bar
that is planned anew takes back first what it has returned. -/
def State.returnCredits (s : State) (p : Nat) (g : Grant) : State :=
  if s.get (Reg.HPORT_STAT_LINK_STATE p) ≠ 3 then s
  else
    let k := s.get (Reg.HPORT_STAT_BOUND_SCALE p)
    let had := s.seq.granted.getD p (0, 0)
    let x := s.portState p
    let free := (x.freed.1 + had.1, x.freed.2 + had.2)
    let give := (min free.1 (scaledGrant k g.req), min free.2 (scaledGrant k g.rwd))
    let s := s.updPort p fun x => { x with freed := (free.1 - give.1, free.2 - give.2) }
    { s with seq := { s.seq with granted := setAt 4 (0, 0) s.seq.granted p give } }

/-- A record that no event source carries: poison met again on a host read (R188). It travels as an event without a
source, numbered 0x200, which no destination but the CXL logs sees. -/
def State.logOnly (s : State) (r : CxlRec) : State :=
  { s with raised := s.raised ++ [⟨0x200, [], s.bar, [r]⟩] }

def State.region (s : State) (r : Nat) : Region := s.tile.regions.getD r .free

def State.setRegion (s : State) (r : Nat) (x : Region) : State :=
  { s with tile := { s.tile with regions := setAt 64 .free s.tile.regions r x } }

/-- Tile numbers of a region (R169). -/
def Region.tiles (x : Region) : List Nat := (List.range (16384 * x.size)).map (x.tileBase + ·)

def Region.hasTile (x : Region) (t : Nat) : Bool :=
  x.active && decide (x.tileBase ≤ t) && decide (t < x.tileBase + 16384 * x.size)

/-- The ACTIVE region a tile lies in. -/
def State.regionOfTile (s : State) (t : Nat) : Option Nat := (List.range 64).find? fun r => (s.region r).hasTile t

/-- Owner port and LD of a tile's region. -/
def State.ownerOf (s : State) (t : Nat) : Option (Nat × Nat) :=
  (s.regionOfTile t).map fun r => ((s.region r).port, (s.region r).ld)

/-- Give a tile a frame from the pool, or leave it homeless where the pool is empty (R118, R151, R152). -/
def State.rehome (s : State) (t : Nat) : State :=
  match s.nextFrame with
  | some f => (s.setFrame t (some f)).setHomeless t false
  | none => (s.setFrame t none).setHomeless t true

/-- Frames that join the pool go to homeless tiles in ascending tile number (R152). -/
def State.grantHomeless (s : State) : State :=
  s.each (s.tile.homeless.map (·.1)) fun s t => if s.nextFrame = none then s else s.rehome t

/-- The DPA, in its LD, of a byte of a tile (R169). -/
def State.dpaOf (s : State) (t off : Nat) : Nat :=
  match s.regionOfTile t with
  | some r => (s.region r).base * 2 ^ 30 + (t - (s.region r).tileBase) * 65536 + off
  | none => 0

/-- Restore in progress: TILE_RESTORE_STAT.STATE is RESTORING or PAUSED (R259). -/
def State.restoring (s : State) : Bool :=
  s.get Reg.TILE_RESTORE_STAT_STATE = 2 || s.get Reg.TILE_RESTORE_STAT_STATE = 3

/-! ### Saves -/

/-- A save is in progress: TILE_SAVE_STAT.STATE 1 to 6 (R567). -/
def State.saving (s : State) : Bool :=
  decide (1 ≤ s.get Reg.TILE_SAVE_STAT_STATE) && decide (s.get Reg.TILE_SAVE_STAT_STATE ≤ 6)

/-- A tile becomes LOST; during a save it enters the image's lost-tile list, counts in TILE_SAVE_LOST and raises 0x153
with its cause (R200, R241). -/
def State.loseInSave (s : State) (t cause : Nat) : State :=
  let s' := s.loseTile t
  if s.saving then
    ({ s' with save := { s'.save with lost := s'.save.lost ++ [(t, cause)] } }.count Reg.TILE_SAVE_LOST_TILES).raise 0x153
      [dTile t, d1 cause]
  else s'

end Sys2Proof.Machine
end

