-- ==== Sys2Proof/Machine/Registers.lean ====
section
/-! DEFINITION. Register access: privileges (R14, R27, R28), field access types (R9 to R13), the fields that track a
computed quantity, and the word an access reads. -/

namespace Sys2Proof.Machine

/-! ### Privileges (R14, R27, R475) -/

/-- A 32-bit word of the option image in force (R423). -/
def State.optWord (s : State) (o : Nat) : Nat := leNat (Store.getRange 0#8 s.opt o 4)

/-- The grants of HPORT_n: option byte PRIV[n] (R422). -/
def State.grantBits (s : State) (n : Nat) : Nat := (Store.get 0#8 s.opt (0x1C + n)).toNat

inductive Priv where
  | any | host | mgmt | expert
  deriving DecidableEq, Repr

/-- Does a source hold a privilege (R27, R475)? The span bus and the wardens hold every one; management covers host
privilege (DEDUCED). -/
def State.holds (s : State) (src : Src) (p : Priv) : Bool :=
  match src, p with
  | _, .any => true
  | .hport n, .host => bitAt (s.grantBits n) 0 || bitAt (s.grantBits n) 1
  | .hport n, .mgmt => bitAt (s.grantBits n) 1
  | .hport n, .expert => bitAt (s.grantBits n) 1 && bitAt (s.grantBits n) 2
  | _, _ => true

/-- Read privilege of the block an address lies in (R27). -/
def readPriv (a : Nat) : Priv := if a < 0xC8000 then .host else .mgmt

/-- Write privilege of the block an address lies in (R27). -/
def writePriv (a : Nat) : Priv :=
  if a < 0x20000 then .mgmt
  else if a < 0x60000 then .expert
  else if a < 0x80000 then .mgmt
  else if a < 0xC0000 then .expert
  else if a < 0xC8000 then .mgmt
  else .expert

/-- The port whose HPORT block an address lies in. -/
def hportOf (a : Nat) : Option Nat := if 0x60000 ≤ a ∧ a < 0x70000 then some ((a - 0x60000) / 0x4000) else none

/-- Read privilege of an address for a source: another port's HPORT block needs management (R27, R28). -/
def readNeeds (src : Src) (a : Nat) : Priv :=
  match src with
  | .hport n => if 0x60000 ≤ a ∧ a < 0x80000 ∧ (a - 0x60000) / 0x4000 ≠ n.val then .mgmt else readPriv a
  | _ => readPriv a

/-- Registers a source without management privilege reads as zero although it holds its block's read privilege: VIOL_COUNT of its
own block, EVT_ROUTE_REFUSED, EVT_PEND_w, and another port's EVT_MSIX_LAST_n and SYS_HINT_n (R28, R196, R464, R542). The spec does
not say whether such a read counts in CMD_NOPRIV_n; it counts nowhere (DESIGN CHOICE, notes/assumptions/64.md). -/
def State.hidden (s : State) (src : Src) (a : Nat) : Bool :=
  if s.holds src .mgmt then false else
    match src with
    | .hport n =>
      a = 0x10040 || ((hportOf a).isSome && a % 0x4000 = 0xC)
      || (decide (0x100C0 ≤ a) && decide (a < 0x10100))
      || (decide (0x00020 ≤ a) && decide (a < 0x00030) && (a - 0x20) / 4 ≠ n)
      || (decide (0x10110 ≤ a) && decide (a < 0x10120) && (a - 0x10110) / 4 ≠ n)
    | _ => false

/-- An access without privilege, counted only in CMD_NOPRIV_n of the port (R14). -/
def State.noPriv (s : State) (src : Src) : State :=
  match src with
  | .hport n => s.count (Reg.CMD_NOPRIV_COUNT n)
  | _ => s

/-- The number of a source as 0x00C carries it (R543): 0 span bus, 1 to 4 the ports, 5 and 6 the wardens themselves. -/
def srcCode : Src → Nat
  | .span => 0
  | .hport n => n + 1
  | .warden .a => 5
  | .warden .b => 6

/-- An access that is ignored: counted in BAD_ACCESS, with 0x00C once a phrase (R11, R543). -/
def State.badAccess (s : State) (src : Src) (addr : Nat) : State :=
  let s := s.count Reg.SYS_STAT_BAD_ACCESS
  if s.sys.badPhrase = s.bar / 256 + 1 then s
  else { s.raise 0x00C [d4 addr, d1 (srcCode src)] with sys := { s.sys with badPhrase := s.bar / 256 + 1 } }

/-- What a hint or the span timer still has to run, in microseconds (R532). -/
def State.remainUs (s : State) (i : Nat) : Nat := ceilDiv ((Store.get 0 s.sys.hints i - s.bar) * 39) 10

/-! ### Fields that track a computed quantity -/

/-- Mask of the regions a port owns (R195). -/
def State.regionMask (s : State) (p : Nat) : Nat :=
  ((List.range 64).map fun r => if (s.region r).active && (s.region r).port = p then 2 ^ r else 0).sum

/-- Tiles whose code is `c`. -/
def State.census (s : State) (p : Nat → Bool) : Nat := (s.tilesWith p).length

/-- Fields whose value is computed from the rest of the state; none where the field is stored. -/
def State.live (s : State) (f : Field) : Option Nat :=
  let a := f.addr
  if a = 0x00040 then some (s.bar % 2 ^ 32)
  else if a = 0x00044 then some (s.bar / 2 ^ 32 % 2 ^ 32)
  else if a = 0x00048 then some (s.bar / 256 % 2 ^ 32)
  else if 0x00020 ≤ a ∧ a ≤ 0x00030 ∧ a % 4 = 0 then some (s.remainUs ((a - 0x20) / 4))
  else if 0xE1000 ≤ a ∧ a < 0xE1500 then
    some ((List.range 16).map fun i => Store.get 0 s.flash.sect (16 * ((a - 0xE1000) / 4) + i) * 4 ^ i).sum
  else if a = 0xA0000 ∧ f.lo = 26 then some (bit (s.census (· = codeAbsent) ≠ 0))
  else if a = 0x80004 then some s.dirtyCount
  else if 0x80050 ≤ a ∧ a ≤ 0x8005C then
    let h := (a - 0x80050) / 4
    some (s.census fun c => c = h || (h = 3 && c = codeFresh))
  else if a = 0x80060 then some (s.census (· = codeZero))
  else if a = 0x80064 then some (s.census (· = codeClean))
  else if a = 0x80068 then some (s.census (· = codeFlight))
  else if a = 0x8006C then some (s.census (· = codeAbsent))
  else if a = 0x80070 then some (s.census (· = codeLost))
  else if 0x40000 ≤ a ∧ a < 0x60000 ∧ a % 0x4000 = 0x34 then some (s.freeFrames ((a - 0x40000) / 0x4000))
  else if 0x40000 ≤ a ∧ a < 0x60000 ∧ a % 0x4000 = 0x38 then
    some (s.mappedFrames ((a - 0x40000) / 0x4000)).length
  else if 0x40000 ≤ a ∧ a < 0x60000 ∧ a % 0x4000 = 0x2C ∧ f.lo = 0 then
    let c := (a - 0x40000) / 0x4000
    if s.chState c = chRelocating then some (s.mappedFrames c).length else none
  else if 0x60000 ≤ a ∧ a < 0x70000 ∧ a % 0x4000 = 0x30 then some (s.regionMask ((a - 0x60000) / 0x4000) % 2 ^ 32)
  else if 0x60000 ≤ a ∧ a < 0x70000 ∧ a % 0x4000 = 0x34 then some (s.regionMask ((a - 0x60000) / 0x4000) / 2 ^ 32)
  else none

/-- What a read of a field finds, whatever its access type. -/
def State.field (s : State) (f : Field) : Nat :=
  match s.live f with
  | some v => v % 2 ^ f.width
  | none => s.get f

/-- The 32-bit image of the register at a word address; WO and RSV fields and holes read zero (R9, R12). -/
def State.word (s : State) (a : Nat) : Nat :=
  ((fieldsAt a).map fun d => if d.access = .wo then 0 else s.field ⟨a, d.lo, d.width⟩ * 2 ^ d.lo).sum

/-- A field as a fresh write would leave it: the newest write that waits for the downbeat, or what it holds (R479). -/
def State.coming (s : State) (f : Field) : Nat :=
  match (s.writes.filter fun w => w.1 = f).getLast? with
  | some w => w.2
  | none => s.field f

/-- The image of a register with the writes that wait for the downbeat applied (R479). -/
def State.comingWord (s : State) (a : Nat) : Nat :=
  ((fieldsAt a).map fun d => if d.access = .wo then 0 else s.coming ⟨a, d.lo, d.width⟩ * 2 ^ d.lo).sum

/-- Bytes of a list of words. -/
def wordsBytes (ws : List Nat) : List Byte := ws.flatMap (leBytes 4)

/-- Bytes of the registers at the addresses. -/
def State.words (s : State) (as : List Nat) : List Byte := wordsBytes (as.map s.word)

/-! ### Reads -/

/-- The low words of the 64-bit registers, whose read latches the high word beside them (R13). -/
def wideLow : List Nat := [0x00040, 0x10014, 0x80114, 0xA0008, 0xF0018]

/-- The highest value since the last read starts again at the quantity's present value: DCH_n_REF_DEBT.MAX at DEBT (R157) and
DCH_n_TEMP.PEAK_C at TEMP_C (R158). -/
def State.restartPeak (s : State) (a : Nat) : State :=
  s.each channels fun s c =>
    let s := if a = 0x40004 + 0x4000 * c then s.set (Reg.DCH_REF_DEBT_MAX c) (s.get (Reg.DCH_REF_DEBT_DEBT c)) else s
    if a = 0x40008 + 0x4000 * c then s.set (Reg.DCH_TEMP_PEAK_C c) (s.get (Reg.DCH_TEMP_TEMP_C c)) else s

/-- Clear the RC fields of a register (R9, R10). -/
def State.clearRc (s : State) (a : Nat) : State :=
  (s.each (fieldsAt a) fun s d => if d.access = .rc then s.takeRc ⟨a, d.lo, d.width⟩ else s).restartPeak a

/-- The 32-bit image of a register as a read of it finds it: an RC counter as it was at the start of the slot (R10). -/
def State.readWord (s : State) (a : Nat) : Nat :=
  ((fieldsAt a).map fun d =>
    if d.access = .wo then 0
    else if d.access = .rc then (s.risen ⟨a, d.lo, d.width⟩).1 * 2 ^ d.lo
    else s.field ⟨a, d.lo, d.width⟩ * 2 ^ d.lo).sum

/-- In H the blocks SCORE, DCH, TILE, DECK and NCH hold the values of its entry: a read changes nothing there, and a write
is refused (R537). -/
def State.frozen (s : State) (a : Nat) : Bool :=
  s.get Reg.SYS_PWR_STATE_STATE = 4
    && ((decide (0x20000 ≤ a) && decide (a < 0x60000)) || (decide (0x80000 ≤ a) && decide (a < 0xC0000)))

/-- One 32-bit read of a word address with every side effect: the value read (R9, R13). -/
def State.readReg (s : State) (a : Nat) : State × Nat :=
  if wideLow.contains (a - 4) ∧ 4 ≤ a then (s, Store.get 0 s.shadows a)
  else
    let v := s.readWord a
    let s := if wideLow.contains a then { s with shadows := Store.set 0 s.shadows (a + 4) (s.word (a + 4)) } else s
    (if s.frozen a then s else s.clearRc a, v)

/-- A read of `size` bytes at a byte address by a source: privilege first (R11, R14, R28). -/
def State.access (s : State) (src : Src) (a size : Nat) : State × Nat :=
  if !(s.holds src (readNeeds src a)) then (s.noPriv src, 0)
  else if a / 4 ≠ (a + size - 1) / 4 then (s.badAccess src a, 0)
  else if s.hidden src (a - a % 4) then (s, 0)
  else
    let r := s.readReg (a - a % 4)
    (r.1, r.2 / 2 ^ (8 * (a % 4)) % 2 ^ (8 * size))

/-! ### Writes -/

/-- Queue a write of an RW field for the next downbeat. -/
def State.later (s : State) (f : Field) (v : Nat) : State := { s with writes := s.writes ++ [(f, v % 2 ^ f.width)] }

/-- A 32-bit write to a register without rules of its own: RW fields take the value at the next downbeat, a 1 clears a
W1C bit, every other field ignores it (R9, R11, R12). -/
def State.plainWrite (s : State) (a v : Nat) : State :=
  s.each (fieldsAt a) fun s d =>
    let f : Field := ⟨a, d.lo, d.width⟩
    let x := bitsAt v d.lo d.width
    match d.access with
    | .rw => s.later f x
    | .w1c => s.clearW1c f x
    | _ => s

/-- Registers whose RW fields take effect at the next phrase start: WARDEN_CTL and TILE_COOL_EPOCH (R23, R204, R397). -/
def phraseReg (a : Nat) : Bool := a = 0xD0004 || a = 0x8001C

/-- The writes that take effect at a downbeat, and those that still wait (R23). -/
def State.dueWrites (s : State) : List (Field × Nat) × List (Field × Nat) :=
  s.writes.partition fun w => s.phraseStart || !(phraseReg w.1.addr)

end Sys2Proof.Machine
end

