-- ==== Sys2Proof/Machine/Operands.lean ====
section
/-! DEFINITION. Operand forms of the command packets: flags, parameter fields and unit ranges (R471, R474), status codes
(R473), CRC-32C (R7), and the parse and layout of requests and replies (R471, R472). -/

namespace Sys2Proof

/-! ### CRC-32C (R7) -/

/-- One bit of the reflected CRC. -/
def crcBit (c : Nat) : Nat := if c % 2 = 1 then Nat.xor (c / 2) 0x82F63B78 else c / 2

def crcByte (c : Nat) (b : Byte) : Nat :=
  crcBit (crcBit (crcBit (crcBit (crcBit (crcBit (crcBit (crcBit (Nat.xor c b.toNat))))))))

/-- CRC-32C of a byte string. -/
def crc32c (bs : List Byte) : Nat := Nat.xor (bs.foldl crcByte 0xFFFFFFFF) 0xFFFFFFFF

/-! ### Packet fields -/

def Pkt.expert (p : Pkt) : Bool := bitAt p.flags 0
def Pkt.isMailbox (p : Pkt) : Bool := match p.src with | .hport _ => true | _ => false
/-- Broadcast or group; a mailbox ignores the bits (R466). -/
def Pkt.isCast (p : Pkt) : Bool := !p.isMailbox && (bitAt p.flags 2 || bitAt p.flags 3)
/-- Does the packet produce a reply (R466, R478)? -/
def Pkt.replies (p : Pkt) : Bool := p.isMailbox || !(p.isCast || bitAt p.flags 1)

def Pkt.u8 (p : Pkt) (o : Nat) : Nat := leAt p.params o 1
def Pkt.u16 (p : Pkt) (o : Nat) : Nat := leAt p.params o 2
def Pkt.u32 (p : Pkt) (o : Nat) : Nat := leAt p.params o 4
def Pkt.u64 (p : Pkt) (o : Nat) : Nat := leAt p.params o 8

/-- Does the packet's generation agree with a counter (R476)? The wildcard holds for broadcast and group packets. -/
def Pkt.genOk (p : Pkt) (g : Nat) : Bool := p.gen = g || (p.isCast && p.gen = 0xFFFFFFFF)

/-- The bytes of a request (R471). -/
def Pkt.encode (p : Pkt) : List Byte :=
  let body := leBytes 1 1 ++ leBytes 1 p.flags ++ leBytes 2 p.opcode ++ leBytes 2 p.tag ++ leBytes 1 p.dest ++ leBytes 1 0
    ++ leBytes 4 p.gen ++ leBytes 2 p.params.length ++ leBytes 2 0 ++ p.params
  body ++ leBytes 4 (crc32c body)

end Sys2Proof

namespace Sys2Proof.Machine

/-! ### Status codes (R473) -/

def stOk : Nat := 0
def stBusy : Nat := 1
def stStale : Nat := 2
def stInvalid : Nat := 3
def stUnsupported : Nat := 4
def stReject : Nat := 5
def stDegraded : Nat := 6
def stTimeout : Nat := 7
def stCrc : Nat := 8
def stSignature : Nat := 9
def stNotArmed : Nat := 10
def stForbids : Nat := 11

/-! ### Packets -/

/-- Source number: 0 span bus, 1 to 4 HPORT_0 to HPORT_3 (R471). -/
def srcNum : Src → Nat
  | .hport n => n + 1
  | _ => 0

/-- Are `n` parameter bytes at `o` zero (reserved, R474)? -/
def zeroAt (bs : List Byte) (o n : Nat) : Bool := leAt bs o n = 0

/-- The fields of a request's bytes, read without judging them (R471). -/
def parsePkt (src : Src) (bs : List Byte) (rxBar : Nat) : Pkt where
  src := src
  opcode := leAt bs 2 2
  flags := leAt bs 1 1
  tag := leAt bs 4 2
  dest := leAt bs 6 1
  gen := leAt bs 8 4
  params := (bs.drop 16).take (leAt bs 0xC 2)
  rxBar := rxBar

/-- The bytes of a reply (R472). -/
def replyBytes (p : Pkt) (device status : Nat) (data : List Byte) : List Byte :=
  let body := leBytes 1 1 ++ leBytes 1 (p.flags % 128 + 128) ++ leBytes 2 p.opcode ++ leBytes 2 p.tag ++ leBytes 1 device
    ++ leBytes 1 (srcNum p.src) ++ leBytes 4 p.gen ++ leBytes 2 data.length ++ leBytes 2 status ++ data
  body ++ leBytes 4 (crc32c body)

/-! ### Operations -/

/-- What applying a packet does: the state after, the status and the reply data. -/
structure OpResult where
  st : State
  status : Nat
  data : List Byte

/-- A refusal at application: nothing changes and no data is carried (R472, R477). -/
def OpResult.refuse (s : State) (status : Nat) : OpResult := ⟨s, status, []⟩

def OpResult.ok (s : State) (data : List Byte := []) : OpResult := ⟨s, stOk, data⟩

/-- One row of the opcode tables (R482 to R492): privilege of the basic form (none where only an expert form exists),
whether it may be sent broadcast or group, the parameter check of R474 step 9 (given the EXPERT flag), the DATA_LEN of a
successful reply, and its application. -/
structure PktOp where
  opcode : Nat
  basic : Option Priv
  cast : Bool
  paramsOk : Bool → List Byte → Bool
  replyLen : State → Pkt → Nat
  run : Pkt → State → OpResult

/-- The privilege a packet needs (R475). -/
def PktOp.needs (o : PktOp) (expert : Bool) : Priv := if expert then .expert else o.basic.getD .expert

/-- Ask for one in-band interrupt, while IBIs are enabled and the device has a dynamic address (R442, R469, R568). -/
def State.requestIbi (s : State) (payload : List Byte) : State :=
  if s.flag Reg.EVT_IBI_IBI_EN && s.get Reg.CMD_STAT_DYN_ADDR ≠ 0 then
    { s with cmd := { s.cmd with ibis := s.cmd.ibis ++ [payload] }, outs := s.outs ++ [.ibi payload] }
  else s

/-- Record the status of a packet that produces no reply (R478). -/
def State.recordNr (s : State) (p : Pkt) (status : Nat) : State :=
  let s := (s.set Reg.CMD_LAST_NR_0_TAG p.tag).set Reg.CMD_LAST_NR_0_OPCODE p.opcode
  let s := ((s.set Reg.CMD_LAST_NR_1_STATUS status).set Reg.CMD_LAST_NR_1_DEST p.dest).set Reg.CMD_LAST_NR_1_FLAGS p.flags
  s.bump Reg.CMD_NR_COUNT_COUNT

/-- A reply goes out at once over a mailbox, and waits to be read, announced by an IBI, over the span bus (R469, R472). -/
def State.giveReply (s : State) (p : Pkt) (status : Nat) (data : List Byte) : State :=
  let bytes := replyBytes p (s.get Reg.CMD_STAT_SPAN_ID) status data
  if p.isMailbox then { s with outs := s.outs ++ [.reply p.src bytes] }
  else
    let s := { s with cmd := { s.cmd with replies := s.cmd.replies ++ [({ tag := p.tag, bytes := bytes, ready := s.bar } : Reply)] } }
    s.requestIbi (leBytes 1 0xA1 ++ leBytes 2 p.tag)

/-- A packet without a reply is recorded, and is no longer outstanding (R469, R478). -/
def State.record (s : State) (p : Pkt) (status : Nat) : State :=
  (s.recordNr p status).drop Reg.CMD_STAT_OUTSTANDING (if p.src = .span then 1 else 0)

/-- Answer a packet by reply or by record, as R478 decides. -/
def State.answer (s : State) (p : Pkt) (status : Nat) (data : List Byte) : State :=
  if p.replies then s.giveReply p status data else s.record p status

/-- The mark of an application whose reply comes later (FW_UPDATE_END, OPTION_WRITE): no status code of R473. -/
def stLater : Nat := 0x100

/-- The end of an application: its reply or record, unless it comes later. -/
def OpResult.finish (r : OpResult) (p : Pkt) : State := if r.status = stLater then r.st else r.st.answer p r.status r.data

/-- The start-up step that must have ended, plus one, before the block an opcode acts on is up: score and DRAM with step 5, the
Deck at step 6, tiles and ports with step 7 (R526, R528; which opcodes act on which block is DEDUCED,
notes/assumptions/50.md). -/
def upStep (opcode : Nat) : Nat :=
  if [0x0101, 0x0102, 0x0103, 0x0104, 0x0202, 0x0203, 0x0204, 0x0502, 0x0503].contains opcode then 6
  else if [0x0301, 0x0302, 0x0303, 0x0305, 0x0401, 0x0403, 0x0404].contains opcode then 8
  else 0

/-- The step in progress, where the tiles count as up once start-up has set their states (R526, R528). -/
def State.stepUp (s : State) : Nat := if s.get Reg.SYS_STATE_STEP = 7 && s.sys.tilesSet then 8 else s.get Reg.SYS_STATE_STEP

/-- Does a packet act on a block that is stopped in H (R537; DEDUCED, notes/assumptions/50.md)? -/
def State.actsOnStopped (s : State) (p : Pkt) : Bool :=
  [0x0101, 0x0102, 0x0103, 0x0104, 0x0202, 0x0203, 0x0204, 0x0302, 0x0303, 0x0401, 0x0403, 0x0404, 0x0502, 0x0503,
    0x0B02].contains p.opcode || (p.opcode = 0x0405 && p.u8 0 ≠ 0 && s.holds p.src .mgmt)

/-- Apply a packet (steps 7 to 9 of R474, R475 to R478): a source without the privilege gets the no-op of R475, answered OK
with zeros; a read opcode sent broadcast or group is unsupported; parameters out of form are invalid; what acts on a block
that is not up is forbidden (R528), and what acts on one that H stopped waits for the end of H (R537). -/
def PktOp.apply (o : PktOp) (p : Pkt) (s : State) : State :=
  if !(s.holds p.src (o.needs p.expert)) then (s.noPriv p.src).answer p stOk (List.replicate (o.replyLen s p) 0#8)
  else if p.isCast && !o.cast then s.answer p stUnsupported []
  else if !(o.paramsOk p.expert p.params) then s.answer p stInvalid []
  else if s.inH && s.actsOnStopped p then 
    { s with sys := { s.sys with hPackets := s.sys.hPackets ++ [p], wakes := s.sys.wakes ++ [5] } }
  else if decide (s.stepUp < upStep p.opcode) then s.answer p stForbids []
  else (o.run p s).finish p

/-- The packet of a row's opcode reaches the active warden, which applies it: without power there is nothing to answer, and
while no warden is active the answer is BUSY (R481, R528, R537). The command names the opcode, not the packet. -/
def PktOp.command (o : PktOp) (p : Pkt) (s : State) : State :=
  let p := { p with opcode := o.opcode }
  if !s.on then s
  else if s.get Reg.WARDEN_STAT_ACTIVE = 0 then s.answer p stBusy []
  else o.apply p s

end Sys2Proof.Machine
end

