-- ==== Sys2Proof/Machine/Flash.lean ====
section
/-! DEFINITION. The code flash (spec/12_code_flash.md R401 to R421): bytes and sectors, the erase journal, the operation
interface, and the writers of records. -/

namespace Sys2Proof.Machine

def State.updFlash (s : State) (f : FlashState → FlashState) : State := { s with flash := f s.flash }

/-! ### Bytes and sectors (R401, R404, R410) -/

/-- Flash size in bytes, and the sector of an address. -/
def flashSize : Nat := 0x1400000
def sectorOf (a : Nat) : Nat := a / 4096

/-- NORMAL 0, INDETERMINATE 1, ERASING 2, WORN 3 (R432). -/
def State.sect (s : State) (n : Nat) : Nat := Store.get 0 s.flash.sect n

def State.setSect (s : State) (n v : Nat) : State := s.updFlash fun x => { x with sect := Store.set 0 x.sect n v }

/-- A byte as it is read. What stands in a sector that is not NORMAL is undefined (R410, R416): a free value. -/
def State.flashByte (s : State) (a : Nat) : Byte :=
  if s.sect (sectorOf a) = 0 then Store.get 0xFF#8 s.flash.bytes a else Config.flashNoise s.flash.noise a

def State.flashRead (s : State) (a n : Nat) : List Byte := (List.range n).map fun i => s.flashByte (a + i)

def State.flashNat (s : State) (a n : Nat) : Nat := leNat (s.flashRead a n)

/-- Program bytes, as they stand after the words verify. -/
def State.flashPut (s : State) (a : Nat) (bs : List Byte) : State :=
  s.updFlash fun x => { x with bytes := Store.setRange 0xFF#8 x.bytes a bs }

/-- Are the bytes erased? -/
def State.blankAt (s : State) (a n : Nat) : Bool := (s.flashRead a n).all fun b => b = 0xFF#8

/-- A sector's bytes at one, its words without error. -/
def State.clearSector (s : State) (n : Nat) : State :=
  s.updFlash fun x => { x with
    bytes := Store.clearRange x.bytes (n * 4096) ((n + 1) * 4096)
    ue := Store.clearRange x.ue (n * 4096) ((n + 1) * 4096) }

/-! ### The erase journal (R413 to R416) -/

/-- "NJHD", "JHDRDONE", "NJRN" and "ERASDONE" (R413). -/
def magicHead : List Byte := [0x4E#8, 0x4A#8, 0x48#8, 0x44#8]
def doneHead : List Byte := [0x4A#8, 0x48#8, 0x44#8, 0x52#8, 0x44#8, 0x4F#8, 0x4E#8, 0x45#8]
def magicEntry : List Byte := [0x4E#8, 0x4A#8, 0x52#8, 0x4E#8]
def doneEntry : List Byte := [0x45#8, 0x52#8, 0x41#8, 0x53#8, 0x44#8, 0x4F#8, 0x4E#8, 0x45#8]

/-- Address of journal sector J0 or J1, and of an entry of it. -/
def journalAt (j : Nat) : Nat := 0x1004000 + 4096 * j
def entryAt (j i : Nat) : Nat := journalAt j + 0x20 + 32 * i

/-- The header of a journal sector with a sequence number. -/
def headBytes (seq : Nat) : List Byte :=
  let body := magicHead ++ leBytes 4 seq
  body ++ leBytes 4 (crc32c body) ++ leBytes 12 0 ++ doneHead

/-- Is a journal sector's header committed? -/
def State.headOk (s : State) (j : Nat) : Bool :=
  let a := journalAt j
  s.flashRead a 4 = magicHead && s.flashNat (a + 8) 4 = crc32c (s.flashRead a 8) && s.flashRead (a + 0x18) 8 = doneHead

def State.headSeq (s : State) (j : Nat) : Nat := s.flashNat (journalAt j + 4) 4

/-- The current journal sector. -/
def State.journal (s : State) : Option Nat :=
  match s.headOk 0, s.headOk 1 with
  | true, true => if s.headSeq 0 < s.headSeq 1 then some 1 else some 0
  | true, false => some 0
  | false, true => some 1
  | false, false => none

/-- The pending part of an entry. -/
def pendingBytes (sector ops : Nat) : List Byte :=
  let body := magicEntry ++ leBytes 2 sector ++ leBytes 2 0 ++ leBytes 4 ops
  body ++ leBytes 4 (crc32c body)

/-- The sector and OP_SECONDS of an open entry. -/
def State.openEntry (s : State) (j i : Nat) : Option (Nat × Nat) :=
  let a := entryAt j i
  if s.flashRead a 4 = magicEntry && s.flashNat (a + 12) 4 = crc32c (s.flashRead a 12)
      && s.flashRead (a + 0x18) 8 ≠ doneEntry then
    some (s.flashNat (a + 4) 2, s.flashNat (a + 8) 4)
  else none

def journalPositions : List Nat := List.range 16

/-- Open entries of a journal sector: position, sector and OP_SECONDS. -/
def State.openEntries (s : State) (j : Nat) : List (Nat × Nat × Nat) :=
  journalPositions.filterMap fun i => (s.openEntry j i).map fun e => (i, e.1, e.2)

/-- The next free position of a journal sector. -/
def State.freeEntry (s : State) (j : Nat) : Option Nat := journalPositions.find? fun i => s.blankAt (entryAt j i) 32

/-- FL_JOURNAL follows the current journal sector (R431). -/
def State.syncJournal (s : State) : State :=
  match s.journal with
  | none => ((s.set Reg.FL_JOURNAL_SEQ 0).set Reg.FL_JOURNAL_USED 0).set Reg.FL_JOURNAL_OPEN 0
  | some j =>
    ((s.set Reg.FL_JOURNAL_SEQ (s.headSeq j)).set Reg.FL_JOURNAL_USED ((s.freeEntry j).getD 16)).set Reg.FL_JOURNAL_OPEN
      (s.openEntries j).length

/-- Switch to the other journal sector: erased, its header with SEQ one higher, the open entries copied (R415). -/
def State.switchJournal (s : State) (j : Nat) : State :=
  let l := s.openEntries j
  let seq := s.headSeq j + 1
  let s := s.clearSector (4100 + (1 - j))
  let s := s.each (List.range l.length) fun s i =>
    s.flashPut (entryAt (1 - j) i) (pendingBytes (l.getD i (0, 0, 0)).2.1 (l.getD i (0, 0, 0)).2.2)
  s.flashPut (journalAt (1 - j)) (headBytes seq)

/-- Write or reuse the journal entry of an erase; none where no position is left (R414, R415). -/
def State.journalErase (s : State) (sector : Nat) : Option State :=
  match s.journal with
  | none => some s
  | some j =>
    if (s.openEntries j).any fun e => e.2.1 = sector then some s
    else if 16 ≤ (s.openEntries j).length then none
    else
      let s' := if (s.freeEntry j).isSome then s else s.switchJournal j
      let j' := (s'.journal).getD j
      (s'.freeEntry j').map fun i =>
        (s'.flashPut (entryAt j' i) (pendingBytes sector (s.get Reg.OP_SECONDS_SECONDS))).syncJournal

/-- The erase of a sector has verified: DONE is programmed, and the sector is NORMAL (R409, R417). -/
def State.eraseVerified (s : State) (sector : Nat) : State :=
  let s := (s.clearSector sector).setSect sector 0
  match s.journal with
  | none => s
  | some j =>
    (s.each ((s.openEntries j).filter fun e => e.2.1 = sector) fun s e =>
      s.flashPut (entryAt j e.1 + 0x18) doneEntry).syncJournal

/-- An erase of the wardens' own writers, taken as one step that verifies (DESIGN CHOICE, notes/assumptions/37.md). -/
def State.eraseNow (s : State) (sector : Nat) : State :=
  match s.journalErase sector with
  | some s => s.eraseVerified sector
  | none => s.latch Reg.FL_STAT_JOURNAL_FULL

/-- Both journal sectors are read at start-up: open entries make their sectors INDETERMINATE (R416). -/
def State.readJournal (s : State) : State :=
  let s := s.updFlash fun x => { x with sect := [], noise := x.noise + 1 }
  match s.journal with
  | none => (((s.clearSector 4100).clearSector 4101).flashPut (journalAt 0) (headBytes 1)).syncJournal
  | some j =>
    (s.each (s.openEntries j) fun s e => (s.setSect e.2.1 1).raise 0x1F6 [d2 e.2.1, d4 e.2.2]).syncJournal

/-! ### The operation interface (R405 to R412) -/

/-- The active warden, as a command's source (R382, R407). -/
def State.isActive (s : State) : Src → Bool
  | .warden .a => s.get Reg.WARDEN_STAT_ACTIVE = 1
  | .warden .b => s.get Reg.WARDEN_STAT_ACTIVE = 2
  | _ => false

/-- An operation runs. -/
def State.syncBusy (s : State) : State :=
  s.setB Reg.FL_STAT_BUSY (s.flash.prog.isSome || (s.flash.erase.isSome && !(s.flag Reg.FL_STAT_SUSPENDED)))

/-- The interface relocks (R405). -/
def State.relock (s : State) : State := (s.updFlash fun x => { x with step := 0 }).set Reg.FL_STAT_LOCKED 1

/-- A step out of order, a wrong key, or a step while an operation runs (R405, R407). -/
def State.seqErr (s : State) : State := s.relock.latch Reg.FL_STAT_SEQ_ERR

/-- A write of FL_KEY (R405). While a word program runs every step is an error; while an erase runs the keys of an
ERASE_SUSPEND are taken (R407, DEDUCED, notes/assumptions/38.md). -/
def State.flashKey (s : State) (v : Nat) : State :=
  if s.flash.prog.isSome then s.seqErr
  else if v = 0xA5C3 && s.flash.step = 0 then s.updFlash fun x => { x with step := 1 }
  else if v = 0x3C5A && s.flash.step = 1 then (s.updFlash fun x => { x with step := 2 }).set Reg.FL_STAT_LOCKED 0
  else s.seqErr

/-- A write of FL_CMD. -/
def State.flashCmd (s : State) (v : Nat) : State :=
  if s.flash.step = 2 && (!(s.flag Reg.FL_STAT_BUSY) || bitsAt v 0 4 = 3) then
    ((s.updFlash fun x => { x with step := 3 }).set Reg.FL_CMD_OP (bitsAt v 0 4)).set Reg.FL_CMD_MARGIN (bitsAt v 8 2)
  else s.seqErr

/-- A write of FL_ADDR. -/
def State.flashAddr (s : State) (v : Nat) : State :=
  if s.flash.step = 3 then (s.updFlash fun x => { x with step := 4 }).set Reg.FL_ADDR_ADDR v else s.seqErr

/-- The bank's own warden is in UPDATE (R373, R408); the data bank is always open. -/
def State.bankOpen (s : State) (a : Nat) : Bool :=
  if a < 0x800000 then s.get Reg.WARDEN_STAT_A_STATE = 4
  else if a < 0x1000000 then s.get Reg.WARDEN_STAT_B_STATE = 4
  else true

/-- An operation ignored under R408. -/
def State.ignoreOp (s : State) (cause : Nat) : State := (s.latch Reg.FL_STAT_IGNORED).set Reg.FL_STAT_IGN_CAUSE cause

/-- The case of R408 that a PROGRAM_WORD meets; sector states before the word's own contents (DEDUCED,
notes/assumptions/38.md). -/
def State.ignoreCause (s : State) (a : Nat) : Option Nat :=
  match s.sect (sectorOf a) with
  | 1 => some 1
  | 2 => some 3
  | 3 => some 5
  | _ => if !(s.bankOpen a) then some 4 else if !(s.blankAt a 8) then some 2 else none

/-- PROGRAM_WORD starts (R406, R408). -/
def State.startProgram (s : State) (a data : Nat) : State :=
  let a := a / 8 * 8
  match s.ignoreCause a with
  | some c => s.ignoreOp c
  | none => (s.updFlash fun x => { x with prog := some (a, data) }).syncBusy

/-- ERASE_SECTOR starts (R407, R408, R409, R414, R415). -/
def State.startErase (s : State) (a : Nat) : State :=
  if s.flash.erase.isSome then s.latch Reg.FL_STAT_SEQ_ERR
  else if !(s.bankOpen a) then s.ignoreOp 4
  else match s.journalErase (sectorOf a) with
    | none => s.latch Reg.FL_STAT_JOURNAL_FULL
    | some s =>
      ((s.setSect (sectorOf a) 2).updFlash fun x => { x with erase := some (sectorOf a, 0), noise := x.noise + 1 }).syncBusy

/-- The running erase stops; its pulse does not count (R410). -/
def State.suspendErase (s : State) : State :=
  if s.flash.erase.isSome then
    ((s.set Reg.FL_STAT_SUSPENDED 1).updFlash fun x => { x with noise := x.noise + 1 }).syncBusy
  else s

/-- The suspended erase starts a fresh pulse (R410). -/
def State.resumeErase (s : State) : State :=
  ((s.set Reg.FL_STAT_SUSPENDED 0).updFlash fun x => { x with fenced := false }).syncBusy

/-- BLANK_CHECK (R406). -/
def State.blankCheck (s : State) (a : Nat) : State :=
  let b := sectorOf a * 4096
  match (List.range 512).find? fun i => !(s.blankAt (b + 8 * i) 8) with
  | some i => ((s.set Reg.FL_RESULT_FAIL 1).set Reg.FL_RESULT_BITS 0).set Reg.FL_RESULT_OFFSET (8 * i)
  | none => ((s.set Reg.FL_RESULT_FAIL 0).set Reg.FL_RESULT_BITS 0).set Reg.FL_RESULT_OFFSET 0

/-- MARGIN_READ finds `diff` bits outside the margin (R406). -/
def State.marginResult (s : State) (a diff : Nat) : State :=
  ((s.setB Reg.FL_RESULT_FAIL (diff ≠ 0)).set Reg.FL_RESULT_BITS (satW 7 diff)).set Reg.FL_RESULT_OFFSET (a / 8 * 8 % 4096)

/-- The last step of R405: the interface relocks, and the operation starts. An OP or an address that does not exist starts
nothing (DEDUCED, notes/assumptions/38.md). -/
def State.startFlash (s : State) (data diff : Nat) : State :=
  let op := s.get Reg.FL_CMD_OP
  let a := s.get Reg.FL_ADDR_ADDR
  if op = 0 || 6 < op || flashSize ≤ a then s.seqErr else
    let s := (s.relock.set Reg.FL_STAT_LAST_OP op).set Reg.FL_STAT_SECTOR (sectorOf a)
    match op with
    | 1 => s.startProgram a data
    | 2 => s.startErase a
    | 3 => (match s.flash.erase with
      | some (n, _) => if n = sectorOf a && !(s.flag Reg.FL_STAT_SUSPENDED) then s.suspendErase else s.latch Reg.FL_STAT_SEQ_ERR
      | none => s.latch Reg.FL_STAT_SEQ_ERR)
    | 4 => (match s.flash.erase with
      | some (n, _) => if n = sectorOf a && s.flag Reg.FL_STAT_SUSPENDED && !s.flash.fenced && !s.saving then s.resumeErase
          else s.latch Reg.FL_STAT_SEQ_ERR
      | none => s.latch Reg.FL_STAT_SEQ_ERR)
    | 5 => s.blankCheck a
    | _ => s.marginResult a diff

/-- A write of FL_DATA; the bits a MARGIN_READ started so finds outside its margin are a free value (R405). -/
def State.flashData (s : State) (v : Nat) : State :=
  let diff := (Config.flashNoise s.flash.noise (s.get Reg.FL_ADDR_ADDR)).toNat % 73
  if s.flash.step = 4 then
    if s.get Reg.FL_CMD_OP = 1 then s.updFlash fun x => { x with step := 5, low := v } else s.startFlash v diff
  else if s.flash.step = 5 then s.startFlash (s.flash.low + v * 2 ^ 32) diff
  else s.seqErr

/-- Steps 2 to 4 of R405 for one operation. -/
def State.flashOp (s : State) (op margin a data diff : Nat) : State :=
  let s := s.flashCmd (op + margin * 256)
  if s.flash.step ≠ 3 then s else (s.flashAddr a).startFlash data diff

/-- Is the erase running, not suspended? -/
def State.erasing (s : State) : Bool := s.flash.erase.isSome && !(s.flag Reg.FL_STAT_SUSPENDED)

/-- A pulse and its verify end (R409). -/
def State.pulseDone (s : State) (ok : Bool) : State :=
  match s.flash.erase with
  | none => s
  | some (n, p) =>
    if s.flag Reg.FL_STAT_SUSPENDED then s else
      let p := p + 1
      let limit := s.get Reg.FL_LAST_ERASE_PULSES_LIMIT
      let s := if p = 40 then s.raise 0x1F4 [d2 n, d2 p] else s
      if ok then
        (((s.eraseVerified n).set Reg.FL_LAST_ERASE_PULSES_PULSES p).updFlash fun x => { x with erase := none }).syncBusy
      else if limit ≤ p then
        let s := ((s.set Reg.FL_LAST_ERASE_PULSES_PULSES p).latch Reg.FL_STAT_ERASE_FAIL).setSect n 3
        (s.raise 0x1F5 [d2 n, d1 2, d2 p]).updFlash (fun x => { x with erase := none }) |>.syncBusy
      else s.updFlash fun x => { x with erase := some (n, p), noise := x.noise + 1 }

/-- A word program ends and is verified (R406); what a word that failed holds is a free value. -/
def State.programEnd (s : State) (ok : Bool) : State :=
  match s.flash.prog with
  | none => s
  | some (a, d) =>
    let s := s.updFlash fun x => { x with prog := none, noise := x.noise + 1 }
    if ok then (s.flashPut a (leBytes 8 d)).syncBusy
    else
      let bad := (List.range 8).map fun i => Config.flashNoise s.flash.noise (a + i)
      (((s.flashPut a bad).latch Reg.FL_STAT_PROG_FAIL).raise 0x1F5 [d2 (sectorOf a), d1 1, d2 0]).syncBusy

/-- Banks of R401: A 0, B 1, data 2. -/
def bankOf (a : Nat) : Nat := if a < 0x800000 then 0 else if a < 0x1000000 then 1 else 2

/-- A warden reads its bank or another (R403, R404, R411): a program in the bank is waited for, an erase there suspended. -/
def State.bankRead (s : State) (u a : Nat) (fetch : Bool) (e : SecDed) : State :=
  let busyHere := match s.flash.prog with | some (p, _) => decide (bankOf p = bankOf a) | none => false
  if busyHere then s else
    let eraseHere := match s.flash.erase with | some (n, _) => decide (bankOf (n * 4096) = bankOf a) | none => false
    let s := if eraseHere && s.erasing then s.suspendErase else s
    let s := match e with
      | .clean => s
      | .corrected => s.count Reg.FL_ECC_CE
      | .uncorrectable =>
        let s := ((s.count Reg.FL_ECC_UE).latch Reg.FL_STAT_READ_UE).raise 0x1F7 [d4 a, d1 (bit (!fetch))]
        s.updFlash fun x => { x with ue := Store.set false x.ue (a / 8 * 8) true }
    s.send (.flash u (if fetch then s.flashRead (a / 32 * 32) 32 else s.flashRead (a / 8 * 8) 8))

/-! ### The persistence record (R420, R421) -/

/-- "NPRS" and "NPRSDONE". -/
def magicPrs : List Byte := [0x4E#8, 0x50#8, 0x52#8, 0x53#8]
def donePrs : List Byte := [0x4E#8, 0x50#8, 0x52#8, 0x53#8, 0x44#8, 0x4F#8, 0x4E#8, 0x45#8]

def prsAt (i : Nat) : Nat := 0x1006000 + 64 * i

/-- The words of an entry that are programmed: 0x00 to 0x27. -/
def prsBytes (entrySeq kind cause lds dsc seq ops cycles : Nat) : List Byte :=
  let body := magicPrs ++ leBytes 4 entrySeq ++ leBytes 1 kind ++ leBytes 1 cause ++ leBytes 2 lds ++ leBytes 4 dsc
    ++ leBytes 8 seq ++ leBytes 4 ops ++ leBytes 4 cycles
  body ++ leBytes 4 (crc32c body) ++ List.replicate 4 0xFF#8

/-- Positions of an area of `n` records of 64 bytes that hold a programmed byte and lie in a NORMAL sector: what readers of
records look at (DEDUCED, notes/assumptions/38.md). -/
def State.usedSlots (s : State) (base n : Nat) : List Nat :=
  (((s.flash.bytes.filter fun e => decide (base ≤ e.1) && decide (e.1 < base + 64 * n)).map fun e => (e.1 - base) / 64).dedup).filter
    fun i => s.sect (sectorOf (base + 64 * i)) = 0

/-- A committed entry at ring position `i`. -/
def State.prsOk (s : State) (i : Nat) : Bool :=
  let a := prsAt i
  s.flashRead a 4 = magicPrs && s.flashRead (a + 0x38) 8 = donePrs && s.flashNat (a + 0x20) 4 = crc32c (s.flashRead a 0x20)

/-- The position of the newest committed entry that satisfies a test on its KIND. -/
def State.prsNewest (s : State) (p : Nat → Bool) : Option Nat :=
  ((s.usedSlots (prsAt 0) 512).filter fun i => s.prsOk i && p (s.flashNat (prsAt i + 8) 1)).foldl (fun b i => match b with
    | none => some i
    | some j => if s.flashNat (prsAt j + 4) 4 < s.flashNat (prsAt i + 4) 4 then some i else some j) none

/-- The position the next entry takes: sectors that are WORN or INDETERMINATE are skipped (R421). -/
def State.prsPlace (s : State) : Option Nat :=
  let p := s.flash.prsPos
  ((List.range 512).map fun k => (p + k) % 512).find? fun i =>
    s.sect (4102 + i / 64) = 0 && (i % 64 = 0 || (i / 64 = p / 64 && decide (p ≤ i) && s.blankAt (prsAt i) 64))

/-- Program an entry (R420). Kinds: 1 IN_SERVICE, 2 OPEN_SAVE, 3 COMMIT, 4 COUNT, 5 LD_STATE. -/
def State.prsPut (s : State) (kind cause seq lds : Nat) : State :=
  match s.prsPlace with
  | none => s
  | some i =>
    let n := s.flash.prsSeq + 1
    let s := if i % 64 = 0 then s.eraseNow (4102 + i / 64) else s
    let s := (s.flashPut (prsAt i) (prsBytes n kind cause lds (s.get Reg.TILE_DSC_COUNT) seq (s.get Reg.OP_SECONDS_SECONDS)
      (s.get Reg.PWR_CYCLES_CYCLES))).flashPut (prsAt i + 0x38) donePrs
    s.updFlash fun x => { x with prsPos := (i + 1) % 512, prsSeq := n, ldShutdown := lds }

def State.prsAdd (s : State) (kind cause seq : Nat) : State := s.prsPut kind cause seq s.flash.ldShutdown

/-- The ring is read at start-up (R421): the newest entry gives the count and the shutdown states. -/
def State.prsScan (s : State) : State :=
  match s.prsNewest fun _ => true with
  | none => (s.updFlash fun x => { x with prsPos := 0, prsSeq := 0, ldShutdown := 0 }).set Reg.TILE_DSC_COUNT 0
  | some i =>
    (s.updFlash fun x => { x with
      prsPos := (i + 1) % 512
      prsSeq := s.flashNat (prsAt i + 4) 4
      ldShutdown := s.flashNat (prsAt i + 0xA) 2 }).set Reg.TILE_DSC_COUNT (s.flashNat (prsAt i + 0xC) 4)

end Sys2Proof.Machine
end

