-- ==== Sys2Proof/Machine/BootScore.lean ====
section
/-! DEFINITION. The boot score the active warden builds at every start-up (spec/03_score_contract.md R105 to R108). -/

namespace Sys2Proof.Machine

/-- Voice numbers of the boot score's directory: 0 REFRESH, 1 to 4 HOST_READ and 5 to 8 HOST_WRITE of HPORT_0 to 3,
9 RESTORE, 10 STREAM, 11 SCRUB, 12 MAINT; in the save score 13 is SAVE. The numbers beside 0 are the model's choice
(DESIGN CHOICE): nothing outside the image shows them. -/
def bootVoices (save : Bool) : List Voice :=
  let dir : List Voice :=
    if save then
      [⟨.refresh, 0⟩] ++ List.replicate 11 ⟨.undefined, 0⟩ ++ [⟨.maint, 0⟩, ⟨.save, 0⟩, ⟨.undefined, 0⟩, ⟨.undefined, 0⟩]
    else
      [⟨.refresh, 0⟩] ++ (List.range 4).map (fun p => ⟨.hostRead, p⟩) ++ (List.range 4).map (fun p => ⟨.hostWrite, p⟩)
        ++ [⟨.restore, 0⟩, ⟨.stream, 0⟩, ⟨.scrub, 0⟩, ⟨.maint, 0⟩]
        ++ List.replicate 3 ⟨.undefined, 0⟩
  (List.replicate 8 dir).flatten

/-- A run of the boot tables. -/
def bootRun (code len : Nat) : BarRun := ⟨code, len, 0⟩

/-- The CODE of REST (R91). -/
def codeRest : Nat := 16

/-- The 32-quad pattern of R106. -/
def bootPattern : List BarRun :=
  (List.range 16).map (fun i => bootRun (1 + i % 4) 1)
    ++ [bootRun codeRest 2]
    ++ (List.range 4).map (fun p => bootRun (5 + p) 1)
    ++ [bootRun 9 2, bootRun codeRest 5, bootRun 10 3]

/-- One half of the boot bar table: the refresh run, n patterns and the tail (R106). -/
def bootHalf (r : Nat) : List BarRun :=
  let n := (780 - r - 8) / 32
  let tail := 780 - r - 32 * n
  [bootRun 0 r] ++ (List.replicate n bootPattern).flatten
    ++ [bootRun codeRest 5, bootRun 11 (tail - 7), bootRun 12 2]

def tableOf (runs : List BarRun) : BarTable := ⟨runs.length, runs⟩

/-- The bar table of V0 and V1 (R106). -/
def bootTable (r : Nat) : BarTable := tableOf (bootHalf r ++ bootHalf r)

/-- The bar table of the boot save score (R108). -/
def bootSaveTable (r : Nat) : BarTable :=
  let half := [bootRun 0 r, bootRun 13 (778 - r), bootRun 12 2]
  tableOf (half ++ half)

/-- Windows of one engine record: window 0 and window 1 on every populated channel, idle elsewhere. -/
def bootWindows (k : CardCfg) (w0 w1 : NandWindow) : List NandWindow :=
  (List.range 16).flatMap fun n =>
    if bitAt k.nchMask n then [w0, w1] else [⟨0, 0, .idle, 0, 0⟩, ⟨0, 0, .idle, 0, 0⟩]

/-- The engine record of bar position `b` of the boot variants (R107). -/
def bootEngine (k : CardCfg) (reqPool rwdPool b : Nat) : EngineRec :=
  let dies := 2 ^ k.nandDies - 1
  let w0 : NandWindow :=
    if b = 8 then ⟨0, 3120, .erase, 1, dies⟩ else ⟨0, 3120, .read, if b = 16 then 1 else 0, dies⟩
  { windows := bootWindows k w0 ⟨3120, 3120, .program, if b = 0 then 1 else 0, dies⟩
    copy := [⟨.stream, k.dchMask, 16384⟩, ⟨.restore, k.dchMask, 32768⟩, ⟨.scrubZero, k.dchMask, 32768⟩, ⟨.none, 0, 0⟩]
    xts := [.encryptStream, .encryptStream, .decryptRestore, .decryptRestore, .decryptRestore, .decryptRestore,
      .decryptTouch, .decryptTouch]
    grants := List.replicate 4 ⟨reqPool, rwdPool⟩ }

/-- P, the PROGRAM budgets of the boot save cycle on each NAND channel (R108). -/
def bootSavePrograms (dies : Nat) : Nat := 256 * dies / 88

/-- The engine record of the boot save score, with or without a PROGRAM budget in the bar (R108). -/
def bootSaveEngine (k : CardCfg) (budget : Nat) : EngineRec where
  windows := bootWindows k ⟨0, 6240, .program, budget, 2 ^ k.nandDies - 1⟩ ⟨0, 0, .idle, 0, 0⟩
  copy := [⟨.save, k.dchMask, 3584 * bootSavePrograms k.nandDies⟩, ⟨.none, 0, 0⟩, ⟨.none, 0, 0⟩, ⟨.none, 0, 0⟩]
  xts := List.replicate 4 .encryptSave ++ List.replicate 4 .idle
  grants := List.replicate 4 ⟨0, 0⟩

/-- Bar positions of the boot save cycle that carry a PROGRAM budget (R108). -/
def bootSaveBudget (dies b : Nat) : Nat :=
  let p := bootSavePrograms dies
  bit ((List.range p).any fun i => 256 * i / p = b)

/-- The boot score without its declared bounds. -/
def bootBare (k : CardCfg) (reqPool rwdPool : Nat) : Score :=
  let r := trfcQuads k.density
  let play : VariantTab :=
    { rate := 2, chIndex := List.replicate 8 [0], engIndex := List.range 32, voices := bootVoices false }
  let save : VariantTab :=
    { rate := 2, chIndex := List.replicate 8 [1]
      engIndex := (List.range 256).map fun b => 32 + bootSaveBudget k.nandDies b, voices := bootVoices true }
  { id := 0, rev := 0, density := k.density, ranks := k.ranks, dchMask := k.dchMask, nandDies := k.nandDies
    nchMask := k.nchMask, variantMask := 3
    ports := List.replicate 4 ⟨reqPool, rwdPool, 0, 0, false, true⟩
    variants := [some play, some play, none, none, none, none, none, none, some save]
    tables := [bootTable r, bootSaveTable r]
    engines := (List.range 32).map (bootEngine k reqPool rwdPool) ++ [bootSaveEngine k 0, bootSaveEngine k 1]
    windows := []
    boot := true }

/-- The boot score; its declared fields hold its computed bounds (R483). -/
def bootScore (k : CardCfg) (reqPool rwdPool : Nat) : Score :=
  let g := bootBare k reqPool rwdPool
  { g with ports := (List.range 4).map fun p =>
      { g.port p with readBound := g.boundNs p false, writeBound := g.boundNs p true } }

/-- The boot score's verification: every check of R96 but the signature group, SIG_MAGIC and 0x010A (R105). The checks of
the image's layout hold of a score built on the die, which has no offsets of its own. -/
def bootVerify (k : CardCfg) (g : Score) : Option VFail := g.check ⟨k, 0, 0, [], false⟩

end Sys2Proof.Machine
end

