-- ==== Sys2Proof/Machine/Sequencer.lean ====
section
/-! DEFINITION. The score sequencer and the fill arbiter (spec/02_score_model.md R31 to R68): the hot condition, variant
selection, pressed windows, contract overruns and their rest bars, the plan of a bar and the play of a quad. -/

namespace Sys2Proof.Machine

def State.updSeq (s : State) (f : SeqState → SeqState) : State := { s with seq := f s.seq }

/-- The variant in force. -/
def State.active (s : State) : Nat := s.get Reg.SCORE_VARIANT_ACTIVE

/-- The table set played in this bar: the save score while SCORE_STAT.SAVE is 1, else the active variant. -/
def State.playingSet (s : State) : Nat := if s.flag Reg.SCORE_STAT_SAVE then saveIndex else s.active

def State.playing (s : State) : Option VariantTab := s.seq.play.tab s.playingSet

/-! ### The hot condition (R51, R120, R121) -/

/-- TEMP_C of a channel. -/
def State.tempC (s : State) (c : Nat) : Int := signed8 (s.get (Reg.DCH_TEMP_TEMP_C c))

/-- A channel reports above 85 °C (R120, R121). -/
def State.reportsHot (s : State) (c : Nat) : Bool :=
  !(s.flag (Reg.DCH_TEMP_VALID c)) || s.flag (Reg.DCH_TEMP_MR4_2X c) || decide (85 < s.tempC c)

/-- A channel reports at or below 85 °C less HOT_HYST (R51, R120). -/
def State.reportsCool (s : State) (c : Nat) : Bool :=
  s.flag (Reg.DCH_TEMP_VALID c) && !(s.flag (Reg.DCH_TEMP_MR4_2X c))
    && decide (s.tempC c ≤ 85 - (s.get Reg.SCORE_CTL_HOT_HYST : Int))

/-- DCH_n_STAT.HOT follows the report; k = 4 is raised when a channel starts to report above 85 °C (R156, R160). -/
def State.updHot (s : State) (c : Nat) : State :=
  let h := s.reportsHot c
  let s' := s.setB (Reg.DCH_STAT_HOT c) h
  if h && !(s.flag (Reg.DCH_STAT_HOT c)) then
    s'.raise (srcDram c 4) [d1 (s.get (Reg.DCH_TEMP_TEMP_C c)), d1 (s.get (Reg.DCH_TEMP_MR4_2X c))]
  else s'

/-- The start of the hot condition, at a downbeat (R51). The event names the lowest channel that reports, or channel 0
where FORCE_HOT or a crystal fault (R562) alone starts it (DESIGN CHOICE, notes/assumptions/20.md). -/
def State.hotStart (s : State) : State × Bool :=
  let hotCh := channels.find? fun c => s.serving c && s.reportsHot c
  if !(s.flag Reg.SCORE_STAT_HOT) && (hotCh.isSome || s.flag Reg.SCORE_CTL_FORCE_HOT || s.sys.clockFault) then
    let c := hotCh.getD 0
    (((s.set Reg.SCORE_STAT_HOT 1).updSeq fun q => { q with hotTally := 0 }).raise 0x041
      [d1 c, d1 (s.get (Reg.DCH_TEMP_TEMP_C c))], true)
  else (s, false)

/-! ### Variant selection (R52) -/

/-- The refresh rate of a variant of the playing image. -/
def State.rateOf (s : State) (v : Nat) : Nat := ((s.seq.play.tab v).map (·.rate)).getD 0

/-- The variant R52 wants: REQ, or V1 while hot and REQ is 1x. -/
def State.wanted (s : State) : Nat :=
  let v := s.get Reg.SCORE_VARIANT_REQ
  if s.flag Reg.SCORE_STAT_HOT && s.rateOf v = 1 then 1 else v

/-- Play another variant from this bar (R52, R58): debt carried over is inherited, and each channel that carries some
raises 0x043 on a forced switch into V1. -/
def State.switchTo (s : State) (v : Nat) (forced : Bool) : State :=
  let old := s.active
  let s := ((s.set Reg.SCORE_VARIANT_ACTIVE v).set Reg.SCORE_VARIANT_REQ_PENDING 0).setB Reg.SCORE_VARIANT_HOT_CAP
    (s.rateOf v = 2)
  let s := s.raise 0x040 [d1 old, d1 v]
  if forced then
    s.each channels fun s c =>
      if s.debt c = 0 then s else
        ((s.set (Reg.DCH_REF_DEBT_INHERITED c) (s.debt c)).set Reg.SCORE_STAT_INHERITED_DEBT 1).raise 0x043
          [d1 c, d1 (s.debt c)]
  else s

/-- The procedure of R52 for a bar that is not a save's. Answers whether the variant changed, and whether the switch was
forced by the start of the hot condition. -/
def State.selectVariant (s : State) (hotStarted : Bool) : State × Bool × Bool :=
  let w := s.wanted
  if w = s.active then (s.set Reg.SCORE_VARIANT_REQ_PENDING 0, false, false)
  else if hotStarted && w = 1 then (s.switchTo w true, true, true)
  else if s.anyDebt then (s.set Reg.SCORE_VARIANT_REQ_PENDING 1, false, false)
  else (s.switchTo w false, true, false)

/-! ### Pressed windows (R55 to R60) -/

/-- A wait for a downbeat without refresh debt is open (R60): a deferred switch, a pending arm, an entry into
self-refresh, or a channel that leaves service. -/
def State.waitOpen (s : State) : Bool :=
  s.flag Reg.SCORE_VARIANT_REQ_PENDING || s.get Reg.SCORE_LOAD_STAT_STATE = 5 || s.seq.selfRefreshWait
    || channels.any fun c => (s.ch c).leaving || (s.chState c = chRelocating && (s.mappedFrames c).isEmpty)

/-- How the bar now starting lies to the pressed windows of channel `c`; `fresh` where the variant or image has just
begun to play on it (R56, R59, R60). -/
def State.pressOf (s : State) (t : VariantTab) (c : Nat) (fresh : Bool) : Press × Nat :=
  let pos := s.bar % t.cycle c
  match (s.seq.play.pressed s.playingSet c).find? (·.holds pos) with
  | none => (.none, 0)
  | some w =>
    if w.firstBar = pos then
      (if s.get (Reg.DCH_REF_DEBT_INHERITED c) ≠ 0 || s.waitOpen then .suppressed else .played, w.firstBar)
    else if fresh then (.suppressed, w.firstBar)
    else (if (s.ch c).press = .played then .played else .suppressed, w.firstBar)

/-- The bar that plays is planned already: what changed at its downbeat has it planned anew. -/
def State.planned (s : State) : Bool := s.seq.plannedBar = s.bar + 1

/-- Set the window state of a channel for the bar now starting; 0x048 is raised at the first bar of a suppressed
window that plays. -/
def State.planPress (s : State) (t : VariantTab) (c : Nat) (fresh : Bool) : State :=
  if s.outOfService c then s.updCh c fun x => { x with press := .none } else
  let p := s.pressOf t c fresh
  let was := (s.ch c).press
  let s := s.updCh c fun x => { x with press := p.1 }
  let opens := fresh || was ≠ .suppressed || (!s.planned && s.bar % t.cycle c = p.2)
  if p.1 = .suppressed && opens then s.raise 0x048 [d1 c, d1 p.2] else s

/-! ### The refresh runs of a bar -/

/-- What a refresh run of the current bar is (R55 to R58). -/
inductive RunKind where
  | own | payback | inherited
  deriving DecidableEq, Repr

/-- A refresh run as played: its start quad and kind. -/
structure PlayRun where
  start : Nat
  kind : RunKind
  deriving DecidableEq, Repr

/-- Own runs moved behind the payback block where they would overlap it; those clear of it stay (R57, R58). -/
def shiftRuns (r : Nat) : Nat → List Nat → List PlayRun
  | _, [] => []
  | e, q :: l => if q < e then ⟨e, .own⟩ :: shiftRuns r (e + r) l else ⟨q, .own⟩ :: shiftRuns r (q + r) l

/-- The refresh runs that channel `c` plays in this bar: at the own slots alone on a channel out of service (R143); with the payback
block from slot 0 (R57, R58); else as the table has them, in a suppressed window at the own slots (R59), and with an inherited run
after the second own run where one is due (R58). -/
def State.playRuns (s : State) (t : VariantTab) (c : Nat) : List PlayRun :=
  let g := s.seq.play
  let r := trfcQuads g.density
  let own := g.ownStarts t c
  let x := s.ch c
  if s.chState c = chFailed then []
  else if s.outOfService c then own.map (⟨·, .own⟩)
  else if x.block ≠ 0 then
    (List.range x.block).map (fun k => ⟨k * r, .payback⟩) ++ shiftRuns r (x.block * r) own
  else
    let base : List PlayRun := if x.press = .suppressed then own.map (⟨·, .own⟩)
      else (refreshStarts r (g.barTable t c s.bar).quads).map fun q => ⟨q, if own.contains q then .own else .payback⟩
    if x.inheritRun then base ++ [⟨own.getD 1 0 + r, .inherited⟩] else base

/-- Who holds quad `q` of channel `c` as this bar plays. -/
inductive PlayOwner where
  | refresh
  | voice (v : Voice)
  | split (v mask : Nat)
  | rest
  deriving DecidableEq, Repr

/-- As this bar plays: in a rest bar every slot but the refresh runs is a rest (R62), and on a channel out of service every quad that is
neither REFRESH nor MAINT (R143). -/
def State.ownerAt (s : State) (t : VariantTab) (c q : Nat) : PlayOwner :=
  let r := trfcQuads s.seq.play.density
  if (s.playRuns t c).any fun x => decide (x.start ≤ q) && decide (q < x.start + r) then .refresh
  else match (s.seq.play.barTable t c s.bar).quads.getD q .rest with
    | .rest => .rest
    | .split v m => if (s.ch c).restBars ≠ 0 then .rest else .split v m
    | .voice v =>
      let k := t.voice c v
      if k.kind = .refresh || (s.ch c).restBars ≠ 0 || (k.kind ≠ .maint && s.outOfService c) then .rest else .voice k

/-! ### The plan of a new bar -/

/-- Is the bar now starting a payback bar of a played window on channel `c` (R56)? -/
def State.isPayback (s : State) (t : VariantTab) (c : Nat) : Bool :=
  (s.ch c).press = .played && (s.playRuns t c).any fun x => x.kind = .payback

/-- Is the bar now starting excluded from the bound on channel `c` (R66)? -/
def State.voidBar (s : State) (t : VariantTab) (switched : Bool) (c : Nat) : Bool :=
  switched || s.seq.switchBar = s.bar + 1 || s.flag Reg.SCORE_STAT_SAVE || s.isPayback t c || (s.ch c).inheritRun || (s.ch c).press = .suppressed
    || (s.ch c).restBars ≠ 0

def maskOf (p : Nat → Bool) : Nat := (channels.map fun c => if p c then 2 ^ c else 0).sum

/-- Publish the new bar: window states, payback blocks, inherited runs, and the masks of SCORE_STAT (R20 step 5, R56 to
R60, R66, R70; every bar is void after a crystal fault, R562). `switched` where a variant or image begins to play in this bar,
`forced` where the hot condition forced the switch, `saveFirst` in the first bar of the save score. A bar that is planned anew keeps
its payback blocks and what its passes and engines have moved. -/
def State.planBar (s : State) (switched forced saveFirst : Bool) : State :=
  match s.playing with
  | none => s
  | some t =>
    let s := s.each channels fun s c => s.planPress t c switched
    let again := s.planned
    let s := if again then s else s.updSeq fun q => { q with
      passUsed := [0, 0, 0, 0], zeroUsed := List.replicate 8 0, xtsUsed := [0, 0, 0, 0], granted := List.replicate 4 (0, 0) }
    let s := s.each channels fun s c =>
      let d := s.debt c
      let inh := s.get (Reg.DCH_REF_DEBT_INHERITED c)
      s.updCh c fun x => { x with
        block := if saveFirst then d else if forced then d - 2 else if again then x.block else 0
        inheritRun := if saveFirst || forced || s.flag Reg.SCORE_STAT_SAVE || !(s.serving c) then false
          else if again then x.inheritRun else decide (inh ≠ 0) }
    let s := s.updSeq fun q => { q with plannedBar := s.bar + 1, switchBar := if switched then s.bar + 1 else q.switchBar }
    let void := if s.sys.clockFault then 255 else maskOf (s.voidBar t switched)
    let s := (s.set Reg.SCORE_STAT_PRESSED_MASK (maskOf fun c => (s.ch c).press = .played)).set
      Reg.SCORE_STAT_OFFLINE_MASK (maskOf s.outOfService)
    let s := (s.set Reg.SCORE_STAT_VOID_MASK void).setB Reg.SCORE_STAT_BOUND_VOID (void ≠ 0)
    let grants := (s.seq.play.engine t s.bar).grants
    s.each ports fun s p => s.returnCredits p (grants.getD p ⟨0, 0⟩)

/-- The downbeat of a bar lasts until its first quad plays: what the spec puts at a downbeat happens then (R20). -/
def State.atDownbeat (s : State) : Bool := s.slot = 0 && s.seq.playedBar ≠ s.bar + 1

/-- Enter the save score (R52, R57): each channel's debt is paid from slot 0 of its first bar, shown as inherited until
paid (R157), and 0x049 carries the debts. -/
def State.enterSaveScore (s : State) : State :=
  let s := s.set Reg.SCORE_STAT_SAVE 1
  let s := s.each channels fun s c => s.set (Reg.DCH_REF_DEBT_INHERITED c) (s.debt c)
  let s := s.setB Reg.SCORE_STAT_INHERITED_DEBT s.anyDebt
  s.raise 0x049 (channels.map fun c => d1 (s.debt c))

/-! ### Contract overruns (R61 to R64) -/

/-- Record an overrun at the downbeat after its bar (R62). -/
def State.recordOverrun (s : State) (nand : Bool) (engine : Nat) : State :=
  (((s.count Reg.SCORE_OVERRUN_COUNT).setB Reg.SCORE_OVERRUN_LAST_NAND nand).set Reg.SCORE_OVERRUN_LAST_ENGINE engine).set
    Reg.SCORE_OVERRUN_LAST_BAR (s.bar - 1)

/-- The rest bars of an engine at a downbeat (R62, R63), from the consecutive rest bars it has played, those at whose end an
operation is still incomplete, and whether the bar brought a new overrun: the new counts, 257 rest bars where the 256th has
ended, and whether a further bar is inserted for the same operation. -/
def restBarStep (bars busy : Nat) (new : Bool) : Nat × Nat × Bool :=
  if 256 ≤ bars then (257, 0, false)
  else if new then (bars + 1, if bars = 0 then busy else busy - 1, false)
  else if bars = 0 then (0, busy, false)
  else if busy = 0 then (0, 0, false)
  else (bars + 1, busy - 1, true)

/-- The overruns of one DRAM channel at a downbeat: each is recorded, and rest bars are inserted (R62, R63). -/
def State.dramRestBar (s : State) (c : Nat) : State :=
  let x := s.ch c
  let k := restBarStep x.restBars x.busy (!x.overruns.isEmpty)
  let s := s.each x.overruns fun s e => (s.recordOverrun false c).raise 0x044 [d1 c, d4 e]
  let s := s.updCh c fun x => { x with overruns := [], restBars := k.1, busy := k.2.1 }
  if k.2.2 then s.raise 0x046 [d1 c, d2 k.1] else s

/-! ### Queues: urgency and order (R36, R37, R41, R42, R46, R77) -/

/-- T: the port's latency target in slots, rounded down (R41). Writes take the write target (R184). -/
def State.targetSlots (s : State) (p : Nat) (write : Bool) : Nat :=
  (if write then s.get (Reg.HPORT_LAT_TARGET_WRITE_NS p) else s.get (Reg.HPORT_LAT_TARGET_READ_NS p)) * 8 / 5

/-- Urgency from elapsed slots and target (R41, R44). -/
def urgencyOf (t e : Nat) : Nat :=
  if t = 0 then 0 else if e < t / 2 then 0 else if e < t * 3 / 4 then 1 else if e < t * 9 / 10 then 2 else 3

def State.urgency (s : State) (r : HostReq) (now : Nat) : Nat := urgencyOf (s.targetSlots r.port r.write) (now - r.stamp)

/-- The bank of a line, as a key into `banks`: rank, subchannel, bank group and bank (R77). -/
def LineAddr.bankKey (a : LineAddr) : Nat := ((a.rank * 2 + a.sub) * 8 + a.bankGroup) * 4 + a.bank

/-- May a request issue at slot `now` on subchannel `sub`: it lies there, and its bank's spacing of 80 slots is kept
(R77)? -/
def State.bankReady (s : State) (r : HostReq) (sub now : Nat) : Bool :=
  let a := s.lineAddr r.frame r.line
  let last := Store.get 0 (s.ch a.channel).banks a.bankKey
  a.sub = sub && (last = 0 || decide (last - 1 + 80 ≤ now))

/-- Is the port isochronous, by configuration or by image (R46, R85)? -/
def State.isoch (s : State) (p : Nat) : Bool :=
  s.flag (Reg.HPORT_STAT_ISOCH p) || s.flag (Reg.HPORT_STAT_ISOCH_IMAGE p)

/-- Position in the queue, oldest first, of the request of a set that may issue: at most 4 younger requests pass an older
one of their port, none passes an older request to its own line, and a port that is isochronous issues its requests of
either direction strictly in stamp order (R37, R46, R77). -/
def State.pickHost (s : State) (c : Nat) (p : HostReq → Bool) (sub now : Nat) : Option HostReq :=
  let q := (s.ch c).reqs.filter fun r => decide (r.enters ≤ now)
  q.find? fun r =>
    p r && s.bankReady r sub now &&
      (q.takeWhile (fun o => !(o.tag = r.tag && o.port = r.port && o.stamp = r.stamp && o.write = r.write))).all fun o =>
        !(o.frame = r.frame && o.line = r.line)
          && !(o.port = r.port && s.isoch r.port)
          && !(o.port = r.port && o.write = r.write && decide (4 ≤ o.bypassed))

/-! ### Copy-engine work and its limits (R48, R49, R80) -/

/-- The copy pass a kind of work needs in its bar (R48). -/
def Bulk.pass : Bulk → PassKind
  | .stream => .stream | .touch => .restore | .restore => .restore | .fill => .restore | .save => .save | .zero => .scrubZero

/-- The direction of its DRAM accesses. -/
def Bulk.dir : Bulk → TurnClass
  | .stream => .read | .touch => .write | .restore => .write | .fill => .write | .save => .read | .zero => .write

/-- The XTS role whose engines its data passes, with the role's place in `xtsUsed` (R49). -/
def Bulk.role : Bulk → Option (XtsRole × Nat)
  | .stream => some (.encryptStream, 0) | .save => some (.encryptSave, 1) | .restore => some (.decryptRestore, 2)
  | .touch => some (.decryptTouch, 3) | .fill => none | .zero => none

def EngineRec.engines (e : EngineRec) (r : XtsRole) : Nat := (e.xts.filter (· = r)).length

/-- Bytes one XTS engine takes in a bar (R80). -/
def xtsBytes : Nat := 62144

/-- The engine record of this bar. -/
def State.engineNow (s : State) : EngineRec :=
  match s.playing with
  | some t => s.seq.play.engine t s.bar
  | none => ⟨[], [], [], []⟩

/-- Do the engines of the work's role take 64 more bytes in this bar (R49, R80)? -/
def State.xtsFree (s : State) (b : Bulk) : Bool :=
  match b.role with
  | none => true
  | some (r, k) => decide (s.seq.xtsUsed.getD k 0 + 64 ≤ s.engineNow.engines r * xtsBytes)

/-- A channel's share of a SCRUB_ZERO pass: BYTES over the channels of the mask in service, in whole lines (R48). -/
def State.zeroShare (s : State) (p : CopyPass) : Nat :=
  let n := (channels.filter fun c => bitAt p.mask c && s.serving c).length
  if n = 0 then 0 else p.bytes / n / 64 * 64

/-- May 64 more bytes of the work move on channel `c` in this bar? In a rest, zeroing needs a SCRUB_ZERO pass that names
the channel; in a SCRUB quad it needs budget only where one does (R48, R136). Answers the pass charged. -/
def State.bulkPass (s : State) (c : Nat) (b : Bulk) (rest : Bool) : Option (Option Nat) :=
  let passes := s.engineNow.copy
  if b = .zero then
    match passes.find? fun p => p.kind = .scrubZero && bitAt p.mask c with
    | none => if rest then none else some none
    | some p => if s.seq.zeroUsed.getD c 0 + 64 ≤ s.zeroShare p then some none else none
  else
    ((List.range passes.length).find? fun i =>
      let p := passes.getD i ⟨.none, 0, 0⟩
      p.kind = b.pass && bitAt p.mask c && decide (s.seq.passUsed.getD i 0 + 64 ≤ p.bytes)).map some

/-- Charge 64 bytes to a pass. -/
def State.charge (s : State) (pass : Option Nat) : State :=
  match pass with
  | some i => s.updSeq fun q => { q with passUsed := q.passUsed.set i (q.passUsed.getD i 0 + 64) }
  | none => s

/-- The line a job moves next: its subchannel is that of the line (R117). -/
def Job.line (j : Job) : Nat := (65536 - j.left % 65536) % 65536 / 64

def Job.sub (j : Job) : Nat := j.left / 64 % 2

/-- The tile set-up of a job is still to be made (R80). -/
def Job.inSetUp (j : Job) : Bool := j.frame.isSome && decide (65536 < j.left)

/-- The oldest job of a kind. -/
def State.jobOf (s : State) (c : Nat) (b : Bulk) : Option Job := (s.ch c).work.jobs.find? (·.kind = b)

/-- Take bytes off the oldest job of a kind; a job without any left ends. -/
def State.workOff (s : State) (c : Nat) (b : Bulk) (n : Nat) : State :=
  match s.jobOf c b with
  | none => s
  | some j => s.updCh c fun x => { x with work := { x.work with
      jobs := if j.left ≤ n then x.work.jobs.erase j
        else x.work.jobs.map fun k => if k = j then { k with left := k.left - n } else k } }

/-! ### Playing a quad (R36, R40, R42, R76 to R78, R131 to R137, R145) -/

/-- What may be issued in one subchannel of a quad. `setUp` is the copy engine's tile set-up, which takes the whole quad (R80). -/
inductive Claim where
  | host (r : HostReq)
  | job (b : Bulk) (pass : Option Nat)
  | setUp (b : Bulk)
  | marker (x : LineRef)
  | writeback (x : LineRef)
  | patrol
  | relocRead
  | relocWrite (src : Nat) (x : CopiedLine) (pass : Option Nat)
  deriving DecidableEq, Repr

def Claim.dir : Claim → TurnClass
  | .host r => if r.write then .write else .read
  | .job b _ => b.dir
  | .setUp b => b.dir
  | .marker _ => .write
  | .writeback _ => .write
  | .patrol => .read
  | .relocRead => .read
  | .relocWrite _ _ _ => .write

def Claim.isSetUp : Claim → Bool
  | .setUp _ => true
  | _ => false

/-- Is the spacing of 80 slots kept at the bank of a line (R77)? -/
def State.bankFree (s : State) (f i now : Nat) : Bool :=
  let a := s.lineAddr f i
  let last := Store.get 0 (s.ch a.channel).banks a.bankKey
  last = 0 || decide (last - 1 + 80 ≤ now)

/-- An access to a line holds its bank (R77). -/
def State.holdBank (s : State) (f i now : Nat) : State :=
  let a := s.lineAddr f i
  s.updCh a.channel fun x => { x with banks := Store.set 0 x.banks a.bankKey (now + 1) }

/-- Write the poison marker: counted, with k = 2 (R133). -/
def State.mark (s : State) (c f i : Nat) : State :=
  ((s.setPoison f i true).count (Reg.DCH_ECC_UE_MARKS c)).raise (srcDram c 2) [d4 (f / 8), d2 i]

/-- The channel whose relocation copy has read a line of the destination frame `f` and not yet written it. -/
def State.buffered (s : State) (f i : Nat) : Option (Nat × CopiedLine) :=
  channels.findSome? fun c => (s.ch c).copying.bind fun k =>
    if k.dst = f then (k.buf.find? (·.line = i)).map fun x => (c, x) else none

def State.updReloc (s : State) (c : Nat) (f : Reloc → Reloc) : State :=
  s.updCh c fun x => { x with copying := x.copying.map f }

/-- A host write reaches DRAM. Where it reaches the destination of a relocation after the copy read of its line, the copy's own
write is dropped, and bytes that the write does not cover are those the copy has read (R146; DEDUCED,
notes/assumptions/65.md). -/
def State.landWrite (s : State) (r : HostReq) : State :=
  match s.buffered r.frame r.line with
  | none => s.writeHostLine r.frame r.line r.data r.mask
  | some (c, x) =>
    let full := (List.range 64).all fun k => r.mask.getD k false
    let s := (s.updReloc c fun k => { k with buf := k.buf.filter (·.line ≠ r.line) }).writeFrame r.frame (r.line * 64) x.bytes
    let s := if x.poison && !full then s.mark (r.frame % 8) r.frame r.line else s
    s.writeHostLine r.frame r.line r.data r.mask

/-- Issue a request from its queue: a write reaches DRAM, a read samples its line and waits for its return; requests of
its port and direction that it passed count it (R37, R77). -/
def State.issueHost (s : State) (c : Nat) (r : HostReq) (now : Nat) : State :=
  let q := (s.ch c).reqs
  let older := q.takeWhile (· ≠ r)
  let rest := older.map (fun o =>
    if o.port = r.port && o.write = r.write then { o with bypassed := o.bypassed + 1 } else o) ++ (q.drop (older.length + 1))
  let read := { r with result := s.readLine r.frame r.line, poison := s.poisoned r.frame r.line }
  let s := (s.updCh c fun x => { x with
    reqs := rest
    issued := if r.write then x.issued else x.issued ++ [read] }).holdBank r.frame r.line now
  if r.write then s.landWrite r else s

/-- Issue what a subchannel of a quad is given to. An access whose outcome a row of its own brings stands as a task until then. -/
def State.issue (s : State) (c : Nat) (k : Claim) (now : Nat) : State :=
  match k with
  | .host r => s.issueHost c r now
  | .setUp b => s.workOff c b 128
  | .job b p =>
    let s := match s.jobOf c b with
      | some j => (match j.frame with | some f => s.holdBank f j.line now | none => s)
      | none => s
    let s := (s.workOff c b 64).charge p
    s.updSeq fun q => { q with
      zeroUsed := if b = .zero then q.zeroUsed.set c (q.zeroUsed.getD c 0 + 64) else q.zeroUsed
      xtsUsed := match b.role with | some (_, i) => q.xtsUsed.set i (q.xtsUsed.getD i 0 + 64) | none => q.xtsUsed }
  | .marker x => (s.updCh c fun y => { y with marks := y.marks.erase x, tasks := y.tasks ++ [.marker x] }).holdBank x.frame x.line now
  | .writeback x =>
    (s.updCh c fun y => { y with writebacks := y.writebacks.erase x, tasks := y.tasks ++ [.writeback x] }).holdBank x.frame x.line now
  | .patrol => s.updCh c fun y => { y with tasks := y.tasks ++ [.patrol] }
  | .relocRead =>
    match (s.ch c).copying with
    | none => s
    | some k =>
      match s.frameOf k.tile with
      | none => s
      | some f =>
        let x : CopiedLine := ⟨k.readAt, s.readLine f k.readAt, s.poisoned f k.readAt⟩
        (s.updReloc c fun k => { k with readAt := k.readAt + 1, buf := k.buf ++ [x] }).holdBank f k.readAt now
  | .relocWrite src x p =>
    match (s.ch src).copying with
    | none => s
    | some k =>
      let s := ((s.updReloc src fun k => { k with buf := k.buf.erase x }).writeFrame k.dst (x.line * 64) x.bytes).charge p
      (if x.poison then s.mark c k.dst x.line else s).holdBank k.dst x.line now

/-- The next access of a kind of copy-engine work on a subchannel. -/
def State.jobClaim (s : State) (c : Nat) (b : Bulk) (rest : Bool) (sub now : Nat) : Option Claim :=
  match s.jobOf c b with
  | none => none
  | some j =>
    (s.bulkPass c b rest).bind fun p =>
      if j.inSetUp then (if sub = 0 then some (.setUp b) else none)
      else if j.sub = sub && s.xtsFree b && (match j.frame with | some f => s.bankFree f j.line now | none => true) then
        some (.job b p)
      else none

/-- May patrol issue on a channel: enabled, in service, not relocating and without zeroing work (R136, R145)? -/
def State.patrolMay (s : State) (c : Nat) : Bool :=
  s.flag (Reg.DCH_SCRUB_CTL_PATROL_EN c) && s.chState c = chInService && (s.jobOf c .zero).isNone
    && !(s.flag (Reg.DCH_STAT_SELF_REFRESH c))

/-- The subchannel of patrol's next line. -/
def State.patrolSub (s : State) (c : Nat) : Nat := ((s.ch c).patrolLine + ((s.ch c).tasks.filter (· = .patrol)).length) % 2

/-- A line that a list of waiting lines offers a subchannel. -/
def State.lineFor (s : State) (l : List LineRef) (sub now : Nat) : Option LineRef :=
  l.find? fun x => x.line % 2 = sub && s.bankFree x.frame x.line now

/-- A line waits for its poison marker, or a quad has issued it. -/
def State.markWaits (s : State) (f i : Nat) : Bool :=
  let x := s.ch (f % 8)
  x.marks.any (fun k => k.frame = f && k.line = i)
    || x.tasks.any fun k => match k with | .marker y => y.frame = f && y.line = i | _ => false

/-- The next copy read of a relocating channel: neither a host write to its line nor its marker waits for the source (R37, R145). -/
def State.relocReadClaim (s : State) (c sub now : Nat) : Option Claim :=
  match (s.ch c).copying with
  | none => none
  | some k => match s.frameOf k.tile with
    | none => none
    | some f =>
      if decide (k.readAt < 1024) && k.readAt % 2 = sub && s.bankFree f k.readAt now
          && !((s.ch c).reqs.any fun r => r.write && r.frame = f && r.line = k.readAt) && !(s.markWaits f k.readAt) then some .relocRead
      else none

/-- The next copy write that a destination channel takes, under its RESTORE pass (R145). -/
def State.relocWriteClaim (s : State) (c sub now : Nat) : Option Claim :=
  (s.bulkPass c .restore false).bind fun p => channels.findSome? fun d => (s.ch d).copying.bind fun k =>
    if k.dst % 8 ≠ c then none
    else (k.buf.find? fun x => x.line % 2 = sub && s.bankFree k.dst x.line now).map fun x => Claim.relocWrite d x p

/-- The SCRUB voice's work beside zeroing: markers that no host read asked for, write-backs, the reads of a relocation, patrol
(R131, R134, R136, R145; their order is DEDUCED, notes/assumptions/66.md). -/
def State.scrubClaim (s : State) (c sub now : Nat) : Option Claim :=
  ((s.lineFor ((s.ch c).marks.filter (·.port.isNone)) sub now).map Claim.marker)
    <|> ((s.lineFor (s.ch c).writebacks sub now).map Claim.writeback)
    <|> (s.relocReadClaim c sub now)
    <|> (if s.patrolMay c && s.patrolSub c = sub then some .patrol else none)

/-- Work a voice may issue in its own quads, on each subchannel (R34, R36). -/
def State.voiceClaim (s : State) (c : Nat) (v : Voice) (sub now : Nat) : List Claim :=
  match v.kind with
  | .hostRead => ((s.pickHost c (fun r => r.port = v.port && !r.write) sub now).map Claim.host).toList
  | .hostWrite =>
    ((s.lineFor ((s.ch c).marks.filter fun x => (x.port.map (·.val)) = some v.port) sub now).map Claim.marker).toList
      ++ ((s.pickHost c (fun r => r.port = v.port && r.write) sub now).map Claim.host).toList
  | .stream => (s.jobClaim c .stream false sub now).toList
  | .save => (s.jobClaim c .save false sub now).toList
  | .restore =>
    (s.jobClaim c .touch false sub now).toList ++ (s.jobClaim c .restore false sub now).toList
      ++ (s.jobClaim c .fill false sub now).toList ++ (s.relocWriteClaim c sub now).toList
  | .scrub => (s.jobClaim c .zero false sub now).toList ++ (s.scrubClaim c sub now).toList
  | _ => []

def State.voiceClaims (s : State) (c : Nat) (v : Voice) (now : Nat) : List (Nat × Claim) :=
  (s.voiceClaim c v 0 now).map (fun k => (0, k)) ++ (s.voiceClaim c v 1 now).map fun k => (1, k)

/-- The stream runs at the expedited rate: strain, hold, or persistence not assured (R211). -/
def State.expedited (s : State) : Bool :=
  s.flag Reg.TILE_STAT_STRAIN || s.flag Reg.TILE_STAT_HOLD || !(s.flag Reg.TILE_STAT_ASSURED)

/-- Both subchannels' claims of one claimant. -/
def bothSubs (f : Nat → Option Claim) : List (Nat × Claim) :=
  ((f 0).map fun k => (0, k)).toList ++ ((f 1).map fun k => (1, k)).toList

/-- Claimants of a rest in the rank order of R42, over both subchannels; within a rank host requests go by stamp, then port.
Markers of host reads go first (R132; DESIGN CHOICE, notes/assumptions/66.md); expedited stream work takes rank 6 (R211). On a
channel out of service rests serve zeroing alone beside maintenance, without a pass (R143, R149). -/
def State.restClaims (s : State) (c now : Nat) : List (Nat × Claim) :=
  if s.outOfService c then
    bothSubs fun sub => match s.jobOf c .zero with
      | some j => if j.sub = sub then some (.job .zero none) else none
      | none => none
  else if !(s.flag Reg.SCORE_CTL_FILL_EN) then []
  else
    let bg := s.flag Reg.SCORE_CTL_FILL_BG
    let host := fun u =>
      let best := sortBy (fun a b => decide (a.stamp < b.stamp) || (a.stamp = b.stamp && decide (a.port ≤ b.port)))
        ((s.ch c).reqs.filter fun r => s.urgency r now = u)
      best.filterMap fun r => (s.pickHost c (· = r) (r.line % 2) now).map fun r => (r.line % 2, Claim.host r)
    let work := fun b => bothSubs fun sub => s.jobClaim c b true sub now
    (bothSubs fun sub => (s.lineFor ((s.ch c).marks.filter (·.port.isSome)) sub now).map Claim.marker)
      ++ host 3 ++ work .touch ++ host 2 ++ host 1 ++ host 0
      ++ (if bg && s.expedited then work .stream else [])
      ++ (if bg then work .restore ++ work .fill ++ bothSubs fun sub => s.relocWriteClaim c sub now else [])
      ++ (if bg && !s.expedited then work .stream else [])
      ++ (if bg then work .zero ++ bothSubs fun sub => s.scrubClaim c sub now else [])

/-- The class that a later quad counts in, at quad `q + 1 + i` of the bar or past its end in the next one; none where it is a gap
(R78). -/
def State.laterKind (s : State) (t : VariantTab) (c q : Nat) : Option VoiceKind :=
  if q < 1560 then (match s.ownerAt t c q with
    | .voice v => some v.kind
    | _ => none)
  else if s.outOfService c then none
  else match (s.seq.play.barTable t c (s.bar + 1)).quads.getD (q - 1560) .rest with
    | .voice v => some (t.voice c v).kind
    | _ => none

/-- The gap a direction needs before a later quad of a voice: a SCRUB quad whose run's direction is not fixed counts as read and as
write (R78). -/
def gapBefore (d : TurnClass) (k : VoiceKind) (fixed : Option TurnClass) : Nat :=
  if k = .scrub then (match fixed with
    | some e => turnGap d e
    | none => max (turnGap d .read) (turnGap d .write))
  else if k.turn = .gap then 0 else turnGap d k.turn

/-- Does a direction keep the gaps of R78 around quad `q`, against the data quads already played and the quads that data
voices hold after it? The direction of the SCRUB run that plays counts for the quads of that run alone. -/
def State.turnOk (s : State) (t : VariantTab) (c q : Nat) (d : TurnClass) : Bool :=
  let abs := s.bar * 1560 + q
  let before := match (s.ch c).lastData with
    | some (a, k) => decide (turnGap k d ≤ abs - a - 1)
    | none => true
  before && (List.range 5).all fun i =>
    match s.laterKind t c (q + 1 + i) with
    | some k =>
      let same := (List.range i).all fun j => s.laterKind t c (q + 1 + j) = some .scrub
      decide (gapBefore d k (if same then (s.ch c).scrubDir else none) ≤ i)
    | none => true

/-- The debt changes at quad `q`: a postponed run's slot adds one, the first quad of a payback or inherited run takes one
off (R56), and its last quad counts it in PAID (R157). -/
def State.quadDebt (s : State) (t : VariantTab) (c q : Nat) : State :=
  let runs := s.playRuns t c
  let r := trfcQuads s.seq.play.density
  let s := if runs.any fun x => x.start + r = q + 1 && x.kind ≠ .own then s.bump (Reg.DCH_REF_DEBT_PAID c) else s
  if runs.any fun x => x.start = q && x.kind ≠ .own then s.debtDown c
  else if (s.ch c).press = .played && (s.ch c).block = 0 && (s.seq.play.ownStarts t c).contains q
      && !(runs.any fun x => x.start = q) then s.debtUp c
  else s

/-- Give a quad to claimants: the first of them whose direction may run, then the next on the other subchannel in the same direction
(R33, R40). An access needs no slot outside its own quad (R76). -/
def State.playClaims (s : State) (c q now : Nat) (ok : TurnClass → Bool) (claims : State → List (Nat × Claim)) : State :=
  match (claims s).find? fun k => ok k.2.dir with
  | none => s
  | some k =>
    let s := s.issue c k.2 now
    if k.2.isSetUp then s
    else
      let s := s.updCh c fun x => { x with lastData := some (s.bar * 1560 + q, k.2.dir) }
      match (claims s).find? fun k' => k'.1 ≠ k.1 && k'.2.dir = k.2.dir && !k'.2.isSetUp with
      | some k' => s.issue c k'.2 now
      | none => s

/-- MAINT slots work off the oldest operation; one that is through stands as a task until its row (R36, R120, R127). -/
def State.playMaint (s : State) (c n : Nat) : State :=
  match (s.ch c).work.maint with
  | [] => s
  | (o, k) :: l =>
    if k ≤ n then s.updCh c fun x => { x with work := { x.work with maint := l }, tasks := x.tasks ++ [.maint o] }
    else s.updCh c fun x => { x with work := { x.work with maint := (o, k - n) :: l } }

/-- A rest quad (R40); on a channel out of service maintenance goes first (R143). -/
def State.playRest (s : State) (t : VariantTab) (c q : Nat) : State :=
  if s.outOfService c && !(s.ch c).work.maint.isEmpty then s.playMaint c 4
  else s.playClaims c q s.now (s.turnOk t c q) fun s => s.restClaims c s.now

/-- A quad of a data voice: one direction for a whole SCRUB run (R78); a voice with nothing to issue leaves a rest (R36). -/
def State.playVoice (s : State) (t : VariantTab) (c q : Nat) (v : Voice) : State :=
  let scrub := v.kind = .scrub
  let ok := fun d => !scrub || (s.ch c).scrubDir = none || (s.ch c).scrubDir = some d
  match (s.voiceClaims c v s.now).find? fun k => ok k.2.dir with
  | none => s.playRest t c q
  | some k =>
    let s := if scrub then s.updCh c fun x => { x with scrubDir := some k.2.dir } else s
    s.playClaims c q s.now ok fun s => s.voiceClaims c v s.now

/-- Play quad `q` of channel `c` (R36): its voice, or, where that has nothing to do, a rest. A channel that is not trained or stands in
self-refresh plays nothing, and a FAILED one issues nothing (R122, R142, R143). -/
def State.playQuad (s : State) (c q : Nat) : State :=
  match s.playing with
  | none => s
  | some t =>
    let s := (s.at (q * 4)).updSeq fun x => { x with playedBar := s.bar + 1 }
    if s.chState c < chInService || s.chState c = chFailed || s.flag (Reg.DCH_STAT_SELF_REFRESH c) then s else
    let s := s.quadDebt t c q
    let owner := s.ownerAt t c q
    let s := s.setB (Reg.DCH_STAT_REF_ACTIVE c) (owner = .refresh)
    let inScrub : Bool := match owner with | .voice v => v.kind = .scrub | _ => false
    let s := if inScrub then s else s.updCh c fun x => { x with scrubDir := none }
    match owner with
    | .refresh => s
    | .rest => s.playRest t c q
    | .split _ m =>
      if (s.ch c).work.maint.isEmpty then s.playRest t c q
      else s.playMaint c (bit (bitAt m 0) + bit (bitAt m 1) + bit (bitAt m 2) + bit (bitAt m 3))
    | .voice v =>
      if v.kind = .maint then (if (s.ch c).work.maint.isEmpty then s.playRest t c q else s.playMaint c 4)
      else s.playVoice t c q v

end Sys2Proof.Machine
end

