-- ==== Sys2Proof/Machine/Dram.lean ====
section
/-! DEFINITION. The DRAM engine (spec/04_dram_engine.md R114 to R160): returns and errors, temperature, self-refresh,
training and repair, patrol, and channels out of service. -/

namespace Sys2Proof

/-! ### The code (R128 to R130) -/

/-- Devices of one subchannel contribute two symbols each to a codeword (R128, R129). -/
def SymErr.device (e : SymErr) : Nat := e.symbol.val / 2

/-- Codewords of a line, symbols of one, and how many of them the code corrects (R128, R129). -/
def codeShape (x8 : Bool) : Nat × Nat × Nat := if x8 then (8, 10, 1) else (4, 20, 2)

/-- Does a device configuration have the symbol at all? -/
def SymErr.exists (x8 : Bool) (e : SymErr) : Bool :=
  decide (e.codeword.val < (codeShape x8).1) && decide (e.symbol.val < (codeShape x8).2.1)

/-- Are the wrong symbols of every codeword within what the code corrects (R128, R129)? An error confined to one x4 device always is. -/
def withinCode (x8 : Bool) (l : List SymErr) : Bool :=
  (List.range (codeShape x8).1).all fun k => decide ((l.filter fun e => e.codeword.val = k).dedup.length ≤ (codeShape x8).2.2)

/-- What the decoder makes of a read: a line other than the one asked for is uncorrectable, for the frame and line number are folded
into the check symbols (R130); symbols within the code's guarantee are corrected, the device being named where there is one (R128,
R129, R159); past it the code guarantees neither correction nor detection, and the outcome is the operand's (DESIGN CHOICE,
notes/assumptions/91.md). -/
def LineRead.decode (x8 : Bool) (e : LineRead) : EccResult :=
  let l := e.wrong.filter (SymErr.exists x8)
  if e.other then .uncorrectable
  else match l with
    | [] => .clean
    | a :: _ => if !withinCode x8 l then e.beyond
      else .corrected (if l.all (fun b => b.device = a.device) then Fin.ofNat 16 a.device else 15)

/-- Did the read go past the code's guarantee, so that the bytes it gave need not be those that DRAM holds? -/
def LineRead.astray (x8 : Bool) (e : LineRead) : Bool := e.other || !withinCode x8 (e.wrong.filter (SymErr.exists x8))

/-- The bytes a read gives, and those it leaves for a write-back or a marker to write where they are not the line's own. -/
def LineRead.given (x8 : Bool) (e : LineRead) (own : List Byte) : List Byte := if e.astray x8 then e.data else own
def LineRead.kept (x8 : Bool) (e : LineRead) : List Byte := if e.astray x8 then e.data else []

end Sys2Proof

namespace Sys2Proof.Machine

/-- Does the channel have x8 devices (R115)? -/
def State.x8 (s : State) (c : Nat) : Bool := s.flag (Reg.DCH_STAT_WIDTH c)

/-! ### Errors (R131 to R137, R150) -/

/-- Who read a line that was uncorrectable, as k = 1 carries it (DESIGN CHOICE, notes/assumptions/21.md): 0 to 3 the port, 4 the copy
engine, 5 patrol, 6 the save. -/
abbrev Requester := Nat

/-- The location registers of an error (R159). -/
def State.errorLocation (s : State) (c f i device : Nat) (ue : Bool) : State :=
  let a := s.lineAddr f i
  let s := ((s.setB (Reg.DCH_ECC_LAST_UE c) ue).set (Reg.DCH_ECC_LAST_SUB c) a.sub).set (Reg.DCH_ECC_LAST_RANK c) a.rank
  let s := (s.set (Reg.DCH_ECC_LAST_BANK c) (a.bankGroup * 4 + a.bank)).set (Reg.DCH_ECC_LAST_DEVICE c) device
  let s := s.set (Reg.DCH_ECC_LAST_ROW c) a.row
  (s.set (Reg.DCH_ECC_LAST_LINE_G c) (f / 8)).set (Reg.DCH_ECC_LAST_LINE_LINE c) i

/-- A row becomes a pending repair (R135). -/
def State.pendRow (s : State) (c : Nat) (e : RowEntry) : State :=
  let same := fun (x : RowEntry) => x.rank = e.rank && x.sub = e.sub && x.bank = e.bank && x.row = e.row
  if (s.ch c).pendingRows.any same then s else
    let s := s.updCh c fun x => { x with pendingRows := x.pendingRows ++ [e], recordDue := true }
    let s := (s.set (Reg.DCH_STAT_PPR_PENDING c) 1).set (Reg.DCH_REPAIR_PENDING c) (satW 8 (s.ch c).pendingRows.length)
    s.raise (srcDram c 14) [d4 e.row, d1 0]

/-- Take out of the row table the entry with the lowest count, the first of them on a tie. -/
def dropLowest (l : List RowEntry) : List RowEntry :=
  match (l.map (·.count)).min? with
  | none => l
  | some m => l.eraseIdx ((l.findIdx? fun x => x.count = m).getD 0)

/-- Count a correctable error in the row table of 64 entries, or note an uncorrectable one (R135). -/
def State.rowTable (s : State) (c f i : Nat) (ue : Bool) : State :=
  let a := s.lineAddr f i
  let bank := a.bankGroup * 4 + a.bank
  let same := fun (x : RowEntry) => x.rank = a.rank && x.sub = a.sub && x.bank = bank && x.row = a.row
  let old := ((s.ch c).rows.find? same).getD ⟨a.rank, a.sub, bank, a.row, 0⟩
  let new := if ue then old else { old with count := old.count + 1 }
  let kept := (s.ch c).rows.filter fun x => !(same x)
  let kept := if kept.length ≥ 64 then dropLowest kept else kept
  let s := s.updCh c fun x => { x with rows := kept ++ [new] }
  if ue || s.get (Reg.DCH_ECC_CFG_CE_ROW_LIMIT c) ≤ new.count then s.pendRow c new else s

/-- A correctable error (R131); `data` is what the decoder made of the line where that is not the line's own. -/
def State.correctable (s : State) (c f i device : Nat) (data : List Byte) : State :=
  let s := ((s.count (Reg.DCH_ECC_CE_COUNT c)).errorLocation c f i device false).rowTable c f i false
  let s := if s.flag (Reg.DCH_SCRUB_CTL_WRITEBACK c) then
      s.updCh c fun x => { x with writebacks := x.writebacks ++ [{ frame := f, line := i, data := data }] } else s
  let n := if (s.ch c).cePhrase = s.bar / 256 then (s.ch c).ceCount + 1 else 1
  let s := s.updCh c fun x => { x with cePhrase := s.bar / 256, ceCount := n }
  if n = s.get (Reg.DCH_ECC_CFG_CE_EVT_LIMIT c) then
    s.raise (srcDram c 0) [d4 n, d4 (s.word (0x40014 + 0x4000 * c)), d4 (s.word (0x40018 + 0x4000 * c))]
      [⟨none, .informational, .dram, 0⟩]
  else s

/-- A cause for which a channel fails at the next downbeat; the first that arises stands (R150). -/
def State.failCause (s : State) (c cause : Nat) : State :=
  s.updCh c fun x => { x with failNext := x.failNext <|> some (cause, s.bar) }

/-- A new uncorrectable read: its location, its row, the limit of R150, and k = 1 (R132, R135, R150, R160). -/
def State.uncorrectable (s : State) (c f i : Nat) (who : Requester) (cxl : List CxlRec := []) : State :=
  let s := ((s.count (Reg.DCH_ECC_UE_COUNT c)).errorLocation c f i 15 true).rowTable c f i true
  let w := s.bar / 262144
  let n := if (s.ch c).ueWindow = w then (s.ch c).ueCount + 1 else 1
  let s := s.updCh c fun x => { x with ueWindow := w, ueCount := n }
  let s := s.when (decide (s.get (Reg.DCH_ECC_CFG_UE_FAIL_LIMIT c) < n) && s.serving c) fun s => s.failCause c 3
  s.raise (srcDram c 1) [d4 (f / 8), d2 i, d1 who] cxl

/-- A line waits for its poison marker, written in quads of the port's write voice, of the SCRUB voice where no port asked, or in
rests (R132, R133). -/
def State.wantMark (s : State) (c f i : Nat) (port : Option (Fin 4) := none) (data : List Byte := []) : State :=
  if (s.ch c).marks.any (fun x => x.frame = f && x.line = i) then s
  else s.updCh c fun x => { x with marks := x.marks ++ [{ frame := f, line := i, port := port, data := data }] }

/-- The host requests of a port that are not yet issued: in a channel's queue, waiting for a fetch, or held (R41, R44, R186). -/
def State.waitingOf (s : State) (p : Nat) : List HostReq :=
  ((channels.flatMap fun c => (s.ch c).reqs) ++ s.tile.waits ++ s.tile.held.map (·.req)).filter fun r => r.port = p

/-- DevLoad as R186 chooses it at a response: the highest matching row; while persistence is not assured, Severe overload (R220). -/
def State.devLoad (s : State) (p : Nat) : Nat :=
  let top := ((s.waitingOf p).map fun r => s.urgency r s.now).foldl max 0
  if top = 3 || s.flag Reg.TILE_STAT_HOLD || !(s.flag Reg.TILE_STAT_ASSURED) then 3
  else if top = 2 || s.flag Reg.TILE_STAT_STRAIN then 2
  else top

/-- The response of a request leaves its port: DevLoad, and the longest time seen (R186, R195). A response owed from before
the link went down is discarded (R165). -/
def State.respond (s : State) (p stamp : Nat) (o : Out) : State :=
  let write := match o with | .writeDone .. => true | _ => false
  let s := s.updPort p fun x => { x with owed := subCredit write x.owed }
  if stamp < (s.portState p).dropBefore then s else
  let s := s.updPort p fun x => { x with freed := addCredit write x.freed }
  let s := s.set (Reg.HPORT_STAT_DEVLOAD p) (s.devLoad p)
  let s := s.peak (Reg.HPORT_LAT_STAT_MAX_NS p) (ceilDiv ((s.now - stamp) * 5) 8)
  { s with outs := s.outs ++ [o] }

/-- The record of poison met by a host read: General Media, Failure log, requesting LD and DPA (R132, R188). -/
def State.mediaRecord (s : State) (r : HostReq) : List CxlRec :=
  [⟨some (r.port, r.ld), .failure, .generalMedia, s.dpaOf r.tile (r.line * 64)⟩]

/-- Read data returns for the oldest issued read of a channel (R131 to R133). -/
def State.readReturn (s : State) (c : Nat) (e : LineRead) : State :=
  match (s.ch c).issued with
  | [] => s
  | r :: l =>
    let s := s.updCh c fun x => { x with issued := l }
    let x8 := s.x8 c
    let send := fun (s : State) poison data => s.respond r.port r.stamp (.readData r.port r.ld r.tag data poison)
    if r.poison then send (s.each (s.mediaRecord r) State.logOnly) true r.result
    else
      let data := e.given x8 r.result
      match e.decode x8 with
      | .clean => send s false data
      | .corrected d => send (s.correctable c r.frame r.line d (e.kept x8)) false data
      | .uncorrectable =>
        let s := s.uncorrectable c r.frame r.line r.port (s.mediaRecord r)
        send (s.wantMark c r.frame r.line (some r.port) (e.kept x8)) true data

/-- Lines that a copy-engine read of a frame met with errors: correctable ones are handled, and the uncorrectable ones that carry no
marker are counted and named, with what the decoder left of them (R131, R134, R241). -/
def State.readErrors (s : State) (f : Nat) (who : Requester) (l : List (Fin 1024 × LineRead)) : State × List (Nat × List Byte) :=
  let c := f % 8
  let x8 := s.x8 c
  l.foldl (fun st e =>
    if st.1.poisoned f e.1 then st else match e.2.decode x8 with
      | .clean => st
      | .corrected d => (st.1.correctable c f e.1 d (e.2.kept x8), st.2)
      | .uncorrectable => (st.1.uncorrectable c f e.1 who, st.2 ++ [(e.1.val, e.2.kept x8)])) (s, [])

/-- The oldest task of a list that `f` picks. -/
def pickTask {α : Type} (l : List Task) (f : Task → Option α) : Option (Task × α) :=
  l.findSome? fun k => (f k).map fun a => (k, a)

/-- A poison marker that a quad has issued is written: the data as read, with the marker (R133). -/
def State.markWritten (s : State) (c : Nat) : State :=
  match pickTask (s.ch c).tasks (fun k => match k with | .marker x => some x | _ => none) with
  | none => s
  | some (k, x) =>
    let s := s.takeTask c k
    let s := if x.data.length = 64 then s.writeFrame x.frame (x.line * 64) x.data else s
    s.mark c x.frame x.line

/-! ### Overruns reported within the bar (R61, R62) -/

/-- A DRAM contract overrun in this bar: recorded at the next downbeat; the bar is excluded from the bound (R62, R66). `busy`
counts the rest bars at whose end the operation is still incomplete; in a rest bar the downbeat takes one off (R63). -/
def State.overrunDram (s : State) (c excess busy : Nat) : State :=
  let s := s.updCh c fun x => { x with
    overruns := x.overruns ++ [excess], busy := max x.busy (if x.restBars = 0 then busy else busy + 1) }
  let m := s.get Reg.SCORE_STAT_VOID_MASK
  (s.set Reg.SCORE_STAT_VOID_MASK (Nat.lor m (2 ^ c))).set Reg.SCORE_STAT_BOUND_VOID 1

/-! ### Temperature (R120, R121) -/

/-- The hottest of a list of readings: lowest rank, then lowest subchannel on a tie (R158). -/
def hottest (l : List TempReading) : Option TempReading :=
  l.foldl (fun b x => match b with
    | none => some x
    | some y =>
      if y.celsius < x.celsius || (y.celsius = x.celsius && (x.rank.val * 2 + x.sub.val < y.rank.val * 2 + y.sub.val)) then
        some x else some y) none

/-- A completed temperature read (R120, R158); the first sets PEAK_C whatever its sign. -/
def State.tempRead (s : State) (c : Nat) (l : List TempReading) : State :=
  match hottest l with
  | none => s
  | some h =>
    let first := !(s.flag (Reg.DCH_TEMP_VALID c)) && !(s.ch c).stale
    let peak := if first || signed8 (s.get (Reg.DCH_TEMP_PEAK_C c)) < h.celsius then byteOfInt h.celsius
      else s.get (Reg.DCH_TEMP_PEAK_C c)
    let start := (s.risen (Reg.DCH_TEMP_PEAK_C c)).1
    let s := ((s.set (Reg.DCH_TEMP_TEMP_C c) (byteOfInt h.celsius)).set (Reg.DCH_TEMP_PEAK_C c) peak).set
      (Reg.DCH_TEMP_VALID c) 1
    let s := s.setRisen (Reg.DCH_TEMP_PEAK_C c) (start, 1)
    let s := ((s.set (Reg.DCH_TEMP_HOT_RANK c) h.rank).set (Reg.DCH_TEMP_HOT_SUB c) h.sub).setB (Reg.DCH_TEMP_MR4_2X c)
      (l.any (·.mr4))
    (s.updCh c fun x => { x with tempSlot := s.now, stale := false }).updHot c

/-! ### Training and repair (R123 to R126, R140, R141) -/

/-- The card configuration as the training record holds it (R115, R124). -/
def State.cardConfig (s : State) (c : Nat) : List Nat :=
  [s.get (Reg.DCH_STAT_WIDTH c), s.get (Reg.DCH_STAT_DENSITY c), s.get (Reg.DCH_STAT_RANKS c), s.get (Reg.DCH_STAT_RCD c)]

/-- The slot of a channel's training record that counts: of those whose commit word and CRC hold, the one written last, with its place
(R126). -/
def DramCh.newestSlot (x : DramCh) : Option (Nat × TrainSlot) :=
  (x.slots.zipIdx.filterMap fun e => e.1.bind fun k => if k.commit && k.crcOk then some (e.2, k) else none).foldl
    (fun b e => match b with
      | none => some e
      | some d => if d.2.seq < e.2.seq then some e else some d) none

/-- Is the channel's seed valid at this training, whose first temperature read is made (R121, R124)? -/
def State.seedValid (s : State) (c : Nat) (spd : List Byte) : Bool :=
  match (s.ch c).newestSlot with
  | none => false
  | some (_, k) => match k.seed with
    | none => false
    | some d => k.identity = Config.identityKey && d.spd = spd && k.config = s.cardConfig c
        && decide ((s.tempC c - d.celsius).natAbs ≤ 25) && decide (s.get Reg.OP_SECONDS_SECONDS < d.opSeconds + 31536000)

/-- Pending repairs and retired frames of a channel show (R156, R159). -/
def State.showRepairs (s : State) (c : Nat) : State :=
  let x := s.ch c
  let s := (s.setB (Reg.DCH_STAT_PPR_PENDING c) (!x.pendingRows.isEmpty)).set (Reg.DCH_REPAIR_PENDING c)
    (satW 8 x.pendingRows.length)
  s.set (Reg.DCH_REPAIR_RETIRED c) x.retired.length

/-- A channel takes up what its training record holds of repairs and retired frames (R123, R126, R159). -/
def State.loadRecord (s : State) (c : Nat) : State :=
  match (s.ch c).newestSlot with
  | none => s
  | some (_, k) =>
    ((s.updCh c fun x => { x with pendingRows := k.pending, retired := k.retired }).set (Reg.DCH_REPAIR_PPR_DONE c) k.done).showRepairs c

/-- A channel starts to train; until its first temperature read it reports above 85 °C (R121, R123). -/
def State.trainStart (s : State) (c : Nat) : State :=
  (((s.loadRecord c).setChState c chTraining).updCh c fun x => { x with trained := false }).setB (Reg.DCH_STAT_HOT c)
    (!(s.flag (Reg.DCH_TEMP_VALID c)))

/-- The training record of a channel is written to the slot that does not hold the newest (R126): its seed, or the one it had where that
is this Niril's, with its pending repairs and retired frames. A write that fails leaves that slot without its commit word, and
the record still due. -/
def State.writeTraining (s : State) (c : Nat) (ok : Bool) : State :=
  let x := s.ch c
  let old := x.newestSlot
  let kept := old.bind fun e => if e.2.identity = Config.identityKey then e.2.seed else none
  let slot : TrainSlot := ⟨(old.map (·.2.seq + 1)).getD 0, Config.identityKey, s.cardConfig c, x.seedNew <|> kept, x.pendingRows,
    x.retired, s.get (Reg.DCH_REPAIR_PPR_DONE c), ok, ok⟩
  s.updCh c fun y => { y with
    slots := y.slots.set ((old.map (1 - ·.1)).getD 0) (some slot)
    seedNew := if ok then none else y.seedNew
    recordDue := !ok && y.recordDue }

/-- A channel fails training or its SPD check: k = 7 (R115, R123). -/
def State.trainFail (s : State) (c cause detail : Nat) : State :=
  ((s.set (Reg.DCH_STAT_FAIL_CAUSE c) cause).setChState c chFailed).raise (srcDram c 7) [d1 detail]

/-- The frames that hold a row on its rank (R141). -/
def State.rowFrames (s : State) (e : RowEntry) : List Nat :=
  (List.range s.fpr).map fun k => e.rank * (s.fpr * s.rowsPerBank) + e.row * s.fpr + k

/-- Repair one pending row where the device reports a spare; otherwise retire its frames, or, past the limit of 1,024, leave the row
pending and fail the channel (R140, R141). Answers whether the channel failed. -/
def State.repairRow (c : Nat) (st : State × Bool) (x : RowEntry × Bool) : State × Bool :=
  let s := st.1
  let settle := fun (s : State) => s.updCh c fun y => { y with pendingRows := y.pendingRows.erase x.1, recordDue := true }
  if x.2 then (((settle s).count (Reg.DCH_REPAIR_PPR_DONE c)).raise (srcDram c 14) [d4 x.1.row, d1 1], st.2)
  else
    let new := (s.rowFrames x.1).filter fun g => !((s.ch c).retired.contains g)
    if 1024 < (s.ch c).retired.length + new.length then (s, true)
    else (((settle s).updCh c fun y => { y with retired := y.retired ++ new }).raise (srcDram c 14) [d4 x.1.row, d1 2], st.2)

/-- Carry out the pending repairs of a channel that trains. -/
def State.repair (s : State) (c : Nat) (spares : List Bool) : State × Bool :=
  let rows := (s.ch c).pendingRows
  let r := (rows.zipIdx.map fun x => (x.1, spares.getD x.2 false)).foldl (State.repairRow c) (s, false)
  (r.1.showRepairs c, r.2)

/-- A channel's training ends (R121, R123 to R125). -/
def State.trainEnd (s : State) (c : Nat) (o : TrainOutcome) : State :=
  if !o.spdOk then s.trainFail c 5 5 else
  let s := s.tempRead c (o.temp :: o.temps)
  let seeded := s.seedValid c o.spd
  let quick := seeded && o.seededPass && decide (12 ≤ o.margin.val)
  let s := if seeded && !quick then s.raise (srcDram c 8) [d1 o.margin, d1 o.lane] else s
  let s := (s.set (Reg.DCH_TRAIN_LAST_MS c) (satW 16 o.ms)).set (Reg.DCH_TRAIN_MARGIN c) o.margin
  if quick || o.fullPass then
    let result := if quick then 2 else if seeded then 3 else 1
    let s := (s.set (Reg.DCH_TRAIN_RESULT c) result).setB (Reg.DCH_STAT_SEEDED c) quick
    let s := s.raise (srcDram c 6) [d1 result, d2 o.ms, d1 o.margin]
    let s := if quick then s else s.updCh c fun x => { x with
      seedNew := some ⟨o.spd, s.tempC c, s.get Reg.OP_SECONDS_SECONDS⟩, recordDue := true }
    let r := s.repair c o.spares
    if r.2 then ((r.1.set (Reg.DCH_STAT_FAIL_CAUSE c) 6).setChState c chFailed)
    else r.1.updCh c fun x => { x with trained := true }
  else
    ((s.set (Reg.DCH_TRAIN_RESULT c) 4).set (Reg.DCH_TRAIN_FAIL_STEP c) o.failStep).trainFail c 1 o.failStep

/-! ### Patrol (R136 to R138) -/

/-- The tile whose frame is `f`. -/
def State.tileOfFrame (s : State) (f : Nat) : Option Nat := (s.tile.map.find? fun e => e.2 = f + 1).map (·.1)

/-- Does the frame lie in the pool (R118)? -/
def State.inPool (s : State) (f : Nat) : Bool := !((s.takenFrames (f % 8)).contains (f / 8))

/-- What patrol does with an uncorrectable line that is not marked (R137): a frame that neither a tile nor the pool holds is left to
what uses it. -/
def State.patrolUe (s : State) (c f i : Nat) (data : List Byte) : State :=
  let s := s.uncorrectable c f i 5
  let zero := fun (s : State) => s.updCh c fun x => { x with writebacks := x.writebacks ++ [{ frame := f, line := i, zero := true }] }
  match s.tileOfFrame f with
  | none => if s.inPool f then zero s else s
  | some t =>
    let k := s.code t
    if k = codeClean then (s.setCode t codeAbsent).raise (srcDram c 13) [dTile t, d4 (f / 8)]
    else if k = codeZero then zero s
    else if inD k then s.wantMark c f i none data
    else s

/-- The first frame from `g` on that is not retired. -/
def skipRetired (l : List Nat) (g : Nat) : Nat :=
  match (List.range (l.length + 1)).find? fun k => !(l.contains (g + k)) with
  | some k => g + k
  | none => g

/-- Patrol's place, past frames that are retired (R136, R141). -/
def DramCh.patrolPlace (x : DramCh) (pos : Nat) : Nat :=
  if x.retired.contains (pos / 1024) then skipRetired x.retired (pos / 1024) * 1024 else pos

/-- Patrol reads the next line of a frame that is not retired, and goes on to the line after it (R136). -/
def State.patrol (s : State) (c : Nat) (e : LineRead) : State :=
  let total := s.framesPerChannel * 1024
  let pos := (s.ch c).patrolPlace (s.ch c).patrolLine
  let f := 8 * (pos / 1024) + c
  let i := pos % 1024
  let x8 := s.x8 c
  let s := if s.poisoned f i then s else match e.decode x8 with
    | .clean => s
    | .corrected d => (s.correctable c f i d (e.kept x8)).updCh c fun x => { x with patrolErrors := x.patrolErrors + 1 }
    | .uncorrectable => (s.patrolUe c f i (e.kept x8)).updCh c fun x => { x with patrolErrors := x.patrolErrors + 1 }
  let next := (s.ch c).patrolPlace (pos + 1)
  if next < total then
    (s.updCh c fun x => { x with patrolLine := next }).set (Reg.DCH_SCRUB_PROGRESS c) (next * 65536 / total)
  else
    let s := (s.bump (Reg.DCH_SCRUB_PASSES c)).set (Reg.DCH_SCRUB_PROGRESS c) 0
    let s := s.raise (srcDram c 3) [d4 (s.get (Reg.DCH_SCRUB_PASSES c)), d4 (s.ch c).patrolErrors]
    s.updCh c fun x => { x with patrolLine := 0, patrolErrors := 0 }

/-- The write-back that a quad has issued is written (R131, R137). -/
def State.writeback (s : State) (c : Nat) : State :=
  match pickTask (s.ch c).tasks (fun k => match k with | .writeback x => some x | _ => none) with
  | none => s
  | some (k, x) =>
    let s := s.takeTask c k
    if x.zero then (s.setPoison x.frame x.line false).writeFrame x.frame (x.line * 64) (List.replicate 64 0#8)
    else if x.data.length = 64 then s.writeFrame x.frame (x.line * 64) x.data
    else s

/-! ### Channels out of service (R142 to R154) -/

def State.updOffline (s : State) : State := s.set Reg.SCORE_STAT_OFFLINE_MASK (maskOf s.outOfService)

/-- DCH_n_RELOC.REMAIN, which is live while the channel relocates, keeps what it shows as that ends (R145, R159). -/
def State.keepRemain (s : State) (c : Nat) : State := s.set (Reg.DCH_RELOC_REMAIN c) (s.mappedFrames c).length

/-- What changed at this downbeat has the bar planned anew (R20). -/
def State.replan (s : State) : State := if s.planned then s.planBar false false false else s

/-- Queue a frame for scrub-to-zero (R174, R136). -/
def State.queueZero (s : State) (f : Nat) : State :=
  ({ s with dram := { s.dram with zeroQueue := s.dram.zeroQueue ++ [f] } }).addJob (f % 8) .zero f

/-- Frames of a channel leave the zeroing queue with it (R182). -/
def State.dropZeroing (s : State) (c : Nat) : State :=
  let s := { s with dram := { s.dram with zeroQueue := s.dram.zeroQueue.filter fun f => f % 8 ≠ c } }
  s.dropJobs c (·.kind = .zero)

/-- A tile moves to another frame; the old one is zeroed before it can join the pool (R118, R145). -/
def State.moveTile (s : State) (t dst : Nat) : State :=
  let s' := match s.frameOf t with
    | some f => s.vacate f
    | none => s
  s'.setFrame t (some dst)

/-- The next tile of the relocation walk on channel `c`: mapped there, in ascending g, not IN_FLIGHT (R145). -/
def State.relocNext (s : State) (c : Nat) : Option Nat :=
  let tiles := (s.tile.map.filter fun e => (e.2 - 1) % 8 = c).filter fun e => s.code e.1 ≠ codeFlight
  (sortBy (fun a b => a.2 ≤ b.2) tiles).head?.map (·.1)

/-- One tile of the walk: a ZERO tile switches at once; another is given a frame of the pool, to which quads copy it line by line
(R145). A line that cannot be corrected gets its marker before the copy reads it (DEDUCED, notes/assumptions/78.md). -/
def State.relocStep (s : State) (c : Nat) (errs : List (Fin 1024 × LineRead)) : State :=
  match (s.ch c).copying, s.relocNext c, s.nextFrame with
  | none, some t, some f =>
    if s.code t = codeZero then s.moveTile t f
    else
      let s := s.updCh c fun x => { x with copying := some ⟨t, f, 0, []⟩ }
      match s.frameOf t with
      | none => s
      | some src =>
        let r := s.readErrors src 4 errs
        r.1.each r.2 fun s e => s.wantMark c src e.1 none e.2
  | _, _, _ => s

/-- Is the last line of a copy written? -/
def Reloc.done (k : Reloc) : Bool := decide (1024 ≤ k.readAt) && k.buf.isEmpty

/-- At the downbeat after its last line is written, the tile map names the new frame (R145). -/
def State.relocSwitch (s : State) (c : Nat) : State :=
  match (s.ch c).copying with
  | some k => if k.done then (s.updCh c fun x => { x with copying := none }).moveTile k.tile k.dst else s
  | none => s

/-- A relocation ends before its time: the copy under way is dropped, RESULT shows 4, and k = 10 is raised (R148, R154). -/
def State.relocStop (s : State) (c : Nat) : State :=
  let s := ((s.dropCopy c).keepRemain c).set (Reg.DCH_RELOC_RESULT c) 4
  s.raise (srcDram c 10) [d1 4, d4 (s.get (Reg.DCH_RELOC_REMAIN c))]

/-- A relocation or a return is abandoned (R148): the channel goes back. A departure that still waits is dropped with it (R60). -/
def State.relocAbandon (s : State) (c : Nat) : State :=
  let s := s.updCh c fun x => { x with leaving := false }
  if s.chState c = chRelocating then (s.relocStop c).setChState c chInService
  else if s.chState c = chReturning then
    ((s.updCh c fun x => { x with trained := false }).dropJobs c (·.kind = .zero)).setChState c chOffline
  else s

/-- A relocation completes, at a downbeat with zero debt (R147). -/
def State.relocDone (s : State) (c : Nat) : State :=
  let s := ((s.keepRemain c).set (Reg.DCH_RELOC_RESULT c) 2).setChState c chOffline
  ((s.dropZeroing c).raise (srcDram c 10) [d1 2, d4 (s.get (Reg.DCH_RELOC_REMAIN c))]).updOffline.replan

/-- The requests queued or issued on a failed channel are answered at the failure: reads with poison, writes discarded
(DEDUCED, notes/assumptions/22.md). -/
def State.failRequests (s : State) (c : Nat) : State :=
  let l := (s.ch c).issued ++ (s.ch c).reqs.filter fun r => !r.write
  let s := s.updCh c fun x => { x with
    reqs := [], issued := [], marks := [], writebacks := [], tasks := [], work := .none, banks := [] }
  s.each l fun s r => s.respond r.port r.stamp (.readData r.port r.ld r.tag r.result true)

/-- What becomes of one tile of a failed channel (R151). The cause 2 of a tile lost in a save is a channel failure. -/
def State.failTile (s : State) (t : Nat) : State :=
  let k := s.code t
  if k = codeClean then (s.setCode t codeAbsent).rehome t
  else if k = codeZero then s.rehome t
  else if k = codeAbsent then s.rehome t
  else if inD k then s.loseInSave t 2
  else s.setFrame t none

/-- A channel fails at a downbeat: first the relocations that run are abandoned, its own too (R150, R151, R154). -/
def State.failChannel (s : State) (c cause : Nat) : State :=
  let s := s.each (channels.filter (· ≠ c)) fun s d => if s.chState d = chRelocating then s.relocAbandon d else s
  let s := if s.chState c = chRelocating then s.relocStop c else s
  let tiles := (s.tile.map.filter fun e => (e.2 - 1) % 8 = c).map (·.1)
  let s := (s.failRequests c).updCh c fun x => { x with
    failNext := none, leaving := false, restBars := 0, busy := 0, overruns := [] }
  let s := (((s.set (Reg.DCH_STAT_FAIL_CAUSE c) cause).setChState c chFailed).debtClear c).dropZeroing c
  let lost := (tiles.filter fun t => inD (s.code t)).length
  let s := s.each tiles fun s t => s.setFrame t none
  let s := (s.each tiles State.failTile).updOffline.replan
  let homeless := (tiles.filter s.isHomeless).length
  let homed := (tiles.filter fun t => (s.frameOf t).isSome).length
  s.raise (srcDram c 11) [d1 cause, d4 lost, d4 homed, d4 homeless] [⟨none, .warning, .memoryModule, 0⟩]

/-- A channel that leaves service becomes RELOCATING at a downbeat at which its debt is 0 (R60, R143, R144; that the command is in
effect while it waits is DEDUCED, notes/assumptions/67.md). -/
def State.leaveStep (s : State) : State :=
  s.each channels fun s c =>
    if (s.ch c).leaving && s.debt c = 0 && s.chState c = chInService then
      ((s.updCh c fun x => { x with leaving := false }).setChState c chRelocating).set (Reg.DCH_RELOC_RESULT c) 1
    else s

/-- DCH_OFFLINE (R144). -/
def opDchOffline (p : Pkt) (s : State) : OpResult :=
  let c := p.u8 0
  let others := channels.filter (· ≠ c)
  if !(p.genOk (s.get (Reg.DCH_GEN_GEN c))) then .refuse s stStale
  else if channels.any (fun d => s.chState d ≠ chInService || (s.ch d).leaving) then .refuse s stForbids
  else if s.saving || s.restoring then .refuse s stForbids
  else if (others.map s.freeFrames).sum < (s.mappedFrames c).length then .refuse s stForbids
  else
    let s := (s.updCh c fun x => { x with leaving := true }).leaveStep
    .ok s (s.words [0x40000 + 0x4000 * c, 0x4003C + 0x4000 * c])

/-- DCH_ONLINE (R149). -/
def opDchOnline (p : Pkt) (s : State) : OpResult :=
  let c := p.u8 0
  if !(p.genOk (s.get (Reg.DCH_GEN_GEN c))) then .refuse s stStale
  else if !(s.chState c = chOffline || (p.expert && s.chState c = chFailed)) then .refuse s stForbids
  else if s.saving || s.restoring then .refuse s stForbids
  else
    let s := (s.setChState c chReturning).updCh c fun x => { x with trained := false }
    let s := s.set (Reg.DCH_STAT_FAIL_CAUSE c) 0
    .ok s (s.words [0x40000 + 0x4000 * c, 0x4003C + 0x4000 * c])

/-- A frame of a released region has joined the pool: k = 6 when it is the last of that release (R178). -/
def State.joined (s : State) (f : Nat) : State :=
  let mine := s.tile.origins.find? fun o => o.frame = f
  let s := s.updTile fun x => { x with origins := x.origins.filter fun o => o.frame ≠ f }
  match mine with
  | none => s
  | some o =>
    if s.tile.origins.any fun k => k.region = o.region && k.bar = o.bar then s
    else s.raise (srcPort o.port 6) [dRegion o.region, d4 (s.bar - o.bar)]

/-- A return completes: zeroed frames, those that left the zeroing queue with the channel among them (R182), join the pool and the
channel serves (R149, R152). -/
def State.returnDone (s : State) (c : Nat) : State :=
  let s := { s with dram := { s.dram with
      bytes := s.dram.bytes.filter fun e => e.1 / 65536 % 8 ≠ c
      poison := s.dram.poison.filter fun e => e.1 / 1024 % 8 ≠ c } }
  let s := (s.updCh c fun x => { x with trained := false }).dropJobs c (·.kind = .zero)
  let s := s.each ((s.tile.origins.map (·.frame)).filter fun f => f % 8 = c && !(s.busyFrames.contains f)) State.joined
  ((s.setChState c chInService).updOffline).grantHomeless.replan

/-- SCRUB_SET (R139); the reply shows the fields as they will stand (R479). -/
def opScrubSet (p : Pkt) (s : State) : OpResult :=
  let s := s.each (channels.filter (bitAt (p.u8 0))) fun s c =>
    let s := s.later (Reg.DCH_SCRUB_CTL_PATROL_EN c) (p.u8 1)
    if p.expert then
      let s := s.later (Reg.DCH_SCRUB_CTL_WRITEBACK c) (p.u8 2)
      if p.u8 3 = 1 then
        (s.updCh c fun x => { x with patrolLine := 0, patrolErrors := 0 }).set (Reg.DCH_SCRUB_PROGRESS c) 0
      else s
    else s
  .ok s (wordsBytes (channels.map fun c => s.comingWord (0x40024 + 0x4000 * c)))

/-- DCH_STATUS (R159, R484). -/
def opDchStatus (p : Pkt) (s : State) : OpResult :=
  .ok s (s.words ((channels.filter (bitAt (p.u8 0))).flatMap fun c => (List.range 16).map fun i => 0x40000 + 0x4000 * c + 4 * i))

/-- Parameters that name one DRAM channel and are otherwise reserved (R474, R484). -/
def oneChannel (ps : List Byte) : Bool := ps.length = 4 && zeroAt ps 1 3 && decide (leAt ps 0 1 ≤ 7)

def dchStatusOp : PktOp :=
  ⟨0x0201, some .host, false, fun _ ps => ps.length = 4 && zeroAt ps 1 3, fun _ p => 64 * popcount (p.u8 0) 8, opDchStatus⟩
def dchOfflineOp : PktOp := ⟨0x0202, some .mgmt, false, fun _ ps => oneChannel ps, fun _ _ => 8, opDchOffline⟩
def dchOnlineOp : PktOp := ⟨0x0203, some .mgmt, false, fun _ ps => oneChannel ps, fun _ _ => 8, opDchOnline⟩
def scrubSetOp : PktOp := ⟨0x0204, some .mgmt, true, fun _ ps => ps.length = 4, fun _ _ => 32, opScrubSet⟩

end Sys2Proof.Machine
end

