-- ==== Sys2Proof/Machine/ScoreLoad.lean ====
section
/-! DEFINITION. Loading, verifying and arming score images (spec/03_score_contract.md R97 to R104), and the SCORE register
writes with rules of their own. -/

namespace Sys2Proof.Machine

/-- The states of SCORE_LOAD_STAT.STATE (R109). -/
def loadEmpty : Nat := 0
def loadLoading : Nat := 1
def loadVerifying : Nat := 2
def loadVerified : Nat := 3
def loadRejected : Nat := 4
def loadArmPending : Nat := 5

def State.loadState (s : State) : Nat := s.get Reg.SCORE_LOAD_STAT_STATE

def scoreLoadStat : Nat := 0x20010

/-- An accepted BEGIN (R98). -/
def State.loadBegin (s : State) (src total id rev : Nat) : State :=
  let s := s.updSeq fun q => { q with staged := { Staged.empty with img := ⟨[], total⟩, id := id, rev := rev, since := s.bar } }
  let s := ((s.set Reg.SCORE_LOAD_STAT_STATE loadLoading).set Reg.SCORE_LOAD_STAT_SOURCE src).set
    Reg.SCORE_LOAD_STAT_PROGRESS 0
  let s := (s.set Reg.SCORE_LOAD_STAT_OWNER_KEY 0).set Reg.SCORE_LOAD_BYTES_BYTES 0
  s.raise 0x050 [d1 src, d4 id, d4 rev, d4 total]

/-- SCORE_LOAD_BEGIN (R98). -/
def opScoreLoadBegin (p : Pkt) (s : State) : OpResult :=
  let busyLoad := s.loadState = loadLoading || s.loadState = loadVerifying
  if busyLoad && s.get Reg.SCORE_LOAD_STAT_SOURCE ≠ srcNum p.src then .refuse s stBusy
  else if s.loadState = loadArmPending then .refuse s stBusy
  else if p.u32 0 > 8388608 || p.u32 0 % 16 ≠ 0 then .refuse s stInvalid
  else
    let s := s.loadBegin (srcNum p.src) (p.u32 0) (p.u32 4) (p.u32 8)
    .ok s (s.words [scoreLoadStat])

/-- Store a chunk and mark its 16-byte units (R99). -/
def Staged.put (g : Staged) (off : Nat) (data : List Byte) (bar : Nat) : Staged :=
  { g with
    img := { g.img with bytes := Store.setRange 0#8 g.img.bytes off data }
    units := Store.setRange false g.units (off / 16) (List.replicate (ceilDiv data.length 16) true)
    since := bar }

/-- SCORE_LOAD_DATA (R99). -/
def opScoreLoadData (p : Pkt) (s : State) : OpResult :=
  let off := p.u32 0
  let data := p.params.drop 8
  let total := s.seq.staged.img.length
  if s.loadState ≠ loadLoading || s.get Reg.SCORE_LOAD_STAT_SOURCE ≠ srcNum p.src || off + data.length > total
      || off % 16 ≠ 0 || (data.length % 16 ≠ 0 && off + data.length ≠ total) then .refuse s stInvalid
  else
    let s := s.updSeq fun q => { q with staged := q.staged.put off data s.bar }
    let s := s.set Reg.SCORE_LOAD_BYTES_BYTES (min (16 * s.seq.staged.units.length) total)
    .ok s (s.words [0x20018])

/-- Nothing is staged any longer: STATE is EMPTY, and no image is signed in a key slot (R99, R101, R109). BYTES, SOURCE and PROGRESS
keep what they showed (DESIGN CHOICE, notes/assumptions/72.md). -/
def State.unstage (s : State) : State :=
  ((s.updSeq fun q => { q with staged := Staged.empty }).set Reg.SCORE_LOAD_STAT_STATE loadEmpty).set Reg.SCORE_LOAD_STAT_OWNER_KEY 0

/-- The load is abandoned: EMPTY, with 0x056 (R99). -/
def State.loadAbandon (s : State) : State := s.unstage.raise 0x056 [d4 (s.get Reg.SCORE_LOAD_BYTES_BYTES)]

/-- SCORE_LOAD_END (R100). -/
def opScoreLoadEnd (p : Pkt) (s : State) : OpResult :=
  if s.get Reg.SCORE_LOAD_STAT_SOURCE ≠ srcNum p.src || s.loadState ≠ loadLoading
      || 16 * s.seq.staged.units.length < s.seq.staged.img.length then .refuse s stInvalid
  else
    let s := (s.set Reg.SCORE_LOAD_STAT_STATE loadVerifying).set Reg.SCORE_LOAD_STAT_PROGRESS 0
    .ok s (s.words [scoreLoadStat])

def State.setLoc (s : State) (l : Loc) : State :=
  (((s.set Reg.SCORE_LOAD_LOC_VARIANT l.variant).set Reg.SCORE_LOAD_LOC_UNIT l.unit).set Reg.SCORE_LOAD_LOC_BAR l.bar).set
    Reg.SCORE_LOAD_LOC_QUAD l.quad

/-- KEY_SLOT of the staged image's signature block (R94). -/
def Image.keySlot (g : Image) : Nat := g.u8 (g.length - 172)

/-- The end of verification (R95, R100): VERIFIED with 0x051, or REJECTED with the code and its location and 0x052, or
0x053 for the signature group, which SEC_SIG_FAIL counts and 0x1FF reports (R500, R519). PROGRESS goes to 255 at the end (DESIGN CHOICE,
notes/assumptions/72.md). -/
def State.verifyEnd (s : State) (x : VerifyCtx) : State :=
  let g := s.seq.staged
  let slot := g.img.keySlot
  let s := (s.set Reg.SCORE_LOAD_STAT_PROGRESS 255).setB Reg.SCORE_LOAD_STAT_OWNER_KEY (slot = 1)
  match g.img.verify x with
  | .ok score =>
    let s := s.updSeq fun q => { q with staged := { q.staged with score := some score }, result := stOk }
    (s.set Reg.SCORE_LOAD_STAT_STATE loadVerified).raise 0x051 [d4 g.id, d4 g.rev]
  | .error f =>
    let sig := f.code / 256 = 0x0A
    let s := s.updSeq fun q => { q with result := if sig then stSignature else stReject }
    let s := ((s.set Reg.SCORE_LOAD_STAT_STATE loadRejected).set Reg.SCORE_LOAD_STAT_DETAIL f.code).setLoc f.loc
    if sig then ((s.count Reg.SEC_SIG_FAIL_SCORE).raise 0x053 [d2 f.code, d1 slot]).raise 0x1FF [d1 1, d1 slot]
    else s.raise 0x052 [d2 f.code, d4 (s.word 0x20014)]

/-- SCORE_ARM (R101): its outcomes in order. -/
def opScoreArm (p : Pkt) (s : State) : OpResult :=
  if s.loadState ≠ loadVerified then .refuse s stNotArmed
  else if p.u32 0 ≠ s.seq.staged.id || !(p.genOk s.seq.staged.rev) then .refuse s stStale
  else if s.saving then .refuse s stForbids
  else
    let s := (s.set Reg.SCORE_LOAD_STAT_STATE loadArmPending).updSeq fun q => { q with armDeferred := false, armAt := s.bar }
    .ok s (s.words [scoreLoadStat])

/-- A save start cancels a pending arm (R102). DETAIL takes the code, and 0x052 the location that SCORE_LOAD_LOC shows (DESIGN CHOICE,
notes/assumptions/72.md). -/
def State.armCancel (s : State) : State :=
  if s.loadState = loadArmPending then
    ((s.set Reg.SCORE_LOAD_STAT_STATE loadVerified).set Reg.SCORE_LOAD_STAT_DETAIL 0x0B01).raise 0x052
      [d2 0x0B01, d4 (s.word 0x20014)]
  else s

/-- The registers that follow the playing image: SCORE_BOUND_n, PRESENT, the pools and isochronous flags of the ports
(R85, R88, R112). -/
def State.publishScore (s : State) (g : Score) : State :=
  let s := s.set Reg.SCORE_VARIANT_PRESENT g.variantMask
  s.each ports fun s p =>
    let s := (s.set (Reg.SCORE_BOUND_READ_NS p) (satW 16 (g.boundNs p false))).set (Reg.SCORE_BOUND_WRITE_NS p)
      (satW 16 (g.boundNs p true))
    let s := (s.setB (Reg.HPORT_STAT_ISOCH_IMAGE p) (g.port p).isoch).setB (Reg.HPORT_STAT_ISOCH p)
      ((g.port p).isoch || s.flag (Reg.HPORT_CFG_ISOCH p))
    let s := s.setB (Reg.HPORT_STAT_PRESENT p) (g.port p).present
    (s.set (Reg.HPORT_CREDITS_REQ_POOL p) (g.port p).reqPool).set (Reg.HPORT_CREDITS_RWD_POOL p) (g.port p).rwdPool

/-- An image begins to play: REQ falls to 0 where it lacks the variant, with 0x047, and R52 chooses the variant (R101). -/
def State.beginScore (s : State) (g : Score) : State :=
  let s := (s.updSeq fun q => { q with play := g }).publishScore g
  let s := if (g.tab (s.get Reg.SCORE_VARIANT_REQ)).isNone then
      (s.raise 0x047 [d1 (s.get Reg.SCORE_VARIANT_REQ)]).set Reg.SCORE_VARIANT_REQ 0
    else s
  (s.switchTo s.wanted false)

/-- The staged image starts to play, at a downbeat without refresh debt (R101). -/
def State.armSwap (s : State) (g : Score) : State :=
  let s := s.beginScore g
  let s := (s.updSeq fun q => { q with playDigest := q.staged.img.slice (q.staged.img.length - 160) 48 }).unstage
  let s := (s.set Reg.SCORE_STAT_ARMED 1).set Reg.SCORE_STAT_BOOT 0
  let s := ((s.set Reg.SCORE_PLAY_ID_ID g.id).set Reg.SCORE_PLAY_REV_REV g.rev).set Reg.SCORE_ARM_BAR_BAR s.bar
  (s.raise 0x054 [d4 g.id, d4 g.rev, d8 s.bar]).planBar true false false

/-- SCORE_QUERY (R483). -/
def opScoreQuery (_ : Pkt) (s : State) : OpResult :=
  let g := s.seq.play
  let st := s.seq.staged
  .ok s (leBytes 4 g.id ++ leBytes 4 g.rev ++ leBytes 1 g.variantMask ++ leBytes 1 0 ++ leBytes 2 s.seq.result
    ++ s.words [0x20004, 0x20008, 0x20024]
    ++ ports.flatMap (fun p =>
      let r := g.port p
      leBytes 4 r.readBound ++ leBytes 4 r.writeBound ++ leBytes 4 (g.boundNs p false) ++ leBytes 4 (g.boundNs p true))
    ++ s.words [0x20010, 0x20014, 0x20018]
    ++ leBytes 4 st.id ++ leBytes 4 st.rev)

def scoreLoadBeginOp : PktOp :=
  ⟨0x0101, none, true, fun _ ps => ps.length = 16 && zeroAt ps 12 4, fun _ _ => 4, opScoreLoadBegin⟩
def scoreLoadDataOp : PktOp :=
  ⟨0x0102, none, true, fun _ ps => decide (24 ≤ ps.length) && decide (ps.length ≤ 4056) && zeroAt ps 4 4, fun _ _ => 4,
    opScoreLoadData⟩
def scoreLoadEndOp : PktOp := ⟨0x0103, none, true, fun _ ps => ps.length = 0, fun _ _ => 4, opScoreLoadEnd⟩
def scoreArmOp : PktOp := ⟨0x0104, none, true, fun _ ps => ps.length = 4, fun _ _ => 4, opScoreArm⟩
def scoreQueryOp : PktOp := ⟨0x0105, some .host, false, fun _ ps => ps.length = 0, fun _ _ => 0x6C, opScoreQuery⟩

/-- A write of SCORE_VARIANT: a REQ that names an absent variant is ignored, with 0x047 (R53, R71). -/
def State.writeVariantReq (s : State) (v : Nat) : State :=
  let r := bitsAt v 8 3
  if (s.seq.play.tab r).isNone then s.raise 0x047 [d1 r] else s.later Reg.SCORE_VARIANT_REQ r

end Sys2Proof.Machine
end

