-- ==== Sys2Proof/Machine/Tiles.lean ====
section
/-! DEFINITION. The tile engine (spec/06_streaming_budget.md R198 to R223, spec/05_host_ports_regions.md R171 to R182):
error handling of its memories, admission, holds, the budget and the bounds it publishes. -/

namespace Sys2Proof.Machine

/-! ### Error handling of the tile memories (R171, R203) -/

/-- A word of the tile state memory read uncorrectable, or holding a code not used (R203). -/
def State.wordUe (s : State) (w : Nat) : State :=
  let tiles := (List.range 16).map (16 * w + ·)
  let inRegion := tiles.filter fun t => (s.regionOfTile t).isSome
  let lost := inRegion.filter fun t => s.code t ≠ codeLost
  let s := s.each lost fun s t => s.loseInSave t 4
  let s := s.each (tiles.filter fun t => !(inRegion.contains t)) fun s t => s.moveCode t codeUnmapped
  (s.count Reg.TILE_STATE_ERR_UE).raise 0x149 [dTile (16 * w), d1 lost.length]

/-- The outcome of reading a word of the tile state memory: a code not used counts as uncorrectable (R198, R203). -/
def State.readState (s : State) (w : Nat) (e : SecDed) : State :=
  let unused := (List.range 16).any fun i => let c := s.code (16 * w + i); (5 < c && c < 8) || (11 < c && c < 15)
  if unused then s.wordUe w else match e with
    | .clean => s
    | .corrected => s.count Reg.TILE_STATE_ERR_CE
    | .uncorrectable => s.wordUe w

/-- The outcome of reading the tile-map entry of tile `t` (R171): an entry in use, that of a homeless tile among them (R170), that is
uncorrectable makes the tile LOST, and a frame it names leaves the accounting. -/
def State.readMap (s : State) (t : Nat) (e : SecDed) : State :=
  if s.frameOf t = none && !(s.isHomeless t) then s else match e with
    | .clean => s
    | .corrected => s.count Reg.TILE_MAP_CE_COUNT
    | .uncorrectable =>
      let port := ((s.ownerOf t).map (·.1)).getD 0
      let s := match s.frameOf t with
        | some f => (s.setFrame t none).updTile fun x => { x with strayFrames := x.strayFrames ++ [f] }
        | none => s
      (s.loseInSave t 3).raise (srcPort port 13) [dTile t]

/-! ### Persistence and admission (R214, R215, R221, R222) -/

/-- H: the sum of RWD_POOL over the ports with PRESENT 1 (R212). -/
def State.margin (s : State) : Nat :=
  ((ports.filter fun p => (s.seq.play.port p).present).map fun p => (s.seq.play.port p).rwdPool).sum

/-- F: the assurance floor in tiles (R221). -/
def State.floorTiles (s : State) : Nat := s.get Reg.TILE_POLICY_FLOOR_GIB * 16384

def State.assured (s : State) : Bool := s.flag Reg.TILE_STAT_ASSURED

/-- The admission threshold A; none where no write is held (R214, R222). -/
def State.threshold (s : State) : Option Nat :=
  let n := s.get Reg.TILE_DMAX_TILES
  if s.assured then some n
  else if s.get Reg.TILE_POLICY_POLICY = 0 then none
  else some (max n s.floorTiles)

/-- Tiles that released writes will turn DIRTY once their touch fetch ends (R216). -/
def State.promised (s : State) : Nat := ((s.tile.waits.filter fun r => r.enters ≠ 0).map (·.tile)).dedup.length

/-- There is room for one more DIRTY tile: N is below A, or no write is held at all, or a fence is being built (R215, R222,
R237). -/
def State.admits (s : State) : Bool :=
  s.get Reg.TILE_SAVE_STAT_STATE = 1 || match s.threshold with
    | some a => decide (s.dirtyCount + s.promised < a)
    | none => true

/-- A write that would turn a tile DIRTY is accepted on arrival: there is room, and no older write is held (R215, R216). -/
def State.admitsNew (s : State) : Bool := s.admits && s.tile.held.isEmpty

def State.updExpedited (s : State) : State := s.setB Reg.TILE_STAT_EXPEDITED s.expedited

/-- DIRTY with heat 3: 0x4 ahead of a sweep that has not reached the tile's word (R205). -/
def State.hotCode (s : State) (t : Nat) : Nat :=
  match s.tile.sweep with
  | some w => if w ≤ t / 16 then codeFresh else codeHot
  | none => codeHot

/-- A write entered a line's channel queue: a write-back of the line that waits, or that a quad has issued, is dropped; a full write
takes the place of a marker that waits too (R133, R138; the marker's part is DEDUCED, notes/assumptions/89.md). -/
def State.dropWriteback (s : State) (f i : Nat) (full : Bool) : State :=
  let here := fun (k : LineRef) => k.frame = f && k.line = i
  s.updCh (f % 8) fun x => { x with
    writebacks := x.writebacks.filter fun k => !(here k)
    marks := x.marks.filter fun k => !(full && here k)
    tasks := x.tasks.filter fun k => match k with
      | .writeback y => !(here y)
      | .marker y => !(full && here y)
      | _ => true }

/-- Into a queue, which is in the order of the stamps (R37, R46). -/
def insertReq (l : List HostReq) (r : HostReq) : List HostReq :=
  l.takeWhile (fun o => decide (o.stamp ≤ r.stamp)) ++ r :: l.dropWhile fun o => decide (o.stamp ≤ r.stamp)

/-- Put a request into the queue of a frame's channel. -/
def State.queueAt (s : State) (r : HostReq) (f : Nat) : State :=
  let s := s.updCh (f % 8) fun x => { x with reqs := insertReq x.reqs { r with frame := f } }
  if r.write then s.dropWriteback f r.line ((List.range 64).all fun k => r.mask.getD k false) else s

/-- Put a request into its channel's queue; a write to a tile under relocation copy goes to both frames (R24, R146). -/
def State.enqueue (s : State) (r : HostReq) (f : Nat) : State :=
  let s := s.queueAt r f
  match (s.ch (f % 8)).copying with
  | some k => if r.write && k.tile = r.tile then s.queueAt r k.dst else s
  | none => s

/-- Accept a host write: its tile is DIRTY with heat 3, its data is in the channel queue, its completion returns
(R17, R200). -/
def State.acceptWrite (s : State) (r : HostReq) : State :=
  match s.frameOf r.tile with
  | none => s
  | some f =>
    let s := ((s.moveCode r.tile (s.hotCode r.tile)).staleFlight r.tile).enqueue r f
    let s := if s.get Reg.TILE_SAVE_STAT_STATE = 1 then s.updSave fun x => { x with admitted := x.admitted + 1 } else s
    s.respond r.port r.stamp (.writeDone r.port r.ld r.tag)

/-! ### Accesses that reach no data (R152, R171, R173, R202) -/

/-- 64 zero bytes. -/
def zeroLine : List Byte := List.replicate 64 0#8

/-- Answer a request at once: poison for a read, a plain completion for a write that is discarded. -/
def State.answerBad (s : State) (r : HostReq) : State :=
  s.respond r.port r.stamp
    (if r.write then .writeDone r.port r.ld r.tag else .readData r.port r.ld r.tag zeroLine true)

/-- The channel whose k = 12 reports an access to a homeless tile, which lies on none: the lowest out of service, else
channel 0 (DESIGN CHOICE, notes/assumptions/31.md). -/
def State.homelessChannel (s : State) : Nat := (channels.find? s.outOfService).getD 0

/-- An access to a homeless tile (R152). -/
def State.homelessAccess (s : State) (r : HostReq) : State :=
  (s.raise (srcDram s.homelessChannel 12) [dTile r.tile, dPort r.port, d1 (bit r.write)] (s.mediaRecord r)).answerBad r

/-- An access to a LOST tile: a read returns poison; a write is discarded, logged, and raises 0x14D (R171, R202). -/
def State.lostAccess (s : State) (r : HostReq) : State :=
  let s := if r.write then s.raise 0x14D [dPort r.port, dLd r.port r.ld, dTile r.tile] (s.mediaRecord r)
    else s.each (s.mediaRecord r) State.logOnly
  s.answerBad r

/-! ### Holds (R215 to R219) -/

/-- HELD_TILES and HELD_NOW follow the held writes (R216). -/
def State.updHeld (s : State) : State :=
  let tiles := (s.tile.held.map fun h => h.req.tile).dedup.length
  let s := s.set Reg.TILE_HOLD_STAT_HELD_TILES tiles
  let s := s.each ports fun s p =>
    s.set (Reg.HPORT_HOLD_HELD_NOW p) (s.tile.held.filter fun h => h.req.port = p).length
  (s.setB Reg.TILE_STAT_HOLD (!s.tile.held.isEmpty)).updExpedited

/-- Hold a write: its completion is not returned and its tile does not change (R215). -/
def State.hold (s : State) (r : HostReq) : State :=
  let s := if s.tile.held.isEmpty then
      (s.raise 0x142 [d4 s.dirtyCount, d4 (s.threshold.getD 0)]).updTile fun x => { x with heldCount := 0, heldLongest := 0 }
    else s
  let s := s.updTile fun x => { x with held := x.held ++ [⟨r, false⟩], heldCount := x.heldCount + 1 }
  (s.count (Reg.HPORT_HOLD_HELD r.port)).updHeld

/-- Slots as whole microseconds. -/
def slotsUs (n : Nat) : Nat := n * 5 / 8000

/-- Microseconds of `n` bars, rounded up. -/
def barsUs (n : Nat) : Nat := ceilDiv (n * 39) 10

/-- T_in: a request is in its channel's queue no later than this after its stamp (R75; the path's own time is not modelled, DEDUCED,
notes/assumptions/69.md). -/
def slotsIn : Nat := 64

/-- The write takes its place: in its channel's queue, at the later of its stamp + T_in and its release (R84), or, where its tile is
still ABSENT, behind its fetch (R216). -/
def State.letIn (s : State) (r : HostReq) : State :=
  let r := { r with enters := max (r.stamp + slotsIn) s.now }
  if s.code r.tile = codeLost then s.lostAccess r
  else if s.isHomeless r.tile then s.homelessAccess r
  else if s.code r.tile = codeAbsent then s.updTile fun x => { x with waits := x.waits ++ [r] } else s.acceptWrite r

/-- Release held writes: they leave the held list and are let in, oldest stamp first, lower port on a tie (R216). -/
def State.releaseHeld (s : State) (p : HostReq → Bool) : State :=
  let go := (s.tile.held.map (·.req)).filter p
  let go := sortBy (fun a b => decide (a.stamp < b.stamp) || (a.stamp = b.stamp && decide (a.port ≤ b.port))) go
  if go.isEmpty then s else
    let s := s.updTile fun x => { x with held := x.held.filter fun h => !(p h.req) }
    let us := (go.map fun r => slotsUs (s.now - r.stamp)).foldl max 0
    let s := (s.peak Reg.TILE_HOLD_STAT_MAX_US us).updTile fun x => { x with heldLongest := max x.heldLongest us }
    let s := (s.each go State.letIn).updHeld
    if s.tile.held.isEmpty then s.raise 0x143 [d4 s.tile.heldCount, d4 s.tile.heldLongest] else s

/-- The oldest held write. -/
def State.oldestHeld (s : State) : Option HostReq :=
  (s.tile.held.map (·.req)).foldl (fun b r => match b with
    | none => some r
    | some o => if r.stamp < o.stamp || (r.stamp = o.stamp && r.port < o.port) then some r else some o) none

/-! ### The dirty budget (R212, R213, R218, R221, R223) -/

def tilesMax : Nat := 33554432

/-- N_T and N_E (R212), from R in MB/s, E in J, W in ms, P in W and H. The 0.400 s of T_over is 400 ms. -/
def budgetTime (r w h : Nat) : Nat := min tilesMax ((w - 400) * r * 1000 / 65536 - h)
def budgetEnergy (r e p h : Nat) : Nat :=
  if p = 0 then 0 else min tilesMax ((e * 1000 - 400 * p) * r * 1000 / (p * 65536) - h)

/-- E as the budget takes it: 0 while the estimator reports no valid figure. -/
def State.energyJ (s : State) : Nat := if s.flag Reg.PACK_STAT_VALID then s.get Reg.PACK_EAVAIL_JOULES else 0

/-- The CAUSE that R221 finds: 0 where persistence is assured. -/
def State.causeFound (s : State) : Nat :=
  if !(s.flag Reg.PACK_STAT_VALID) || s.tile.rUsed = 0 then 1
  else if s.get Reg.TILE_DMAX_TILES < s.floorTiles then 2
  else if s.get Reg.TILE_DMAX_E_TILES < s.dirtyCount then 3
  else 0

/-- The Memory Module and vendor Persistence records of R188 for a change of persistence. -/
def persistRecords (log : CxlLogId) : List CxlRec :=
  [⟨none, log, .memoryModule, 0⟩, ⟨none, log, .vendorPersistence, 0⟩]

/-- Persistence is lost: the policy applies at once (R221, R222). -/
def State.notAssured (s : State) (cause : Nat) : State :=
  let s := (s.set Reg.TILE_STAT_ASSURED 0).set Reg.TILE_STAT_CAUSE cause
  let s := s.raise 0x144 [d1 cause, d4 s.dirtyCount, d4 (s.get Reg.TILE_DMAX_TILES), d4 (s.get Reg.TILE_DMAX_E_TILES),
    d1 (s.get Reg.TILE_POLICY_POLICY)] (persistRecords .failure)
  s.updExpedited

/-- While persistence is not assured, policy VOLATILE holds no write (R222). -/
def State.releaseVolatile (s : State) : State :=
  if s.assured || s.get Reg.TILE_POLICY_POLICY ≠ 0 then s else s.releaseHeld fun _ => true

/-- The host ports have not come up yet: what a recomputation finds is the state they come up with (R223). -/
def State.beforePorts (s : State) : Bool := decide (s.get Reg.SYS_STATE_STEP ≤ 8)

/-- Persistence judged at a recomputation: set directly before the ports come up (R223); after that lost at once, and a phrase
recomputation that meets R221 counts towards its return (R221, R223; a return from a state found at start-up counts its 64 phrases
too, DEDUCED, notes/assumptions/68.md). -/
def State.judgePersistence (s : State) : State :=
  let cause := s.causeFound
  if s.beforePorts then ((s.setB Reg.TILE_STAT_ASSURED (cause = 0)).set Reg.TILE_STAT_CAUSE cause).updExpedited
  else if cause ≠ 0 then
    let s := s.updTile fun x => { x with assuredRun := 0 }
    if s.assured then s.notAssured cause else s.set Reg.TILE_STAT_CAUSE cause
  else if s.assured then s
  else if s.phraseStart && s.tile.assuredPhrase ≠ s.bar then
    s.updTile fun x => { x with assuredRun := x.assuredRun + 1, assuredPhrase := s.bar }
  else s

/-- Persistence is assured again: the 64th phrase recomputation in a row has met R221 (R223). -/
def State.regainAssured (s : State) : State :=
  let s := ((s.set Reg.TILE_STAT_ASSURED 1).set Reg.TILE_STAT_CAUSE 0).updExpedited
  s.raise 0x145 [d4 s.dirtyCount, d4 (s.get Reg.TILE_DMAX_TILES)] (persistRecords .informational)

/-- Publish N_T, N_E and N_max from the inputs of R212. A rise of the energy takes effect at a phrase start alone; that of the save rate
waits where it is published (R213, R223, R285). -/
def State.publishBudget (s : State) : State :=
  let e := if s.phraseStart || s.beforePorts then s.energyJ else min s.tile.eUsed s.energyJ
  let r := s.get Reg.DECK_SAVE_RATE_MBS
  let h := s.margin
  let nt := if r = 0 then 0 else budgetTime r (s.get Reg.TILE_POLICY_WINDOW_MS) h
  let ne := if r = 0 then 0 else budgetEnergy r e (s.get Reg.TILE_SAVE_DRAW_WATTS) h
  let s := ((s.set Reg.TILE_DMAX_T_TILES nt).set Reg.TILE_DMAX_E_TILES ne).set Reg.TILE_DMAX_TILES (min nt ne)
  let s := s.setB Reg.TILE_DMAX_LIMIT (decide (ne < nt))
  s.updTile fun x => { x with eUsed := e, rUsed := r, recompute := false }

/-- Strain starts and ends, at a downbeat (R214). -/
def State.updStrain (s : State) : State :=
  match s.threshold with
  | none => s
  | some a =>
    let n := s.dirtyCount
    let m := d4 (s.get Reg.TILE_DMAX_TILES)
    if !(s.flag Reg.TILE_STAT_STRAIN) && decide (ceilDiv (90 * a) 100 ≤ n) then
      ((s.set Reg.TILE_STAT_STRAIN 1).raise 0x140 [d4 n, m]).updExpedited
    else if s.flag Reg.TILE_STAT_STRAIN && decide (n < 85 * a / 100) then
      ((s.set Reg.TILE_STAT_STRAIN 0).raise 0x141 [d4 n, m]).updExpedited
    else s

/-- Recompute N_max (R213): 0x147 on a fall of one-eighth or more, then OVER_WINDOW, persistence and strain follow. -/
def State.recomputeBudget (s : State) : State :=
  let old := s.get Reg.TILE_DMAX_TILES
  let s := s.publishBudget
  let new := s.get Reg.TILE_DMAX_TILES
  let s := if old ≠ 0 && old ≤ 8 * (old - new) then
      s.raise 0x147 [d4 old, d4 new, d1 (s.get Reg.TILE_DMAX_LIMIT), d4 (s.dirtyCount - new)] else s
  (s.updOverWindow.judgePersistence.releaseVolatile).updStrain

/-! ### The hold bound and the touch bound (R217, R266) -/

/-- Mean of a per-bar figure over a cycle of `n` bars. -/
def cycleMean (n : Nat) (f : Nat → Nat) : ℚ := (((List.range n).map f).sum : ℚ) / n

/-- Bars after which both the channel's tables and the engine track repeat. -/
def VariantTab.common (t : VariantTab) (c : Nat) : Nat := Nat.lcm (t.cycle c) t.engIndex.length

/-- Quads that voices of a kind hold on a channel in a bar; rests are not counted. -/
def Score.heldQuads (g : Score) (t : VariantTab) (c b : Nat) (k : VoiceKind) : Nat :=
  ((g.barTable t c b).quads.filter fun o => match o with
    | .voice v => (t.voice c v).kind = k
    | _ => false).length

/-- Bytes a channel's voices of a pass's kind can move in a bar, within the pass that names it (R48, R217). -/
def Score.passBytes (g : Score) (t : VariantTab) (c b : Nat) (k : PassKind) : Nat :=
  match (g.engine t b).copy.find? fun p => p.kind = k && bitAt p.mask c with
  | none => 0
  | some p => min p.bytes (128 * g.heldQuads t c (b % t.cycle c) k.voice)

/-- PROGRAM budgets of a bar on the NAND channels in service. -/
def State.programs (s : State) (e : EngineRec) : Nat :=
  (nandChannels.map fun n => if s.get (Reg.NCH_STAT_STATE n) = 1 then
    ((List.range 2).map fun w => if (e.window n w).cls = .program then (e.window n w).budget else 0).sum else 0).sum

/-- b_min of R217. -/
def State.bMin (s : State) : ℚ :=
  let g := s.seq.play
  let caps := (g.sets.filter fun x => x.1 ≠ saveIndex).flatMap fun x =>
    let t := x.2
    let l := t.engIndex.length
    let xts := cycleMean l fun b => 62144 * (g.engine t b).engines .encryptStream
    let prog := cycleMean l fun b => 57344 * s.programs (g.engine t b)
    xts :: prog :: g.channels.map fun c => cycleMean (t.common c) fun b => g.passBytes t c b .stream
  let cap := s.get Reg.TILE_STREAM_CTL_EXP_CAP_MBS
  let caps := if cap = 0 then caps else caps ++ [(cap : ℚ) * 39 / 10]
  (caps.min?).getD 0

/-- T_hold in bars; none where it is unbounded (R217). -/
def State.holdBars (s : State) : Option Nat :=
  let b := s.bMin
  if b = 0 then none else some (256 + ⌈(s.margin * 65536 : ℚ) / b⌉.toNat + 2)

/-- Bars from a start bar until the running total of a per-bar figure reaches `need`; none within `fuel` bars. -/
def barsUntil (f : Nat → Nat) : Nat → Nat → Nat → Nat → Option Nat
  | 0, _, _, _ => none
  | fuel + 1, b, n, need =>
    if need ≤ f b then some (n + 1) else barsUntil f fuel (b + 1) (n + 1) (need - f b)

/-- The largest such span over every start bar of a cycle; none where one never ends. -/
def worstSpan (cyc : Nat) (f : Nat → Nat) (need : Nat) : Option Nat :=
  let total := ((List.range cyc).map f).sum
  if total = 0 then none else
    let fuel := cyc * (need / total + 2)
    (List.range cyc).foldl (fun m b => match m, barsUntil f fuel b 0 need with
      | some a, some x => some (max a x)
      | _, _ => none) (some 0)

/-- The largest of a list of spans; none where one is unbounded. -/
def worstOf (l : List (Option Nat)) : Option Nat :=
  l.foldl (fun m x => match m, x with
    | some a, some b => some (max a b)
    | _, _ => none) (some 0)

/-- T_touch in bars; none where it is unbounded (R266). G counts the bars before the one in which the 8th budget opens. -/
def State.touchBars (s : State) : Option Nat :=
  let g := s.seq.play
  let sets := g.sets.filter fun x => x.1 ≠ saveIndex
  let nch := nandChannels.filter (bitAt g.nchMask)
  let reads := fun (w : NandWindow) => if w.cls = .read then w.budget else 0
  let slots := fun (w : NandWindow) => if w.cls = .read then w.length else 0
  let perNand := fun (f : NandWindow → Nat) need => worstOf (sets.flatMap fun x => nch.map fun n =>
    worstSpan x.2.engIndex.length (fun b => f ((g.engine x.2 b).window n 0) + f ((g.engine x.2 b).window n 1)) need)
  let y := worstOf (sets.flatMap fun x => g.channels.map fun c =>
    worstSpan (x.2.cycle c) (fun b => 128 * g.heldQuads x.2 c (b % x.2.cycle c) .restore) (16 * 65536))
  match perNand reads 8, perNand slots 65536, y with
  | some a, some x, some y => some (1 + (a - 1) + 77 + 12 + x + (1 + y))
  | _, _, _ => none

/-- Publish T_hold and T_touch; 0x163 where T_touch changes (R217, R266). -/
def State.publishBounds (s : State) : State :=
  let s := s.set Reg.TILE_HOLD_BOUND_MARGIN s.margin
  let s := s.set Reg.TILE_HOLD_BOUND_BOUND_US (match s.holdBars with
    | some b => min (barsUs b) 524286
    | none => 524287)
  let old := s.get Reg.TILE_TOUCH_BOUND_BOUND_US
  let s := match s.touchBars with
    | some b => (s.set Reg.TILE_TOUCH_BOUND_BARS (min b 65534)).set Reg.TILE_TOUCH_BOUND_BOUND_US (min (barsUs b) 65534)
    | none => (s.set Reg.TILE_TOUCH_BOUND_BARS 65535).set Reg.TILE_TOUCH_BOUND_BOUND_US 65535
  let new := s.get Reg.TILE_TOUCH_BOUND_BOUND_US
  if old = new then s else s.raise 0x163 [d2 old, d2 new]

end Sys2Proof.Machine
end

