-- ==== Sys2Proof/Machine/HostAccess.lean ====
section
/-! DEFINITION. Host requests and touch fetches (spec/05_host_ports_regions.md R171 to R174, spec/07_save_restore.md R258
to R267): the ownership check, the look-up, the queues, and the fetches that requests to ABSENT tiles wait for. -/

namespace Sys2Proof.Machine

/-! ### Reading a stripe (R282 to R287) -/

/-- The channel of share position `k` (R282). -/
def Stripe.chan (x : Stripe) (k : Nat) : Nat := (k + x.page) % 16

/-- A data position on a channel that was out when the stripe was written holds zero, known (R283). -/
def Stripe.knownZero (x : Stripe) (k : Nat) : Bool := decide (k < 14) && bitAt x.out (x.chan k)

/-- Is a NAND channel in service or suspended? -/
def State.nchUp (s : State) (n : Nat) : Bool := s.get (Reg.NCH_STAT_STATE n) = 1 || s.get (Reg.NCH_STAT_STATE n) = 2

/-- Can the share of position `k` be read? -/
def State.shareOk (s : State) (x : Stripe) (k : Nat) : Bool :=
  !(bitAt x.out (x.chan k)) && s.nchUp (x.chan k) && !(x.gone.contains k) && !(x.todo.contains (x.chan k))

def sharePositions : List Nat := List.range 16

/-- Missing shares of a stripe that are not known zeros (R284). -/
def State.missing (s : State) (x : Stripe) : List Nat :=
  sharePositions.filter fun k => !(s.shareOk x k) && !(x.knownZero k)

/-- The stripe a DATA record names (R300). -/
def State.stripeAt (s : State) (die sb page seg : Nat) : Option Stripe :=
  s.deck.stripes.find? fun x => x.die = die && x.sb = sb && x.page = page && x.seg % 16777216 = seg

/-- The copy a record names, and the stripe that holds it. -/
def State.copyOf (s : State) (r : TileRec) : Option (Stripe × Copy) :=
  match r with
  | .data die sb page pos seg =>
    (s.stripeAt die sb page seg).bind fun x => ((x.shares.find? fun e => e.1 = pos).map (·.2)).map fun k => (x, k)
  | _ => none

/-- How a tile's saved copy is to be read: the share positions to read, whether it is a reconstruction, and whether it
cannot be read at all (R258, R260, R284). -/
def State.readPlan (s : State) (r : TileRec) : List Nat × Bool × Bool :=
  match r with
  | .zero => ([], false, false)
  | .lost => ([], false, true)
  | .data _ _ _ pos _ =>
    match s.copyOf r with
    | none => ([], false, true)
    | some (x, _) =>
      if s.shareOk x pos then ([pos], false, false)
      else if (s.missing x).length ≤ 2 then (sharePositions.filter (s.shareOk x), true, false)
      else ([], true, true)

/-- NAND channels a fetch still reads (R263). -/
def State.fetchChans (s : State) (f : Fetch) : List Nat :=
  match s.copyOf (s.recOf f.tile) with
  | some (x, _) => f.need.map x.chan
  | none => []

/-- Is a die that a read plan needs held by an ERASE (R265)? -/
def State.eraseOn (s : State) (r : TileRec) (need : List Nat) : Bool :=
  match s.copyOf r with
  | none => false
  | some (x, _) => need.any fun k => (((s.deck.chans[x.chan k]?).map (·.ops)).getD []).any fun o => o.die = x.die &&
      (match o.work with | .band _ => true | .ring _ => true | _ => false)

/-- A fetch of a tile, as it is wanted. -/
def State.newFetch (s : State) (t stamp : Nat) (bg : Bool) : Fetch :=
  let p := s.readPlan (s.recOf t)
  { tile := t, stamp := stamp, entered := none, need := p.1, rebuild := p.2.1, lost := p.2.2, bg := bg, queued := false,
    eraseHeld := s.eraseOn (s.recOf t) p.1, long := false }

/-- Touch fetches in the queue, and awaiting entry (R263). -/
def State.touchQueue (s : State) : List Fetch := s.tile.fetches.filter fun f => !f.bg && f.entered.isSome
def State.touchWaiting (s : State) : List Fetch := s.tile.fetches.filter fun f => !f.bg && f.entered.isNone

def State.updTouchStat (s : State) : State :=
  (s.set Reg.TILE_TOUCH_STAT_OUTSTANDING s.touchQueue.length).set Reg.TILE_TOUCH_STAT_WAITING
    (satW 8 s.touchWaiting.length)

/-- A request needs a touch fetch for its tile: it shares the one there is, and a background fetch of the tile becomes a
touch fetch (R263). -/
def State.wantFetch (s : State) (t stamp : Nat) : State :=
  let s := match s.tile.fetches.find? fun f => f.tile = t with
    | none => s.updTile fun x => { x with fetches := x.fetches ++ [s.newFetch t stamp false] }
    | some f => if !f.bg then s else
      let mine := fun (g : Fetch) => if g.tile = t then { g with bg := false, stamp := stamp } else g
      let s := s.updTile fun x => { x with fetches := x.fetches.map mine }
      match s.frameOf t with
      | none => s
      | some k =>
        let touch := fun (j : Job) =>
          if j.frame = some k && (j.kind = Bulk.restore || j.kind = Bulk.fill) then Job.mk .touch j.frame j.left else j
        s.updCh (k % 8) fun x => { x with work := { x.work with jobs := x.work.jobs.map touch } }
  s.updTouchStat

/-- May a waiting fetch enter the queue under the three limits of R263? -/
def State.mayEnter (s : State) (f : Fetch) : Bool :=
  let q := s.touchQueue
  let onNand := fun n => (q.filter fun g => (s.fetchChans g).contains n).length
  let dch := fun t => ((s.frameOf t).map (· % 8)).getD 8
  decide (q.length < 64) && ((s.fetchChans f).all fun n => decide (onNand n < 8))
    && decide ((q.filter fun g => dch g.tile = dch f.tile).length < 16)

/-- Fetches enter the queue in the order of their first request's stamp while entries are free (R263). -/
def State.enterFetches (s : State) : State :=
  let l := sortBy (fun a b => a.stamp ≤ b.stamp) s.touchWaiting
  (s.each l fun s f => if s.mayEnter f then
    s.updTile fun x => { x with fetches := x.fetches.map fun g => if g.tile = f.tile then { g with entered := some s.bar } else g }
    else s).updTouchStat

/-! ### Ownership (R172, R173) -/

/-- DPAs a decoder covers: a `ways`-th of its range. -/
def Decoder.span (k : Decoder) : Nat := k.size / k.ways

/-- The DPA a committed decoder turns a host physical address into, `skip` DPAs lying below its own: the chunks of `gran` bytes that
fall to this device, one in `ways`, lie one after another (R167; the arithmetic is CXL 3.1's, PRESUMED, notes/assumptions/11.md). -/
def Decoder.dpa (k : Decoder) (skip hpa : Nat) : Option Nat :=
  let off := hpa - k.base
  if k.base ≤ hpa && off < k.size then some (skip + off / (k.gran * k.ways) * k.gran + off % k.gran) else none

/-- The decoders an LD has committed, the lower first. -/
def State.decodersOf (s : State) (port ld : Nat) : List Decoder :=
  [0, 1].filterMap fun d => Store.get none (s.portState port).decoders (ld * 2 + d)

/-- The DPA a list of decoders turns a host physical address into, each one's DPAs above those of the one before it. -/
def Decoder.translate (skip hpa : Nat) : List Decoder → Option Nat
  | [] => none
  | k :: l => match k.dpa skip hpa with
    | some d => some d
    | none => Decoder.translate (skip + k.span) hpa l

/-- The DPA of a host physical address, where a committed decoder of the LD covers it (R167). -/
def State.dpaFor (s : State) (port ld hpa : Nat) : Option Nat := Decoder.translate 0 hpa (s.decodersOf port ld)

/-- The region that owns a DPA of an LD, for a port (R172). -/
def State.ownedRegion (s : State) (port ld dpa : Nat) : Option Nat :=
  (List.range 64).find? fun r =>
    let x := s.region r
    x.active && x.port = port && x.ld = ld && decide (x.base * 2 ^ 30 ≤ dpa) && decide (dpa < (x.base + x.size) * 2 ^ 30)

/-- The tile of a DPA of a region (R169). -/
def State.tileAt (s : State) (r dpa : Nat) : Nat := (s.region r).tileBase + (dpa - (s.region r).base * 2 ^ 30) / 65536

/-- An access outside ownership (R173): zeros or nothing, counted, and k = 3. -/
def State.violation (s : State) (r : HostReq) (dpa len : Nat) : State :=
  let s := s.count (Reg.HPORT_VIOL_COUNT_COUNT r.port)
  let s := s.raise (srcPort r.port 3) [dLd r.port r.ld, d8 dpa, d1 (bit r.write), d4 len]
  s.respond r.port r.stamp
    (if r.write then .writeDone r.port r.ld r.tag else .readData r.port r.ld r.tag zeroLine false)

/-- A write whose tile is looked up and present: accepted, or held (R215); one that was held and released is not held again
(R216). -/
def State.tryWrite (s : State) (r : HostReq) : State :=
  if inD (s.code r.tile) || r.enters ≠ 0 || s.admitsNew then s.acceptWrite r else s.hold r

/-- A request of a tile that is present is served (R264). -/
def State.serve (s : State) (r : HostReq) : State :=
  if r.write then s.tryWrite r else
    match s.frameOf r.tile with
    | some f => s.enqueue r f
    | none => s

/-- A request inside ownership, its tile looked up (R18, R171, R200, R215, R263). -/
def State.dispatch (s : State) (r : HostReq) : State :=
  let k := s.code r.tile
  if k = codeLost then s.lostAccess r
  else if s.isHomeless r.tile then s.homelessAccess r
  else if k = codeAbsent then
    let s := s.wantFetch r.tile r.stamp
    if r.write && !s.admitsNew then s.hold r else s.updTile fun x => { x with waits := x.waits ++ [r] }
  else s.serve r

/-- Any CXL.mem request withdraws its port's hint (R532). -/
def State.dropHint (s : State) (p : Nat) : State :=
  if s.remainUs p = 0 then s
  else ({ s with sys := { s.sys with hints := Store.set 0 s.sys.hints p 0 } }).raise 0x006 [dPort p, d4 0]

/-- The request an access makes at line `line` of its tile, at its slot. -/
def reqOf (a : HostAccess) (now tile line : Nat) (write : Bool) (data : List Byte) (mask : List Bool) : HostReq where
  port := a.port
  ld := a.ld
  tag := a.tag
  write := write
  tile := tile
  frame := 0
  line := line % 1024
  stamp := now
  enters := 0
  data := data
  mask := mask
  bypassed := 0
  urgency := 0
  exceeded := false
  result := []
  poison := false

/-- Bytes a request covers. -/
def maskLen (write : Bool) (mask : List Bool) : Nat := if write then (mask.filter id).length else 64

/-- The ownership check and the look-up of a request with its stamp: its address through the LD's committed decoders, then the
region map (R167, R172). An address no committed decoder covers is outside ownership, and its own number stands for the DPA (DESIGN
CHOICE, notes/assumptions/11.md). -/
def State.lookUp (s : State) (a : HostAccess) (stamp : Nat) (write : Bool) (data : List Byte) (mask : List Bool) : State :=
  let hpa := a.line * 64
  match s.dpaFor a.port a.ld hpa with
  | none => s.violation (reqOf a stamp 0 a.line write data mask) hpa (maskLen write mask)
  | some dpa =>
    match s.ownedRegion a.port a.ld dpa with
    | none => s.violation (reqOf a stamp 0 (dpa / 64) write data mask) dpa (maskLen write mask)
    | some r =>
      let t := s.tileAt r dpa
      let s := (s.readState (t / 16) a.word).readMap t a.entry
      s.dispatch (reqOf a stamp t (dpa / 64) write data mask)

/-- The fence is in place: a fenced port takes no write until the save ends (R240; that what a host still sends waits at the port is
DEDUCED, notes/assumptions/70.md). -/
def State.fencedOut (s : State) : Bool := s.saving && s.get Reg.TILE_SAVE_STAT_STATE ≠ 1

/-- A host request enters its port's transaction layer (R41, R172). Only a link in service, or fenced with credits held,
carries CXL.mem, and a host sends only on credits it holds (R50, R236). In H it causes an exit, and is looked up when memory is back (R534, R535). -/
def State.hostRequest (s : State) (a : HostAccess) (write : Bool) (data : List Byte) (mask : List Bool) : State :=
  let s := s.at a.slot
  if decide (s.get (Reg.HPORT_STAT_LINK_STATE a.port) < 3) || s.heldCredits a.port write = 0 || (write && s.fencedOut) then s else
    let s := s.updPort a.port fun x => { x with owed := addCredit write x.owed }
    let s := (s.dropHint a.port).updSave fun x => { x with wake := true }
    if s.inH then s.updSys fun x => { x with hReqs := x.hReqs ++ [⟨a, write, data, mask, s.now⟩] }
    else s.lookUp a s.now write data mask

/-! ### A fetched tile arrives (R260, R264, R267) -/

/-- Write a saved copy into a frame: its bytes, and a marker on each poisoned line, which counts (R133, R299). -/
def State.writeCopy (s : State) (f : Nat) (k : Copy) : State :=
  let s := s.zeroFrame f
  let s := s.each k.bytes fun s e => s.writeFrame f e.1 [e.2]
  s.each k.poison fun s i => s.mark (f % 8) f i

/-- The tile's saved contents reach its frame, and it becomes CLEAN (R200, R258, R264). A copy under another media key
decrypts to bytes the spec does not give: a free value (R509, notes/assumptions/32.md). -/
def State.fillTile (s : State) (t : Nat) : State :=
  match s.frameOf t with
  | none => s
  | some f =>
    let s := match s.copyOf (s.recOf t) with
      | some (_, k) =>
        if k.mediaKey = s.save.mediaKey then s.writeCopy f k
        else (s.zeroFrame f).writeFrame f 0 ((List.range 65536).map (Config.wrongKeyByte k.seq))
      | none => s.zeroFrame f
    s.setCode t codeClean

/-- Requests that waited for the tile go on, oldest first (R260, R264). -/
def State.serveWaits (s : State) (t : Nat) : State :=
  let go := s.tile.waits.filter fun r => r.tile = t
  let s := s.updTile fun x => { x with waits := x.waits.filter fun r => r.tile ≠ t }
  s.each go State.dispatch

/-- The restore reaches DONE: no ABSENT tile is left but homeless ones (R259). -/
def State.checkRestoreDone (s : State) : State :=
  if s.restoring && (s.tilesWith (· = codeAbsent)).all s.isHomeless then
    (s.set Reg.TILE_RESTORE_STAT_STATE 4).raise 0x15B
      [d4 ((s.bar - s.tile.restoreBar) * 39 / 10000), d4 (s.get Reg.TILE_RESTORE_DONE_TILES)]
  else s

/-- A tile's saved copy can be neither read nor reconstructed (R260). -/
def State.restoreLost (s : State) (t : Nat) : State := (s.loseInSave t 5).raise 0x15F [dTile t]

/-- A fetch's duration, judged against T_touch (R267). -/
def State.touchTimed (s : State) (f : Fetch) : State :=
  let bars := s.bar - f.entered.getD s.bar
  let s := s.peak Reg.TILE_TOUCH_STAT_MAX_US (barsUs bars)
  let b := s.get Reg.TILE_TOUCH_BOUND_BARS
  if b ≠ 65535 && b < bars && !f.long then s.raise 0x15C [dTile f.tile, d4 (barsUs bars), d1 (bit f.eraseHeld)] else s

/-- Finish the fetch of a tile: by touch or in the background. -/
def State.finishFetch (s : State) (f : Fetch) : State :=
  let s := s.updTile fun x => { x with fetches := x.fetches.filter fun g => g.tile ≠ f.tile }
  let s := if f.lost then s.restoreLost f.tile
    else
      let s := (s.fillTile f.tile).count Reg.TILE_RESTORE_DONE_TILES
      if f.bg then s else (s.count Reg.TILE_TOUCH_COUNT_FETCHES).touchTimed f
  (s.updTouchStat.serveWaits f.tile).checkRestoreDone

end Sys2Proof.Machine
end

