-- ==== Sys2Proof/Machine/Regions.lean ====
section
/-! DEFINITION. Regions and host ports (spec/05_host_ports_regions.md R161 to R197): assignment and release, links,
configuration, event logs, poison lists, CDAT and Global Persistent Flush. -/

namespace Sys2Proof.Machine

/-! ### Logical devices (R166, R188) -/

/-- LD_COUNT as it acts: 0 acts as 1 (R194). -/
def State.ldCount (s : State) (p : Nat) : Nat := max 1 (s.get (Reg.HPORT_STAT_LD_COUNT p))

/-- Does LD `l` of port `p` exist (R166)? -/
def State.ldExists (s : State) (p l : Nat) : Bool :=
  decide (p < 4) && decide (l < s.ldCount p) && s.get (Reg.HPORT_LD_LD_SIZE p l) ≠ 0

def State.lds (s : State) (p : Nat) : List Nat := (List.range 16).filter (s.ldExists p)

/-- A vendor record logged to one LD. -/
def vendorRec (p l : Nat) (k : CxlKind) : CxlRec := ⟨some (p, l), .informational, k, 0⟩

/-- The CDAT of a port's LDs changed (R187): a vendor CDAT Change record to each LD concerned. -/
def State.cdatChange (s : State) (p : Nat) (lds : List Nat) : State :=
  s.each lds fun s l => s.logOnly (vendorRec p l .vendorCdat)

/-! ### The GPF figure (R190) -/

/-- B_W in slots: the port's write bound plus its link term. -/
def State.bw (s : State) (p : Nat) : Nat := s.seq.play.boundSlots p true + s.get (Reg.HPORT_BOUND_ADJ_SLOTS p)

/-- The fence bound of R238 in slots, with tiles ABSENT and u the sum of the pools; none where T_touch is unbounded. -/
def State.fenceBound (s : State) : Option Nat :=
  let up := ports.filter fun p => (s.seq.play.port p).present
  let bound := fun p => max (s.seq.play.boundSlots p false) (s.seq.play.boundSlots p true)
  let b := (up.map bound).foldl max 0
  let l := ((up.filter fun p => bound p = b).map fun p => s.get (Reg.HPORT_BOUND_ADJ_SLOTS p)).foldl max 0
  let u := (up.map fun p => (s.seq.play.port p).reqPool + (s.seq.play.port p).rwdPool).sum
  s.touchBars.map fun t => (1 + ceilDiv (b + l) 6240 + ceilDiv u 8 * t) * 6240

/-- A time in the GPF DVSEC's encoding, rounded up: a base of 0 to 15 in bits [3:0] and a scale of 10^k µs in bits [11:8], k 0 to 7;
the largest value where the time is unbounded or past it (R190, R217; the encoding is that of CXL 3.1, PRESUMED,
notes/assumptions/71.md). -/
def gpfEncode (slots : Option Nat) : Nat :=
  (slots.bind fun n => ((List.range 8).map fun k => (ceilDiv (n * 5) (8000 * 10 ^ k), k)).findSome? fun e =>
    if e.1 ≤ 15 then some (e.1 + 256 * e.2) else none).getD (15 + 256 * 7)

/-- The figure of the GPF DVSEC (R190, R217). -/
def State.gpfFigureOf (s : State) (p : Nat) : Nat :=
  gpfEncode (if s.flag (Reg.HPORT_STAT_GPF_MODE p) then s.fenceBound
    else s.holdBars.map fun b => 2 * 6240 + s.bw p + b * 6240)

/-- Recompute the GPF figure of each port; a change logs a CDAT Change record to its LDs (R190). -/
def State.updGpf (s : State) : State :=
  s.each ports fun s p =>
    let f := s.gpfFigureOf p
    if f = (s.portState p).gpfFigure then s
    else (s.updPort p fun x => { x with gpfFigure := f }).cdatChange p (s.lds p)

/-! ### Regions (R168 to R184) -/

def regionState (r : Region) : Nat := bit r.active

/-- A region entry as packets carry it (R485). -/
def State.regionEntry (s : State) (r : Nat) : List Byte :=
  let x := s.region r
  leBytes 1 r ++ leBytes 1 (regionState x) ++ leBytes 1 x.port ++ leBytes 1 x.ld ++ leBytes 2 x.base ++ leBytes 2 x.size
    ++ leBytes 4 x.tileBase ++ leBytes 2 x.gen ++ leBytes 2 0

/-- The lowest multiple of 16,384 that starts a free run of tile numbers for `size` GiB (R176). -/
def State.freeRun (s : State) (size : Nat) : Option Nat :=
  ((List.range (2049 - size)).map (· * 16384)).find? fun b =>
    (s.tile.regions.filter (·.active)).all fun x =>
      decide (b + 16384 * size ≤ x.tileBase) || decide (x.tileBase + 16384 * x.size ≤ b)

/-- Do two DPA ranges of one LD overlap? -/
def State.rangeTaken (s : State) (r port ld base size : Nat) : Bool :=
  (List.range 64).any fun q =>
    let x := s.region q
    q ≠ r && x.active && x.port = port && x.ld = ld && decide (base < x.base + x.size) && decide (x.base < base + size)

/-- A region changed owner: GEN moves on, and the next save is not one with nothing new (R175, R234). -/
def State.bumpRegion (s : State) (r : Nat) (f : Region → Region) : State :=
  (s.setRegion r (let x := f (s.region r); { x with gen := (x.gen + 1) % 65536 })).dirtied

/-- The tiles of a region at its release (R178): those in D leave it, fetches and waits for ABSENT tiles end, held writes
are discarded, a relocation copy of one ends, and frames go to the zeroing queue once nothing uses them. -/
def State.freeTiles (s : State) (r : Nat) : State :=
  let x := s.region r
  let mine := x.hasTile
  let waits := s.tile.waits.filter fun q => mine q.tile
  let held := (s.tile.held.map (·.req)).filter fun q => mine q.tile
  let s := s.dropCopies mine
  let frames := (s.tile.map.filter fun e => mine e.1).map fun e => e.2 - 1
  let own := frames.map fun f => (⟨f, r, x.port, s.bar⟩ : FrameOrigin)
  let s := s.updTile fun y => { y with
    fetches := y.fetches.filter fun f => !(mine f.tile)
    waits := y.waits.filter fun q => !(mine q.tile)
    held := y.held.filter fun h => !(mine h.req.tile)
    flights := y.flights.map fun k => if mine k.tile then { k with stale := true } else k
    map := y.map.filter fun e => !(mine e.1)
    codes := y.codes.filter fun e => !(mine e.1)
    homeless := y.homeless.filter fun e => !(mine e.1)
    releasing := y.releasing ++ own
    origins := y.origins ++ own }
  let s := s.updDeck fun d => { d with loc := d.loc.filter fun e => !(mine e.1) }
  let s := s.each waits fun s q =>
    s.respond q.port q.stamp (if q.write then .writeDone q.port q.ld q.tag else .readData q.port q.ld q.tag zeroLine false)
  let s := s.each held fun s q => s.respond q.port q.stamp (.writeDone q.port q.ld q.tag)
  s.updHeld.updTouchStat.updOverWindow

/-- Release a region at this downbeat (R177, R178). -/
def State.releaseRegion (s : State) (r : Nat) : State :=
  let x := s.region r
  let left := ((s.tile.codes.filter fun e => x.hasTile e.1).filter fun e => inD e.2).length
  let s := (s.freeTiles r).setRegion r { Region.free with gen := x.gen }
  s.raise (srcPort x.port 5) [dRegion r, d2 ((x.gen + 1) % 65536), d4 left] [vendorRec x.port x.ld .vendorRegion]

/-- Give a tile its frame and state ZERO (R118, R176, R290). -/
def State.newTile (s : State) (t : Nat) : State := ((s.setFrame t s.nextFrame).setCode t codeZero).setRec t .zero

/-- Set up an assigned region (R176). -/
def State.assignRegion (s : State) (r port ld base size tileBase : Nat) : State :=
  let s := s.bumpRegion r fun x => ⟨true, port, ld, base, size, tileBase, x.gen⟩
  let s := s.each (s.region r).tiles State.newTile
  let s := s.raise (srcPort port 4) [dRegion r, dLd port ld, d2 size, d2 (s.region r).gen] [vendorRec port ld .vendorRegion]
  s.cdatChange port [ld]

/-- Frames the pool has for an assignment. -/
def State.frameShort (s : State) (size : Nat) : Nat := 16384 * size - s.poolFrames

def State.assignReply (s : State) (r missing : Nat) : List Byte :=
  s.regionEntry r ++ leBytes 4 missing ++ leBytes 4 s.dram.zeroQueue.length

/-- REGION_ASSIGN (R175, R176): its outcomes in order. -/
def opRegionAssign (p : Pkt) (s : State) : OpResult :=
  let r := p.u8 0; let port := p.u8 1; let ld := p.u8 2; let base := p.u16 4; let size := p.u16 6
  let x := s.region r
  if !(p.genOk x.gen) then .refuse s stStale
  else if s.saving then .refuse s stForbids
  else if size = 0 || 2048 < size || !(s.ldExists port ld) || s.get (Reg.HPORT_LD_LD_SIZE port ld) < base + size || s.rangeTaken r port ld base size then
    .refuse s stInvalid
  else if x.active && x.port = port && x.ld = ld then
    if x.base = base && x.size = size then .ok s (s.assignReply r 0) else .refuse s stInvalid
  else
    let freed := if x.active then s.setRegion r { x with active := false } else s
    match freed.freeRun size with
    | none => ⟨s, stBusy, s.assignReply r (s.frameShort size)⟩
    | some b =>
      if s.poolFrames < 16384 * size then ⟨s, stBusy, s.assignReply r (s.frameShort size)⟩
      else
        let s := if x.active then (s.releaseRegion r).cdatChange x.port [x.ld] else s
        let s := s.assignRegion r port ld base size b
        .ok s (s.assignReply r 0)

/-- The port a packet comes from, if it is a host port. -/
def Pkt.port? (p : Pkt) : Option Nat := match p.src with | .hport n => some n | _ => none

/-- REGION_RELEASE (R177). -/
def opRegionRelease (p : Pkt) (s : State) : OpResult :=
  let r := p.u8 0
  let x := s.region r
  let mayHost := match p.src with | .hport n => x.active && x.port = n | _ => false
  if !(s.holds p.src .mgmt) && !mayHost then
    ⟨s.noPriv p.src, stOk, List.replicate 16 0#8⟩
  else if !(p.genOk x.gen) then .refuse s stStale
  else if s.saving then .refuse s stForbids
  else if !x.active then .ok s (s.regionEntry r)
  else
    let s := ((s.releaseRegion r).bumpRegion r id).cdatChange x.port [x.ld]
    .ok s (s.regionEntry r)

/-- REGION_QUERY (R174, R484). -/
def opRegionQuery (p : Pkt) (s : State) : OpResult :=
  let all := s.holds p.src .mgmt
  let l := (List.range 64).filter fun r => decide (p.u8 0 ≤ r) && decide (r < p.u8 0 + p.u8 1)
  let l := if all then l else l.filter fun r =>
    (s.region r).active && (match p.src with | .hport n => (s.region r).port = n | _ => false)
  .ok s (leBytes 4 (if all then s.poolFrames else 0) ++ leBytes 4 (if all then s.dram.zeroQueue.length else 0)
    ++ leBytes 1 l.length ++ leBytes 3 0 ++ l.flatMap s.regionEntry)

def regionAssignOp : PktOp :=
  ⟨0x0302, some .mgmt, true, fun _ ps => ps.length = 8 && decide (leAt ps 0 1 ≤ 63) && decide (leAt ps 1 1 ≤ 3)
    && decide (leAt ps 2 1 ≤ 15) && zeroAt ps 3 1, fun _ _ => 24, opRegionAssign⟩
def regionReleaseOp : PktOp :=
  ⟨0x0303, some .host, true, fun _ ps => ps.length = 4 && decide (leAt ps 0 1 ≤ 63) && zeroAt ps 1 3, fun _ _ => 16,
    opRegionRelease⟩
def regionQueryOp : PktOp :=
  ⟨0x0304, some .host, false, fun _ ps => ps.length = 4 && decide (1 ≤ leAt ps 1 1) && decide (leAt ps 1 1 ≤ 64)
    && decide (leAt ps 0 1 ≤ 63) && zeroAt ps 2 2, fun s p => (opRegionQuery p s).data.length, opRegionQuery⟩

/-! ### Zeroing (R174, R178) -/

/-- Does a request name the frame, or a stream copy use it (R178)? -/
def State.frameInUse (s : State) (f : Nat) : Bool :=
  s.tile.flights.any (fun k => k.frame = f) ||
  (s.ch (f % 8)).reqs.any (fun r => r.frame = f) || (s.ch (f % 8)).issued.any (fun r => r.frame = f)

/-- Released frames that no request admitted before remains for enter the zeroing queue, never at the release downbeat
itself; those of a channel out of service leave for good (R178, R182). -/
def State.enterZeroing (s : State) : State :=
  let go := s.tile.releasing.filter fun o => decide (o.bar < s.bar) && !(s.frameInUse o.frame)
  let s := s.updTile fun x => { x with
    releasing := x.releasing.filter fun o => !(decide (o.bar < s.bar) && !(s.frameInUse o.frame)) }
  s.each go fun s o => if s.outOfService (o.frame % 8) then s else s.queueZero o.frame

/-- The frame joins the pool, and homeless tiles take frames (R152, R178). -/
def State.joinPool (s : State) (f : Nat) : State := (s.joined f).grantHomeless

/-- The oldest frame of the channel's zeroing work is clear (R174). -/
def State.zeroedFrame (s : State) (c : Nat) : State :=
  match s.dram.zeroQueue.filter fun f => f % 8 = c with
  | [] => s
  | f :: _ =>
    if !(s.jobLeft c .zero f) then
      let s := s.zeroFrame f
      ({ s with dram := { s.dram with zeroQueue := s.dram.zeroQueue.filter (· ≠ f) } }).joinPool f
    else s

/-! ### Links (R162 to R165) -/

/-- RATE and WIDTH codes of R193 carry CXL.mem (R162). -/
def memLink (rate width : Nat) : Bool := rate ≠ 0 && width ≠ 0

/-- BOUND_SCALE and link term of a link (R163). -/
def linkTerm (rate width : Nat) : Nat × Nat :=
  if rate = 2 && width = 2 then (0, 0) else if rate = 1 && width = 1 then (2, 12480) else (1, 6240)

/-- Take up a link's factor and term (R163). -/
def State.takeLink (s : State) (p rate width : Nat) : State :=
  let t := linkTerm rate width
  let s := (s.set (Reg.HPORT_STAT_BOUND_SCALE p) t.1).set (Reg.HPORT_BOUND_ADJ_SLOTS p) t.2
  (s.cdatChange p (s.lds p)).updGpf

/-- The host ports are enabled: start-up step 8 has begun, which with HOST_GATE 1 it does when the restore is DONE (R261, R526). -/
def State.portsUp (s : State) : Bool := decide (8 ≤ s.get Reg.SYS_STATE_STEP)

/-- May the port's link train: it is enabled, and the playing image has voices for it (R88, R194)? -/
def State.mayTrain (s : State) (p : Nat) : Bool :=
  s.portsUp && s.flag (Reg.HPORT_CFG_ENABLE p) && (s.seq.play.port p).present

/-- A link that is down trains where it may, and a link that trains and no longer may is down (R193). -/
def State.trainPort (s : State) (p : Nat) : State :=
  if s.get (Reg.HPORT_STAT_LINK_STATE p) ≤ 1 then s.set (Reg.HPORT_STAT_LINK_STATE p) (bit (s.mayTrain p)) else s

/-- The LDs a port presents: one in SLD mode (R166, R193). -/
def State.showLds (s : State) (p : Nat) : State :=
  s.set (Reg.HPORT_STAT_LD_COUNT p)
    (if s.flag (Reg.HPORT_STAT_MLD p) then max 1 (s.get (Reg.HPORT_CFG_LD_COUNT p)) else 1)

/-- The link a retrained or newly trained port has takes effect at the next downbeat (R163, R164). -/
def State.crossLink (s : State) (p rate width : Nat) : State := s.updPort p fun x => { x with relink := some (rate, width) }

/-- A link that carries CXL.mem enters service, or, while a save or its in-service entry still fences the ports, the fence (R253);
k = 0 (R197). -/
def State.memUp (s : State) (p rate width : Nat) : State :=
  let s := s.set (Reg.HPORT_STAT_LINK_STATE p) (if s.saving || s.save.entry.isSome then 4 else 3)
  (s.crossLink p rate width).raise (srcPort p 0) [d1 rate, d1 width]

/-- The link trains (R162): CXL.mem in service, or CXL.io alone. -/
def State.linkUp (s : State) (p rate width : Nat) : State :=
  let s := (s.set (Reg.HPORT_STAT_RATE p) rate).set (Reg.HPORT_STAT_WIDTH p) width
  let s := (s.setB (Reg.HPORT_STAT_MLD p) (s.flag (Reg.HPORT_CFG_MLD p))).showLds p
  if memLink rate width then
    (s.updPort p fun x => { x with freed := (0, 0) }).memUp p rate width
  else
    (s.set (Reg.HPORT_STAT_LINK_STATE p) 2).raise (srcPort p 2) [d1 rate, d1 width, d1 (s.get (Reg.HPORT_STAT_BOUND_SCALE p))]

/-- The link of a port in L0 retrains (R162, R164): k = 2 where its rate or width changes, or where it no longer carries CXL.mem. -/
def State.retrain (s : State) (p rate width : Nat) : State :=
  let st := s.get (Reg.HPORT_STAT_LINK_STATE p)
  let same := s.get (Reg.HPORT_STAT_RATE p) = rate && s.get (Reg.HPORT_STAT_WIDTH p) = width
  let mem := memLink rate width
  let scale := if mem then (linkTerm rate width).1 else s.get (Reg.HPORT_STAT_BOUND_SCALE p)
  if same then s else
    let s := (s.set (Reg.HPORT_STAT_RATE p) rate).set (Reg.HPORT_STAT_WIDTH p) width
    let s := s.raise (srcPort p 2) [d1 rate, d1 width, d1 scale]
    if !mem then s.set (Reg.HPORT_STAT_LINK_STATE p) 2
    else if st = 2 then s.memUp p rate width
    else s.crossLink p rate width

/-- The link goes down (R165): queued requests are carried out, their responses discarded. An enabled port trains again (R193). -/
def State.linkDown (s : State) (p : Nat) : State :=
  let n := ((channels.map fun c => ((s.ch c).reqs ++ (s.ch c).issued).filter fun r => r.port = p && !r.write).flatten).length
  let n := n + (s.tile.waits.filter fun r => r.port = p).length + (s.tile.held.filter fun h => h.req.port = p).length
  let s := (s.updPort p fun x => { x with dropBefore := s.now + 1, gpf := [], relink := none })
  let s := ((s.set (Reg.HPORT_STAT_LINK_STATE p) 0).set (Reg.HPORT_STAT_RATE p) 0).set (Reg.HPORT_STAT_WIDTH p) 0
  (s.trainPort p).raise (srcPort p 1) [d4 n]

/-- A CXL Reset or conventional reset of the port (R165). -/
def State.portReset (s : State) (p : Nat) : State := s.updPort p fun x => { x with decoders := [], acked := [] }

/-- An HDM decoder is committed (R162, R167): it needs CXL.mem, and ways and granularity in range. -/
def State.decoderCommits (s : State) (p ld : Nat) (k : Decoder) : Bool :=
  decide (3 ≤ s.get (Reg.HPORT_STAT_LINK_STATE p)) && s.ldExists p ld
    && [1, 2, 4, 8, 16].contains k.ways && [256, 512, 1024, 2048, 4096, 8192, 16384].contains k.gran

/-! ### Configuration (R166, R184, R194, R195) -/

/-- HPORT_n_CFG image. -/
def cfgWord (p : Nat) : Nat := 0x60004 + 0x4000 * p

/-- The LDs a count word presents: 0 acts as 1. -/
def countOf (cfg : Nat) : Nat := max 1 (bitsAt cfg 25 5)

/-- Would a count of LDs for port `p` push the sum over 16, with the counts of the other ports as they stand or are about to stand,
or is it out of range (R166, R194)? -/
def State.countBad (s : State) (p n : Nat) : Bool :=
  decide (16 < n) || decide (16 < n + ((ports.filter (· ≠ p)).map fun q => countOf (s.comingWord (cfgWord q))).sum)

/-- The LDs that a configuration presents once its link has trained: one in SLD mode (R166, R194). -/
def presents (cfg : Nat) : Nat := if bitAt cfg 30 then countOf cfg else 1

/-- Would new counts and sizes remove an LD that owns an ACTIVE region, or shrink one below the end of such a region (R184)? -/
def State.cutsRegion (s : State) (p count : Nat) (size : Nat → Nat) : Bool :=
  s.tile.regions.any fun x => x.active && x.port = p
    && ((s.ldExists p x.ld && decide (count ≤ x.ld))
      || (decide (size x.ld < s.get (Reg.HPORT_LD_LD_SIZE p x.ld)) && decide (size x.ld < x.base + x.size)))

/-- The configuration of a port takes effect, with k = 11 (R194, R197). ISOCH_IMAGE cannot be cleared. -/
def State.applyCfg (s : State) (p new : Nat) : State :=
  let old := s.word (cfgWord p)
  let s := (s.set (Reg.HPORT_CFG_ENABLE p) (bitsAt new 31 1)).set (Reg.HPORT_CFG_MLD p) (bitsAt new 30 1)
  let s := (s.set (Reg.HPORT_CFG_LD_COUNT p) (bitsAt new 25 5)).set (Reg.HPORT_CFG_ISOCH p) (bitsAt new 24 1)
  let s := s.set (Reg.HPORT_CFG_GPF_MODE p) (bitsAt new 23 1)
  let s := ((s.showLds p).trainPort p).set (Reg.HPORT_STAT_GPF_MODE p) (bitsAt new 23 1)
  let s := s.setB (Reg.HPORT_STAT_ISOCH p) (bitAt new 24 || s.flag (Reg.HPORT_STAT_ISOCH_IMAGE p))
  (s.raise (srcPort p 11) [d4 old, d4 (s.word (cfgWord p))]).updGpf

/-- PORT_CONFIG (R166, R184, R194): the basic form sets ISOCH and GPF_MODE alone. -/
def opPortConfig (p : Pkt) (s : State) : OpResult :=
  let n := p.u8 0
  let old := s.word (cfgWord n)
  let cfg := if p.expert then p.u32 4 else old - bitsAt old 23 2 * 2 ^ 23 + bitsAt (p.u32 4) 23 2 * 2 ^ 23
  let size := fun l => if p.expert then p.u16 (8 + 2 * l) else s.get (Reg.HPORT_LD_LD_SIZE n l)
  if !(p.genOk (s.get (Reg.HPORT_GEN_GEN n))) then .refuse s stStale
  else if s.countBad n (countOf cfg) || (p.expert && !((List.range 16).all fun l => decide (size l ≤ 2048))) then .refuse s stInvalid
  else if s.cutsRegion n (presents cfg) size then .refuse s stForbids
  else
    let s := s.each (List.range 16) fun s l => s.set (Reg.HPORT_LD_LD_SIZE n l) (size l)
    let s := (s.applyCfg n cfg).bump (Reg.HPORT_GEN_GEN n)
    .ok s (s.words [cfgWord n, 0x60020 + 0x4000 * n])

/-- LATENCY_TARGET_SET (R45, R184, R185). -/
def opLatencyTargetSet (p : Pkt) (s : State) : OpResult :=
  let n := p.u8 0
  if !(p.genOk (s.get (Reg.HPORT_GEN_GEN n))) then .refuse s stStale
  else
    let w := if p.expert then p.u16 4 else p.u16 2
    let s := ((s.set (Reg.HPORT_LAT_TARGET_READ_NS n) (p.u16 2)).set (Reg.HPORT_LAT_TARGET_WRITE_NS n) w).bump
      (Reg.HPORT_GEN_GEN n)
    let s := s.raise (srcPort n 12) [d2 (p.u16 2), d2 w]
    .ok s (s.words [0x60008 + 0x4000 * n])

def portConfigOp : PktOp :=
  ⟨0x0301, some .mgmt, true, fun e ps => decide (leAt ps 0 1 ≤ 3) && zeroAt ps 1 3 && ps.length = (if e then 40 else 8), fun _ _ => 8,
    opPortConfig⟩
def latencyTargetSetOp : PktOp :=
  ⟨0x0305, some .mgmt, true, fun _ ps => ps.length = 8 && decide (leAt ps 0 1 ≤ 3) && zeroAt ps 1 1 && zeroAt ps 6 2,
    fun _ _ => 4, opLatencyTargetSet⟩

/-- A register write of HPORT_n_CFG: one whose LD_COUNT would break R166 or R184 is ignored and counted (R194, R195). -/
def State.writeCfg (s : State) (src : Src) (p v : Nat) : State :=
  if s.countBad p (countOf v) || s.cutsRegion p (presents v) (fun l => s.get (Reg.HPORT_LD_LD_SIZE p l)) then
    s.badAccess src (cfgWord p)
  else s.plainWrite (cfgWord p) v

/-- A register write of HPORT_n_LD_l: above 2,048 or against R184 it is ignored and counted (R195). -/
def State.writeLdSize (s : State) (src : Src) (p l v : Nat) : State :=
  let z := bitsAt v 0 12
  if 2048 < z || s.cutsRegion p (s.ldCount p) (fun k => if k = l then z else s.get (Reg.HPORT_LD_LD_SIZE p k)) then
    s.badAccess src (Reg.HPORT_LD_LD_SIZE p l).addr
  else s.later (Reg.HPORT_LD_LD_SIZE p l) z

/-! ### Event logs (R188) -/

def logKey (p l : Nat) (k : CxlLogId) : Nat :=
  (p * 16 + l) * 4 + (match k with | .informational => 0 | .warning => 1 | .failure => 2 | .fatal => 3)

/-- Log a record to an LD: a full log counts an overflow and raises k = 9 (R188). -/
def State.logTo (s : State) (e : LogEntry) : State :=
  let n := (s.cxl.logs.filter fun x => x.port = e.port && x.ld = e.ld && x.log = e.log).length
  if n < 64 then s.updCxl fun x => { x with logs := x.logs ++ [e] }
  else
    let k := logKey e.port e.ld e.log
    let s := s.updCxl fun x => { x with overflow := Store.set 0 x.overflow k (satW 16 (Store.get 0 x.overflow k + 1)) }
    s.raise (srcPort e.port 9) [dLd e.port e.ld, d1 (k % 4)]

/-- Remove the `n` oldest records of a log, and its overflow state. -/
def State.clearLog (s : State) (p l : Nat) (k : CxlLogId) (n : Nat) : State :=
  let mine := fun (x : LogEntry) => x.port = p && x.ld = l && x.log = k
  let keep := (s.cxl.logs.filter mine).drop n
  let key := logKey p l k
  let s := s.updCxl fun x => { x with
    logs := x.logs.filter (fun e => !(mine e)) ++ keep
    overflow := Store.set 0 x.overflow key 0 }
  s.updPort p fun x => { x with acked := Store.set 0 x.acked key (Store.get 0 x.acked key + n) }

/-! ### Poison (R161, R189) -/

/-- DPA ranges an LD's Get Poison List holds: LOST tiles as 64 KiB, poisoned lines as 64 bytes (R189). -/
def State.poisonList (s : State) (p l : Nat) : List (Nat × Nat) :=
  let mine := fun t => s.ownerOf t = some (p, l)
  let lost := ((s.tilesWith (· = codeLost)).filter mine).map fun t => (s.dpaOf t 0, 65536)
  let lines := (s.dram.poison.filterMap fun e => (s.tileOfFrame (e.1 / 1024)).map fun t => (t, e.1 % 1024)).filter fun x => mine x.1
  lost ++ lines.map fun x => (s.dpaOf x.1 (x.2 * 64), 64)

/-- The frame and line of a DPA of an LD, if its tile holds a frame. -/
def State.lineOfDpa (s : State) (p l dpa : Nat) : Option (Nat × Nat) :=
  (s.ownedRegion p l dpa).bind fun r => (s.frameOf (s.tileAt r dpa)).map fun f => (f, dpa % 65536 / 64)

/-- Inject Poison and Clear Poison need expert privilege on the port (R161). -/
def State.poisonAllowed (s : State) (p : Fin 4) : Bool := s.holds (.hport p) .expert

/-- CXL mailbox return codes: Success and Unsupported. -/
def mbOk : Nat := 0
def mbUnsupported : Nat := 0x15

/-! ### CDAT (R187) -/

/-- Bytes a bar carries for a port in V0, by the quads its voices of one direction hold (R187). -/
def State.v0Bytes (s : State) (p : Nat) (k : VoiceKind) : Nat :=
  match s.seq.play.tab 0 with
  | none => 0
  | some t => ⌊(s.seq.play.channels.map fun c => cycleMean (t.cycle c) fun b =>
      128 * ((s.seq.play.barTable t c b).quads.filter fun o => match o with
        | .voice v => t.voice c v = ⟨k, p⟩
        | _ => false).length).sum⌋.toNat

/-- The entries of an LD's CDAT: per ACTIVE region DPA base and length, then read and write latency in slots and bytes per
bar (R187). The byte layout of a CDAT is outside the spec; these are its figures, 8 bytes each. -/
def State.cdat (s : State) (p l : Nat) : List Byte :=
  let adj := s.get (Reg.HPORT_BOUND_ADJ_SLOTS p)
  (s.tile.regions.filter fun x => x.active && x.port = p && x.ld = l).flatMap fun x =>
    leBytes 8 (x.base * 2 ^ 30) ++ leBytes 8 (x.size * 2 ^ 30)
      ++ leBytes 8 (s.seq.play.boundSlots p false + adj) ++ leBytes 8 (s.seq.play.boundSlots p true + adj)
      ++ leBytes 8 (s.v0Bytes p .hostRead) ++ leBytes 8 (s.v0Bytes p .hostWrite)

/-! ### Global Persistent Flush (R190, R191) -/

/-- Causes that hardware raises; a warden decides the others (R376, R391). -/
def hardwareCause (c : Nat) : Bool := [1, 4, 5, 8].contains c

/-- The save-trigger guard latch takes a cause: the first one until the save ends (R375, R376). -/
def State.latchGuard (s : State) (cause : Nat) : State :=
  if s.get (Reg.GUARD_OUT_OUT 0) ≠ 0 then s
  else (s.set (Reg.GUARD_OUT_OUT 0) cause).setB (Reg.GUARD_OUT_HW 0) (hardwareCause cause)

/-- A save trigger is latched and waits for its downbeat (R230); a cause that the wardens decide takes the latch once a
warden is active (R391). -/
def State.latchSave (s : State) (cause : Nat) (off : Bool) : State :=
  let s := if hardwareCause cause then s.latchGuard cause else s
  s.updSave fun x => { x with latched := x.latched ++ [(cause, off)] }

/-- A Phase 2 request (R190, R191). -/
def State.gpfPhase2 (s : State) (p ld : Nat) : State :=
  let save := s.flag (Reg.HPORT_STAT_GPF_MODE p)
  let s := (s.updPort p fun x => { x with gpf := x.gpf ++ [⟨ld, save, s.now⟩] }).bump (Reg.HPORT_GPF_PH2_COUNT p)
  if save then s.latchSave 2 false
  else if s.assured then s
  else
    let s := s.bump (Reg.HPORT_GPF_NOT_PERSIST p)
    s.raise (srcPort p 8) [dLd p ld] [⟨some (p, ld), .failure, .vendorPersistence, 0⟩]

/-- Has the oldest Phase 2 of a port what it waits for (R190, R191, R219)? FLUSH: no write of the port stamped before it is
held, waits for a fetch or, from H, for memory. SAVE: the save's fence is in place. -/
def State.gpfReady (s : State) (p : Nat) (g : Gpf) : Bool :=
  if g.save then decide (2 ≤ s.get Reg.TILE_SAVE_STAT_STATE)
  else !((s.tile.held.map (·.req) ++ s.tile.waits).any fun r => r.port = p && r.write && decide (r.stamp < g.stamp))
    && !(s.sys.hReqs.any fun r => r.acc.port.val = p && r.write && decide (r.stamp < g.stamp))

/-- Phase 2 completes: its duration is recorded and k = 7 raised (R190). -/
def State.gpfComplete (s : State) (p : Nat) : State :=
  match (s.portState p).gpf with
  | [] => s
  | g :: l =>
    if s.gpfReady p g then
      let us := slotsUs (s.now - g.stamp)
      let s := (s.updPort p fun x => { x with gpf := l }).set (Reg.HPORT_GPF_LAST_US p) (satW 8 us)
      let s := (s.peak (Reg.HPORT_GPF_MAX_MAX_US p) us).raise (srcPort p 7) [d1 (bit g.save), d4 us]
      s.send (.port p g.ld (leBytes 1 2))
    else s

end Sys2Proof.Machine
end

