-- ==== Sys2Proof/Machine/Events.lean ====
section
/-! DEFINITION. Events, their routes and the recorder (spec/13_events_recorder.md R434 to R465). -/

namespace Sys2Proof.Machine

def State.updRec (s : State) (f : RecState → RecState) : State := { s with recorder := f s.recorder }

/-! ### Routes and masks (R436 to R438) -/

/-- The port whose violation source a source is: 0x100 + 16n + 3 (R174). -/
def violationSource (src : Nat) : Bool := decide (0x100 ≤ src) && decide (src < 0x140) && src % 16 = 3

/-- A route byte with its fixed bits (R438). -/
def fixRoute (src v : Nat) : Nat :=
  if violationSource src then v / 4 * 4
  else if src = 0x1FA then v / 16 * 16 + 8 + v % 8
  else if src = 0x1FB then v / 16 * 16 + v % 8
  else v

/-- The route of a source as EVT_ROUTE_w holds it, and as it acts. -/
def State.routeByte (s : State) (src : Nat) : Nat := bitsAt (s.get (Reg.EVT_ROUTE_ROUTE (src / 4))) (8 * (src % 4)) 8
def State.routeOf (s : State) (src : Nat) : Nat := fixRoute src (s.routeByte src)

/-- A masked source is delivered nowhere; 0x1FA cannot be masked (R436). -/
def State.masked (s : State) (src : Nat) : Bool :=
  src ≠ 0x1FA && decide (src < 512) && bitAt (s.get (Reg.EVT_MASK_MASK (src / 32))) (src % 32)

/-- The sources of the pack state changes of R188. -/
def packChange (src : Nat) : Bool := [0x1C0, 0x1C2, 0x1C7, 0x1C9, 0x1CC].contains src

/-- Sources that R188 names (R437). -/
def cxlNamed (src : Nat) : Bool :=
  packChange src || [0x144, 0x145, 0x14D, 0x171].contains src
    || (decide (0x080 ≤ src) && decide (src < 0x100) && [0, 1, 11, 12].contains (src % 16))
    || (decide (0x100 ≤ src) && decide (src < 0x140) && [4, 5, 8].contains (src % 16))

/-- The route of a source under built-in defaults (R437). -/
def defaultRoute (src : Nat) : Nat := if src = 0x14C then 0 else 0x0C + bit (cxlNamed src)

/-- The UUID of the vendor records (R188). -/
def vendorUuid : Nat := 0x4e72696c00054a1d9c3e5b0a00000001

/-- The UUID and record kind of a vendor record (R188, R440); kinds the spec does not number are free values
(notes/assumptions/86.md). -/
def CxlKind.vendor : CxlKind → Option (Nat × BitVec 16)
  | .vendorEvent => some (vendorUuid, 1)
  | .vendorPersistence => some (vendorUuid, Config.vendorKind 0)
  | .vendorRegion => some (vendorUuid, Config.vendorKind 1)
  | .vendorCdat => some (vendorUuid, Config.vendorKind 2)
  | .generalMedia | .dram | .memoryModule => none

/-! ### Whom an event reaches (R439) -/

def State.portUp (s : State) (p : Nat) : Bool :=
  s.get (Reg.HPORT_STAT_LINK_STATE p) = 3 || s.get (Reg.HPORT_STAT_LINK_STATE p) = 4

/-- The port a detail field names: a port, an LD of it, or a tile of a region it owns. -/
def State.portNamed (s : State) (f : DField) : Option Nat :=
  match f.scope with
  | .port => some f.val
  | .ld p => some p
  | .tile => (s.ownerOf f.val).map (·.1)
  | _ => none

/-- The ports an event is specific to; none, and it is not port-specific. -/
def State.portsOf (s : State) (e : Event) : List Nat :=
  (if 0x100 ≤ e.src ∧ e.src < 0x140 then [(e.src - 0x100) / 16] else []) ++ e.detail.filterMap s.portNamed

/-- The ports an event reaches. -/
def State.reached (s : State) (e : Event) : List Nat :=
  let l := s.portsOf e
  ports.filter fun p => s.portUp p && (l.isEmpty || l.contains p)

/-- A detail field as an LD may see it in a vendor Event record (R440). -/
def State.fieldFor (s : State) (p l : Nat) (f : DField) : Nat × Nat :=
  let ok := match f.scope with
    | .plain => true
    | .port => f.val = p
    | .ld q => q = p && f.val = l
    | .tile => s.ownerOf f.val = some (p, l)
    | .region => (s.region f.val).active && (s.region f.val).port = p && (s.region f.val).ld = l
  (f.size, if ok then f.val else 0)

/-- An event's record for an LD, with the stamps of R445. -/
def State.cxlEntry (s : State) (p l : Nat) (log : CxlLogId) (kind : CxlKind) (dpa : Nat) (e : Event) (detail : List (Nat × Nat)) :
    LogEntry :=
  ⟨p, l, log, kind, kind.vendor, dpa, e.src, s.get Reg.OP_SECONDS_SECONDS, s.get Reg.PWR_CYCLES_CYCLES, e.bar, detail⟩

/-- The CXL records of one raise (R188, R440). -/
def State.logEvent (s : State) (e : Event) : State :=
  let reach := s.reached e
  if e.cxl.isEmpty then
    if e.src = 0x200 then s else
      s.each reach fun s p => s.each (s.lds p) fun s l =>
        s.logTo (s.cxlEntry p l .informational .vendorEvent 0 e (e.detail.map (s.fieldFor p l)))
  else s.each e.cxl fun s r =>
    match r.target with
    | some (p, l) => if s.portUp p then s.logTo (s.cxlEntry p l r.log r.kind r.dpa e []) else s
    | none => s.each reach fun s p => s.each (s.lds p) fun s l => s.logTo (s.cxlEntry p l r.log r.kind r.dpa e [])

/-! ### The recorder (R444 to R456) -/

/-- Bytes of a detail: fields in order until one would pass byte 24 (R446). -/
def detailFields : Nat → List DField → List Byte
  | _, [] => []
  | n, f :: l => if 24 < n + f.size then [] else leBytes f.size f.val ++ detailFields (n + f.size) l

def detailBytes (l : List DField) : List Byte := (detailFields 0 l ++ List.replicate 24 0#8).take 24

def recAt (i : Nat) : Nat := 0x1050000 + 64 * i

/-- "NEVTDONE" (R445). -/
def doneRec : List Byte := [0x4E#8, 0x45#8, 0x56#8, 0x54#8, 0x44#8, 0x4F#8, 0x4E#8, 0x45#8]

/-- The 64 bytes of a record (R445). -/
def recBytes (e : RecEntry) (supp : List (Nat × Nat)) : List Byte :=
  let sup := (List.range 3).flatMap fun i => match supp[i]? with
    | some (src, n) => leBytes 4 (src + n * 512)
    | none => leBytes 4 0
  let body := leBytes 2 (e.src % 512) ++ leBytes 2 e.repeats ++ leBytes 4 e.opSeconds
    ++ leBytes 4 (e.cycle % 2 ^ 24 + supp.length * 2 ^ 24) ++ leBytes 4 (e.bar % 2 ^ 32) ++ e.detail ++ sup
  body ++ leBytes 4 (crc32c body) ++ doneRec

/-- The positions in NORMAL sectors from position `i` on (R444). -/
def State.usableFrom (s : State) (i : Nat) : List Nat :=
  (List.range (8192 - i)).map (i + ·) |>.filter fun k => s.sect (4176 + k / 64) = 0

/-- The position the next record takes. -/
def State.recPlace (s : State) : Option Nat :=
  let n := s.get Reg.EVT_REC_STAT_NEXT
  (List.range (8192 - n)).findSome? fun k => if s.sect (4176 + (n + k) / 64) = 0 then some (n + k) else none

/-- Is a position the last usable one (R455)? -/
def State.lastPlace (s : State) (i : Nat) : Bool := (s.usableFrom (i + 1)).isEmpty

def State.updRecStat (s : State) : State :=
  let s := s.set Reg.EVT_REC_STAT_QUEUE s.recorder.queue.length
  let s := s.set Reg.EVT_REC_SUPP_SOURCES s.recorder.supp.length
  (s.setB Reg.EVT_REC_STAT_PROGRAMMING s.recorder.prog.isSome).setB Reg.EVT_REC_STAT_CLEARING s.recorder.clear.isSome

/-- Add to DROPPED, saturating (R455). -/
def State.recDrop (s : State) (n : Nat) : State := s.count Reg.EVT_REC_DROPPED_COUNT n

/-- Up to three suppressed counts, lowest source first, leave the table; each carries at most 8,388,607 (R451). -/
def State.takeSupp (s : State) : State × List (Nat × Nat) :=
  let l := (s.recorder.supp.take 3).map fun e => (e.1, min 8388607 e.2)
  (s.updRec fun r => { r with
    supp := l.foldl (fun m e => Store.set 0 m e.1 (Store.get 0 m e.1 - e.2)) r.supp }, l)

/-- A delivery as an entry (R445). -/
def State.recEntry (s : State) (src repeats bar : Nat) (detail : List DField) : RecEntry where
  src := src
  repeats := repeats
  opSeconds := s.get Reg.OP_SECONDS_SECONDS
  cycle := s.get Reg.PWR_CYCLES_CYCLES
  bar := bar
  detail := detailBytes detail

def State.recProgram (s : State) (e : RecEntry) : State :=
  let r := s.takeSupp
  r.1.updRec fun x => { x with prog := some (e, r.2) }

/-- What the recorder still holds, as DROPPED counts it. -/
def State.recHeld (s : State) : Nat :=
  (s.recorder.queue.map fun e => 1 + e.repeats).sum + (s.recorder.supp.map (·.2)).sum

/-- The area is full: the FULL record takes the last position, and everything else is dropped (R455). -/
def State.recFull (s : State) (lost : Nat) (place : Bool) : State :=
  let next := s.get Reg.EVT_REC_STAT_NEXT
  let before := s.recorder.supp
  let s1 := if place then s.takeSupp else (s, [])
  let dropped := lost + s1.1.recHeld
  let detail := [d2 next, d4 dropped]
  let s := (s1.1.raise 0x1F8 detail).recDrop dropped
  let s := s.updRec fun r => { r with
    queue := [], supp := []
    prog := if place then some (s.recEntry 0x1F8 0 s.bar detail, (before.take 3).map fun e => (e.1, min 8388607 e.2)) else none }
  s.set Reg.EVT_REC_STAT_FULL 1

/-- Start programming a delivery, or a carrier record, which is none (R444, R449, R451, R455). -/
def State.recStart (s : State) (e : RecEntry) : State :=
  let lost := if e.src = 0x1FB then 0 else 1 + e.repeats
  match s.recPlace with
  | none => s.recFull lost false
  | some i => if s.lastPlace i then s.recFull lost true else s.recProgram e

/-- May the recorder start a record? -/
def State.recIdle (s : State) : Bool :=
  s.recorder.ready && s.recorder.prog.isNone && s.recorder.clear.isNone && !(s.flag Reg.EVT_REC_STAT_FULL)

/-- The recorder takes the head of its queue, or carries suppressed counts (R450, R451). -/
def State.recTake (s : State) : State :=
  if !s.recIdle then s.updRecStat
  else match s.recorder.queue with
    | e :: l => ((s.updRec fun r => { r with queue := l }).recStart e).updRecStat
    | [] =>
      if s.recorder.supp.isEmpty then s.updRecStat
      else (s.recStart ⟨0x1FB, 0, s.get Reg.OP_SECONDS_SECONDS, s.get Reg.PWR_CYCLES_CYCLES, s.bar, List.replicate 24 0#8⟩).updRecStat

/-- A delivery that finds the queue full (R451). -/
def State.recSuppress (s : State) (src n : Nat) : State :=
  let s := s.updRec fun r => { r with supp := Store.set 0 r.supp src (satW 32 (Store.get 0 r.supp src + n)) }
  let s := (s.count Reg.EVT_REC_SUPP_EVENTS n).updRecStat
  if s.recorder.floodPhrase = s.bar / 256 + 1 then s
  else (s.updRec fun r => { r with floodPhrase := s.bar / 256 + 1 }).raise 0x1FB [d2 src, d2 s.recorder.supp.length]

/-- A delivery to the recorder (R450, R451, R455). -/
def State.recDeliver (s : State) (e : RecEntry) : State :=
  if s.flag Reg.EVT_REC_STAT_FULL then s.recDrop (1 + e.repeats)
  else if 32 ≤ s.recorder.queue.length then s.recSuppress e.src (1 + e.repeats)
  else (s.updRec fun r => { r with queue := r.queue ++ [e] }).recTake

/-- A record commits, and the recorder takes the next (R449). -/
def State.recDone (s : State) : State :=
  match s.recorder.prog with
  | none => s
  | some (e, supp) =>
    let s := s.updRec fun r => { r with prog := none }
    match s.recPlace with
    | none => s.recTake
    | some i => ((s.flashPut (recAt i) (recBytes e supp)).set Reg.EVT_REC_STAT_NEXT (i + 1)).recTake

/-- A committed record at a position: COMMIT and CRC (R459). -/
def State.recOk (s : State) (i : Nat) : Bool :=
  s.flashRead (recAt i + 0x38) 8 = doneRec && s.flashNat (recAt i + 0x34) 4 = crc32c (s.flashRead (recAt i) 0x34)

/-- The scan of start-up step 2 (R453). -/
def State.recScan (s : State) : State :=
  let used := s.usedSlots (recAt 0) 8192
  let next := used.foldl (fun b i => max b (i + 1)) 0
  let s := (s.set Reg.EVT_REC_STAT_NEXT next).set Reg.EVT_REC_SCAN_USABLE (s.usableFrom 0).length
  let s := s.set Reg.EVT_REC_SCAN_TORN (satW 16 ((List.range next).filter fun i => !(s.recOk i)).length)
  let s := s.setB Reg.EVT_REC_STAT_FULL ((s.usableFrom next).isEmpty)
  s.updRec fun r => { r with ready := true }

/-! ### Delivery (R434, R441 to R443, R452) -/

def insertNat (k : Nat) : List Nat → List Nat
  | [] => [k]
  | x :: l => if k < x then k :: x :: l else if k = x then x :: l else x :: insertNat k l

def State.setPending (s : State) (src : Nat) : State :=
  let s := s.latch (Reg.EVT_PEND_PEND (src / 32)) (2 ^ (src % 32))
  { s with cmd := { s.cmd with fresh := insertNat src s.cmd.fresh } }

/-- An event delivered to the active warden, which counts it (R443). -/
def State.toWarden (s : State) (src : Nat) : State :=
  s.updRec fun q => { q with wardenEvents := (q.wardenEvents + 1) % 2 ^ 32, lastWarden := src }

/-- One MSI-X message per vector and bar; the source and the count are kept (R441). -/
def State.signal (x : State × List (Nat × Nat)) (p src vec : Nat) : State × List (Nat × Nat) :=
  let s := (x.1.set (Reg.EVT_MSIX_LAST_SOURCE p) src).count (Reg.EVT_MSIX_LAST_COUNT p)
  let f := match vec with
    | 0 => Reg.EVT_MSIX_VEC_0 p
    | 1 => Reg.EVT_MSIX_VEC_1 p
    | 2 => Reg.EVT_MSIX_VEC_2 p
    | _ => Reg.EVT_MSIX_VEC_3 p
  if x.2.contains (p, vec) then (s, x.2) else (s.send (.msix p (s.get f)), (p, vec) :: x.2)

/-- All raises of one source in a bar, to every destination of its route. -/
def State.deliver (x : State × List (Nat × Nat)) (l : List Event) : State × List (Nat × Nat) :=
  match l with
  | [] => x
  | e :: rest =>
    let s := x.1
    if e.src = 0x200 then (s.each l State.logEvent, x.2)
    else if s.masked e.src then x
    else
      let r := s.routeOf e.src
      let s := s.when (bitAt r 0) fun s => s.each l State.logEvent
      let y := if bitAt r 1 then (s.reached e).foldl (fun y p => State.signal y p e.src (bitsAt r 5 2)) (s, x.2) else (s, x.2)
      let s := y.1.when (bitAt r 2) fun s => s.setPending e.src
      let s := s.when (bitAt r 4) fun s => s.toWarden e.src
      let own := e.src = 0x1F8 || e.src = 0x1F9
      let s := s.when (bitAt r 3 && !own) fun s => s.recDeliver (s.recEntry e.src (min 65535 rest.length) e.bar e.detail)
      (s, y.2)

/-- Before step 2 has loaded the option area, events wait in the recorder's queue, unrouted (R452). -/
def State.holdEvents (s : State) (l : List Event) : State :=
  match l with
  | [] => s
  | e :: rest =>
    let entry := s.recEntry e.src (min 65535 rest.length) e.bar e.detail
    if e.src = 0x200 then s
    else if 32 ≤ s.recorder.queue.length then s.recSuppress e.src (1 + entry.repeats)
    else (s.updRec fun r => { r with queue := r.queue ++ [entry] }).updRecStat

/-- The events raised before this bar are delivered, in ascending source number (R26, R434). -/
def State.deliverEvents (s : State) : State :=
  let due := s.raised.filter fun e => decide (e.bar < s.bar)
  let srcs := due.foldl (fun l e => insertNat e.src l) []
  let s := { s with raised := s.raised.filter fun e => !(decide (e.bar < s.bar)) }
  let group := fun (n : Nat) => due.filter fun e => e.src = n
  if s.get Reg.SYS_STATE_STEP ≤ 2 && !s.recorder.ready then s.each srcs fun s n => s.holdEvents (group n)
  else (srcs.foldl (fun x n => State.deliver x (group n)) (s, [])).1

/-- The option area is loaded: what waited is routed (R452). -/
def State.routeHeld (s : State) : State :=
  let held := s.recorder.queue
  let s := s.each held fun s e =>
    let r := if s.masked e.src then 0 else s.routeOf e.src
    let s := s.when (bitAt r 2) fun s => s.setPending e.src
    s.when (bitAt r 4) fun s => s.toWarden e.src
  s.updRec fun r => { r with queue := r.queue.filter fun e => !(s.masked e.src) && bitAt (s.routeOf e.src) 3 }

/-- The loaded routes apply and the scan ends: the recorder starts (R452, R453). -/
def State.startRecorder (s : State) : State := s.routeHeld.recScan.recTake

/-! ### IBIs (R442) -/

/-- Pending sources, lowest first. -/
def State.pendingSources (s : State) : List Nat :=
  (List.range 512).filter fun n => bitAt (s.get (Reg.EVT_PEND_PEND (n / 32))) (n % 32)

/-- The payload of an event IBI. -/
def ibiPayload (l : List Nat) : List Byte :=
  let n := l.headD 0
  leBytes 1 0xA0 ++ leBytes 1 n ++ leBytes 1 (n / 256) ++ leBytes 1 (min 255 l.length)

/-- At a phrase start with a pending bit set since the last accepted IBI and still set, an event IBI is asked for in place of
one not yet accepted. -/
def State.askEventIbi (s : State) : State :=
  let l := s.pendingSources
  if s.phraseStart && s.cmd.fresh.any l.contains then
    ({ s with cmd := { s.cmd with ibis := s.cmd.ibis.filter fun b => b.headD 0#8 ≠ 0xA0#8 } }).requestIbi (ibiPayload l)
  else s

/-! ### Commands (R448, R457, R460 to R462) -/

/-- SET_TIME_ANCHOR (R448). -/
def opSetTimeAnchor (p : Pkt) (s : State) : OpResult :=
  if 999999999 < p.u32 8 then .refuse s stInvalid
  else
    let s := ((s.set Reg.EVT_ANCHOR_LO_WALL (p.u32 0)).set Reg.EVT_ANCHOR_HI_WALL (p.u32 4)).set Reg.EVT_ANCHOR_OPS_OPS
      (s.get Reg.OP_SECONDS_SECONDS)
    .ok (s.raise 0x1FA [d8 (p.u64 0), d4 (p.u32 8), d1 (srcNum p.src)])

/-- RECORDER_READ (R460). -/
def opRecorderRead (p : Pkt) (s : State) : OpResult :=
  let first := p.u16 0
  if 8191 < first then .refuse s stInvalid
  else
    let n := min (p.u8 2) (8192 - first)
    let next := s.get Reg.EVT_REC_STAT_NEXT
    let recs := (List.range n).flatMap fun i =>
      if next ≤ first + i then List.replicate 64 0xFF#8 else s.flashRead (recAt (first + i)) 64
    .ok s (s.words [0x10000, 0x10004] ++ leBytes 2 first ++ leBytes 1 n ++ leBytes 1 0 ++ recs)

/-- The next sector of a clear is erased, from 4,303 down to 4,176, while no save runs (R457, R458). -/
def State.clearNext (s : State) : State :=
  match s.recorder.clear with
  | none => s
  | some c =>
    if c.left = 0 || s.saving || s.flash.erase.isSome || s.flash.prog.isSome then s
    else s.startErase ((4175 + c.left) * 4096)

/-- RECORDER_CLEAR (R457). -/
def opRecorderClear (p : Pkt) (s : State) : OpResult :=
  if !(p.genOk (s.get Reg.EVT_GEN_GEN)) then .refuse s stStale
  else if s.saving || s.restoring || s.warden.update.isSome then .refuse s stForbids
  else if s.recorder.clear.isSome then .refuse s stBusy
  else
    let s := s.updRec fun r => { r with
      clear := some ⟨s.get Reg.EVT_REC_DROPPED_COUNT, s.get Reg.EVT_REC_STAT_NEXT, srcNum p.src, 128⟩ }
    .ok (s.updRecStat.clearNext) (leBytes 4 (s.get Reg.EVT_GEN_GEN))

/-- The last erase of a clear has verified: its record is the first in the area (R457). -/
def State.clearDone (s : State) : State :=
  match s.recorder.clear with
  | none => s
  | some c =>
    if c.left ≠ 0 || s.recorder.prog.isSome then s
    else
      let s := ((s.set Reg.EVT_REC_STAT_NEXT 0).set Reg.EVT_REC_STAT_FULL 0).set Reg.EVT_REC_DROPPED_COUNT 0
      let s := (s.set Reg.EVT_REC_STAT_DROPPED_LOST 0).bump Reg.EVT_GEN_GEN
      let detail := [d4 c.dropped, d2 c.next, d1 c.src]
      let entry := s.recEntry 0x1F9 0 s.bar detail
      let mine := !(s.masked 0x1F9) && bitAt (s.routeOf 0x1F9) 3
      let s := s.updRec fun r => { r with clear := none, queue := if mine then entry :: r.queue else r.queue }
      (s.raise 0x1F9 detail).recTake

/-- A route byte as a command or register write sets it: bits 0 to 2 and 5 to 6 in basic form, every bit in expert form
(R461); the fixed bits stay (R438). -/
def newRoute (src old v : Nat) (expert : Bool) : Nat :=
  fixRoute src (if expert then v % 128 else Nat.land v 0x67 + Nat.land old 0x18)

/-- Does a route setting ask what R174 refuses? -/
def routeRefused (src v : Nat) : Bool := violationSource src && v % 4 ≠ 0

def State.setRoute (s : State) (src v : Nat) : State :=
  let f := Reg.EVT_ROUTE_ROUTE (src / 4)
  let k := 2 ^ (8 * (src % 4))
  s.set f (s.get f - s.routeByte src * k + v * k)

/-- EVT_ROUTE_SET (R461). -/
def opEvtRouteSet (p : Pkt) (s : State) : OpResult :=
  let first := p.u16 0
  let n := p.u16 2
  let byteAt := fun i => leAt p.params (4 + i) 1
  if !(p.genOk (s.get Reg.EVT_GEN_GEN)) then .refuse s stStale
  else if 0x200 < first + n || (List.range n).any fun i => decide (128 ≤ byteAt i) then .refuse s stInvalid
  else
    let s := s.each (List.range n) fun s i =>
      let src := first + i
      let s := s.when (routeRefused src (byteAt i)) fun s => s.count Reg.EVT_ROUTE_REFUSED_COUNT
      s.setRoute src (newRoute src (s.routeByte src) (byteAt i) p.expert)
    let s := s.bump Reg.EVT_GEN_GEN
    .ok s (leBytes 4 (s.get Reg.EVT_GEN_GEN))

/-- A mask word without the bit of 0x1FA (R436). -/
def maskWord (w v : Nat) : Nat := if w = 15 && bitAt v 26 then v - 2 ^ 26 else v

/-- EVT_MASK (R462). -/
def opEvtMask (p : Pkt) (s : State) : OpResult :=
  if !(p.genOk (s.get Reg.EVT_GEN_GEN)) then .refuse s stStale
  else if !p.expert && decide (0x200 ≤ p.u16 0) then .refuse s stInvalid
  else
    let s := if p.expert then
        s.each (List.range 16) fun s w => s.set (Reg.EVT_MASK_MASK w) (maskWord w (p.u32 (4 + 4 * w)))
      else
        let src := p.u16 0
        let f := Reg.EVT_MASK_MASK (src / 32)
        let k := src % 32
        let old := s.get f
        s.set f (maskWord (src / 32) (old - (if bitAt old k then 2 ^ k else 0) + (if p.u8 2 ≠ 0 then 2 ^ k else 0)))
    let s := s.bump Reg.EVT_GEN_GEN
    .ok s (leBytes 4 (s.get Reg.EVT_GEN_GEN))

/-- A register write to EVT_ROUTE_w, under the rules of R461: a byte with bit 7 refuses it (R462). -/
def State.writeRoute (s : State) (src : Src) (w v : Nat) : State :=
  let byteAt := fun j => bitsAt v (8 * j) 8
  if (List.range 4).any fun j => decide (128 ≤ byteAt j) then s.badAccess src (0x10400 + 4 * w)
  else
    let s := s.each (List.range 4) fun s j =>
      s.when (routeRefused (4 * w + j) (byteAt j)) fun s => s.count Reg.EVT_ROUTE_REFUSED_COUNT
    let new := ((List.range 4).map fun j =>
      newRoute (4 * w + j) (s.routeByte (4 * w + j)) (byteAt j) (s.holds src .expert) * 2 ^ (8 * j)).sum
    (s.later (Reg.EVT_ROUTE_ROUTE w) new).bump Reg.EVT_GEN_GEN

/-- A register write to EVT_MASK_w (R462). -/
def State.writeMask (s : State) (w v : Nat) : State := (s.later (Reg.EVT_MASK_MASK w) (maskWord w v)).bump Reg.EVT_GEN_GEN

def setTimeAnchorOp : PktOp :=
  ⟨0x0007, some .mgmt, true, fun _ ps => ps.length = 16 && zeroAt ps 12 4, fun _ _ => 0, opSetTimeAnchor⟩
def evtRouteSetOp : PktOp :=
  ⟨0x0A01, some .mgmt, true, fun _ ps => decide (1 ≤ leAt ps 2 2) && decide (leAt ps 2 2 ≤ 512) && ps.length = 4 + leAt ps 2 2,
    fun _ _ => 4, opEvtRouteSet⟩
def recorderReadOp : PktOp :=
  ⟨0x0A02, some .mgmt, false, fun _ ps => ps.length = 4 && decide (1 ≤ leAt ps 2 1) && decide (leAt ps 2 1 ≤ 63) && zeroAt ps 3 1,
    fun _ p => 12 + 64 * min (p.u8 2) (8192 - p.u16 0), opRecorderRead⟩
def recorderClearOp : PktOp := ⟨0x0A03, none, true, fun _ ps => ps.length = 0, fun _ _ => 4, opRecorderClear⟩
def evtMaskOp : PktOp :=
  ⟨0x0A04, some .mgmt, true, fun e ps => ps.length = (if e then 68 else 4) && zeroAt ps 3 1, fun _ _ => 4, opEvtMask⟩

/-- SPAN_IBI_REQUEST (R442). -/
def execSpanIbiRequest (s : State) : Answer := s.powered <| .next s.askEventIbi

/-- RECORDER_RECORD_DONE (R449, R451, R455). -/
def execRecorderRecordDone (s : State) : Answer := s.powered <| .next s.recDone

/-- SET_TIME_ANCHOR (R448). -/
def execSetTimeAnchor (p : Pkt) (s : State) : Answer := .next (setTimeAnchorOp.command p s)

/-- RECORDER_READ (R460). -/
def execRecorderRead (p : Pkt) (s : State) : Answer := .next (recorderReadOp.command p s)

/-- RECORDER_CLEAR (R457). -/
def execRecorderClear (p : Pkt) (s : State) : Answer := .next (recorderClearOp.command p s)

/-- RECORDER_CLEAR_DONE (R457). -/
def execRecorderClearDone (s : State) : Answer := s.powered <| .next s.clearDone

/-- EVT_ROUTE_SET (R461). -/
def execEvtRouteSet (p : Pkt) (s : State) : Answer := .next (evtRouteSetOp.command p s)

/-- EVT_MASK (R462). -/
def execEvtMask (p : Pkt) (s : State) : Answer := .next (evtMaskOp.command p s)

end Sys2Proof.Machine
end

