-- ==== Sys2Proof/Machine/KeyStore.lean ====
section
/-! DEFINITION. The key store, the owner policy and the device's identity (spec/15_security.md R496 to R505). -/

namespace Sys2Proof.Machine

def State.updSec (s : State) (f : SecState → SecState) : State := { s with sec := f s.sec }

/-- DEVICE_ID (R496). -/
def State.deviceId (_ : State) : List Byte := Config.sha384 Config.identityKey

/-- Is a public key in the uncompressed form, on the curve and not at infinity (R499)? -/
def keyOk (k : List Byte) : Bool := k.length = 97 && k.headD 0#8 = 0x04#8 && Config.onCurve k

/-- ESCROW_ID and SEC_OWNER_ID: bytes 0 to 3 of the SHA-384 of a key (R511, R519). -/
def keyId (k : List Byte) : Nat := leAt (Config.sha384 k) 0 4

/-- The key in force of a kind: the newest entry that is not revoked and passes its check (R497, R499). -/
def State.keyInForce (s : State) (owner : Bool) : Option (List Byte) :=
  ((s.sec.store.filter fun e => e.owner = owner && !e.revoked && keyOk e.key).getLast?).map (·.key)

def State.ownerKey (s : State) : Option (List Byte) := s.keyInForce true
def State.escrowKey (s : State) : Option (List Byte) := s.keyInForce false

/-- The registers that show the key store (R518, R519). -/
def State.syncKeys (s : State) : State :=
  let s := (s.setB Reg.SEC_STAT_ESCROW s.escrowKey.isSome).setB Reg.SEC_STAT_OWNER s.ownerKey.isSome
  let s := s.set Reg.SEC_STAT_STORE_FREE (24 - s.sec.store.length)
  let s := s.set Reg.SEC_STAT_EPOCH_LEFT (255 - s.get Reg.SEC_STAT_EPOCH)
  (s.set Reg.SEC_ESCROW_ID_ID ((s.escrowKey.map keyId).getD 0)).set Reg.SEC_OWNER_ID_ID ((s.ownerKey.map keyId).getD 0)

/-- Report a change of the key store, or that it could not be made (R520): kind 0 owner, 1 escrow. -/
def State.keyEvent (s : State) (owner : Bool) (key : List Byte) : State :=
  s.raise 0x1FC [d1 (bit (!owner)), d4 (keyId key), d1 (24 - s.sec.store.length)]

/-- A key is programmed and comes into force; the older entries of an owner key are revoked (R497, R504). -/
def State.programKey (s : State) (owner : Bool) (key : List Byte) : State :=
  if 24 ≤ s.sec.store.length then s.keyEvent owner key
  else
    let s := s.updSec fun x => { x with
      store := (x.store.map fun e => if e.owner && owner then { e with revoked := true } else e) ++ [⟨owner, key, false⟩] }
    s.syncKeys.keyEvent owner key

/-- POLICY and its bits (R503). -/
def State.policy (s : State) : Nat := s.optWord 0x6B0
def State.refuseAzScore (s : State) : Bool := bitAt s.policy 0
def State.escrowLock (s : State) : Bool := bitAt s.policy 1
def State.eraseLock (s : State) : Bool := bitAt s.policy 2
def State.hostSec (s : State) : Bool := bitAt s.policy 3

def State.optBytes (s : State) (o n : Nat) : List Byte := Store.getRange 0#8 s.opt o n

/-- IMP_DECK_ID and IMP_WRITER_KEY of the loaded copy; an import record is present when the first is not zero (R515). -/
def State.importDeck (s : State) : List Byte := s.optBytes (0x6B0 + 0x78) 16
def State.importKey (s : State) : List Byte := s.optBytes (0x6B0 + 0x88) 97
def State.importPresent (s : State) : Bool := s.importDeck.any (· ≠ 0#8)

/-- May a source send a security command (R505)? -/
def State.mayCommandKeys (s : State) (src : Src) : Bool :=
  match src with
  | .hport _ => s.hostSec
  | _ => true

end Sys2Proof.Machine
end

