-- ==== Sys2Proof/Machine/Deck.lean ====
section
/-! DEFINITION. The Deck engine (spec/08_deck.md R277 to R319): bands and stripes, segments, the save rate and the
reserve, the choice of NAND work, program, read and erase results, wear, and channels lost. -/

namespace Sys2Proof.Machine

/-! ### NAND channels -/

def State.nch (s : State) (n : Nat) : NandCh := s.deck.chans.getD n .init

def State.updNch (s : State) (n : Nat) (f : NandCh → NandCh) : State :=
  s.updDeck fun d => { d with chans := setAt 16 .init d.chans n (f (s.nch n)) }

/-- NCH_n_STAT.STATE codes (R316). -/
def nchState (s : State) (n : Nat) : Nat := s.get (Reg.NCH_STAT_STATE n)

def State.nchServing (s : State) (n : Nat) : Bool := nchState s n = 1

/-- k: the channels in service that are not suspended (R285). -/
def State.nchCount (s : State) : Nat := (nandChannels.filter s.nchServing).length

def State.outMask (s : State) : Nat := (nandChannels.map fun n => if s.nchServing n then 0 else 2 ^ n).sum

def State.setNch (s : State) (n st : Nat) : State :=
  if nchState s n = st then s else
    let s := (s.set (Reg.NCH_STAT_STATE n) st).bump (Reg.NCH_GEN_GEN n)
    let s := s.set Reg.DECK_STAT_OUT_MASK s.outMask
    s.setB Reg.DECK_STAT_SUSPENDED (nandChannels.any fun m => nchState s m = 2)

/-! ### Bands (R280, R281, R293, R294) -/

/-- L of R280. -/
def State.logicalSb (s : State) : Nat := s.card.sbPerDie - 28

def State.bandCount (s : State) : Nat := s.card.nandDies * s.logicalSb

def State.bandOf (s : State) (die sb : Nat) : Nat := (sb - 4) * s.card.nandDies + die

def State.band (s : State) (b : Nat) : BandState := Store.get .raw s.deck.bands b

def State.setBand (s : State) (b : Nat) (x : BandState) : State :=
  s.updDeck fun d => { d with bands := Store.set .raw d.bands b x }

def State.erasedBands (s : State) : Nat := (s.deck.bands.filter fun e => e.2 = .erased).length

def State.usableBands (s : State) : Nat := s.bandCount - (s.deck.bands.filter fun e => e.2 = .withdrawn).length

/-- Records that name a band. -/
def State.refsIn (s : State) (l : List (Nat × TileRec)) (b : Nat) : Nat :=
  (l.filter fun e => match e.2 with | .data die sb _ _ _ => s.bandOf die sb = b | _ => false).length

/-- The current Keystone: the one a start-up would select (R293). -/
def State.currentKeystone (s : State) : Option Keystone :=
  (s.deck.keystones.filter fun k => !k.copies.isEmpty).foldl (fun b k => match b with
    | none => some k
    | some c => if c.seq < k.seq then some k else some c) none

def State.committedRefs (s : State) (b : Nat) : Nat := ((s.currentKeystone.map fun k => s.refsIn k.map b)).getD 0

def State.pinnedBands (s : State) : Nat :=
  (s.deck.bands.filter fun e => e.2 = .full && s.refsIn s.deck.loc e.1 = 0 && s.committedRefs e.1 ≠ 0).length

/-- 16 × r of R285 and R294, in MB/s: r is 0.875 × min(1,600, NAND_DIES × 218.2). -/
def State.rateFor (s : State) (k : Nat) : Nat := 875 * min 16000 (s.card.nandDies * 2182) * k / 10000

/-- DECK_RESERVE.NEEDED (R294). -/
def State.neededBands (s : State) : Nat :=
  ceilDiv (s.rateFor 16 * 1000 * (s.get Reg.TILE_POLICY_WINDOW_MS - 400) + 536870912) 455081984
    + s.get Reg.DECK_CFG_RESERVE_EXTRA

/-- The score term of R285: the cycle-average of the playing save score's SAVE passes, capped by SAVE quads and by
ENCRYPT_SAVE engines, in MB/s. -/
def State.scoreRate (s : State) : Nat :=
  let g := s.seq.play
  match g.tab saveIndex with
  | none => 0
  | some t =>
    let n := (g.channels.map t.cycle).foldl Nat.lcm t.engIndex.length
    ⌊(cycleMean n fun b =>
      let e := g.engine t b
      ((e.copy.filter fun p => p.kind = .save).map fun p =>
        min (min p.bytes (128 * ((g.channels.filter (bitAt p.mask)).map fun c =>
          g.heldQuads t c (b % t.cycle c) .save).sum)) (62144 * e.engines .encryptSave)).sum) * 10 / 39⌋.toNat

/-- DECK_SAVE_RATE and its binding term (R285). -/
def State.saveRate (s : State) : Nat × Nat :=
  let k := s.nchCount
  if k < 14 || s.get Reg.DECK_STAT_STATE ≠ 2 then (0, 0) else
    let a := s.rateFor k
    let b := s.scoreRate
    let g := s.erasedBands * 455081984 * k / 16
    let c := (g - 536870912) / ((s.get Reg.TILE_POLICY_WINDOW_MS - 400) * 1000)
    if a ≤ b && a ≤ c then (a, 0) else if b ≤ c then (b, 1) else (c, 2)

/-- DECK_SAVE_RATE follows R285: a fall at once, a rise at a phrase start; a fall has N_max recomputed (R213). -/
def State.updSaveRate (s : State) (phrase : Bool) : State :=
  let s := s.set Reg.DECK_SAVE_RATE_CHANNELS s.nchCount
  let old := s.get Reg.DECK_SAVE_RATE_MBS
  let r := s.saveRate
  if r.1 = old || (old < r.1 && !phrase) then s else
    let s := (s.set Reg.DECK_SAVE_RATE_MBS r.1).set Reg.DECK_SAVE_RATE_LIMIT r.2
    let s := s.raise 0x173 [d4 old, d4 r.1, d1 r.2]
    if r.1 < old then s.updTile fun x => { x with recompute := true } else s

/-- The live band and wear registers (R315). -/
def State.updBands (s : State) : State :=
  let s := (s.set Reg.DECK_BANDS_ERASED s.erasedBands).set Reg.DECK_BANDS_PINNED s.pinnedBands
  let short := s.get Reg.DECK_STAT_STATE = 2 && s.erasedBands < s.neededBands
  let was := s.get Reg.DECK_RESERVE_NEEDED ≤ s.get Reg.DECK_BANDS_ERASED
  let s := (s.set Reg.DECK_RESERVE_NEEDED s.neededBands).set Reg.DECK_RESERVE_USABLE s.usableBands
  if short && was then s.raise 0x174 [d2 s.erasedBands, d2 s.neededBands] else s

/-! ### Placing copies (R282, R283, R290, R291) -/

/-- The band open on die index `d`, or the lowest erased one there (R292). -/
def State.openBand (s : State) (d : Nat) : Option (Nat × Nat) :=
  let onDie := s.deck.bands.filter fun e => e.1 % s.card.nandDies = d
  match onDie.findSome? fun e => match e.2 with | .filling n => if n < 496 then some (e.1, n) else none | _ => none with
  | some x => some x
  | none => (onDie.find? fun e => e.2 = .erased).map fun e => (e.1, 0)

/-- A place for a new stripe: die index, band and page, die indices in turn (DESIGN CHOICE, notes/assumptions/34.md). -/
def State.stripePlace (s : State) : Option (Nat × Nat × Nat) :=
  ((List.range s.card.nandDies).map fun i => (s.deck.nextDie + i) % s.card.nandDies).findSome? fun d =>
    (s.openBand d).map fun b => (d, b.1, b.2)

/-- Data positions of a stripe that can still take a copy. -/
def Stripe.free (x : Stripe) : List Nat :=
  (List.range 14).filter fun k => !(bitAt x.out (x.chan k)) && !(x.shares.any fun e => e.1 = k)

/-- A channel leaves service, or is suspended (R288): shares queued for it are dropped and stay missing; a stripe that is still open is
written without it, but for a copy it already holds, whose share stays missing (R283, R288). -/
def Stripe.dropChannel (x : Stripe) (n : Nat) : Stripe :=
  let pos := sharePositions.filter fun k => x.chan k = n
  if x.closed then
    if x.todo.contains n then { x with todo := x.todo.filter (· ≠ n), gone := x.gone ++ pos } else x
  else if bitAt x.out n then x
  else if x.shares.any fun e => x.chan e.1 = n then { x with gone := x.gone ++ pos }
  else { x with out := x.out + 2 ^ n }

/-- Close a stripe: the shares of its copies and its parity are queued on their channels (R282, R283). -/
def Stripe.close (x : Stripe) : Stripe :=
  if x.closed then x else
    let ks := ((x.shares.map Prod.fst) ++ [14, 15]).filter fun k => !(bitAt x.out (x.chan k)) && !(x.gone.contains k)
    { x with closed := true, todo := ks.map x.chan }

/-- A stripe without copies. -/
def Stripe.fresh (die sb page : Nat) (kind : SegKind) (seg out : Nat) : Stripe where
  die := die
  sb := sb
  page := page
  kind := kind
  seg := seg
  out := out
  shares := []
  closed := false
  todo := []
  gone := []
  patches := []

/-- Open a stripe for a segment. -/
def State.newStripe (s : State) (kind : SegKind) (seg : Nat) : Option State :=
  s.stripePlace.map fun (d, b, p) =>
    let sb := b / s.card.nandDies + 4
    let s := s.setBand b (if p + 1 < 496 then .filling (p + 1) else .full)
    s.updDeck fun k => { k with
      nextDie := (d + 1) % s.card.nandDies
      stripes := k.stripes ++ [Stripe.fresh d sb p kind seg s.outMask] }

/-- The next copy SEQ (R510). -/
def State.nextSeq (s : State) : Nat := s.get Reg.PWR_CYCLES_CYCLES % 2 ^ 24 * 2 ^ 40 + s.deck.copies % 2 ^ 40

def Stripe.openFor (x : Stripe) (seg : Nat) : Bool := x.seg = seg && !x.closed && !x.free.isEmpty

/-- Put a copy into the segment's open stripe, opening one where needed; answers the copy's record, none where no erased
band is left. -/
def State.placeCopy (s : State) (kind : SegKind) (seg : Nat) (k : Copy) : State × Option TileRec :=
  let s? := if s.deck.stripes.any (·.openFor seg) then some s else s.newStripe kind seg
  match s? with
  | none => (s, none)
  | some s =>
    match s.deck.stripes.find? (·.openFor seg) with
    | none => (s, none)
    | some x =>
      let pos := x.free.getD 0 0
      let y := { x with shares := x.shares ++ [(pos, k)] }
      let y := if y.free.isEmpty then y.close else y
      let s := s.updDeck fun d => { d with stripes := d.stripes.map (fun z => if z = x then y else z), copies := d.copies + 1 }
      (s, some (.data x.die x.sb x.page pos (seg % 16777216)))

/-- Close the open stripe of a segment. -/
def State.closeStripes (s : State) (seg : Nat) : State :=
  s.updDeck fun d => { d with stripes := d.stripes.map fun x => if x.seg = seg then x.close else x }

/-- A share of a STREAM or GC stripe was dropped with its channel: its segment cannot commit (R291). -/
def State.shareLost (s : State) (x : Stripe) : Bool :=
  (x.kind = .stream || x.kind = .gc) && x.gone.any fun k => !(s.nchUp (x.chan k))

/-- Has every share of every stripe of the segment been programmed (R291)? -/
def State.segWritten (s : State) (seg : Nat) : Bool :=
  (s.deck.stripes.filter fun x => x.seg = seg).all fun x => x.closed && x.todo.isEmpty && !(s.shareLost x)

/-- Open a segment of a kind: its number is DECK_SEGMENT.NEXT (R291). -/
def State.openSegment (s : State) (kind : SegKind) (first : Nat) : State × Nat :=
  let n := s.deck.segNext
  ((s.updDeck fun d => { d with segs := d.segs ++ [⟨n, kind, first, [], false⟩], segNext := n + 1 }).set
    Reg.DECK_SEGMENT_NEXT (n + 1), n)

def State.updSeg (s : State) (n : Nat) (f : Segment → Segment) : State :=
  s.updDeck fun d => { d with segs := d.segs.map fun g => if g.num = n then f g else g }

/-- The open segment of a kind, opened where there is none. -/
def State.segmentFor (s : State) (kind : SegKind) (first : Nat) : State × Nat :=
  match s.deck.segs.find? fun g => g.kind = kind && !g.closed with
  | some g => (s, g.num)
  | none => s.openSegment kind first

/-- Add a copy to the open segment of a kind; answers the segment where it found a place. -/
def State.addCopy (s : State) (kind : SegKind) (first : Nat) (k : Copy) : State × Option Nat :=
  let r := s.segmentFor kind first
  let q := r.1.placeCopy kind r.2 k
  match q.2 with
  | none => (q.1, none)
  | some x => (q.1.updSeg r.2 fun g => { g with tiles := g.tiles ++ [(k.tile, x)] }, some r.2)

/-- The copies of a stripe are written again as new copies of their segment, under new copy sequences where they are encrypted anew,
and the stripe is dead (R286). -/
def State.rewriteStripe (s : State) (x : Stripe) : State :=
  let s := s.updDeck fun d => { d with stripes := d.stripes.filter (· ≠ x) }
  let s := s.each x.shares fun s e =>
    let anew := x.kind = .stream || x.kind = .save
    let r := s.placeCopy x.kind x.seg (if anew then { e.2 with seq := s.nextSeq } else e.2)
    match r.2 with
    | none => r.1
    | some q => r.1.updSeg x.seg fun g => { g with tiles := g.tiles.map fun t => if t.1 = e.2.tile then (t.1, q) else t }
  if s.deck.segs.any fun g => g.num = x.seg && !g.closed then s else s.closeStripes x.seg

/-- Drop a segment: its shares are dead (R291). -/
def State.dropSegment (s : State) (n : Nat) : State :=
  s.updDeck fun d => { d with
    segs := d.segs.filter fun g => g.num ≠ n
    stripes := d.stripes.filter fun x => x.seg ≠ n }

/-! ### Keystones (R243 to R249, R295, R296) -/

/-- A ring takes `pages` more pages. -/
def Ring.room (r : Ring) (pages : Nat) : Bool :=
  decide (r.used.getD r.cur 0 + pages ≤ 512) || r.used.getD (1 - r.cur) 0 = 0

/-- Write a copy of sequence `seq` into the ring. -/
def Ring.put (r : Ring) (seq pages : Nat) : Ring :=
  let c := if r.used.getD r.cur 0 + pages ≤ 512 then r.cur else 1 - r.cur
  ⟨c, r.used.set c (r.used.getD c 0 + pages), r.seqs.set c (r.seqs.getD c [] ++ [seq])⟩

/-- Body pages of a Keystone: BODY_LENGTH of R303 in 64 KiB pages. -/
def Keystone.pages (k : Keystone) : Nat :=
  let n := (k.regions.filter (·.active)).map fun x => 16384 * x.size
  let maps := ceilDiv n.sum 8192
  ceilDiv (2560 + 8 * maps + 8 * ceilDiv k.lost.length 8192 + 144) 65536

/-- Channels of the copies: copy i goes to (s + 5i) mod 16, or upward to the next that is in service, distinct and has
room (R296). -/
def State.keyChannel (s : State) (seq pages : Nat) (used : List Nat) (i : Nat) : Option Nat :=
  ((List.range 16).map fun j => (seq + 5 * i + j) % 16).find? fun c =>
    s.nchServing c && !(used.contains c) && (s.nch c).ring.room pages

/-- Place the three copies, taking ring pages; 0x17C where a wanted channel's rings are full. A copy for which no channel has room
waits for one (R249). -/
def State.placeKeystone (s : State) (k : Keystone) (refresh : Bool) : State :=
  let pages := k.pages + 1
  let cs := (List.range 3).foldl (fun l i => l ++ [(s.keyChannel k.seq pages l i).getD 16]) []
  let s := s.each ((List.range 3).map fun i => (k.seq + 5 * i) % 16) fun s c =>
    if s.nchServing c && !((s.nch c).ring.room pages) then s.raise 0x17C [d1 c] else s
  let s := s.each (cs.filter (· < 16)) fun s c => s.updNch c fun x => { x with ring := x.ring.put k.seq pages }
  s.updDeck fun d => { d with writing := some ⟨k, cs.map fun c => ⟨c, k.pages, true⟩, refresh⟩ }

/-- Copies that wait for a channel take one that has room (R249). -/
def State.placeWaiting (s : State) : State :=
  match s.deck.writing with
  | none => s
  | some w => s.each ((List.range w.copies.length).filter fun i => (w.copies.getD i ⟨0, 0, false⟩).chan = 16) fun s i =>
    match s.deck.writing with
    | none => s
    | some w => match s.keyChannel w.ks.seq (w.ks.pages + 1) (w.copies.map (·.chan)) i with
      | none => s
      | some n =>
        let s := s.updNch n fun x => { x with ring := x.ring.put w.ks.seq (w.ks.pages + 1) }
        s.updDeck fun d => { d with writing := some { w with copies := w.copies.set i ⟨n, w.ks.pages, true⟩ } }

/-- Are all body pages of all copies programmed (R245)? -/
def KWrite.bodies (w : KWrite) : Bool := w.copies.all fun c => c.body = 0

/-! ### The choice of NAND work (R79, R292) -/

/-- In H a channel works only until a rail that feeds it goes off, and again once step 5 is over on the way out (R535). -/
def State.nandFed (s : State) (n : Nat) : Bool :=
  if s.sys.hExit.isSome then decide (5 < s.get Reg.SYS_STATE_STEP)
  else s.get Reg.SYS_PWR_STATE_STATE ≠ 4 || (List.range 16).all fun r =>
    !(bitAt (s.get (Reg.SEQ_RAIL_FEED_NCH r)) n) || bitAt (s.get Reg.SEQ_LIVE_EN) r

/-- No new operation starts in a rest bar, nor on a channel that is not in service (R62, R288). -/
def State.chBlocked (s : State) (n : Nat) : Bool := !(s.nchServing n) || (s.nch n).restBars ≠ 0 || !(s.nandFed n)

/-- Does the window hold a slot of the bar (R47)? -/
def NandWindow.holds (x : NandWindow) (k : Nat) : Bool := decide (x.first ≤ k) && decide (k < x.first + x.length)

/-- The window of a class that can start an operation on channel `n` at this slot: its index (R47). -/
def State.windowFor (s : State) (n : Nat) (cls : WinClass) : Option Nat :=
  if s.chBlocked n then none else
    (List.range 2).find? fun w =>
      let x := s.engineNow.window n w
      x.cls = cls && x.holds s.slot && decide ((s.nch n).used.getD w 0 < x.budget)

/-- Is a die free of its last operation, by result and by worst-case time (R79)? -/
def State.dieFree (s : State) (n d : Nat) : Bool :=
  !((s.nch n).ops.any fun o => o.die = d) && !((s.nch n).held.any fun h => h.1 = d && decide (s.now < h.2))

/-- The lowest-numbered free die of a window's mask for which `work` finds something. -/
def State.pickDie (s : State) (n w : Nat) (work : Nat → Option NandWork) : Option (Nat × NandWork) :=
  let x := s.engineNow.window n w
  (List.range s.card.nandDies).findSome? fun d =>
    if bitAt x.dieMask d && s.dieFree n d then (work d).map fun k => (d, k) else none

/-- Start an operation: the budget is used and the die held for its worst-case time (R47, R79). -/
def State.startOp (s : State) (n w d : Nat) (k : NandWork) (bars : Nat) : State :=
  s.updNch n fun x => { x with
    ops := x.ops ++ [⟨d, k, s.bar⟩]
    held := (x.held.filter fun h => h.1 ≠ d) ++ [(d, s.now + 6240 * bars)]
    used := x.used.set w (x.used.getD w 0 + 1) }

/-- Priority of a stripe's shares (R292): 0 save, map, lost list; 1 compaction while the reserve is short; 2 stream; 3 other
compaction. -/
def State.stripeRank (s : State) (x : Stripe) : Nat :=
  match x.kind with
  | .save => 0 | .map => 0 | .lostList => 0 | .stream => 2
  | .gc => if s.erasedBands < s.neededBands then 1 else 3

/-- Does a touch fetch wait for a die (R265)? -/
def State.touchWaitsOn (s : State) (n d : Nat) : Bool :=
  s.touchQueue.any fun f => (s.fetchChans f).contains n && (match s.recOf f.tile with | .data die _ _ _ _ => die = d | _ => false)

/-- Background restore takes the tiles of the priority region before the others, each by number (R258). -/
def State.bgBefore (s : State) (a b : Nat) : Bool :=
  let prio := fun t => s.flag Reg.TILE_RESTORE_CTL_PRIO_EN && (s.region (s.get Reg.TILE_RESTORE_CTL_PRIO_REGION)).hasTile t
  if prio a = prio b then decide (a ≤ b) else prio a

/-- ABSENT tiles that are not homeless and have no fetch yet, in the order of background restore (R258). -/
def State.bgOrder (s : State) : List Nat :=
  sortBy s.bgBefore ((s.tilesWith (· = codeAbsent)).filter fun t => !(s.isHomeless t) && !(s.tile.fetches.any fun f => f.tile = t))

/-- The next share to program on a die of a channel, Keystone pages (on die 0) among the first rank once the map and the
lost-tile list are written (R243, R245, R292). A die
for which a touch fetch waits starts no PROGRAM while a tile is ABSENT (R265). -/
def State.programWork (s : State) (n d : Nat) : Option NandWork :=
  if s.touchWaitsOn n d then none else
    let mapped := (s.deck.segs.filter fun g => g.kind = .map || g.kind = .lostList).all fun g => s.segWritten g.num
    let key := if d ≠ 0 || !mapped then none else s.deck.writing.bind fun w =>
      ((List.range w.copies.length).find? fun i =>
        let c := w.copies.getD i ⟨0, 0, false⟩
        c.chan = n && (decide (0 < c.body) || (c.commit && w.bodies))).map (NandWork.keyPage w.ks.seq)
    let mine := s.deck.stripes.filter fun x => x.die = d && x.todo.contains n
    let best := (List.range 4).findSome? fun r => mine.find? fun x => s.stripeRank x = r
    let share := best.bind fun x => (sharePositions.find? fun k => x.chan k = n).map fun k =>
      NandWork.share x.die x.sb x.page k none
    match key, best with
    | some k, some x => if s.stripeRank x = 0 then share else some k
    | some k, none => some k
    | none, _ => share

/-- The read of a share that a copy of record `r` still needs from a channel, on a die for which `free` holds. -/
def State.readFor (s : State) (n : Nat) (free : Nat → Bool) (r : TileRec) (need : List Nat) (k : Nat → NandWork) : Option (Nat × NandWork) :=
  match s.copyOf r with
  | some (x, _) => if free x.die then (need.find? fun p => x.chan p = n).map fun p => (x.die, k p) else none
  | none => none

/-- The next share to read on a channel: of the touch fetches in the queue by age, of the background restore, then of compaction, each
on a die that is free (R258, R292). -/
def State.readWork (s : State) (n : Nat) (free : Nat → Bool) : Option (Nat × NandWork) :=
  let pick := fun (l : List Fetch) => l.findSome? fun f => s.readFor n free (s.recOf f.tile) f.need (NandWork.fetch f.tile)
  pick (sortBy (fun a b => a.stamp ≤ b.stamp) s.touchQueue)
    <|> pick (sortBy (fun a b => s.bgBefore a.tile b.tile) (s.tile.fetches.filter (·.bg)))
    <|> s.deck.moves.findSome? fun m => s.readFor n free m.record m.need (NandWork.move m.tile)

/-- The dies of a window's mask that are free (R79). -/
def State.freeIn (s : State) (n w d : Nat) : Bool :=
  decide (d < s.card.nandDies) && bitAt (s.engineNow.window n w).dieMask d && s.dieFree n d

/-- Background restore runs: not paused, and not while a save is in progress (R236, R262). -/
def State.bgRuns (s : State) : Bool := s.get Reg.TILE_RESTORE_STAT_STATE ≠ 3 && !s.saving

/-- Take a tile into background restore. -/
def State.bgAdd (s : State) (t : Nat) : State := s.updTile fun x => { x with fetches := x.fetches ++ [s.newFetch t s.now true] }

/-- Background restore takes the first tile that has a share to read on a channel, on a die for which `free` holds (R258). -/
def State.bgTake (s : State) (n : Nat) (free : Nat → Bool) : State :=
  if !s.bgRuns then s else
    match s.bgOrder.find? fun t =>
      let f := s.newFetch t s.now true
      (s.readFor n free (s.recOf t) f.need (NandWork.fetch t)).isSome with
    | some t => s.bgAdd t
    | none => s

def State.anyAbsent (s : State) : Bool := !(s.tilesWith (· = codeAbsent)).isEmpty

/-- Does the band hold map or lost-list shares of the current Keystone? A start-up reads them (DEDUCED,
notes/assumptions/53.md). -/
def State.holdsMap (s : State) (b : Nat) : Bool :=
  let cur := (s.currentKeystone.map (·.seq)).getD 0
  s.deck.stripes.any fun x => s.bandOf x.die x.sb = b && (x.kind = .map || x.kind = .lostList)
    && x.shares.any fun e => e.2.seq = cur

/-- A band that may be erased (R293): no references, nothing in flight in it, the Keystone that freed it complete, and no
tile ABSENT. -/
def State.erasable (s : State) (b : Nat) : Bool :=
  s.band b = .full && s.refsIn s.deck.loc b = 0 && s.committedRefs b = 0
    && !(s.holdsMap b) && (s.deck.segs.all fun g => s.refsIn g.tiles b = 0)
    && ((s.currentKeystone.map fun k => decide (k.copies.length = 3))).getD true

/-- The next superblock to erase on a die of a channel: of a band already being erased, of a free band, or of one
that has not been erased since the format (R311). -/
def State.eraseWork (s : State) (n d : Nat) : Option Nat :=
  let onDie := s.deck.bands.filter fun e => e.1 % s.card.nandDies = d
  let going := onDie.find? fun e => match e.2 with | .erasing l => l.contains n | _ => false
  let free := onDie.find? fun e => s.erasable e.1
  let raw := if s.get Reg.DECK_STAT_STATE = 4 || s.get Reg.DECK_STAT_STATE = 2 then
      ((List.range s.logicalSb).map fun i => i * s.card.nandDies + d).find? fun b => s.band b = .raw else none
  (going.map (·.1)) <|> (free.map (·.1)) <|> raw

/-- An erase of band `b` begins on some channel: its stripes are gone, and every channel in service has its superblock to
erase. -/
def State.beginErase (s : State) (b : Nat) : State :=
  match s.band b with
  | .erasing _ => s
  | _ =>
    let s := s.setBand b (.erasing (nandChannels.filter s.nchUp))
    s.updDeck fun d => { d with stripes := d.stripes.filter fun x => s.bandOf x.die x.sb ≠ b }

/-! ### Wear (R307, R308) -/

def sbKey (n d sb : Nat) : Nat := (n * 8 + d) * 65536 + sb

/-- Physical superblock of a logical one (R280). -/
def State.physical (s : State) (n d sb : Nat) : Nat :=
  match Store.get 0 s.deck.remap (sbKey n d sb) with
  | 0 => sb
  | p + 1 => p

/-- Spares left on a die (R280). -/
def State.sparesLeft (s : State) (n d : Nat) : Nat :=
  (if d = 0 then 24 else 28) - Store.get 0 s.deck.sparesUsed (n * 8 + d)

def State.updSpares (s : State) (n : Nat) : State :=
  s.set (Reg.NCH_STAT_SPARES_MIN n) ((((List.range s.card.nandDies).map (s.sparesLeft n)).min?).getD 0)

/-- Physical numbers of the spares: the last 24 of each die, and the first four of a die other than die 0 (R280). -/
def State.sparePhysical (s : State) (d i : Nat) : Nat := if i < 24 then 4 + s.logicalSb + i else (if d = 0 then 0 else i - 24)

/-- Mark a superblock for retirement at its next erase (R307). Causes: 1 program failure, 2 erase failure, 3 corrected bits,
4 slow program, 5 rated cycles. -/
def State.markSb (s : State) (n d sb cause : Nat) : State :=
  s.updDeck fun k => { k with marked := Store.set 0 k.marked (sbKey n d sb) cause }

/-- Retire a superblock to a spare, or withdraw its band (R307). -/
def State.retireSb (s : State) (n d sb cause : Nat) : State :=
  let phys := s.physical n d sb
  let left := s.sparesLeft n d
  let s := s.updDeck fun k => { k with marked := Store.set 0 k.marked (sbKey n d sb) 0 }
  if left = 0 then
    let b := s.bandOf d sb
    ((s.setBand b .withdrawn).raise 0x177 [d2 b, d1 n, d1 d]).updBands
  else
    let used := Store.get 0 s.deck.sparesUsed (n * 8 + d)
    let s := s.updDeck fun k => { k with
      remap := Store.set 0 k.remap (sbKey n d sb) (s.sparePhysical d used + 1)
      sparesUsed := Store.set 0 k.sparesUsed (n * 8 + d) (used + 1) }
    (s.updSpares n).raise (srcNand n 1) [d1 d, d2 phys, d1 cause, d1 (left - 1)]

/-- Erase counts of a channel's superblocks that are listed. -/
def State.wearOf (s : State) (n : Nat) : List Nat :=
  (s.deck.wear.filter fun e => e.1 / (8 * 65536) = n).map (·.2)

def State.updWear (s : State) (n : Nat) : State :=
  let l := s.wearOf n
  let per := s.card.nandDies * s.logicalSb
  let s := s.set (Reg.NCH_WEAR_PE_AVG n) (satW 16 (if per = 0 then 0 else l.sum / per))
  s.set (Reg.NCH_WEAR_PE_MAX n) (satW 16 (l.foldl max 0))

def State.ratedCycles (s : State) : Nat := s.optWord 0xA0

/-- Does a physical superblock, by its key, stand in a band that is not withdrawn (R280, R308)? -/
def State.sbInUse (s : State) (key : Nat) : Bool :=
  let n := key / 65536 / 8
  let d := key / 65536 % 8
  let phys := key % 65536
  let used := fun sb => decide (4 ≤ sb) && decide (sb < 4 + s.logicalSb) && s.physical n d sb = phys && s.band (s.bandOf d sb) ≠ .withdrawn
  used phys || s.deck.remap.any fun e => decide (e.1 / 65536 = n * 8 + d) && used (e.1 % 65536)

/-- P_avg of R308: the mean erase count over the superblocks of the bands not withdrawn. -/
def State.wearMean (s : State) : Nat :=
  let n := 16 * s.usableBands
  if n = 0 then 0 else ((s.deck.wear.filter fun e => s.sbInUse e.1).map (·.2)).sum / n

/-- The wear warning of R307: once, when the program time average passes 200.0 µs or CBITS_MAX reaches 16. -/
def State.wearSign (s : State) (n : Nat) : State :=
  let avg := s.get (Reg.NCH_TPROG_AVG n)
  let bits := s.get (Reg.NCH_ERR_CBITS_MAX n)
  if (s.nch n).warned || (avg ≤ 2000 && bits < 16) then s
  else (s.updNch n fun x => { x with warned := true }).raise (srcNand n 3) [d2 avg, d1 bits]

/-- WA × 1,000: 1.3 until 10^13 bytes have been streamed, then as measured (R308). -/
def State.waMilli (s : State) : Nat :=
  if s.deck.streamed < 10 ^ 13 then 1300 else s.deck.raw * 1000 / s.deck.streamed

/-- Operating seconds since format. -/
def State.deckAge (s : State) : Nat :=
  s.get Reg.OP_SECONDS_SECONDS - ((s.deck.header.map (·.2)).getD (s.get Reg.OP_SECONDS_SECONDS))

/-- GOV_MBS of R308. -/
def State.governor (s : State) : Nat :=
  let c := 536870912 * s.usableBands
  let left := max 2629800 (s.get Reg.DECK_LIFE_TARGET_MONTHS * 2629800 - s.deckAge)
  c * (s.ratedCycles - 200 - s.wearMean) * 1000 / (s.waMilli * left) / 1000000

/-- Months of life at the rate streamed over the last 65,536 phrases (65,431,142.4 ms), or the longest value where nothing
was (R308). -/
def State.projected (s : State) : Nat :=
  let bytes := s.deck.streamed - s.deck.govStreamed
  if bytes = 0 then 65535 else
    let cap := 536870912 * s.usableBands * (s.ratedCycles - 200 - s.wearMean)
    (s.deckAge + cap * 1000 * 65431 / (s.waMilli * bytes * 1000)) / 2629800

/-- The wear governor recomputes its rate (R308). -/
def State.govern (s : State) : State :=
  let old := s.get Reg.TILE_STREAM_RATE_GOV_MBS
  let new := satW 16 s.governor
  let was := s.get Reg.DECK_LIFE_PROJECTED_MONTHS
  let months := satW 16 s.projected
  let target := s.get Reg.DECK_LIFE_TARGET_MONTHS
  let s := (s.set Reg.TILE_STREAM_RATE_GOV_MBS new).set Reg.DECK_WA_WA_MILLI s.waMilli
  let s := (s.set Reg.DECK_LIFE_PROJECTED_MONTHS months).set Reg.DECK_LIFE_USED_PCT
    (satW 8 (if s.ratedCycles = 0 then 0 else s.wearMean * 100 / s.ratedCycles))
  let s := s.updDeck fun d => { d with govPhrase := s.bar / 256, govStreamed := d.streamed }
  let s := if old ≤ 8 * (max old new - min old new) && old ≠ new then s.raise 0x14E [d2 old, d2 new] else s
  if months < target && target ≤ was then s.raise 0x178 [d2 months, d1 target] else s

/-! ### Rest bars of a NAND channel (R62, R63) -/

/-- A NAND contract overrun in this bar: recorded at the next downbeat; in a rest bar the downbeat takes one off `busy` (R61 to
R63). -/
def State.overrunNand (s : State) (n : Nat) (o : NandOverrun) (busy : Nat) : State :=
  s.updNch n fun x => { x with
    overruns := x.overruns ++ [o], busy := max x.busy (if x.restBars = 0 then busy else busy + 1) }

/-! ### An armed score (R88, R101) -/

/-- An arm that waits plays its image from this downbeat, once no channel carries refresh debt and no save runs: bounds, figures and the
save rate follow, and a port that the image does not present leaves (R88, R101). The arm was in effect before this downbeat's own
commands. -/
def State.swapDue (s : State) : State :=
  if s.loadState ≠ loadArmPending || s.anyDebt || s.saving || s.bar ≤ s.seq.armAt then s
  else match s.seq.staged.score with
    | none => s
    | some g =>
      let s := s.armSwap g
      let gone := ports.filter fun p => !(s.seq.play.port p).present && s.get (Reg.HPORT_STAT_LINK_STATE p) ≠ 0
      let s := s.each gone State.linkDown
      let s := s.publishBounds.updGpf
      let s := s.each ports fun s p => s.cdatChange p (s.lds p)
      (s.updSaveRate false).updTile fun x => { x with recompute := true }

end Sys2Proof.Machine
end

