-- ==== Sys2Proof/Machine/Stream.lean ====
section
/-! DEFINITION. Streaming (spec/06_streaming_budget.md R204 to R211): the cooling sweep, selection scans, tile copies,
stream segments and the token count. -/

namespace Sys2Proof.Machine

/-! ### The cooling sweep (R204) -/

/-- A cooling-epoch boundary: a sweep starts unless a save has sweeps stopped, and after a resumed sweep that has not ended yet; 0x14C
(R204, R236). -/
def State.epochBoundary (s : State) : State :=
  let s := (s.bump Reg.TILE_COOL_EPOCH_EPOCHS).updTile fun x => { x with epochAt := s.bar }
  let s := s.raise 0x14C [d2 (s.get Reg.TILE_COOL_EPOCH_EPOCHS), d4 (s.census (· = 0))]
  if s.saving || s.tile.sweepStopped then s
  else if s.tile.sweep.isSome then s.updTile fun x => { x with sweepNext := true }
  else (s.updTile fun x => { x with sweep := some 0, sweepStopped := false }).set Reg.TILE_STAT_SWEEP 1

/-- What the sweep does to a code. -/
def cooled (c : Nat) : Nat := if c = codeFresh then codeHot else if 1 ≤ c && c ≤ 3 then c - 1 else c

/-- The last word that holds a tile of an ACTIVE region. -/
def State.lastWord (s : State) : Nat := (((s.tile.codes.map (·.1)).foldl max 0)) / 16

/-- The sweep passes one word (R204); past the last word that is in use it ends. -/
def State.sweepStep (s : State) (e : SecDed) : State :=
  match s.tile.sweep with
  | none => s
  | some w =>
    let s := s.readState w e
    let s := s.each ((List.range 16).map (16 * w + ·)) fun s t =>
      if s.code t = codeUnmapped then s else s.setCode t (cooled (s.code t))
    if w < s.lastWord then s.updTile fun x => { x with sweep := some (w + 1) }
    else if s.tile.sweepNext then s.updTile fun x => { x with sweep := some 0, sweepNext := false }
    else (s.updTile fun x => { x with sweep := none, sweepStopped := false }).set Reg.TILE_STAT_SWEEP 0

/-! ### Selection (R207, R210, R211) -/

/-- Codes eligible for a scan (R207). -/
def State.eligible (s : State) (c : Nat) : Bool :=
  if s.flag Reg.TILE_STAT_HOLD || !s.assured then decide (c ≤ 4) else c = codeCold

/-- The copy engine has a tile buffer free: a copy holds one until it turns out to be zero or enters a segment (R207, R208). -/
def State.bufferFree (s : State) : Bool := decide ((s.tile.flights.filter fun k => k.seg.isNone).length < s.tile.buffers)

/-- May the stream take one more tile (R207, R210, R211)? At most 4,096 are IN_FLIGHT. Under EXP_CAP_MBS a tile is taken while the
phrase's allowance is not used up; what it takes beyond that counts against later phrases (DESIGN CHOICE,
notes/assumptions/74.md). -/
def State.rateAllows (s : State) : Bool :=
  s.bufferFree && decide ((s.tilesWith (· = codeFlight)).length < 4096) &&
    if s.expedited then
      let cap := s.get Reg.TILE_STREAM_CTL_EXP_CAP_MBS
      cap = 0 || decide (s.tile.expBytes < cap * 9984)
    else s.flag Reg.TILE_STREAM_CTL_STREAM_EN && decide (655360 ≤ s.tile.tokens)

/-- The next tile of a channel's scan, upward from where it stands and wrapping (R207). -/
def State.scanNext (s : State) (c : Nat) : Option Nat :=
  let from' := s.tile.scans.getD c 0
  let ok := fun t => s.eligible (s.code t) && !(s.isHomeless t)
    && (match s.frameOf t with | some f => f % 8 = c | none => false)
    && !(channels.any fun d => match (s.ch d).copying with | some k => k.tile = t | none => false)
  let l := (s.tile.codes.map (·.1)).filter ok
  (l.find? fun t => from' ≤ t) <|> l.head?

/-- A tile is chosen: it becomes IN_FLIGHT and its read is queued (R200, R207, R208). -/
def State.selectTile (s : State) (c t f : Nat) : State :=
  let s := (s.setCode t codeFlight).updTile fun x => { x with
    scans := x.scans.set c ((t + 1) % 33554432)
    flights := x.flights ++ [⟨t, f, s.bar, false, none, none⟩]
    tokens := if s.expedited then x.tokens else x.tokens - 655360
    expBytes := if s.expedited then x.expBytes + 655360 else x.expBytes }
  s.addJob c .stream f

/-- One step of a channel's selection scan, which reads the tile's word; it stops during a save (R236). -/
def State.scan (s : State) (c : Nat) (e : SecDed) : State :=
  if !(s.serving c) || s.saving || !s.rateAllows then s else
    match s.scanNext c with
    | none => s
    | some t =>
      let s := s.readState (t / 16) e
      if !(s.eligible (s.code t)) then s else
        match s.frameOf t with
        | some f => s.selectTile c t f
        | none => s

/-! ### Copies (R134, R208) -/

/-- DRAM as it is once the writes that wait in the queue for a frame have been issued: a copy that is read holds every write completed
before (R17, R37; DEDUCED, notes/assumptions/75.md). -/
def State.landed (s : State) (f : Nat) : DramState :=
  (s.each ((s.ch (f % 8)).reqs.filter fun r => r.write && r.frame = f) State.landWrite).dram

/-- A tile's contents as read from its frame. -/
def State.readTile (s : State) (t f : Nat) : Copy where
  tile := t
  seq := s.nextSeq
  mediaKey := s.save.mediaKey
  bytes := ((s.landed f).bytes.filter fun e => e.1 / 65536 = f).map fun e => (e.1 % 65536, e.2)
  poison := ((s.landed f).poison.filter fun e => e.1 / 1024 = f).map fun e => e.1 % 1024

/-- Every line reads as zero and none carries poison (R208). -/
def Copy.isZero (k : Copy) : Bool := k.bytes.isEmpty && k.poison.isEmpty

/-- Is the copy still its tile's: IN_FLIGHT, neither rewritten, released nor lost since (R19, R178, R200)? -/
def State.flies (s : State) (k : StreamCopy) : Bool := !k.stale && s.code k.tile = codeFlight

/-- A copy ends: its tile, if the copy is still its own, takes the code given (R200). A frame that left the tile map meanwhile goes on
to be zeroed, since no copy uses it any more (R178). -/
def State.endFlight (s : State) (k : StreamCopy) (code : Nat) : State :=
  let mine := s.flies k
  let s := s.updTile fun x => { x with flights := x.flights.filter fun y => y ≠ k }
  if mine then s.moveCode k.tile code else s

/-- The copy read of a tile completes, with the lines that read with errors (R208); an uncorrectable line abandons it and gets its
marker (R134). -/
def State.copyRead (s : State) (k : StreamCopy) (errs : List (Fin 1024 × LineRead)) : State :=
  let r := s.readErrors k.frame 4 errs
  let s := r.1
  if !r.2.isEmpty then
    let s := s.each r.2 fun s e => s.wantMark (k.frame % 8) k.frame e.1 none e.2
    (s.endFlight k codeCold).raise 0x14A [dTile k.tile, d1 1]
  else
    let y := s.readTile k.tile k.frame
    if y.isZero then
      let s := if s.flies k then (s.setRec k.tile .zero).count Reg.TILE_COUNT_ZEROED_TILES else s
      s.endFlight k codeZero
    else s.updTile fun x => { x with flights := x.flights.map fun z => if z = k then { z with copy := some y } else z }

/-! ### Segments (R209, R291) -/

/-- A segment closes: no further copy enters it (R209). -/
def State.closeSegment (s : State) (n : Nat) : State := (s.closeStripes n).updSeg n fun g => { g with closed := true }

/-- PROGRAM budgets of a NAND channel in a bar of the playing score. -/
def State.programBudget (s : State) (n b : Nat) : Nat :=
  match s.playing with
  | none => 0
  | some t =>
    ((List.range 2).map fun w =>
      let x := (s.seq.play.engine t b).window n w
      if x.cls = .program then x.budget else 0).sum

/-- Do the PROGRAM budgets from the next bar on bring `need` programs of a channel to their end within 256 bars of bar `first`
(R79, R209)? -/
def State.programsBy (s : State) (n need first : Nat) : Bool :=
  need = 0 || match barsUntil (s.programBudget n) 256 (s.bar + 1) 0 need with
    | some k => decide (s.bar + k + 77 ≤ first + 256)
    | none => false

/-- Shares queued on a channel whose program has not begun, of the stripes for which `p` holds. -/
def State.sharesLeft (s : State) (n : Nat) (p : Stripe → Bool) : Nat :=
  (s.deck.stripes.filter fun x => p x && x.todo.contains n
    && !((s.nch n).ops.any fun o => match o.work with
      | .share die sb page _ _ => die = x.die && sb = x.sb && page = x.page
      | _ => false)).length

/-- Can a copy that enters the segment now still have its shares programmed in time (R209)? -/
def State.segTakes (s : State) (g : Segment) : Bool :=
  nandChannels.all fun n => !(s.nchServing n) || s.programsBy n (s.sharesLeft n (fun _ => true) + 1) g.first

/-- Can the segment no longer commit within its 256 bars (R291)? -/
def State.segLate (s : State) (g : Segment) : Bool :=
  !(s.segWritten g.num) && (decide (g.first + 256 ≤ s.bar)
    || (s.deck.stripes.any fun x => x.seg = g.num && s.shareLost x)
    || nandChannels.any fun n => !(s.programsBy n (s.sharesLeft n fun x => x.seg = g.num) g.first))

/-- A copy leaves its ENCRYPT_STREAM engine and enters the open segment, or, where that is to close before it, the next one (R209). -/
def State.enterSegment (s : State) (k : StreamCopy) (y : Copy) : State :=
  let s := match s.deck.segs.find? fun g => g.kind = .stream && !g.closed with
    | some g => if s.segTakes g then s else s.closeSegment g.num
    | none => s
  let r := s.addCopy .stream k.start { y with seq := s.nextSeq }
  match r.2 with
  | none => r.1
  | some n =>
    (r.1.updSeg n fun g => { g with first := min g.first k.start }).updTile fun x => { x with
      flights := x.flights.map fun z => if z = k then { z with seg := some n } else z }

/-- Copies of a segment. -/
def State.flightsOf (s : State) (n : Nat) : List StreamCopy := s.tile.flights.filter fun k => k.seg = some n

/-- One tile of a committed stream segment: still IN_FLIGHT and not rewritten, it becomes CLEAN and counts (R19, R200, R209, R290). A
tile rewritten keeps its code, and its record names the copy; the copy of a tile released or lost enters no record (R178, R290). -/
def State.commitTile (s : State) (g : Segment) (k : StreamCopy) : State :=
  let released := s.tile.releasing.any fun o => o.frame = k.frame && decide (o.region < 64)
  let s := match g.tiles.find? fun e => e.1 = k.tile with
    | some e => if released || s.code k.tile = codeLost then s else s.setRec k.tile e.2
    | none => s
  let s := if s.flies k then s.count Reg.TILE_COUNT_STREAMED_TILES else s
  s.endFlight k codeClean

/-- The sequence number of the copy that a record names. -/
def State.recordSeq (s : State) (r : TileRec) : Option Nat := (s.copyOf r).map (·.2.seq)

/-- One share of a committed GC segment: its record enters the table where the copy it moved is still the tile's newest (R290, R293). -/
def State.commitMove (s : State) (e : Nat × TileRec) : State :=
  match s.recordSeq (s.recOf e.1), s.recordSeq e.2 with
  | some a, some b => if a = b then s.setRec e.1 e.2 else s
  | _, _ => s

/-- A segment commits: STREAM and GC (R209, R291, R293). -/
def State.commitSegment (s : State) (g : Segment) : State :=
  let s := match g.kind with
    | .stream =>
      let ks := s.flightsOf g.num
      let s := s.each ks fun s k => s.commitTile g k
      let n := 65536 * ks.length
      ((s.updTile fun x => { x with phraseBytes := x.phraseBytes + n }).updDeck fun d => { d with streamed := d.streamed + n }).dirtied
    | .gc => s.each g.tiles State.commitMove
    | _ => s
  (s.updDeck fun d => { d with segs := d.segs.filter fun x => x.num ≠ g.num }).updBands

/-- A segment is abandoned: its tiles still IN_FLIGHT become DIRTY with heat 0; 0x14A for each and 0x17B (R209, R291).
Causes: 1 the Deck cannot complete it, 2 a save trigger. -/
def State.abandonSegment (s : State) (g : Segment) (cause : Nat) : State :=
  let ks := s.flightsOf g.num
  let s := s.each ks fun s k => (s.endFlight k codeCold).raise 0x14A [dTile k.tile, d1 (cause + 1)]
  (s.dropSegment g.num).raise 0x17B [d4 g.num, d1 cause]

/-- Every stream copy is abandoned at a save's fence, whether or not it has entered a segment (R236); answers how many
tiles. -/
def State.abandonStream (s : State) : State × Nat :=
  let n := s.tile.flights.length
  let s := s.each (s.deck.segs.filter fun g => g.kind = .stream) fun s g => s.abandonSegment g 2
  let s := s.each s.tile.flights fun s k => (s.endFlight k codeCold).raise 0x14A [dTile k.tile, d1 3]
  (s.each channels fun s c => s.dropJobs c (·.kind = .stream), n)

/-- Tokens of a phrase start, in tenths of a byte: GOV_MBS × 998.4 bytes, capped at BURST phrases; while STREAM_EN is 0 the count holds
(R210). -/
def State.addTokens (s : State) : State :=
  let per := s.get Reg.TILE_STREAM_RATE_GOV_MBS * 9984
  let s := s.set Reg.TILE_STREAM_RATE_LAST_MBS (satW 16 (s.tile.phraseBytes * 10 / 9984))
  s.updTile fun x => { x with
    tokens := if s.flag Reg.TILE_STREAM_CTL_STREAM_EN then min (x.tokens + per) (s.get Reg.TILE_STREAM_CTL_BURST * per) else x.tokens
    tokenPhrase := s.bar
    phraseBytes := 0
    expBytes := x.expBytes - s.get Reg.TILE_STREAM_CTL_EXP_CAP_MBS * 9984 }

/-! ### Policy and tuning (R224 to R226) -/

def between (lo hi v : Nat) : Bool := decide (lo ≤ v) && decide (v ≤ hi)

/-- Are the values of PERSIST_POLICY_SET in range (R224)? -/
def policyOk (p : Pkt) : Bool :=
  between 0 1 (p.u8 0) && between 1 64 (p.u8 2) && between 1000 60000 (p.u16 4) && (!p.expert || between 50 1000 (p.u16 6))

/-- Are the values of STREAM_TUNE in range (R225)? -/
def tuneOk (p : Pkt) : Bool :=
  between 12 240 (p.u8 0) && (!p.expert || (between 0 1 (p.u8 1) && between 1 255 (p.u8 2) && between 1 4095 (p.u16 4)))

/-- PERSIST_POLICY_SET (R224): its conditions in the order of its table, ranges included (R477). -/
def opPersistPolicySet (p : Pkt) (s : State) : OpResult :=
  if !(p.genOk (s.get Reg.TILE_GEN_GEN)) then .refuse s stStale
  else if !(policyOk p) then .refuse s stInvalid
  else if s.saving || s.restoring then .refuse s stForbids
  else
    let s := ((s.set Reg.TILE_POLICY_POLICY (p.u8 0)).set Reg.TILE_POLICY_FLOOR_GIB (p.u8 2)).set Reg.TILE_POLICY_WINDOW_MS
      (p.u16 4)
    let s := if p.expert then s.set Reg.TILE_SAVE_DRAW_WATTS (p.u16 6) else s
    let s := (s.bump Reg.TILE_GEN_GEN).raise 0x14B [d4 (s.word 0x80028), d4 (s.word 0x8002C), d2 ((s.get Reg.TILE_GEN_GEN + 1) % 65536)]
    let s := s.updSaveRate false
    .ok s.recomputeBudget (s.recomputeBudget.words [0x80028, 0x8002C])

/-- STREAM_TUNE (R225): the basic form sets the target life alone. -/
def opStreamTune (p : Pkt) (s : State) : OpResult :=
  if !(p.genOk (s.get Reg.TILE_GEN_GEN)) then .refuse s stStale
  else if !(tuneOk p) then .refuse s stInvalid
  else if s.saving || s.restoring then .refuse s stForbids
  else
    let s := s.set Reg.DECK_LIFE_TARGET_MONTHS (p.u8 0)
    let s := if p.expert then
        let s := (s.set Reg.TILE_STREAM_CTL_STREAM_EN (p.u8 1)).set Reg.TILE_STREAM_CTL_BURST (p.u8 2)
        let s := s.later Reg.TILE_COOL_EPOCH_PHRASES (p.u16 4)
        (s.set Reg.TILE_STREAM_CTL_EXP_CAP_MBS (p.u16 6)).publishBounds.updGpf
      else s
    let s := (s.bump Reg.TILE_GEN_GEN).raise 0x14B [d4 (s.word 0x80024), d4 (s.word 0xA001C), d2 ((s.get Reg.TILE_GEN_GEN + 1) % 65536)]
    let s := s.govern
    .ok s (wordsBytes [s.word 0x80024, s.comingWord 0x8001C, s.word 0xA001C])

/-- PERSIST_STATUS (R226, R486). -/
def opPersistStatus (_ : Pkt) (s : State) : OpResult :=
  .ok s (s.words [0x80000, 0x80004, 0x80008, 0x8000C, 0x80010, 0x80018] ++ leBytes 4 s.tile.eUsed ++ leBytes 4 s.tile.rUsed
    ++ s.words [0x80028, 0x8002C, 0x80138])

def persistPolicySetOp : PktOp :=
  ⟨0x0401, some .mgmt, true, fun _ ps => ps.length = 8 && zeroAt ps 1 1 && zeroAt ps 3 1, fun _ _ => 8, opPersistPolicySet⟩
def persistStatusOp : PktOp := ⟨0x0402, some .host, false, fun _ ps => ps.length = 0, fun _ _ => 0x2C, opPersistStatus⟩
def streamTuneOp : PktOp :=
  ⟨0x0403, some .mgmt, true, fun _ ps => ps.length = 8 && zeroAt ps 3 1, fun _ _ => 12, opStreamTune⟩

end Sys2Proof.Machine
end

