-- ==== Sys2Proof/Machine/Save.lean ====
section
/-! DEFINITION. Saves (spec/07_save_restore.md R230 to R254, R567): triggers, the fence, the residual set, the Keystone,
failure, and the ways a save ends. -/

namespace Sys2Proof.Machine

/-- The states of TILE_SAVE_STAT.STATE (R271). -/
def saveIdle : Nat := 0
def saveFencing : Nat := 1
def saveSaving : Nat := 2
def saveClosing : Nat := 3
def saveKeystone : Nat := 4
def saveCommitted : Nat := 5
def saveFailed : Nat := 6

def State.saveState (s : State) : Nat := s.get Reg.TILE_SAVE_STAT_STATE
def State.saveCause (s : State) : Nat := s.get Reg.TILE_SAVE_STAT_CAUSE

/-- DECK_KEYSTONE_SEQ. -/
def State.keystoneSeq (s : State) : Nat := s.get Reg.DECK_KEYSTONE_SEQ_LO_SEQ + s.get Reg.DECK_KEYSTONE_SEQ_HI_SEQ * 2 ^ 32

def State.setKeystoneSeq (s : State) (v : Nat) : State :=
  (s.set Reg.DECK_KEYSTONE_SEQ_LO_SEQ (v % 2 ^ 32)).set Reg.DECK_KEYSTONE_SEQ_HI_SEQ (v / 2 ^ 32)

/-! ### Triggers (R230 to R235) -/

/-- Causes that end in shut-down whatever the input does; 6 ends in H (R252). -/
def causeShuts (c : Nat) : Bool := c = 5 || c = 7 || c = 8

/-- OFF_AFTER (R271). -/
def State.updOffAfter (s : State) : State :=
  s.setB Reg.TILE_SAVE_STAT_OFF_AFTER (s.save.off || causeShuts s.saveCause || s.saveCause = 6)

/-- The sequence number a save started now takes (R248). -/
def State.nextKeySeq (s : State) : Nat := max s.keystoneSeq s.deck.seqHigh + 1

/-- Does a cause, where the save ends in shut-down, count among those whose conditions of R362 apply? A save that asked for
resume-in-place sets none. -/
def causeOff (t : Nat × Bool) : Bool := t.2 || causeShuts t.1 || t.1 = 1 || t.1 = 4

/-- Note the causes of a shut-down (R362). -/
def State.noteOff (s : State) (l : List (Nat × Bool)) : State :=
  { s with sys := { s.sys with offCauses := (s.sys.offCauses ++ (l.filter causeOff).map (·.1)).dedup } }

/-- A trigger that arrives during a save (R232): shut-down prevails. -/
def State.coalesce (s : State) (t : Nat × Bool) : State :=
  let s := (s.updSave fun x => { x with off := x.off || t.2 || causeShuts t.1 }).noteOff [t]
  (s.updOffAfter).raise 0x158 [d1 t.1]

/-- Fence a port: no further credits, LINK_STATE 4 (R236). -/
def State.fencePort (s : State) (cause p : Nat) : State :=
  if s.get (Reg.HPORT_STAT_LINK_STATE p) = 3 then
    (s.set (Reg.HPORT_STAT_LINK_STATE p) 4).raise (srcPort p 14) [d1 cause]
  else s

/-- A refresh Keystone in progress is abandoned by a save trigger; its sequence number stays unused (R295). -/
def State.abandonRefresh (s : State) : State :=
  let s := match s.deck.writing with
    | some w => if w.refresh then s.updDeck fun d => { d with writing := none } else s
    | none => s
  let s := s.each (s.deck.segs.filter fun g => g.kind = .map || g.kind = .lostList) fun s g => s.dropSegment g.num
  s.set Reg.DECK_STAT_REFRESH 0

/-- Background restore stops: what it has under way is dropped, and its tiles stay ABSENT (R236, R268). -/
def State.stopBackground (s : State) : State :=
  (s.each channels fun s c => s.dropJobs c fun j => j.kind = .restore || j.kind = .fill).updTile fun x => { x with fetches := x.fetches.filter fun f => !f.bg }

/-- The power state changes, with 0x005 (R530, R533); LIMIT is the condition that stopped a deeper one. -/
def State.setPower (s : State) (new limit : Nat) : State :=
  let old := s.get Reg.SYS_PWR_STATE_STATE
  let s := s.set Reg.SYS_PWR_STATE_LIMIT limit
  if old = new then s
  else ((s.set Reg.SYS_PWR_STATE_LAST old).set Reg.SYS_PWR_STATE_STATE new).raise 0x005
    [d1 old, d1 new, d1 limit, d2 (s.get Reg.SYS_PWR_STATE_T_KNOWN_MS)]

/-- D1 or D2 is left at the fence downbeat (R233, R376): DRAM leaves self-refresh and the state is A0. -/
def State.leaveDoze (s : State) : State :=
  let s := (s.each channels fun s c => s.set (Reg.DCH_STAT_SELF_REFRESH c) 0).updSeq fun q => { q with
    selfRefreshWait := false, selfRefreshExit := false }
  let s := if s.get (Reg.GUARD_OUT_OUT 2) = 0 then s else (s.set (Reg.GUARD_OUT_OUT 2) 0).set (Reg.GUARD_OUT_HW 2) 1
  if s.get Reg.SYS_PWR_STATE_STATE = 2 || s.get Reg.SYS_PWR_STATE_STATE = 3 then s.setPower 0 1 else s

/-- The fence downbeat (R236), up to the parts of other chapters that DOWNBEAT adds. -/
def State.beginSave (s : State) (cause : Nat) (off : Bool) : State :=
  let seq := s.nextKeySeq
  let s := (s.set Reg.TILE_SAVE_STAT_STATE saveFencing).set Reg.TILE_SAVE_STAT_CAUSE cause
  let s := ((s.set Reg.TILE_SAVE_SEQ_LO_SEQ (seq % 2 ^ 32)).set Reg.TILE_SAVE_SEQ_HI_SEQ (seq / 2 ^ 32)).set
    Reg.TILE_SAVE_STAT_COPIES 0
  let s := (s.set Reg.TILE_SAVE_LOST_TILES 0).updSave fun x => { x with
    lost := [], off := off || causeShuts cause, start := s.bar, admitted := 0, abandoned := 0, residual := [], zeroed := [],
    entry := none, seq := seq, opSeconds := s.get Reg.OP_SECONDS_SECONDS, pwrCycles := s.get Reg.PWR_CYCLES_CYCLES,
    wake := false, shut := false }
  let s := (s.updDeck fun d => { d with seqHigh := max d.seqHigh seq }).updOffAfter
  let s := { s with sys := { s.sys with offCauses := [] } }.noteOff [(cause, off)]
  let s := (s.raise 0x150 [d1 cause, d8 seq]).leaveDoze
  let r := s.abandonStream
  let s := r.1.updSave fun x => { x with abandoned := r.2 }
  let s := (s.updTile fun x => { x with sweepStopped := x.sweep.isSome }).set Reg.TILE_STAT_SWEEP 0
  let s := s.armCancel.abandonRefresh
  let s := s.each channels State.relocAbandon
  let s := s.each ports fun s p => s.fencePort cause p
  let s := s.stopBackground
  (s.prsAdd 2 cause seq).releaseHeld fun _ => true

/-- Triggers that can be taken at this downbeat: those a warden decides wait while none is active (R391). -/
def State.takeable (s : State) (t : Nat × Bool) : Bool := hardwareCause t.1 || s.get Reg.WARDEN_STAT_ACTIVE ≠ 0

/-- How a save ends (R252). -/
inductive SaveEnd where
  | hibernate | shutdown | resume | wait
  deriving DecidableEq, Repr

/-- Phrases PFAIL_N must be high: 0 acts as 1 (R272). -/
def State.dwell (s : State) : Nat := max 1 (s.get Reg.TILE_SAVE_CTL_RESUME_DWELL)

/-- The first matching row of R252; an H entry that a request or a link wake met, or whose save failed, ends as a save without a cause of
its own does (R536; for a failed one DEDUCED, notes/assumptions/87.md). -/
def State.saveEnd (s : State) : SaveEnd :=
  let hold := s.saveCause = 6 && (s.save.wake || s.saveState = saveFailed)
  if s.saveCause = 6 && !s.save.off && !hold then .hibernate
  else if s.save.off || causeShuts s.saveCause then .shutdown
  else if !(s.flag Reg.TILE_SAVE_STAT_PFAIL) || s.save.inputLow then .shutdown
  else if s.dwell * 256 ≤ s.bar - s.save.pfailHigh then .resume
  else .wait

/-- A save that has committed or failed ends in shut-down as soon as R252 says so. -/
def State.endIfOff (s : State) : State :=
  if (s.saveState = saveCommitted || s.saveState = saveFailed) && s.saveEnd = .shutdown then s.updSave fun x => { x with shut := true }
  else s

/-- In H, or on the way out of it before step 8 (R233, R536). -/
def State.asleep (s : State) : Bool :=
  s.get Reg.SYS_PWR_STATE_STATE = 4 && (s.sys.hExit.isNone || decide (s.get Reg.SYS_STATE_STEP < 8))

/-- Step 2 of R20: the triggers latched since the last downbeat (R232, R233). In H no save starts, and a loss of input power
shuts the device down; before start-up has set the tile states every trigger does (R233, R536). -/
def State.takeTriggers (s : State) : State :=
  match s.save.latched.filter s.takeable with
  | [] => s
  | t :: l =>
    let s := s.updSave fun x => { x with latched := x.latched.filter fun t => !(s.takeable t) }
    let s := s.latchGuard t.1
    if s.saving then (s.each (t :: l) State.coalesce).endIfOff
    else if s.asleep && !((t :: l).any fun t => t.1 = 1 || t.1 = 4) then
      (s.set (Reg.GUARD_OUT_OUT 0) 0).set (Reg.GUARD_OUT_HW 0) 0
    else if s.asleep || !s.sys.tilesSet then
      ((s.set Reg.TILE_SAVE_STAT_CAUSE t.1).updSave fun x => { x with shut := true }).noteOff ((t :: l).map fun t => (t.1, true))
    else (s.beginSave t.1 t.2).each l State.coalesce

/-- SAVE_NOW (R235). -/
def opSaveNow (p : Pkt) (s : State) : OpResult :=
  let out := (nandChannels.filter fun n => !(s.nchUp n)).length
  if s.get Reg.SYS_STATE_STEP ≠ 15 then .refuse s stForbids
  else if 2 < out || s.get Reg.DECK_STAT_STATE ≠ 2 then .refuse s stForbids
  else if s.saving then .ok (s.latchSave 3 (p.expert && bitAt (p.u8 0) 0)) (leBytes 8 s.save.seq)
  else .ok (s.latchSave 3 (p.expert && bitAt (p.u8 0) 0)) (leBytes 8 s.nextKeySeq)

def saveNowOp : PktOp :=
  ⟨0x0404, some .mgmt, true, fun _ ps => ps.length = 4 && zeroAt ps 1 3,
    fun _ _ => 8, opSaveNow⟩

/-! ### The fence in place (R234, R238, R239) -/

/-- Has every admitted request completed: reads returned, writes in a channel queue, fetches owed done (R238)? -/
def State.fenceClear (s : State) : Bool :=
  s.tile.waits.isEmpty && s.tile.held.isEmpty
    && channels.all fun c => (s.ch c).issued.isEmpty && (s.ch c).reqs.all (·.write)

/-- The save commits without an image: nothing is new (R234). -/
def State.commitNothing (s : State) : State :=
  ((s.set Reg.TILE_SAVE_STAT_STATE saveCommitted).set Reg.TILE_SAVE_STAT_LAST_RESULT 1).prsAdd 3 0 s.keystoneSeq

/-- The image tile map of the save: the location table, with the save's copies, its ZERO tiles and its LOST tiles (R243,
R268). -/
def State.imageMap (s : State) : List (Nat × TileRec) :=
  let saved := (s.deck.segs.filter fun g => g.kind = .save).flatMap (·.tiles)
  let m := saved.foldl (fun m e => Store.set .zero m e.1 e.2) s.deck.loc
  let m := s.save.zeroed.foldl (fun m t => Store.set .zero m t .zero) m
  s.save.lost.foldl (fun m e => Store.set .zero m e.1 .lost) m

/-- The lost-tile list: causes of this save, and 6 for those carried from the parent (R302). -/
def State.lostList (s : State) : List (Nat × Nat) :=
  ((s.tilesWith (· = codeLost)).map fun t => (t, ((s.save.lost.find? fun e => e.1 = t).map (·.2)).getD 6))

/-- A MAP or LOST_LIST share's place in a stripe: it carries records, not a tile's bytes. -/
def recordShare (i seq : Nat) : Copy := ⟨i, seq, 0, [], []⟩

/-- Queue the shares of the image tile map and the lost-tile list (R243, R301, R302). -/
def State.queueMap (s : State) (seq : Nat) : State :=
  let tiles := ((s.tile.regions.filter (·.active)).map fun x => 16384 * x.size).sum
  let s := s.each (List.range (ceilDiv tiles 8192)) fun s i => (s.addCopy .map s.bar (recordShare i seq)).1
  let s := s.each (List.range (ceilDiv s.lostList.length 8192)) fun s i => (s.addCopy .lostList s.bar (recordShare i seq)).1
  s.each (s.deck.segs.filter fun g => g.kind = .map || g.kind = .lostList) fun s g => s.closeSegment g.num

/-- The last residual tile is handed over: STATE is CLOSING, the save segment closes, and the map follows (R243). -/
def State.enterClosing (s : State) : State :=
  let s := s.each (s.deck.segs.filter fun g => g.kind = .save && !g.closed) fun s g => s.closeSegment g.num
  (s.set Reg.TILE_SAVE_STAT_STATE saveClosing).queueMap s.save.seq

/-- The fence is in place (R238, R239, R234). Where R234 finds nothing new, the save score is not entered, and neither 0x049 nor 0x152 is
raised (DEDUCED, notes/assumptions/76.md). -/
def State.fenceDone (s : State) : State :=
  let us := barsUs (s.bar - s.save.start)
  let s := s.set Reg.TILE_SAVE_TIME_FENCE_US (satW 16 us)
  let s := s.raise 0x151 [d4 us, d4 s.save.admitted, d4 (us - 100000)]
  if s.dirtyCount = 0 && !s.save.dirtied then s.commitNothing
  else
    let res := s.tilesWith (fun c => decide (c ≤ 4))
    let s := (s.enterSaveScore).set Reg.TILE_SAVE_STAT_STATE saveSaving
    let s := (s.set Reg.TILE_SAVE_TOTAL_TILES res.length).set Reg.TILE_SAVE_REMAIN_TILES res.length
    let s := (s.updSave fun x => { x with residual := res }).raise 0x152 [d4 res.length, d4 s.save.abandoned]
    let s := s.each res fun s t => match s.frameOf t with
      | some f => s.addJob (f % 8) .save f
      | none => s
    let s := s.planBar true false true
    if res.isEmpty then s.enterClosing else s

/-! ### Writing the residual set (R240, R241) -/

/-- Residual tiles of a channel, in ascending tile number. -/
def State.residualOn (s : State) (c : Nat) : List Nat :=
  s.save.residual.filter fun t => match s.frameOf t with | some f => f % 8 = c | none => false

/-- A residual tile leaves the set. -/
def State.residualDone (s : State) (t : Nat) : State :=
  let s := (s.updSave fun x => { x with residual := x.residual.filter (· ≠ t) }).drop Reg.TILE_SAVE_REMAIN_TILES
  if s.save.residual.isEmpty then s.enterClosing else s

/-- One residual tile is read, with the lines that read with errors (R240, R241): a line that is uncorrectable without a marker loses the
tile. A tile for which the Deck has no place left stays in the set. -/
def State.saveTile (s : State) (t f : Nat) (errs : List (Fin 1024 × LineRead)) : State :=
  let r := s.readErrors f 6 errs
  let s := r.1
  if !r.2.isEmpty then
    ((s.each r.2 fun s e => s.wantMark (f % 8) f e.1 none e.2).loseInSave t 1).residualDone t
  else
    let y := s.readTile t f
    if y.isZero then (s.updSave fun x => { x with zeroed := x.zeroed ++ [t] }).residualDone t
    else
      let r := s.addCopy .save s.bar y
      match r.2 with
      | some _ => r.1.residualDone t
      | none => s

/-- Residual tiles that became LOST otherwise leave the set without being written, and their reads with them (R241). -/
def State.dropLost (s : State) : State :=
  let s := s.each (s.save.residual.filter fun t => s.code t = codeLost) State.residualDone
  s.each channels fun s c => s.dropJobs c fun j => j.kind = .save
    && !(s.save.residual.any fun t => (s.frameOf t).isSome && s.frameOf t = j.frame)

/-! ### The Keystone (R243, R245, R511) -/

/-- KEY_REF of a Keystone written now (R511, R516). -/
def State.keyRef (s : State) : KeyRef where
  mode := if s.flag Reg.SEC_STAT_ESCROW then 2 else 1
  epoch := s.get Reg.SEC_STAT_EPOCH + s.get Reg.SEC_STAT_ROTATE_PENDING
  escrowId := if s.flag Reg.SEC_STAT_ESCROW then s.get Reg.SEC_ESCROW_ID_ID else 0
  mediaKey := s.save.mediaKey

/-- A Keystone over a tile map, of the instant whose counts it carries (R243, R303). -/
def State.makeKeystone (s : State) (seq cause opSeconds pwrCycles bar : Nat) (map : List (Nat × TileRec)) : Keystone where
  seq := seq
  parent := s.save.parent
  cause := cause
  deckId := (s.deck.header.map (·.1)).getD []
  device := Config.sha384 Config.identityKey
  opSeconds := opSeconds
  pwrCycles := pwrCycles
  bar := bar
  regions := s.tile.regions
  map := map
  lost := s.lostList
  out := s.outMask
  keyRef := s.keyRef
  copies := []
  bad := []
  forged := []

/-- Are the shares of a kind of segment all programmed? -/
def State.kindsWritten (s : State) (p : SegKind → Bool) : Bool :=
  (s.deck.segs.filter fun g => p g.kind).all fun g => s.segWritten g.num

/-- The map and the lost-tile list are written: the three Keystone copies follow (R245). -/
def State.enterKeystone (s : State) : State :=
  let k := s.makeKeystone s.save.seq s.saveCause s.save.opSeconds s.save.pwrCycles s.save.start s.imageMap
  (s.set Reg.TILE_SAVE_STAT_STATE saveKeystone).placeKeystone k false

/-- A Keystone becomes the current one: the location table is its map, its segments have committed (R245, R290). -/
def State.adoptKeystone (s : State) (k : Keystone) : State :=
  let s := s.updDeck fun d => { d with
    loc := k.map
    segs := d.segs.filter fun g => g.kind = .stream || g.kind = .gc }
  ((s.setKeystoneSeq k.seq).updSave fun x => { x with dirtied := false, parent := k.seq }).updBands

/-- The save commits (R245). -/
def State.commitSave (s : State) (k : Keystone) : State :=
  let ms := (s.bar - s.save.start) * 39 / 10000
  let s := (s.set Reg.TILE_SAVE_STAT_STATE saveCommitted).set Reg.TILE_SAVE_STAT_LAST_RESULT 1
  let s := ((s.adoptKeystone k).set Reg.TILE_SAVE_TIME_LAST_MS (satW 16 ms)).prsAdd 3 0 k.seq
  let cs := ((s.deck.writing.map fun w => w.copies.map (·.chan))).getD k.copies
  s.raise 0x154 ([d8 k.seq, d4 ms] ++ cs.map d1)

/-! ### The end of a save (R251, R252, R253) -/

/-- The save-trigger latch clears itself when the save ends (R376). -/
def State.clearTrigger (s : State) : State := (s.set (Reg.GUARD_OUT_OUT 0) 0).set (Reg.GUARD_OUT_HW 0) 0

/-- Suspended channels are in service again after the save (R288). -/
def State.unsuspend (s : State) : State :=
  s.each (nandChannels.filter fun n => nchState s n = 2) fun s n => s.setNch n 1

/-- The fence's release begins: an in-service entry is programmed (R253, R254). -/
def State.beginRelease (s : State) : State := s.updSave fun x => { x with entry := some s.bar }

/-- DECK_SAVE_RATE falls where it must, and N_max and persistence are recomputed, as the device returns to service (R251, R253, R285). -/
def State.backToService (s : State) : State := (s.updSaveRate false).recomputeBudget

/-- A sweep stopped at the fence resumes from its word (R204). -/
def State.resumeSweep (s : State) : State :=
  if s.tile.sweep.isSome then (s.updTile fun x => { x with sweepStopped := false }).set Reg.TILE_STAT_SWEEP 1 else s

/-- The playing variant returns after the save score (R253). -/
def State.leaveSaveScore (s : State) : State :=
  if s.flag Reg.SCORE_STAT_SAVE then
    let s := (s.set Reg.SCORE_STAT_SAVE 0).switchTo s.wanted false
    s.planBar true false false
  else s

/-- Resume-in-place (R253). -/
def State.resume (s : State) : State :=
  let saved := (s.deck.loc.filterMap fun e => match e.2 with | .data .. => some e.1 | _ => none)
  let s := s.each (s.tilesWith (fun c => decide (c ≤ 4))) fun s t =>
    s.moveCode t (if saved.contains t then codeClean else codeZero)
  let s := ((s.leaveSaveScore.unsuspend).beginRelease).clearTrigger
  let s := (s.updTile fun x => { x with sweep := none, sweepStopped := false, sweepNext := false }).backToService
  ((s.set Reg.TILE_SAVE_STAT_STATE saveIdle).updOffAfter).raise 0x157 [d8 s.save.seq]

/-- A save fails (R251): its segments are dead, and no image commits. -/
def State.failSave (s : State) : State :=
  let stage := s.saveState
  let s := (s.set Reg.TILE_SAVE_STAT_STATE saveFailed).set Reg.TILE_SAVE_STAT_LAST_RESULT 2
  let s := s.each (s.deck.segs.filter fun g => g.kind ≠ .stream && g.kind ≠ .gc) fun s g => s.dropSegment g.num
  let s := s.updDeck fun d => { d with writing := none }
  s.raise 0x156 [d1 stage, d4 (s.get Reg.TILE_SAVE_REMAIN_TILES)]

/-- A failed save returns to service without a new image (R251): tile codes keep their values. -/
def State.failReturn (s : State) : State :=
  let s := ((s.leaveSaveScore.unsuspend).beginRelease).clearTrigger
  let s := (s.updSave fun x => { x with residual := [], zeroed := [] }).resumeSweep
  let s := (s.each channels fun s c => s.dropJobs c (·.kind = .save)).backToService
  (s.set Reg.TILE_SAVE_STAT_STATE saveIdle).updOffAfter

/-- The in-service entry has verified: the fenced ports are released, each with the bar's credit grants (R197, R253). -/
def State.releasePorts (s : State) : State :=
  let s := (s.prsAdd 1 0 s.keystoneSeq).updSave fun x => { x with entry := none }
  s.each (ports.filter fun p => s.get (Reg.HPORT_STAT_LINK_STATE p) = 4) fun s p =>
    ((s.set (Reg.HPORT_STAT_LINK_STATE p) 3).raise (srcPort p 14) [d1 s.saveCause]).returnCredits p (s.engineNow.grants.getD p ⟨0, 0⟩)

/-- The rails that feed a DRAM or NAND channel (R535). -/
def State.railsOfH (s : State) : List Nat :=
  (List.range 16).filter fun n => s.get (Reg.SEQ_RAIL_FEED_DCH n) ≠ 0 || s.get (Reg.SEQ_RAIL_FEED_NCH n) ≠ 0

/-- DRAM loses its contents in H, and what waits in its controllers (R535). The states of the channels stand: those in service train on
the way out, and the others stay as they are (R142). -/
def State.dramOff (s : State) : State :=
  let s := { s with dram := { s.dram with bytes := [], poison := [], zeroQueue := [] } }
  let s := s.updTile fun x => { x with
    codes := [], map := [], homeless := [], releasing := [], origins := [], held := [], waits := [], fetches := []
    flights := [], strayFrames := [], sweep := none, sweepStopped := false, sweepNext := false }
  s.each channels fun s c =>
    (s.updCh c fun x => { DramCh.init with
      rows := x.rows
      pendingRows := x.pendingRows
      retired := x.retired
      slots := x.slots
      seedNew := x.seedNew
      recordDue := x.recordDue }).debtClear c

/-- H is entered after the commit (R535, R567): the rails that feed memory go off at shut-down ticks counted from the tick
of the commit. What stands in DRAM is lost; the registers of the engines hold their values (R535). -/
def State.enterH (s : State) : State :=
  let rails := s.railsOfH
  let out := s.get (Reg.GUARD_OUT_OUT 1)
  let s := { s with
    pwr := { s.pwr with hTick := some (s.bar / 64 * 64) }
    sys := { s.sys with wakes := [] } }
  let s := ((s.set (Reg.GUARD_OUT_OUT 1) (Nat.lor out 2)).setPower 4 0).raise 0x007 [d2 ((rails.map fun n => 2 ^ n).sum)]
  ((s.set Reg.TILE_SAVE_STAT_STATE saveIdle).set Reg.SCORE_STAT_SAVE 0).clearTrigger.updOffAfter

/-- The end of a committed or failed save that is decided at once: H, shut-down, or nothing yet (R252). -/
def State.endSave (s : State) : State :=
  match s.saveEnd with
  | .hibernate => if s.saveState = saveCommitted then s.enterH else s
  | .shutdown => s.updSave fun x => { x with shut := true }
  | _ => s

end Sys2Proof.Machine
end

