-- ==== Sys2Proof/Machine/Pack.lean ====
section
/-! DEFINITION. The energy pack and its estimator (spec/09_energy_pack.md R320 to R345). SoC and uncertainty are held in
10^-12 percent and EFC in 10^-14 cycles (DESIGN CHOICE, notes/assumptions/39.md); the formulas are computed exactly. -/

namespace Sys2Proof.Machine

def State.updPack (s : State) (f : PackState → PackState) : State := { s with pack := f s.pack }

/-! ### Parameters (R321, R488) -/

def State.par (s : State) (o n : Nat) : Nat := leAt s.pack.params o n

def State.cells (s : State) : Nat := s.par 1 1
def State.designMah (s : State) : Nat := s.par 2 2
def State.vMin (s : State) : Nat := s.par 4 2
def State.vMax (s : State) : Nat := s.par 6 2
def State.reservePct (s : State) : Nat := s.par 0x52 1
def State.socMax (s : State) : Nat := s.par 0x53 1
def State.restMa (s : State) : Nat := s.par 0x58 2
def State.tMax (s : State) : Int := signed8 (s.par 0x62 1)
def State.iMax (s : State) : Nat := s.par 0x64 4

/-- One percent in the units of SoC and U, and one cycle in those of EFC. -/
def pct : Nat := 10 ^ 12
def cycleUnit : Nat := 10 ^ 14

/-- Linear interpolation between points of rising x, held at its ends. -/
def interp : List (ℚ × ℚ) → ℚ → ℚ
  | [], _ => 0
  | [p], _ => p.2
  | p :: q :: l, x =>
    if x ≤ p.1 then p.2
    else if x ≤ q.1 then p.2 + (q.2 - p.2) * (x - p.1) / (q.1 - p.1)
    else interp (q :: l) x

/-- CYC, FT and OCV as points; OCV maps a voltage in mV to a percentage. -/
def State.cycTable (s : State) : List (ℚ × ℚ) :=
  (List.range 8).map fun i => ((s.par (0x20 + 4 * i) 2 : ℚ), (s.par (0x22 + 4 * i) 2 : ℚ))
def State.ftTable (s : State) : List (ℚ × ℚ) :=
  (List.range 4).map fun i => ((signed8 (s.par (0x40 + 4 * i) 1) : ℚ), (s.par (0x42 + 4 * i) 2 : ℚ))
def State.ocvTable (s : State) : List (ℚ × ℚ) :=
  (List.range 11).map fun i => ((s.par (8 + 2 * i) 2 : ℚ), (10 * i : ℚ))

/-! ### Capacity and energy (R324, R327) -/

/-- f_cyc and f_T in 0.0001 units. -/
def State.fCyc (s : State) : ℚ := interp s.cycTable ((s.pack.efc : ℚ) / cycleUnit)

/-- The NTCs that count: not excluded. -/
def State.temps (s : State) : List Int :=
  (List.range 2).filterMap fun i => if s.pack.ntcBad.getD i false then none
    else some (signed8 (s.get (if i = 0 then Reg.PACK_TEMP_NTC_0_C else Reg.PACK_TEMP_NTC_1_C)))

/-- f_T at the colder NTC; the lowest point where both are excluded (R323). -/
def State.fT (s : State) : ℚ :=
  match s.temps.min? with
  | some t => interp s.ftTable (t : ℚ)
  | none => ((s.ftTable.map (·.2)).head?).getD 0

/-- A of R328: the energy at SoC − U − R_res of 100 %, in J. -/
def State.fullJ (s : State) : ℚ :=
  (s.designMah : ℚ) * 36 / 10 * s.fCyc / 10000 * s.fT / 10000 * s.cells * s.vMin / 1000 * s.par 0x50 2 / 10000

/-- E of R327; 0 where it would be negative, and with the pack disconnect open (R339, R375). -/
def State.energy (s : State) : Nat :=
  let left : ℚ := ((s.pack.soc : ℚ) - s.pack.unc) / pct - s.reservePct
  if s.pack.tripped || s.get (Reg.GUARD_OUT_OUT 4) % 2 = 1 then 0 else (⌊s.fullJ * left / 100⌋).toNat

/-- SoC_tgt in 0.01 %, rounded up to 0.1 % (R328). -/
def State.target (s : State) : Nat :=
  let e := s.par 0x54 4
  let top := s.socMax * 100
  if e = 0 || s.fullJ ≤ 0 then top
  else
    let t : ℚ := s.reservePct + (s.pack.unc : ℚ) / pct + 100 * e / s.fullJ
    min top ((⌈t * 10⌉).toNat * 10)

/-- The lowest cell voltage. -/
def State.lowCell (s : State) : Nat :=
  (((List.range s.cells).map fun c => s.get (Reg.PACK_CELL_MV c)).min?).getD 0

/-- SoC from the open-circuit voltage, in the units held. -/
def State.ocvSoc (s : State) : Nat := (⌊interp s.ocvTable (s.lowCell : ℚ) * pct⌋).toNat

/-! ### Charging (R328, R329) -/

/-- PACK_STAT.STATE codes (R343). -/
def packAbsent : Nat := 0
def packSettling : Nat := 1
def packEstimating : Nat := 2
def packWindow : Nat := 3
def packFault : Nat := 4
def packShip : Nat := 5

def State.packState (s : State) : Nat := s.get Reg.PACK_STAT_STATE

/-- Causes of an inhibit, numbered (DESIGN CHOICE, notes/assumptions/39.md): 1 charge range, 2 rest window, 3 save, 4
SETTLING or FAULT, 5 charger, 6 a cell above its maximum, 7 both NTCs excluded; 8 is an NTC's exclusion. -/
def State.inhibits (s : State) : List Nat :=
  let cold : Int := if s.par 0 1 = 2 then -20 else 0
  let hot := s.temps.any fun t => decide (45 < t) || decide (t < cold)
  (if hot then [1] else []) ++ (if s.packState = packWindow then [2] else []) ++ (if s.saving || !s.save.latched.isEmpty then [3] else [])
    ++ (if s.packState = packSettling || s.packState = packFault then [4] else []) ++ (if s.pack.chargerFault then [5] else [])
    ++ (if s.pack.chargeFault then [6] else []) ++ (if s.temps.isEmpty then [7] else [])

/-- CHG_INHIBIT follows R329; 0x1CA once per cause. -/
def State.updInhibit (s : State) : State :=
  if s.packState = packAbsent then s else
    let l := s.inhibits
    let s' := s.each (l.filter fun c => !(s.pack.inhibit.contains c)) fun s c => s.raise 0x1CA [d1 c]
    (s'.updPack fun x => { x with inhibit := l }).setB Reg.PACK_STAT_CHG_INHIBIT (!l.isEmpty)

/-- Tell the charger. -/
def State.setCharger (s : State) (on float : Bool) : State :=
  if s.flag Reg.PACK_STAT_CHARGING = on && s.flag Reg.PACK_STAT_FLOAT = float then s
  else ((s.setB Reg.PACK_STAT_CHARGING on).setB Reg.PACK_STAT_FLOAT float).send (.charger on float)

/-- The charger is driven (R328). -/
def State.driveCharger (s : State) : State :=
  let s := s.updInhibit
  let soc := s.pack.soc
  let tgt := s.pack.tgt * 10 ^ 10
  if s.flag Reg.PACK_STAT_CHG_INHIBIT || s.packState = packAbsent then s.setCharger false false
  else if tgt ≤ soc then (if s.pack.tgt = s.socMax * 100 then s.setCharger true true else s.setCharger false false)
  else if soc + pct < tgt then s.setCharger true false
  else s

/-! ### Publishing (R325, R344) -/

/-- The published figures follow the estimate. -/
def State.publishPack (s : State) : State :=
  let s := s.updPack fun x => { x with tgt := s.target }
  let s := ((s.set Reg.PACK_SOC_SOC (s.pack.soc / 10 ^ 10)).set Reg.PACK_SOC_TARGET s.pack.tgt).set Reg.PACK_UNCERT_UNCERT
    (s.pack.unc / 10 ^ 10)
  let s := (s.set Reg.PACK_UNCERT_RATE (s.par 0x5A 2)).set Reg.PACK_EFC_TENTHS (s.pack.efc / (cycleUnit / 10))
  let last := s.par 0x3C 2
  let s := s.set Reg.PACK_EFC_LIFE_PCT (if last = 0 then 255 else satW 8 (s.pack.efc * 100 / (cycleUnit * last)))
  let s := (s.set Reg.PACK_CAP_F_CYC (⌊s.fCyc⌋).toNat).set Reg.PACK_CAP_F_T (⌊s.fT⌋).toNat
  s.set Reg.PACK_EAVAIL_JOULES (if s.flag Reg.PACK_STAT_VALID then s.energy else 0)

/-! ### Records (R333 to R337) -/

/-- "NEST" and "NESTDONE". -/
def magicEst : List Byte := [0x4E#8, 0x45#8, 0x53#8, 0x54#8]
def doneEst : List Byte := [0x4E#8, 0x45#8, 0x53#8, 0x54#8, 0x44#8, 0x4F#8, 0x4E#8, 0x45#8]

/-- Address of position `i` of chain `c`. -/
def estAt (c i : Nat) : Nat := 0x1010000 + 0x10000 * c + 64 * i

/-- EEPROM SERIAL, or zero. -/
def State.serial (s : State) : List Byte := (s.pack.eeprom.map fun e => sliceBytes e 0x10 16).getD (List.replicate 16 0#8)

/-- A record's bytes up to its CRC. -/
def State.estBytes (s : State) (seq : Nat) : List Byte :=
  let body := magicEst ++ leBytes 4 seq ++ leBytes 4 (s.get Reg.OP_SECONDS_SECONDS) ++ leBytes 4 (s.get Reg.PWR_CYCLES_CYCLES)
    ++ leBytes 4 (s.pack.efc / (cycleUnit / 10)) ++ leBytes 2 (s.pack.soc / 10 ^ 10) ++ leBytes 2 (s.pack.unc / 10 ^ 10)
    ++ s.serial ++ leBytes 12 0
  body ++ leBytes 4 (crc32c body)

/-- Write a record to the chain whose turn it is, or, where its sector is not NORMAL, to the other (R336, R419). -/
def State.writeRecord (s : State) : State :=
  let n := s.flash.estSeq + 1
  let ok := fun c => s.sect (sectorOf (estAt c (s.flash.estPos.getD c 0))) = 0
  match [n % 2, 1 - n % 2].find? ok with
  | none => s
  | some c =>
    let i := s.flash.estPos.getD c 0
    let s := if i % 64 = 0 then s.eraseNow (sectorOf (estAt c i)) else s
    let s := (s.flashPut (estAt c i) (s.estBytes n)).flashPut (estAt c i + 0x38) doneEst
    (s.updFlash fun x => { x with estSeq := n, estPos := x.estPos.set c ((i + 1) % 1024) }).updPack fun x =>
      { x with recordDue := false }

/-- Is a record at an address committed? -/
def State.estOk (s : State) (a : Nat) : Bool :=
  s.flashRead a 4 = magicEst && s.flashRead (a + 0x38) 8 = doneEst && s.flashNat (a + 0x34) 4 = crc32c (s.flashRead a 0x34)

/-- Positions that hold a programmed byte, as addresses. -/
def State.estUsed (s : State) : List Nat := (s.usedSlots (estAt 0 0) 2048).map fun i => 0x1010000 + 64 * i

/-- The address of the newest committed record (R336). -/
def State.estNewest (s : State) : Option Nat :=
  (s.estUsed.filter s.estOk).foldl (fun b a => match b with
    | none => some a
    | some c => if s.flashNat (c + 4) 4 < s.flashNat (a + 4) 4 then some a else some c) none

/-- The chains are read at start-up: torn records raise 0x1CD, and writing goes on at the first position after the newest committed
record that is free, or that begins a sector, which is erased first (R336). -/
def State.estScan (s : State) : State :=
  let s := s.each (s.estUsed.filter fun a => !(s.estOk a)) fun s a =>
    s.raise 0x1CD [d1 ((a - 0x1010000) / 0x10000), d4 (s.flashNat (a + 4) 4)]
  let next := fun c =>
    let used := s.usedSlots (estAt c 0) 1024
    let from' := match used.filter (fun i => s.estOk (estAt c i)) with
      | [] => 0
      | l => l.foldl (fun b i => if s.flashNat (estAt c b + 4) 4 < s.flashNat (estAt c i + 4) 4 then i else b) (l.headD 0) + 1
    (((List.range 65).map fun i => (from' + i) % 1024).find? fun i => i % 64 = 0 || !(used.contains i)).getD 0
  s.updFlash fun x => { x with
    estSeq := ((s.estNewest).map fun a => s.flashNat (a + 4) 4).getD 0
    estPos := [next 0, next 1] }

/-- A cycle slot of the EEPROM: its sequence number and EFC in tenths, where its CRC is good (R333). -/
def cycleSlot (e : List Byte) (i : Nat) : Option (Nat × Nat) :=
  let o := 0x80 + 16 * i
  if leAt e (o + 12) 4 = crc32c (sliceBytes e o 12) then some (leAt e o 4, leAt e (o + 4) 4) else none

/-- The slot a reader takes. -/
def newestSlot (e : List Byte) : Option (Nat × Nat) :=
  match cycleSlot e 0, cycleSlot e 1 with
  | some a, some b => if a.1 < b.1 then some b else some a
  | some a, none => some a
  | none, b => b

/-- Write the older cycle slot (R334). -/
def State.writeCycles (s : State) : State :=
  match s.pack.eeprom with
  | none => s
  | some e =>
    let seq := ((newestSlot e).map (·.1)).getD 0 + 1
    let i := match cycleSlot e 0, cycleSlot e 1 with
      | some a, some b => if a.1 < b.1 then 0 else 1
      | some _, none => 1
      | none, _ => 0
    let body := leBytes 4 seq ++ leBytes 4 (s.pack.efc / (cycleUnit / 10)) ++ leBytes 4 0
    let o := 0x80 + 16 * i
    let e' := e.take o ++ body ++ leBytes 4 (crc32c body) ++ e.drop (o + 16)
    s.updPack fun x => { x with eeprom := some e' }

/-- Is the identity part valid (R334)? -/
def eepromValid (e : List Byte) : Bool :=
  sliceBytes e 0 4 = [0x4E#8, 0x50#8, 0x41#8, 0x4B#8] && leAt e 4 1 = 1 && leAt e 0x7C 4 = crc32c (sliceBytes e 0 0x7C)

/-- Fields in conflict with the parameters: bit 0 CHEM, bit 1 CELLS, bit 2 DESIGN_MAH. -/
def State.eepromClash (s : State) (e : List Byte) : Nat :=
  bit (decide (leAt e 5 1 ≠ s.par 0 1)) + 2 * bit (decide (leAt e 6 1 ≠ s.cells)) + 4 * bit (decide (leAt e 8 2 ≠ s.designMah))

/-- The EFC and its source: 1 the newest record, 2 the EEPROM, 3 UNKNOWN_EFC (R335). -/
def State.efcFrom (s : State) : Nat × Nat :=
  let slot := (s.pack.eeprom.bind newestSlot).map (·.2)
  let rec' := (s.estNewest).bind fun a =>
    if s.flashRead (a + 0x18) 16 = s.serial then some (s.flashNat (a + 0x10) 4) else none
  match rec', slot with
  | some r, some e => if e < r then (r, 1) else (e, 2)
  | some r, none => (r, 1)
  | none, some e => (e, 2)
  | none, none => (s.par 0x60 2 * 10, 3)

/-- Take the EFC (R335). -/
def State.takeEfc (s : State) : State :=
  let e := s.efcFrom
  (s.updPack fun x => { x with efc := e.1 * (cycleUnit / 10), cyclesWritten := e.1 / 10 }).setB Reg.PACK_STAT_UNKNOWN_PACK (e.2 = 3)

/-- The record of a pack state change (R188). -/
def packRec : CxlRec := ⟨none, .warning, .memoryModule, 0⟩

/-! ### Insertion, removal, settling (R332, R334, R338) -/

/-- The pack's EEPROM is read, the EFC taken, and the pack settles, or is at fault where the EEPROM disagrees. -/
def State.insertPack (s : State) (eeprom : Option (List Byte)) (short : Bool) : State :=
  let good := (eeprom.map eepromValid).getD false
  let s := (s.updPack fun x => { x with eeprom := eeprom, settle := s.bar, short := short, rest := 0 }).setB
    Reg.PACK_STAT_EEPROM_OK good
  let s := s.takeEfc
  let clash := if good then s.eepromClash (eeprom.getD []) else 0
  let s := if clash ≠ 0 then s.raise 0x1CC [d1 clash] [packRec] else if good then s else s.raise 0x1CC [d1 0x80]
  let s := s.set Reg.PACK_STAT_STATE (if clash ≠ 0 then packFault else packSettling)
  (s.set Reg.PACK_STAT_VALID 0).publishPack.driveCharger

/-- Detected insertion (R332). -/
def State.packInserted (s : State) (eeprom : Option (List Byte)) : State :=
  let s := s.insertPack eeprom false
  s.raise 0x1C1 [d1 (s.get Reg.PACK_STAT_EEPROM_OK), d4 (s.pack.efc / (cycleUnit / 10)), d1 s.efcFrom.2]

/-- VALID becomes 1, which is a pack state change, or E is recomputed after a correction, which is none (R188, R345). -/
def State.estimateValid (s : State) : State :=
  let change := !(s.flag Reg.PACK_STAT_VALID)
  let s := (s.set Reg.PACK_STAT_VALID 1).publishPack
  s.raise 0x1C2 [d2 (s.get Reg.PACK_SOC_SOC), d2 (s.get Reg.PACK_UNCERT_UNCERT), d4 (s.get Reg.PACK_EAVAIL_JOULES)]
    (if change then [packRec] else [])

/-- Settling ends: SoC from OCV (R332, R338). -/
def State.packSettled (s : State) : State :=
  let u := if s.pack.short then s.par 0x5C 2 else s.par 0x5E 2
  let s := s.updPack fun x => { x with soc := s.ocvSoc, unc := u * 10 ^ 10, recordDue := true }
  (s.set Reg.PACK_STAT_STATE packEstimating).estimateValid.driveCharger

/-- The pack is removed; E reads 0 from the next phrase start (R332). -/
def State.packRemoved (s : State) : State :=
  let s := s.raise 0x1C0 [d2 (s.get Reg.PACK_SOC_SOC), d2 (s.get Reg.PACK_UNCERT_UNCERT)] [packRec]
  let s := (s.set Reg.PACK_STAT_STATE packAbsent).set Reg.PACK_STAT_VALID 0
  let s := s.updPack fun x => { x with eeprom := none, window := none, windowNext := false, rest := 0, inhibit := [] }
  ((s.set Reg.PACK_STAT_AT_REST 0).set Reg.PACK_STAT_CHG_INHIBIT 0).setCharger false false

/-- The estimate at start-up (R338), from the record or by the insertion rule; `present` pack, its EEPROM. Answers whether
there is no history. -/
def State.startEstimator (s : State) (present : Bool) (eeprom : Option (List Byte)) : State × Bool :=
  let s := s.estScan
  let off := s.flag Reg.PACK_OFF_VALID
  let secs := s.get Reg.PACK_OFF_SECONDS
  let fresh := s.estNewest.isNone && !off
  if !present then ((s.set Reg.PACK_STAT_STATE packAbsent).publishPack, fresh)
  else if off && 1800 ≤ secs then (s.insertPack eeprom true, fresh)
  else match off, s.estNewest with
    | true, some a =>
      let s := s.insertPack eeprom false
      if s.packState = packFault then (s, fresh) else
        let age := secs + (s.get Reg.OP_SECONDS_SECONDS - s.flashNat (a + 8) 4)
        let u := s.flashNat (a + 0x16) 2 * 10 ^ 10 + ceilDiv (s.par 0x5A 2 * 10 ^ 10 * age) 86400
        let s := s.updPack fun x => { x with soc := s.flashNat (a + 0x14) 2 * 10 ^ 10, unc := min (100 * pct) u }
        ((s.set Reg.PACK_STAT_STATE packEstimating).estimateValid.driveCharger, fresh)
    | _, _ => (s.packInserted eeprom, fresh)

/-! ### The phrase (R323 to R328, R330, R337) -/

/-- The measurements of a phrase: current and input rail every phrase, cells every 16, temperatures every 256 (R323). -/
def State.measure (s : State) (m : Meas) (all : Bool) : State :=
  let p := s.bar / 256
  let s := s.set Reg.PACK_CURRENT_MA ((m.ma % (2 ^ 32)).toNat)
  let s := s.set Reg.PACK_INPUT_VIN_MV (satW 16 (m.vin / 10 * 10))
  let s := if all || p % 16 = 0 then s.each (List.range 6) fun s c =>
      s.set (Reg.PACK_CELL_MV c) (if c < s.cells then m.cells.getD c 0 else 0) else s
  if all || p % 256 = 0 then
    let bad := [m.ntc0.isNone, m.ntc1.isNone]
    let new := (List.range 2).any fun i => bad.getD i false && !(s.pack.ntcBad.getD i false)
    let s := s.updPack fun x => { x with ntcBad := bad }
    let s := (s.set Reg.PACK_TEMP_NTC_0_C (byteOfInt (m.ntc0.getD 0))).set Reg.PACK_TEMP_NTC_1_C (byteOfInt (m.ntc1.getD 0))
    if new then s.raise 0x1CA [d1 8] else s
  else s

/-- Charge of the phrase: SoC, EFC and U move (R324, R325). -/
def State.integrate (s : State) (ma : Int) : State :=
  let q : ℚ := (s.designMah : ℚ) * s.fCyc / 10000
  let step : ℚ := if q ≤ 0 then 0 else (ma : ℚ) * 99840000000 / (3600 * q)
  let soc := min (100 * (pct : Int)) (max 0 ((s.pack.soc : Int) + ⌊step⌋))
  let out := if ma < 0 ∧ s.designMah ≠ 0 then ceilDiv (ma.natAbs * 99840000000) (3600 * s.designMah) else 0
  let unc := min (100 * pct) (s.pack.unc + ceilDiv (s.par 0x5A 2 * 9984000) 86400)
  let was := s.get Reg.PACK_UNCERT_UNCERT
  let valid := s.flag Reg.PACK_STAT_VALID
  let s := s.updPack fun x => { x with
    soc := if valid then soc.toNat else x.soc
    unc := if valid then unc else x.unc
    efc := x.efc + out }
  s.each (if valid then [25, 50, 75] else []) fun s l =>
    if was < l * 100 && decide (l * 100 ≤ s.pack.unc / 10 ^ 10) then
      s.raise 0x1C4 [d2 (s.pack.unc / 10 ^ 10), d4 (s.get Reg.PACK_REST_SINCE_CORR)] else s

/-- A whole cycle was passed (R334, R337), or the end of the table (R324). -/
def State.cycleEvents (s : State) : State :=
  let whole := s.pack.efc / cycleUnit
  let s := if s.pack.cyclesWritten < whole then
      (s.writeCycles).updPack fun x => { x with cyclesWritten := whole, recordDue := true } else s
  if !(s.flag Reg.PACK_STAT_TABLE_END) && decide (s.par 0x3C 2 * cycleUnit < s.pack.efc) then
    (s.set Reg.PACK_STAT_TABLE_END 1).raise 0x1C7 [d4 (s.pack.efc / (cycleUnit / 10))] [packRec]
  else s

/-- Do the levels of a warning of R339 hold in the measurement? -/
def State.warnHolds (s : State) (ma : Int) : Bool :=
  (decide (s.lowCell < s.vMin + 100) && decide (ma < 0)) || (s.temps.any fun t => decide (s.tMax - 5 ≤ t))
    || (decide (ma < 0) && decide (9 * s.iMax < 10 * ma.natAbs))

/-- May a rest window start (R330)? -/
def State.windowMay (s : State) : Bool :=
  s.flag Reg.PACK_CTL_REST_PERMIT && s.packState = packEstimating && s.flag Reg.TILE_SAVE_STAT_PFAIL && !s.saving && !s.restoring

/-- A window starts (R331). -/
def State.startWindow (s : State) : State :=
  let s := (s.set Reg.PACK_STAT_STATE packWindow).updPack fun x => { x with window := some (s.bar, 0), windowNext := false }
  (s.raise 0x1C5 [d1 1, d1 0]).driveCharger

/-- A window ends: by a correction 1, a cancel 3 or a save 4; the time-out raises 0x1C6 itself (R331). -/
def State.endWindow (s : State) (how : Nat) : State :=
  if s.pack.window.isNone then s else
    let s := (s.set Reg.PACK_STAT_STATE packEstimating).updPack fun x => { x with window := none }
    (if how = 2 then s else s.raise 0x1C5 [d1 0, d1 how]).driveCharger

/-- A 131,072-phrase point has passed since the last record (R337, R531). -/
def State.recordPointPassed (s : State) : Bool := decide (s.pack.recordPhrase / 131072 < s.bar / 256 / 131072)

/-- What the estimator does at a phrase start (R325). -/
def State.estimate (s : State) (m : Meas) : State :=
  let s := (s.updPack fun x => { x with phrase := s.bar }).measure m false
  if s.packState = packAbsent then s.set Reg.PACK_EAVAIL_JOULES 0
  else if s.packState = packShip then s
  else
    let rest := decide (m.ma.natAbs < s.restMa)
    let s := s.integrate m.ma
    let s := (s.setB Reg.PACK_STAT_AT_REST rest).updPack fun x => { x with
      rest := if rest then x.rest else 0
      window := x.window.map fun w => (w.1, max w.2 m.ma.natAbs)
      chargeFault := x.chargeFault && (m.cells.take s.cells).any fun v => decide (s.vMax ≤ v)
      recordDue := x.recordDue || s.recordPointPassed }
    let s := s.setB Reg.PACK_STAT_PROTECT_WARN (s.flag Reg.PACK_STAT_PROTECT_WARN && s.warnHolds m.ma)
    let s := s.cycleEvents.publishPack.driveCharger
    if s.flag Reg.PACK_CTL_REST_AUTO && s.windowMay && decide (s.get Reg.PACK_CTL_AUTO_UNCERT ≤ s.get Reg.PACK_UNCERT_UNCERT) then
      s.startWindow else s

/-- An OCV correction (R326). -/
def State.ocvCorrect (s : State) : State :=
  let before := s.get Reg.PACK_SOC_SOC
  let u := s.get Reg.PACK_UNCERT_UNCERT
  let s := s.updPack fun x => { x with soc := s.ocvSoc, unc := s.par 0x5C 2 * 10 ^ 10, rest := 0, recordDue := true }
  let s := (s.set Reg.PACK_REST_SINCE_CORR 0).raise 0x1C3 [d2 before, d2 (s.pack.soc / 10 ^ 10), d2 u]
  (s.endWindow 1).estimateValid.driveCharger

/-! ### Packets (R330, R341, R342) -/

def packWords : List Nat := (List.range 19).map fun i => 0xC0000 + 4 * i

def opPackStatus (_ : Pkt) (s : State) : OpResult := .ok s (s.words packWords)

/-- A table of pairs whose first part rises, and whose second part does not rise. -/
def rising (l : List Int) : Bool := (l.zip l.tail).all fun p => decide (p.1 < p.2)
def falling (l : List Int) : Bool := (l.zip l.tail).all fun p => decide (p.2 ≤ p.1)

/-- Ranges of R321 over a parameter block. -/
def packParamsOk (b : List Byte) : Bool :=
  let ocv := (List.range 11).map fun i => (leAt b (8 + 2 * i) 2 : Int)
  let cyc := (List.range 8).map fun i => (leAt b (0x20 + 4 * i) 2 : Int)
  let fac := (List.range 8).map fun i => (leAt b (0x22 + 4 * i) 2 : Int)
  let ft := (List.range 4).map fun i => signed8 (leAt b (0x40 + 4 * i) 1)
  between 1 2 (leAt b 0 1) && between 3 6 (leAt b 1 1) && between 500 65535 (leAt b 2 2)
    && rising ocv && rising cyc && falling fac && rising ft && between 5000 10000 (leAt b 0x50 2)
    && between 0 20 (leAt b 0x52 1) && between 50 100 (leAt b 0x53 1) && decide (leAt b 0x54 4 ≤ 1000000)
    && between 1 1000 (leAt b 0x58 2) && between 1 1000 (leAt b 0x5A 2) && between 50 1000 (leAt b 0x5C 2)
    && between 500 5000 (leAt b 0x5E 2)

/-- Bytes of a block replaced from an offset. -/
def patchBytes (b : List Byte) (o : Nat) (x : List Byte) : List Byte := b.take o ++ x ++ b.drop (o + x.length)

/-- PACK_PARAMS_SET (R342). -/
def opPackParamsSet (p : Pkt) (s : State) : OpResult :=
  let old := s.pack.paramsNext.getD s.pack.params
  let new := if p.expert then p.params.take 104 else patchBytes old 0x52 (sliceBytes p.params 0x52 6)
  if !(p.genOk (s.get Reg.PACK_GEN_GEN)) then .refuse s stStale
  else if !(packParamsOk new) then .refuse s stInvalid
  else if s.saving then .refuse s stForbids
  else
    let s := (s.updPack fun x => { x with paramsNext := some new }).bump Reg.PACK_GEN_GEN
    .ok s (s.words [0xC0000, 0xC0048])

/-- New parameters take effect at a downbeat; a change of CHEM, CELLS, DESIGN_MAH or OCV restarts the estimate (R342). -/
def State.takeParams (s : State) : State :=
  match s.pack.paramsNext with
  | none => s
  | some b =>
    let old := s.pack.params
    let again := sliceBytes old 0 4 ≠ sliceBytes b 0 4 || sliceBytes old 8 22 ≠ sliceBytes b 8 22
    let s := s.updPack fun x => { x with params := b, paramsNext := none }
    let s := s.raise 0x1D0 [d2 (s.get Reg.PACK_GEN_GEN), d1 (bit again)]
    if again && s.packState ≠ packAbsent && s.packState ≠ packShip then s.insertPack s.pack.eeprom false
    else s.publishPack.driveCharger

/-- SHIP_MODE (R341). -/
def opShipMode (p : Pkt) (s : State) : OpResult :=
  if !(p.genOk (s.get Reg.PACK_GEN_GEN)) then .refuse s stStale
  else if s.saving || s.restoring || s.get Reg.SYS_STATE_STEP ≠ 15 then .refuse s stForbids
  else if s.packState = packAbsent then .refuse s stForbids
  else
    let seq := s.nextKeySeq
    let s := ((s.latchSave 7 false).bump Reg.PACK_GEN_GEN).updPack fun x => { x with ship := true }
    .ok s (leBytes 8 seq)

/-- REST_WINDOW (R330). -/
def opRestWindow (p : Pkt) (s : State) : OpResult :=
  let reply := fun (s : State) => OpResult.ok s (wordsBytes [s.word 0xC0000, s.word 0xC0008])
  let run := s.pack.window.isSome || s.pack.windowNext
  if !(s.flag Reg.PACK_CTL_REST_PERMIT) then .refuse s stForbids
  else if s.packState ≠ packEstimating && s.packState ≠ packWindow then .refuse s stForbids
  else if !(s.flag Reg.TILE_SAVE_STAT_PFAIL) || s.saving || s.restoring then .refuse s stForbids
  else
    let s := if p.expert then
        (s.later Reg.PACK_CTL_REST_AUTO (p.u8 1)).later Reg.PACK_CTL_AUTO_UNCERT (p.u16 2) else s
    if p.u8 0 = 0 then (if run then reply s else reply (s.updPack fun x => { x with windowNext := true }))
    else if p.u8 0 = 1 then reply ((s.updPack fun x => { x with windowNext := false }).endWindow 3)
    else reply s

def packStatusOp : PktOp := ⟨0x0601, some .host, false, fun _ ps => ps.length = 0, fun _ _ => 76, opPackStatus⟩
def packParamsSetOp : PktOp :=
  ⟨0x0602, some .mgmt, true, fun _ ps => ps.length = 104 && zeroAt ps 0x1E 2 && zeroAt ps 0x63 1
    && (List.range 4).all (fun i => zeroAt ps (0x41 + 4 * i) 1), fun _ _ => 8, opPackParamsSet⟩
def shipModeOp : PktOp := ⟨0x0603, some .mgmt, true, fun _ ps => ps.length = 0, fun _ _ => 8, opShipMode⟩
def restWindowOp : PktOp :=
  ⟨0x0604, some .mgmt, true, fun e ps => ps.length = 4 && decide (leAt ps 0 1 ≤ 2) && (!e || decide (leAt ps 1 1 ≤ 1)),
    fun _ _ => 8, opRestWindow⟩

end Sys2Proof.Machine
end

