-- ==== Sys2Proof/Machine/PackCommands.lean ====
section
/-! DEFINITION. The commands of the energy pack (spec/09_energy_pack.md). -/

namespace Sys2Proof.Machine

/-- ESTIMATOR_PHRASE (R323 to R329): once at each phrase start; a rail measured at UV_MV or above ends cause 4 (R252). -/
def execEstimatorPhrase (m : Meas) (s : State) : Answer :=
  s.powered <|
  if s.phraseStart && s.pack.phrase ≠ s.bar then
    let s := if s.get Reg.PACK_INPUT_UV_MV ≤ m.vin then s.updSave fun x => { x with inputLow := false } else s
    .next (s.estimate m)
  else .next s

/-- OCV_CORRECTION (R326): 1,800 consecutive operating seconds at rest. -/
def execOcvCorrection (s : State) : Answer :=
  s.powered <|
  if decide (1800 ≤ s.pack.rest) && (s.packState = packEstimating || s.packState = packWindow) then .next s.ocvCorrect
  else .next s

/-- ESTIMATOR_RECORD_WRITE (R336, R337): no record write starts from a save trigger until the save commits or fails. -/
def execEstimatorRecordWrite (s : State) : Answer :=
  s.powered <|
  if !s.pack.recordDue || !s.save.latched.isEmpty
      || (decide (1 ≤ s.saveState) && decide (s.saveState ≤ 4)) then .next s
  else .next (s.writeRecord.updPack fun x => { x with recordPhrase := s.bar / 256 })

/-- REST_WINDOW (R330). -/
def execRestWindow (p : Pkt) (s : State) : Answer := .next (restWindowOp.command p s)

/-- REST_WINDOW_TIMEOUT (R331): MAX_MIN minutes without a correction. -/
def execRestWindowTimeout (s : State) : Answer :=
  s.powered <|
  match s.pack.window with
  | none => .next s
  | some (b, ma) =>
    if s.elapsed b (s.get Reg.PACK_REST_MAX_MIN * 60000000) then .next ((s.endWindow 2).raise 0x1C6 [d4 ma]) else .next s

/-- PACK_REMOVAL (R332): PACK_PRESENT has been low for 16 phrases. -/
def execPackRemoval (s : State) : Answer :=
  s.powered <|
  if s.packState = packAbsent || s.packState = packShip then .next s else .next s.packRemoved

/-- PACK_INSERTION (R332): PACK_PRESENT has been high for 16 phrases; the ID EEPROM as read, none where there is none. -/
def execPackInsertion (eeprom : Option (List Byte)) (s : State) : Answer :=
  s.powered <|
  if s.packState = packAbsent then .next (s.packInserted eeprom) else .next s

/-- PACK_SETTLED (R332, R338): 64 phrases after an insertion, or 16 after a long off time. -/
def execPackSettled (s : State) : Answer :=
  s.powered <|
  if s.packState = packSettling && decide (s.pack.settle + (if s.pack.short then 4096 else 16384) ≤ s.bar) then
    .next s.packSettled
  else .next s

/-- PACK_PRESENT_GLITCH (R332): a change of PACK_PRESENT shorter than its 16 phrases, `phrases` long. -/
def execPackPresentGlitch (phrases : Fin 16) (s : State) : Answer := s.powered <| .next (s.raise 0x1CF [d1 phrases])

/-- PACK_PROTECT_WARN (R230, R339): a warning level has held for 64 bars; its condition (1 low cell, 2 temperature, 3 current)
and the measured value. -/
def execPackProtectWarn (cond : Fin 4) (value : Nat) (s : State) : Answer :=
  s.powered <|
  if s.packState = packAbsent || s.flag Reg.PACK_STAT_PROTECT_WARN then .next s
  else .next (((s.set Reg.PACK_STAT_PROTECT_WARN 1).raise 0x1C8 [d1 cond, d4 value]).latchSave 8 false)

/-- PACK_PROTECT_TRIP (R339, R376): the disconnect opens at once through its latch; E is 0. -/
def execPackProtectTrip (cond : Fin 4) (value : Nat) (s : State) : Answer :=
  s.powered <|
  if s.packState = packAbsent || s.pack.tripped then .next s
  else
    let s := (s.set (Reg.GUARD_OUT_OUT 4) 1).set (Reg.GUARD_OUT_HW 4) 1
    let s := (s.updPack fun x => { x with tripped := true }).raise 0x1C9 [d1 cond, d4 value] [packRec]
    .next s.publishPack

/-- PACK_CHARGE_FAULT (R339): a cell above V_CELL_MAX + 100 mV. -/
def execPackChargeFault (cell : Fin 6) (s : State) : Answer :=
  s.powered <|
  if s.packState = packAbsent || s.pack.chargeFault || decide (s.cells ≤ cell.val) then .next s
  else .next ((s.updPack fun x => { x with chargeFault := true }).driveCharger)

/-- SHIP_MODE (R341). -/
def execShipMode (p : Pkt) (s : State) : Answer := .next (shipModeOp.command p s)

/-- PACK_PARAMS_SET (R342). -/
def execPackParamsSet (p : Pkt) (s : State) : Answer := .next (packParamsSetOp.command p s)

/-- PACK_STATUS (R342). -/
def execPackStatus (p : Pkt) (s : State) : Answer := .next (packStatusOp.command p s)

end Sys2Proof.Machine
end

