-- ==== Sys2Proof/Machine/DeckWork.lean ====
section
/-! DEFINITION. What NAND operations do when they end (spec/08_deck.md R284 to R313, spec/07_save_restore.md R249, R251):
programs, reads, erases, lost channels, compaction, refresh Keystones, formats, and the Deck's packets. -/

namespace Sys2Proof.Machine

/-! ### Keystone copies (R245, R249, R516) -/

/-- Record a copy whose commit page verified. -/
def State.verifiedCopy (s : State) (k : Keystone) (chan : Nat) : State :=
  let s := if s.deck.keystones.any fun x => x.seq = k.seq then s
    else s.updDeck fun d => { d with keystones := d.keystones ++ [k] }
  s.updDeck fun d => { d with keystones := d.keystones.map fun x =>
    if x.seq = k.seq then { x with copies := x.copies ++ [chan] } else x }

def State.keystoneOf (s : State) (seq : Nat) : Option Keystone := s.deck.keystones.find? fun x => x.seq = seq

/-- The first Keystone with three verified copies under the new epoch programs the epoch counter (R516). -/
def State.epochCommit (s : State) (k : Keystone) : State :=
  if s.flag Reg.SEC_STAT_ROTATE_PENDING && k.keyRef.epoch = s.get Reg.SEC_STAT_EPOCH + 1 then
    (((s.set Reg.SEC_STAT_EPOCH k.keyRef.epoch).set Reg.SEC_STAT_EPOCH_LEFT (255 - k.keyRef.epoch)).set
      Reg.SEC_STAT_ROTATE_PENDING 0).raise 0x1FE [d1 1, d1 k.keyRef.epoch]
  else s

/-- All three copies of the Keystone being written have verified: a refresh becomes current, with 0x175 (R295). -/
def State.keystoneComplete (s : State) (w : KWrite) : State :=
  let s := (s.updDeck fun d => { d with writing := none }).epochCommit w.ks
  if !w.refresh then s else
    let before := s.pinnedBands
    let s := s.adoptKeystone w.ks
    let s := s.set Reg.DECK_STAT_REFRESH 0
    s.raise 0x175 [d8 w.ks.seq, d2 (before - s.pinnedBands)]

/-- A page of copy `i` verified. -/
def State.keyPageOk (s : State) (w : KWrite) (i : Nat) : State :=
  let c := w.copies.getD i ⟨0, 0, false⟩
  if 0 < c.body then
    s.updDeck fun d => { d with writing := some { w with copies := w.copies.set i { c with body := c.body - 1 } } }
  else
    let w := { w with copies := w.copies.set i { c with commit := false } }
    let s := (s.updDeck fun d => { d with writing := some w }).verifiedCopy w.ks c.chan
    let s := if w.refresh then s else s.bump Reg.TILE_SAVE_STAT_COPIES
    if w.copies.all fun x => !x.commit then s.keystoneComplete w else s

/-- Copy `i` is written again in full on another channel in service; where none has room, once one has (R249). -/
def State.rewriteCopy (s : State) (w : KWrite) (i : Nat) : State :=
  let c := w.copies.getD i ⟨0, 0, false⟩
  let s := s.updDeck fun d => { d with keystones := d.keystones.map fun x =>
    if x.seq = w.ks.seq then { x with bad := x.bad ++ [c.chan] } else x }
  match s.keyChannel w.ks.seq (w.ks.pages + 1) (w.copies.map (·.chan)) i with
  | some n =>
    let s := s.updNch n fun x => { x with ring := x.ring.put w.ks.seq (w.ks.pages + 1) }
    let s := s.updDeck fun d => { d with writing := some { w with copies := w.copies.set i ⟨n, w.ks.pages, true⟩ } }
    s.raise 0x155 [d1 c.chan, d1 n]
  | none => s.updDeck fun d => { d with writing := some { w with copies := w.copies.set i ⟨16, w.ks.pages, true⟩ } }

/-! ### Programs (R286, R307) -/

def State.updStripe (s : State) (die sb page : Nat) (f : Stripe → Stripe) : State :=
  s.updDeck fun d => { d with stripes := d.stripes.map fun x => if x.die = die && x.sb = sb && x.page = page then f x else x }

/-- Patch pages used on a channel's superblock (R286). -/
def State.patchesUsed (s : State) (n die sb : Nat) : Nat :=
  ((s.deck.stripes.filter fun x => x.die = die && x.sb = sb).map fun x =>
    (x.patches.filter fun p => x.chan p.1 = n).length).sum

/-- The share is programmed. -/
def Stripe.programmed (x : Stripe) (n : Nat) : Stripe := { x with todo := x.todo.filter (· ≠ n) }

/-- The share of position `pos` is left missing. -/
def Stripe.leaveMissing (x : Stripe) (pos : Nat) : Stripe :=
  { x with todo := x.todo.filter (· ≠ x.chan pos), gone := x.gone ++ [pos] }

/-- Shares of a stripe that are missing, or will be, for good: neither known zeros nor still to be programmed (R283, R286). -/
def State.absent (s : State) (x : Stripe) : List Nat := (s.missing x).filter fun k => !(x.todo.contains (x.chan k))

/-- A program of a share reports status failure (R286): it is programmed again into the next patch page, or left missing
when all 16 are used; then the band takes no further stripes, and copies whose stripe has more than two missing shares are written
again. -/
def State.programFail (s : State) (n die sb page pos : Nat) : State :=
  let used := s.patchesUsed n die sb
  let s := (s.count (Reg.NCH_ERR_PROG_FAIL n)).markSb n die sb 1
  if used < 16 then
    (s.updStripe die sb page fun x => { x with patches := x.patches ++ [(pos, 496 + used)] }).raise (srcNand n 0)
      [d1 die, d2 sb, d2 page, d2 (496 + used)]
  else
    let s := (s.updStripe die sb page fun x => x.leaveMissing pos).setBand (s.bandOf die sb) .full
    let s := s.raise (srcNand n 0) [d1 die, d2 sb, d2 page, d2 0xFFFF]
    s.each (s.deck.stripes.filter fun x => x.die = die && x.sb = sb && x.page = page && decide (2 < (s.absent x).length))
      State.rewriteStripe

/-- The operation on a die, and the channel without it. -/
def State.opOn (s : State) (n d : Nat) : Option NandOp := (s.nch n).ops.find? fun o => o.die = d

def State.endOp (s : State) (n d : Nat) : State := s.updNch n fun x => { x with ops := x.ops.filter fun o => o.die ≠ d }

/-- Program times in 0.1 µs: the longest, and the mean of the last 1,024 (R307, R317). -/
def State.programTime (s : State) (n t : Nat) : State :=
  let l := (t :: (s.nch n).times).take 1024
  let s := (s.updNch n fun x => { x with times := l }).peak (Reg.NCH_TPROG_MAX n) t
  (s.set (Reg.NCH_TPROG_AVG n) (satW 16 (l.sum / max 1 l.length))).wearSign n

/-- A program ends (R286, R307). -/
def State.programDone (s : State) (n d : Nat) (ok : Bool) (t : Nat) : State :=
  match s.opOn n d with
  | none => s
  | some o =>
    match o.work with
    | .share die sb page pos _ =>
      let s := ((s.endOp n d).programTime n t).updDeck fun k => { k with raw := k.raw + 65536 }
      let s := if 2700 < t then s.markSb n die sb 4 else s
      if ok then s.updStripe die sb page fun x => x.programmed n else s.programFail n die sb page pos
    | .keyPage seq i =>
      let s := (s.endOp n d).programTime n t
      let s := if ok then s else s.count (Reg.NCH_ERR_PROG_FAIL n)
      match s.deck.writing with
      | some w =>
        if w.ks.seq ≠ seq || (w.copies.getD i ⟨16, 0, false⟩).chan ≠ n then s
        else if ok then s.keyPageOk w i else s.rewriteCopy w i
      | none => s
    | _ => s

/-! ### Reads (R258, R284, R287) -/

def State.updFetch (s : State) (t : Nat) (f : Fetch → Fetch) : State :=
  s.updTile fun x => { x with fetches := x.fetches.map fun g => if g.tile = t then f g else g }

/-- The data of a fetch is in hand: its write into DRAM is queued (R258, R264). -/
def State.inHand (s : State) (f : Fetch) : State :=
  match s.frameOf f.tile with
  | none => s
  | some k =>
    (s.addJob (k % 8) (if !f.bg then .touch else if s.recOf f.tile = .zero then .fill else .restore) k).updFetch f.tile fun g =>
      { g with queued := true }

/-- One share of a fetch was decoded. -/
def State.shareRead (s : State) (t pos : Nat) : State :=
  match s.tile.fetches.find? fun f => f.tile = t with
  | none => s
  | some f =>
    let f' := { f with need := f.need.filter (· ≠ pos) }
    let s := s.updFetch t fun _ => f'
    if f'.need.isEmpty && !f.need.isEmpty then s.inHand f' else s

/-- Does a record name a share of the stripe? -/
def TileRec.onStripe (r : TileRec) (die sb page : Nat) : Bool :=
  match r with
  | .data a b c _ _ => a = die && b = sb && c = page
  | _ => false

/-- A fetch planned anew over the shares that can now be read (R284). -/
def State.planFetch (s : State) (f : Fetch) : Fetch :=
  let p := s.readPlan (s.recOf f.tile)
  { f with need := p.1, rebuild := p.2.1, lost := p.2.2 }

/-- The same for a copy that compaction reads; one that can no longer be read is left where it is. -/
def State.planMove (s : State) (m : Move) : Option Move :=
  let p := s.readPlan m.record
  if p.2.2 then none else some { m with need := p.1 }

/-- A share of a copy that compaction reads was decoded. -/
def State.moveRead (s : State) (t pos : Nat) : State :=
  s.updDeck fun d => { d with moves := d.moves.map fun m => if m.tile = t then { m with need := m.need.filter (· ≠ pos) } else m }

/-- A share is missing after retry: its stripe keeps it missing, and fetches of the stripe are planned anew (R284). -/
def State.shareMissing (s : State) (n die sb page pos : Nat) : State :=
  let s := s.updStripe die sb page fun x => { x with gone := x.gone ++ [pos] }
  let again := ((s.deck.stripes.find? fun x => x.die = die && x.sb = sb && x.page = page).map fun x =>
    decide ((s.missing x).length ≤ 2)).getD false
  let s := (s.count (Reg.NCH_ERR_READ_FAIL n)).raise (srcNand n 2) [d1 die, d2 sb, d2 page, d1 (bit again)]
  let plan := fun (m : Move) => if TileRec.onStripe m.record die sb page then s.planMove m else some m
  let s := s.updDeck fun d => { d with moves := d.moves.filterMap plan }
  s.updTile fun x => { x with fetches := x.fetches.map fun f =>
    if (s.recOf f.tile).onStripe die sb page then s.planFetch f else f }

/-- What a decoded share shows of wear: the most corrected bits in a codeword (R307). -/
def State.readBits (s : State) (n die sb bits : Nat) : State :=
  let s := (s.peak (Reg.NCH_ERR_CBITS_MAX n) bits).wearSign n
  if 24 ≤ bits then s.markSb n die sb 3 else s

/-- The place a read names. -/
def State.readPlace (s : State) : NandWork → Option (Nat × Nat × Nat × Nat)
  | .fetch t pos => match s.recOf t with | .data die sb page _ _ => some (die, sb, page, pos) | _ => none
  | .move t pos => (s.deck.moves.find? fun m => m.tile = t).bind fun m => match m.record with
    | .data die sb page _ _ => some (die, sb, page, pos)
    | _ => none
  | .patrol die sb page pos => some (die, sb, page, pos)
  | _ => none

/-- Read-retry levels (R284). -/
def retryLevels : Nat := 8

def State.retryOf (s : State) (w : NandWork) : Nat := ((s.deck.retries.find? fun e => e.1 = w).map (·.2)).getD 0

def State.setRetry (s : State) (w : NandWork) (k : Nat) : State :=
  s.updDeck fun d => { d with retries := d.retries.filter (fun e => e.1 ≠ w) ++ (if k = 0 then [] else [(w, k)]) }

/-- A read ends: `bits` corrected bits at most in a codeword, or none where the share does not decode: it is read again at the next
retry level, under a READ budget of its own, and is missing after the last (R284). -/
def State.readDone (s : State) (n d : Nat) (bits : Option (Fin 41)) : State :=
  match s.opOn n d with
  | none => s
  | some o =>
    match s.readPlace o.work with
    | none => (match o.work with | .fetch .. => s.endOp n d | .move .. => s.endOp n d | _ => s)
    | some (die, sb, page, pos) =>
      let s := s.endOp n d
      let k := s.retryOf o.work
      match bits with
      | none => if k < retryLevels then s.setRetry o.work (k + 1) else (s.setRetry o.work 0).shareMissing n die sb page pos
      | some b =>
        let s := (s.setRetry o.work 0).readBits n die sb b
        match o.work with
        | .fetch t _ => s.shareRead t pos
        | .move t _ => s.moveRead t pos
        | _ => s

/-! ### NAND patrol (R292) -/

/-- A patrol pass is due once per PATROL_DAYS. -/
def State.patrolDue (s : State) : Bool :=
  s.deck.patrolPos ≠ 0 || s.elapsed s.deck.patrolAt (s.get Reg.DECK_CFG_PATROL_DAYS * 86400000000)

/-- A share whose patrol read did not decode and is to be read again (R284). -/
def State.patrolRetry (s : State) (n d : Nat) : Option NandWork :=
  (s.deck.retries.find? fun e => match e.1 with
    | .patrol die _ page pos => die = d && (pos + page) % 16 = n
    | _ => false).map (·.1)

/-- The next live share of a channel and die for patrol, and its stripe's place in the list. -/
def State.patrolNext (s : State) (n d : Nat) : Option (Nat × NandWork) :=
  if !s.patrolDue then none else
    (List.range s.deck.stripes.length).findSome? fun i =>
      if i < s.deck.patrolPos then none else
        (s.deck.stripes[i]?).bind fun x =>
          if x.die ≠ d then none else
            (sharePositions.find? fun k => x.chan k = n && s.shareOk x k).map fun k => (i, .patrol x.die x.sb x.page k)

/-- Patrol moves on; past the last stripe the pass ends. -/
def State.patrolStep (s : State) (i : Nat) : State :=
  s.updDeck fun d => if i + 1 < d.stripes.length then { d with patrolPos := i + 1 }
    else { d with patrolPos := 0, patrolAt := s.bar }

/-! ### Erases (R293, R307) -/

/-- One channel's superblock of a band is erased; when the last is, the band is erased. -/
def State.bandErased (s : State) (n b : Nat) : State :=
  match s.band b with
  | .erasing l =>
    let l := l.filter (· ≠ n)
    (s.setBand b (if l.isEmpty then .erased else .erasing l)).updBands
  | _ => s

/-- Keystone copies that stood in an erased ring superblock of a channel are gone (R296). -/
def State.forgetCopies (s : State) (n : Nat) (seqs : List Nat) : State :=
  let gone := fun (k : Keystone) =>
    if !(seqs.contains k.seq) then k
    else { k with
      copies := k.copies.filter (· ≠ n)
      bad := k.bad.filter (· ≠ n)
      forged := k.forged.filter (· ≠ n) }
  s.updDeck fun d => { d with
    keystones := (d.keystones.map gone).filter fun k => !k.copies.isEmpty || !k.bad.isEmpty || !k.forged.isEmpty }

/-- An erase ends (R307): its count rises; a failure, a mark or the rated cycles retire the superblock. -/
def State.eraseDone (s : State) (n d : Nat) (ok : Bool) : State :=
  match s.opOn n d with
  | none => s
  | some o =>
    match o.work with
    | .band b =>
      let s := s.endOp n d
      let sb := b / s.card.nandDies + 4
      let key := sbKey n d (s.physical n d sb)
      let c := Store.get 0 s.deck.wear key + 1
      let s := (s.updDeck fun k => { k with wear := Store.set 0 k.wear key c }).updWear n
      let marked := Store.get 0 s.deck.marked (sbKey n d sb)
      let tried := Store.get 0 (s.nch n).tried (d * 65536 + sb)
      let note := fun (s : State) (k : Nat) => s.updNch n fun x => { x with tried := Store.set 0 x.tried (d * 65536 + sb) k }
      if !ok then
        let none' := s.sparesLeft n d = 0
        let s := note ((s.count (Reg.NCH_ERR_ERASE_FAIL n)).retireSb n d sb 2) (if none' then 0 else tried + 1)
        if none' && tried ≠ 0 then
          (s.updNch n fun x => { x with failNext := x.failNext <|> some 3 }).setBit (Reg.NCH_STAT_DIE_FAIL n) d true
        else s
      else
        let s := note s 0
        let s := if marked ≠ 0 then s.retireSb n d sb marked
          else if s.ratedCycles ≠ 0 && s.ratedCycles ≤ c then s.retireSb n d sb 5 else s
        s.bandErased n b
    | .ring r =>
      ((s.endOp n d).forgetCopies n ((s.nch n).ring.seqs.getD r [])).updNch n fun x =>
        { x with ring := ⟨x.ring.cur, x.ring.used.set r 0, x.ring.seqs.set r []⟩ }
    | _ => s

/-- A ring superblock that can be erased: it is not the one being written, it is used, and it holds no copy of the current
Keystone (R296). -/
def State.ringWork (s : State) (n d : Nat) : Option NandWork :=
  let r := (s.nch n).ring
  let o := 1 - r.cur
  let cur := (s.currentKeystone.map (·.seq)).getD 0
  if d = 0 && r.used.getD o 0 ≠ 0 && !((r.seqs.getD o []).contains cur) then some (.ring o) else none

/-! ### Channels lost (R288, R289, R251) -/

def State.queuedOn (s : State) (n : Nat) : Nat := (s.deck.stripes.filter fun x => x.todo.contains n).length

def State.dropShares (s : State) (n : Nat) : State :=
  s.updDeck fun d => { d with stripes := d.stripes.map fun x => x.dropChannel n }

/-- Fetches, and the reads of compaction, are planned anew. -/
def State.replanFetches (s : State) : State :=
  let s := s.updDeck fun d => { d with moves := d.moves.filterMap fun m => if m.need.isEmpty then some m else s.planMove m }
  s.updTile fun x => { x with fetches := x.fetches.map fun f => if f.need.isEmpty then f else s.planFetch f }

/-- GC segments with a share that is lost with its channel are given up: the records still name the copies that were moved (DEDUCED,
notes/assumptions/77.md). -/
def State.dropGc (s : State) : State :=
  let dead := s.deck.segs.filter fun g => g.kind = .gc && s.deck.stripes.any fun x => x.seg = g.num && s.shareLost x
  s.each dead fun s g => s.dropSegment g.num

/-- A Keystone copy on the lost channel that has not verified is written elsewhere (R249). -/
def State.moveCopies (s : State) (n : Nat) : State :=
  match s.deck.writing with
  | none => s
  | some w =>
    match (List.range w.copies.length).find? fun i => (w.copies.getD i ⟨99, 0, false⟩).chan = n
        && (w.copies.getD i ⟨99, 0, false⟩).commit with
    | some i => s.rewriteCopy w i
    | none => s

/-- NAND channels suspended or out of service. -/
def State.nchLost (s : State) : Nat := 16 - s.nchCount

/-- The save fails once a third channel is suspended or fails, before it has committed (R251, R288). -/
def State.checkSaveFail (s : State) : State :=
  if 3 ≤ s.nchLost && decide (1 ≤ s.saveState) && decide (s.saveState ≤ 4) then s.failSave.endSave else s

/-- A channel that overran during a save is suspended (R288). -/
def State.suspend (s : State) (n : Nat) : State :=
  let dropped := s.queuedOn n
  let s := ((s.setNch n 2).dropShares n).raise 0x172 [d1 n, d4 dropped]
  ((s.updSaveRate false).moveCopies n).checkSaveFail

/-- Bands with stripes written while the channel was in service (R289). -/
def State.rebuildBands (s : State) (n : Nat) : List Nat :=
  ((s.deck.stripes.filter fun x => !(bitAt x.out n)).map fun x => s.bandOf x.die x.sb).dedup

/-- A NAND channel leaves service for the life of the format (R289). -/
def State.failNand (s : State) (n cause : Nat) : State :=
  let s := ((s.setNch n 3).set (Reg.NCH_STAT_FAIL_CAUSE n) cause).updDeck fun d =>
    { d with failed := d.failed.filter (fun e => e.1 ≠ n) ++ [(n, cause)] }
  let gate := s.get (Reg.GUARD_OUT_OUT 3)
  let s := (s.set (Reg.GUARD_OUT_OUT 3) (gate - (if bitAt gate n then 2 ^ n else 0))).set (Reg.GUARD_OUT_HW 3) 1
  let s := (s.updNch n fun x => { x with ops := [], overruns := [], restBars := 0, busy := 0, failNext := none }).dropShares n
  let s := s.raise 0x171 [d1 n, d1 cause, d1 s.nchCount] [⟨none, .warning, .memoryModule, 0⟩]
  let s := ((s.updSaveRate false).dropGc.replanFetches).moveCopies n
  let bands := s.rebuildBands n
  let s := if 14 ≤ s.nchCount && !bands.isEmpty then
      let s := (s.updDeck fun d => { d with rebuild := (d.rebuild ++ bands).dedup }).set Reg.DECK_STAT_REBUILD 1
      (s.set Reg.DECK_REBUILD_REMAIN s.deck.rebuild.length).raise 0x176 [d2 s.deck.rebuild.length]
    else s
  s.checkSaveFail

/-! ### Compaction and rebuild (R289, R293) -/

/-- The lowest tile whose record names a band, that is not already on the move, and whose copy can be read. -/
def State.liveIn (s : State) (b : Nat) : Option (Nat × TileRec) :=
  let moving := (s.deck.segs.filter fun g => g.kind = .gc).flatMap (·.tiles)
  s.deck.loc.find? fun e => (match e.2 with | .data die sb _ _ _ => s.bandOf die sb = b | _ => false)
    && !(moving.any fun m => m.1 = e.1) && !(s.deck.moves.any fun m => m.tile = e.1) && !(s.readPlan e.2).2.2

/-- The full band with the fewest running references (R293). -/
def State.victim (s : State) : Option Nat :=
  let full := (s.deck.bands.filter fun e => e.2 = .full && s.refsIn s.deck.loc e.1 ≠ 0).map (·.1)
  full.foldl (fun b x => match b with
    | none => some x
    | some y => if s.refsIn s.deck.loc x < s.refsIn s.deck.loc y then some x else some y) none

/-- The rebuild ends when no band is left in it; a refresh Keystone follows (R289). -/
def State.rebuildStep (s : State) (b : Nat) : State :=
  let s := s.updDeck fun d => { d with rebuild := d.rebuild.filter (· ≠ b) }
  let s := s.set Reg.DECK_REBUILD_REMAIN s.deck.rebuild.length
  if s.deck.rebuild.isEmpty then
    ((s.set Reg.DECK_STAT_REBUILD 0).updDeck fun d => { d with refreshWanted := true }).raise 0x176 [d2 0]
  else s

/-- The band that the rebuild or compaction empties: one that holds dead shares, unless it is rebuilt (R289, R293). -/
def State.gcSource (s : State) : Option Nat :=
  match s.deck.rebuild with
  | b :: _ => some b
  | [] => s.victim.bind fun b =>
    let held := ((s.deck.stripes.filter fun x => s.bandOf x.die x.sb = b).map fun x => x.shares.length).sum
    if s.refsIn s.deck.loc b < held then some b else none

/-- The next copy is taken up to be read, while fewer than 16 are under way (DESIGN CHOICE, notes/assumptions/77.md). -/
def State.gcTake (s : State) : State :=
  if s.get Reg.DECK_STAT_STATE ≠ 2 || decide (16 ≤ s.deck.moves.length) then s
  else match s.gcSource.bind s.liveIn with
    | some (t, r) => s.updDeck fun d => { d with moves := d.moves ++ [⟨t, r, (s.readPlan r).1⟩] }
    | none => s

/-- A band of which no live copy is left to be read: its GC segment closes, and once that has committed a rebuilt band is done. -/
def State.gcClose (s : State) (b : Nat) : State :=
  let gc := s.deck.segs.filter fun g => g.kind = .gc
  let open' := gc.filter fun g => !g.closed
  if !open'.isEmpty then s.each open' fun s g => s.closeSegment g.num
  else if gc.isEmpty && s.deck.rebuild.contains b then s.rebuildStep b
  else s

/-- One live share that has been read moves into a GC segment, its ciphertext and SEQ unchanged (R293); a tile whose record changed
meanwhile is left. -/
def State.moveShare (s : State) : State :=
  match s.deck.moves.find? fun m => m.need.isEmpty with
  | some m =>
    let s := s.updDeck fun d => { d with moves := d.moves.erase m }
    (match s.copyOf m.record with
      | some (_, k) => if s.recOf m.tile = m.record then (s.addCopy .gc s.bar k).1 else s
      | none => s)
  | none =>
    if !s.deck.moves.isEmpty then s else
      match s.gcSource with
      | none => s.each (s.deck.segs.filter fun g => g.kind = .gc && !g.closed) fun s g => s.closeSegment g.num
      | some b => if (s.liveIn b).isSome then s else s.gcClose b

/-! ### Refresh Keystones (R295) -/

/-- May a refresh be written (R295)? -/
def State.refreshDue (s : State) : Bool :=
  (s.deck.refreshWanted || decide (s.get Reg.DECK_CFG_REFRESH_BANDS ≤ s.pinnedBands))
    && !s.saving && !s.anyAbsent && s.deck.writing.isNone && s.get Reg.DECK_STAT_STATE = 2
    && !(s.deck.segs.any fun g => g.kind = .map || g.kind = .lostList)

/-- A refresh Keystone is begun: the location table is its map (R295). -/
def State.beginRefresh (s : State) : State :=
  let seq := s.nextKeySeq
  let s := (s.updDeck fun d => { d with seqHigh := max d.seqHigh seq, refreshWanted := false }).set Reg.DECK_STAT_REFRESH 1
  let s := s.queueMap seq
  s.placeKeystone (s.makeKeystone seq 0 (s.get Reg.OP_SECONDS_SECONDS) (s.get Reg.PWR_CYCLES_CYCLES) s.bar s.deck.loc) true

/-! ### Formatting (R311, R312) -/

/-- 16 random bytes. -/
def State.drawBytes (s : State) (n : Nat) : State × List Byte :=
  ({ s with draws := s.draws + 1 }, leBytes n (Config.entropy s.draws))

/-- A new media key is drawn (R509, R520). -/
def State.newMediaKey (s : State) : State :=
  let s := { s with draws := s.draws + 1, save := { s.save with mediaKey := Config.entropy s.draws } }
  (s.set Reg.SEC_STAT_MK_SOURCE 1).raise 0x1FD [d1 1, d8 s.keystoneSeq]

/-- With a new format the channels that had failed for the life of the old one serve again, their write-enable gates open; those that
fail R278 stay out (R289, R311; DEDUCED, notes/assumptions/88.md). -/
def State.returnFailed (s : State) : State :=
  let back := nandChannels.filter fun n => nchState s n = 3 && s.get (Reg.NCH_STAT_FAIL_CAUSE n) ≠ 1
  let s := s.updDeck fun d => { d with failed := [] }
  s.each back fun s n =>
    let s := ((s.set (Reg.NCH_STAT_FAIL_CAUSE n) 0).set (Reg.NCH_STAT_DIE_FAIL n) 0).setNch n 1
    (s.set (Reg.GUARD_OUT_OUT 3) (Nat.lor (s.get (Reg.GUARD_OUT_OUT 3)) (2 ^ n))).set (Reg.GUARD_OUT_HW 3) 0

/-- A format begins (R311): headers and tables are written, every band is to be erased; erase counts are kept. -/
def State.beginFormat (s : State) (auto : Bool) : State :=
  let r := s.returnFailed.drawBytes 16
  let s := r.1.updDeck fun d => { d with
    header := some (r.2, s.get Reg.OP_SECONDS_SECONDS), blank := false, autoFormat := auto
    stripes := [], bands := [], keystones := [], writing := none, loc := [], segs := [], streamed := 0, raw := 0
    govStreamed := 0, marked := [], rebuild := [], refreshWanted := false, moves := [], retries := [], segNext := 1 }
  let s := s.each nandChannels fun s n => s.updNch n fun x => { x with ring := ⟨0, [0, 0], [[], []]⟩, tried := [] }
  let s := ((s.set Reg.DECK_STAT_STATE 4).set Reg.DECK_SEGMENT_NEXT 1).setKeystoneSeq 0
  let s := s.updSave fun x => { x with parent := 0, dirtied := true }
  ((s.raise 0x179 [d8 (leNat (r.2.take 8)), d8 (leNat (r.2.drop 8))]).updSaveRate false).updBands

/-! ### Packets (R310 to R313, R486) -/

def nchWords (n : Nat) : List Nat := (List.range 5).map fun i => 0xB0000 + 0x1000 * n + 4 * i

/-- DECK_STATUS. -/
def opDeckStatus (_ : Pkt) (s : State) : OpResult :=
  .ok s (s.words ([0xA0000, 0xA0004, 0xA0008, 0xA000C, 0xA0010, 0xA0014, 0xA0018, 0xA001C, 0xA0020, 0xA0024, 0xA0028, 0xA002C]
    ++ nandChannels.flatMap nchWords))

/-- NCH_RETIRE (R310). -/
def opNchRetire (p : Pkt) (s : State) : OpResult :=
  let n := p.u8 0
  let reply := fun (s : State) => s.words [0xB0000 + 0x1000 * n, 0xB0010 + 0x1000 * n]
  let up := (nandChannels.filter s.nchUp).length
  if !(p.genOk (s.get (Reg.NCH_GEN_GEN n))) then .refuse s stStale
  else if s.saving || s.restoring then .refuse s stForbids
  else if !(s.nchUp n) then .ok s (reply s)
  else if up < 15 then .refuse s stForbids
  else
    let s := s.failNand n 4
    ⟨s, if up = 15 then stDegraded else stOk, reply s⟩

/-- DECK_FORMAT (R311). -/
def opDeckFormat (p : Pkt) (s : State) : OpResult :=
  let idle := !(s.tile.regions.any (·.active)) && !s.saving && !s.restoring
  if p.u32 0 ≠ leNat [0x4E#8, 0x46#8, 0x4D#8, 0x54#8] then .refuse s stInvalid
  else if !(p.genOk (s.get Reg.DECK_GEN_GEN)) then .refuse s stStale
  else if !(s.get Reg.DECK_STAT_STATE = 3 || s.flag Reg.TILE_RESTORE_STAT_NO_KEY || idle) then .refuse s stForbids
  else
    let s := (s.bump Reg.DECK_GEN_GEN).beginFormat false
    .ok s (s.words [0xA0000, 0xA0028])

/-- Are all of a Keystone's references unerased (R313)? -/
def State.retained (s : State) (k : Keystone) : Bool :=
  k.map.all fun e => match e.2 with | .data die sb page _ seg => (s.stripeAt die sb page seg).isSome | _ => true

/-- An IMAGE_LIST entry (R487). -/
def State.imageEntry (s : State) (k : Keystone) : List Byte :=
  let cur := (s.currentKeystone.map fun c => decide (c.seq = k.seq)).getD false
  leBytes 8 k.seq ++ leBytes 8 k.parent ++ leBytes 4 k.opSeconds ++ leBytes 1 k.cause ++ leBytes 1 k.copies.length
    ++ leBytes 1 (bit cur + 2 * bit (s.retained k)) ++ leBytes 1 0
    ++ (List.range 3).flatMap (fun i => leBytes 1 (k.copies.getD i 255)) ++ leBytes 5 0

/-- IMAGE_LIST (R313, R486). -/
def opImageList (_ : Pkt) (s : State) : OpResult :=
  let l := (sortBy (fun a b => b.seq ≤ a.seq) s.deck.keystones).take 16
  .ok s (leBytes 1 l.length ++ leBytes 7 0 ++ l.flatMap s.imageEntry)

def deckStatusOp : PktOp := ⟨0x0501, some .host, false, fun _ ps => ps.length = 0, fun _ _ => 368, opDeckStatus⟩
def nchRetireOp : PktOp :=
  ⟨0x0502, some .mgmt, false, fun _ ps => ps.length = 4 && decide (leAt ps 0 1 ≤ 15) && zeroAt ps 1 3, fun _ _ => 8, opNchRetire⟩
def deckFormatOp : PktOp := ⟨0x0503, none, false, fun _ ps => ps.length = 4, fun _ _ => 8, opDeckFormat⟩
def imageListOp : PktOp := ⟨0x0504, some .mgmt, false, fun _ ps => ps.length = 0, fun s p => (opImageList p s).data.length, opImageList⟩

end Sys2Proof.Machine
end

