-- ==== Sys2Proof/Machine/ScoreCommands.lean ====
section
/-! DEFINITION. The commands of the score and of the channel queues: variant and hot condition, quads, overruns, urgency,
score loads (spec/02_score_model.md, spec/03_score_contract.md). SCORE_ARM_SWAP stands in HostCommands.lean, with the figures it
recomputes. -/

namespace Sys2Proof.Machine

/-- DEFERRED_VARIANT_SWITCH (R52): the switch that waited is made at a downbeat without refresh debt. -/
def execDeferredVariantSwitch (s : State) : Answer :=
  s.engines <|
  if s.atDownbeat && s.flag Reg.SCORE_VARIANT_REQ_PENDING && !s.anyDebt && !s.saving then
    let r := s.selectVariant false
    .next (if r.2.1 then r.1.planBar true false false else r.1)
  else .next s

/-- A phrase start judged for the end of the hot condition (R51). -/
def State.hotEndCheck (s : State) : State :=
  let cool := channels.all fun c => !(s.serving c) || s.reportsCool c
  let tally := if cool then s.seq.hotTally + 1 else 0
  let s := s.updSeq fun q => { q with hotTally := tally, hotJudged := s.bar }
  if max 1 (s.get Reg.SCORE_CTL_HOT_DWELL) ≤ tally && !(s.flag Reg.SCORE_CTL_FORCE_HOT) && !s.sys.clockFault then
    let s := ((s.set Reg.SCORE_STAT_HOT 0).updSeq fun q => { q with hotTally := 0 }).raise 0x042
    if s.saving then s else
      let r := s.selectVariant false
      if r.2.1 then r.1.planBar true false false else r.1
  else s

/-- HOT_CONDITION_END_CHECK (R51): once at each phrase start while the hot condition is in force. -/
def execHotConditionEndCheck (s : State) : Answer :=
  s.engines <|
  if s.atDownbeat && s.flag Reg.SCORE_STAT_HOT && s.phraseStart && s.seq.hotJudged ≠ s.bar then .next s.hotEndCheck else .next s

/-- QUAD_PLAY (R36). -/
def execQuadPlay (c : Fin 8) (q : Fin 1560) (s : State) : Answer := s.engines <| .next (s.playQuad c q)

/-- DRAM_READ_RETURN (R128 to R132). -/
def execDramReadReturn (c : Fin 8) (e : LineRead) (s : State) : Answer := s.engines <| .next (s.readReturn c e)

/-- POISON_MARKER_WRITE (R132, R133): the oldest marker that a quad has issued is written. -/
def execPoisonMarkerWrite (c : Fin 8) (s : State) : Answer := s.engines <| .next (s.markWritten c)

/-- The unissued request of a port and tag, in a queue, waiting for a fetch or held, with the channel of its tile's frame (R41, R44). -/
def State.findReq (s : State) (port tag : Nat) : Option (Nat × HostReq) :=
  let mine := fun (r : HostReq) => decide (r.port = port) && decide (r.tag = tag)
  (channels.findSome? fun c => ((s.ch c).reqs.find? mine).map fun r => (c, r))
    <|> ((s.tile.waits ++ s.tile.held.map (·.req)).find? mine).map fun r => (((s.frameOf r.tile).getD 0) % 8, r)

/-- Change the unissued requests of a port and tag. -/
def State.updReq (s : State) (port tag : Nat) (f : HostReq → HostReq) : State :=
  let g := fun (r : HostReq) => if r.port = port && r.tag = tag then f r else r
  let s := s.each channels fun s c => s.updCh c fun x => { x with reqs := x.reqs.map g }
  s.updTile fun x => { x with waits := x.waits.map g, held := x.held.map fun h => { h with req := g h.req } }

/-- URGENCY_RISE (R41): a pending request's urgency is judged at a slot. -/
def execUrgencyRise (port : Fin 4) (tag : Nat) (slot : Fin 6240) (s : State) : Answer :=
  s.engines <|
  let s := s.at slot
  match s.findReq port tag with
  | none => .next s
  | some (_, r) => .next (s.updReq port tag fun x => { x with urgency := s.urgency r s.now })

/-- LATENCY_TARGET_REACHED (R44): a request still unissued at its target raises 0x04A once and stays at urgency 3. -/
def execLatencyTargetReached (port : Fin 4) (tag : Nat) (slot : Fin 6240) (s : State) : Answer :=
  s.engines <|
  let s := s.at slot
  match s.findReq port tag with
  | none => .next s
  | some (c, r) =>
    let t := s.targetSlots port r.write
    if t = 0 || r.exceeded || s.now - r.stamp < t then .next s
    else
      let s := s.updReq port tag fun x => { x with urgency := 3, exceeded := true }
      .next ((s.count (Reg.HPORT_LAT_STAT_EXCEEDED port)).raise 0x04A [dPort port, d1 c, d4 (s.now - r.stamp)])

/-- ALERT_N_REPORT (R61, R116): a CA parity error or a write-CRC retry is a DRAM contract overrun and raises k = 15. -/
def execAlertNReport (c : Fin 8) (sub rank kind : Fin 2) (excess busy : Nat) (s : State) : Answer :=
  s.engines <|
  .next ((s.overrunDram c excess busy).raise (srcDram c 15) [d1 sub, d1 rank, d1 kind])

/-- DRAM_CONTRACT_OVERRUN (R61): `excess` slots over, and incomplete at the end of `busy` rest bars. -/
def execDramContractOverrun (c : Fin 8) (excess busy : Nat) (s : State) : Answer := s.engines <| .next (s.overrunDram c excess busy)

/-- SCORE_LOAD_BEGIN (R98). -/
def execScoreLoadBegin (p : Pkt) (s : State) : Answer := .next (scoreLoadBeginOp.command p s)

/-- SCORE_LOAD_DATA (R99). -/
def execScoreLoadData (p : Pkt) (s : State) : Answer := .next (scoreLoadDataOp.command p s)

/-- SCORE_LOAD_TIMEOUT (R99): 10 s without an accepted chunk. -/
def execScoreLoadTimeout (s : State) : Answer :=
  s.powered <|
  if s.loadState = loadLoading && s.elapsed s.seq.staged.since 10000000 then .next s.loadAbandon else .next s

/-- SCORE_LOAD_END (R100). -/
def execScoreLoadEnd (p : Pkt) (s : State) : Answer := .next (scoreLoadEndOp.command p s)

/-- SCORE_ARM (R101). -/
def execScoreArm (p : Pkt) (s : State) : Answer := .next (scoreArmOp.command p s)

/-- SCORE_QUERY (R104, R483). -/
def execScoreQuery (p : Pkt) (s : State) : Answer := .next (scoreQueryOp.command p s)

end Sys2Proof.Machine
end

