-- ==== Sys2Proof/Machine/HostCommands.lean ====
section
/-! DEFINITION. The commands of the host ports and regions (spec/05_host_ports_regions.md), and the holds of admission
control (spec/06_streaming_budget.md R215 to R219). -/

namespace Sys2Proof.Machine

/-- HOST_READ_REQUEST (R41, R172). -/
def execHostReadRequest (a : HostAccess) (s : State) : Answer := s.powered <| .next (s.hostRequest a false [] [])

/-- HOST_WRITE_REQUEST (R17, R172, R215). -/
def execHostWriteRequest (a : HostAccess) (data : List Byte) (mask : List Bool) (s : State) : Answer :=
  s.powered <|
  .next (s.hostRequest a true data mask)

/-- HELD_WRITE_RELEASE (R216): the oldest held write is accepted with every other held write to its tile. -/
def execHeldWriteRelease (s : State) : Answer :=
  s.engines <|
  match s.oldestHeld with
  | none => .next s
  | some r => if s.admits then .next (s.releaseHeld fun q => q.tile = r.tile) else .next s

/-- A held write has waited longer than T_hold, which the register shows saturated, and 0x148 was not raised for it (R217). -/
def State.heldLong (s : State) (h : HeldWrite) : Bool :=
  !h.long && match s.holdBars with
    | some b => decide (barsUs b * 8000 < (s.now - h.req.stamp) * 5)
    | none => false

/-- HOLD_LONG (R217). -/
def execHoldLong (port : Fin 4) (tag : Nat) (slot : Fin 6240) (s : State) : Answer :=
  s.engines <|
  let s := s.at slot
  match s.tile.held.find? fun h => h.req.port = port.val && h.req.tag = tag && s.heldLong h with
  | none => .next s
  | some h =>
    let s := s.updTile fun x => { x with held := x.held.map fun k => if k = h then { k with long := true } else k }
    .next (s.raise 0x148 [dPort port, dTile h.req.tile, d4 (slotsUs (s.now - h.req.stamp))])

/-- LINK_UP (R88, R162, R163): the link of an enabled port, for which the playing image has voices, trains to a RATE and WIDTH of R193. -/
def execLinkUp (port : Fin 4) (rate width : Fin 3) (s : State) : Answer :=
  s.powered <|
  if s.mayTrain port && decide (s.get (Reg.HPORT_STAT_LINK_STATE port) ≤ 1) then
    .next (s.linkUp port rate width)
  else .next s

/-- LINK_RETRAIN (R164): the new factor and term wait for the next downbeat; a link that no longer carries CXL.mem is
CXL.io only, and one that newly does brings it into service (R162). -/
def execLinkRetrain (port : Fin 4) (rate width : Fin 3) (s : State) : Answer :=
  s.powered <|
  if s.get (Reg.HPORT_STAT_LINK_STATE port) < 2 then .next s else .next (s.retrain port rate width)

/-- LINK_DOWN (R165). -/
def execLinkDown (port : Fin 4) (s : State) : Answer :=
  s.powered <|
  if s.get (Reg.HPORT_STAT_LINK_STATE port) = 0 then .next s else .next (s.linkDown port)

/-- PORT_RESET (R165). -/
def execPortReset (port : Fin 4) (s : State) : Answer := s.powered <| .next (s.portReset port)

/-- HDM_DECODER_COMMIT (R162, R167): the decoder commits, or fails to; the answer carries its committed bit. -/
def execHdmDecoderCommit (port : Fin 4) (ld : Fin 16) (dec : Fin 2) (base size ways gran : Nat) (s : State) : Answer :=
  s.powered <|
  let k : Decoder := ⟨base, size, ways, gran⟩
  let ok := s.decoderCommits port ld k
  let s := s.updPort port fun x => { x with
    decoders := Store.set none x.decoders (ld.val * 2 + dec.val) (if ok then some k else none) }
  .next (s.send (.port port ld (leBytes 1 (bit ok))))

/-- REGION_ASSIGN (R175, R176). -/
def execRegionAssign (p : Pkt) (s : State) : Answer := .next (regionAssignOp.command p s)

/-- REGION_RELEASE (R177, R178). -/
def execRegionRelease (p : Pkt) (s : State) : Answer := .next (regionReleaseOp.command p s)

/-- REGION_QUERY (R174, R484). -/
def execRegionQuery (p : Pkt) (s : State) : Answer := .next (regionQueryOp.command p s)

/-- FRAME_ZEROING_ENTRY (R178). -/
def execFrameZeroingEntry (s : State) : Answer := s.engines <| .next s.enterZeroing

/-- FRAME_ZEROED (R174, R178, R152). -/
def execFrameZeroed (c : Fin 8) (s : State) : Answer := s.engines <| .next (s.zeroedFrame c)

/-- PORT_CONFIG (R166, R184, R194). -/
def execPortConfig (p : Pkt) (s : State) : Answer := .next (portConfigOp.command p s)

/-- LATENCY_TARGET_SET (R45, R185). -/
def execLatencyTargetSet (p : Pkt) (s : State) : Answer := .next (latencyTargetSetOp.command p s)

/-- GPF_PHASE1 (R190): no device action; it completes at once. -/
def execGpfPhase1 (port : Fin 4) (s : State) : Answer := s.powered <| .next (s.send (.port port 0 (leBytes 1 1)))

/-- GPF_PHASE2 (R166, R190, R191): to an LD that does not exist it does nothing. -/
def execGpfPhase2 (port : Fin 4) (ld : Fin 16) (slot : Fin 6240) (s : State) : Answer :=
  s.powered <|
  let s := s.at slot
  if s.get (Reg.HPORT_STAT_LINK_STATE port) < 3 || !(s.ldExists port ld) then .next s else .next (s.gpfPhase2 port ld)

/-- GPF_PHASE2_COMPLETE (R190, R219). -/
def execGpfPhase2Complete (port : Fin 4) (slot : Fin 6240) (s : State) : Answer :=
  s.powered <|
  .next ((s.at slot).gpfComplete port)

/-- CXL return code Invalid Input. -/
def mbInvalid : Nat := 0x2

/-- The bit of LD_SHUTDOWN that an LD of a port has: LDs counted over the ports in order (DEDUCED,
notes/assumptions/35.md). -/
def State.ldIndex (s : State) (p l : Nat) : Nat := ((List.range p).map s.ldCount).sum + l

/-- A number with bit `i` set to `b`. -/
def withBit (v i : Nat) (b : Bool) : Nat := if bitAt v i = b then v else if b then v + 2 ^ i else v - 2 ^ i

/-- SET_SHUTDOWN_STATE (R192, R420): stored for the LD in a persistence-record entry; the count is not affected. -/
def execSetShutdownState (port : Fin 4) (ld : Fin 16) (v : Bool) (s : State) : Answer :=
  s.powered <|
  if s.ldExists port ld then
    .next ((s.prsPut 5 0 s.keystoneSeq (withBit s.flash.ldShutdown (s.ldIndex port ld) v)).send (.mailbox port ld mbOk []))
  else .next (s.send (.mailbox port ld mbInvalid []))

/-- GET_POISON_LIST (R189): the ranges of the LD that meet the range asked for, 256 at most, and the more-records flag. -/
def execGetPoisonList (port : Fin 4) (ld : Fin 16) (dpa len : Nat) (s : State) : Answer :=
  s.powered <|
  if s.ldExists port ld then
    let l := (s.poisonList port ld).filter fun e => decide (e.1 < dpa + len) && decide (dpa < e.1 + e.2)
    let l' := l.take 256
    .next (s.send (.mailbox port ld mbOk (leBytes 2 l'.length ++ leBytes 1 (bit (decide (256 < l.length)))
      ++ l'.flatMap fun e => leBytes 8 e.1 ++ leBytes 4 e.2)))
  else .next (s.send (.mailbox port ld mbInvalid []))

/-- INJECT_POISON (R161, R133): Unsupported without expert privilege. -/
def execInjectPoison (port : Fin 4) (ld : Fin 16) (dpa : Nat) (s : State) : Answer :=
  s.powered <|
  if !(s.poisonAllowed port) then .next (s.send (.mailbox port ld mbUnsupported []))
  else match s.lineOfDpa port ld dpa with
    | some (f, i) => .next ((s.mark (f % 8) f i).send (.mailbox port ld mbOk []))
    | none => .next (s.send (.mailbox port ld mbInvalid []))

/-- CLEAR_POISON (R161): the marker goes; CXL has the 64 bytes it carries written in its place, and the tile counts as
written (PRESUMED, notes/assumptions/36.md). -/
def execClearPoison (port : Fin 4) (ld : Fin 16) (dpa : Nat) (data : List Byte) (s : State) : Answer :=
  s.powered <|
  if !(s.poisonAllowed port) then .next (s.send (.mailbox port ld mbUnsupported []))
  else match s.lineOfDpa port ld dpa, s.tileOfFrame (((s.lineOfDpa port ld dpa).map (·.1)).getD 0) with
    | some (f, i), some t =>
      let s := (s.setPoison f i false).writeFrame f (i * 64) (mergeLine [] data (List.replicate 64 true))
      let s := if decide (s.code t ≤ 9) then (s.moveCode t (s.hotCode t)).staleFlight t else s
      .next (s.send (.mailbox port ld mbOk []))
    | _, _ => .next (s.send (.mailbox port ld mbInvalid []))

/-- GET_HEALTH_INFO (R189): dirty shutdown count, persistence state, life used by NAND and pack. -/
def execGetHealthInfo (port : Fin 4) (ld : Fin 16) (s : State) : Answer :=
  s.powered <|
  if !(s.ldExists port ld) then .next (s.send (.mailbox port ld mbInvalid [])) else
  .next (s.send (.mailbox port ld mbOk (leBytes 4 (s.get Reg.TILE_DSC_COUNT) ++ leBytes 1 (bit s.assured)
    ++ leBytes 1 (s.get Reg.TILE_STAT_CAUSE) ++ leBytes 1 (s.get Reg.DECK_LIFE_USED_PCT)
    ++ leBytes 1 (s.get Reg.PACK_EFC_LIFE_PCT))))

/-- CDAT_READ (R166, R187): an LD that does not exist has no entries. -/
def execCdatRead (port : Fin 4) (ld : Fin 16) (s : State) : Answer :=
  s.powered <| .next (s.send (.port port ld (if s.ldExists port ld then s.cdat port ld else [])))

/-- CLEAR_EVENT_RECORDS (R188): the oldest records of one log are acknowledged; the log's overflow state goes. -/
def execClearEventRecords (port : Fin 4) (ld : Fin 16) (log : CxlLogId) (n : Nat) (s : State) : Answer :=
  s.powered <|
  if s.ldExists port ld then .next ((s.clearLog port ld log n).send (.mailbox port ld mbOk []))
  else .next (s.send (.mailbox port ld mbInvalid []))

/-- SCORE_ARM_SWAP (R101): the swap that waits is made at a downbeat without refresh debt and outside a save. -/
def execScoreArmSwap (s : State) : Answer := s.engines <| if s.atDownbeat then .next s.swapDue else .next s

end Sys2Proof.Machine
end

