-- ==== Sys2Proof/Machine/TileCommands.lean ====
section
/-! DEFINITION. The commands of the tile engine and of saves and restores (spec/06_streaming_budget.md,
spec/07_save_restore.md), and of the overruns of engines (spec/02_score_model.md R61 to R64). -/

namespace Sys2Proof.Machine

/-! ### Overruns of NAND channels, and the 256th rest bar -/

/-- The class of an operation as 0x045 carries it: 1 program, 2 read, 3 erase (R47, R92). -/
def NandWork.cls : NandWork → Nat
  | .share .. => 1 | .keyPage .. => 1 | .fetch .. => 2 | .patrol .. => 2 | .move .. => 2 | .band _ => 3 | .ring _ => 3

/-- NAND_CONTRACT_OVERRUN (R61, R62): an operation that runs on the die passes its worst-case time by `excess` slots, and is
incomplete at the end of `busy` rest bars; it is recorded at the next downbeat. -/
def execNandContractOverrun (n : Fin 16) (die : Fin 8) (excess busy : Nat) (s : State) : Answer :=
  s.engines <|
  match (s.nch n).ops.find? fun o => o.die = die.val with
  | some o => if s.nchUp n then .next (s.overrunNand n ⟨die, o.work.cls, excess⟩ busy) else .next s
  | none => .next s

/-- ENGINE_REST_LIMIT (R63, R150, R289): at the downbeat that ends the 256th consecutive rest bar of an engine. -/
def execEngineRestLimit (e : Engine) (s : State) : Answer :=
  s.engines <|
  if !s.atDownbeat then .next s else
  match e with
  | .dram c => if 257 ≤ (s.ch c).restBars && s.serving c then .next (s.failChannel c 2) else .next s
  | .nand n => if 257 ≤ (s.nch n).restBars && s.nchUp n then .next (s.failNand n 2) else .next s

/-! ### Streaming (R204 to R213) -/

/-- COOLING_EPOCH_BOUNDARY (R204, R206): the downbeat of a bar whose number is a multiple of 256 × PHRASES; where PHRASES changed
at this downbeat, the next multiple after it. -/
def execCoolingEpochBoundary (s : State) : Answer :=
  s.engines <|
  if s.atDownbeat && s.bar % (256 * max 1 (s.get Reg.TILE_COOL_EPOCH_PHRASES)) = 0 && s.tile.epochAt ≠ s.bar then .next s.epochBoundary else .next s

/-- COOLING_SWEEP_STEP (R204): the running sweep passes its next word. -/
def execCoolingSweepStep (e : SecDed) (s : State) : Answer :=
  s.engines <|
  if s.tile.sweepStopped then .next s else .next (s.sweepStep e)

/-- TILE_SELECT (R207, R210, R211): the selection scan of a channel takes its next tile. -/
def execTileSelect (c : Fin 8) (e : SecDed) (s : State) : Answer := s.engines <| .next (s.scan c e)

/-- TILE_COPY_READ_DONE (R208): the tile buffer holds the whole tile; `errs` are the lines that read with errors. -/
def execTileCopyReadDone (tile : Nat) (errs : List (Fin 1024 × LineRead)) (s : State) : Answer :=
  s.engines <|
  match s.tile.flights.find? fun k => k.tile = tile && k.copy.isNone with
  | none => .next s
  | some k => if s.jobLeft (k.frame % 8) .stream k.frame then .next s else .next (s.copyRead k errs)

/-- SEGMENT_COPY_ENTRY (R209): a copy leaves its ENCRYPT_STREAM engine. -/
def execSegmentCopyEntry (tile : Nat) (s : State) : Answer :=
  s.engines <|
  match s.tile.flights.find? fun k => k.tile = tile && k.copy.isSome && k.seg.isNone with
  | some k => (match k.copy with
    | some y => .next (s.enterSegment k y)
    | none => .next s)
  | none => .next s

/-- STREAM_SEGMENT_CLOSE (R209): the Deck engine may close the open stream segment at any time. -/
def execStreamSegmentClose (s : State) : Answer :=
  s.engines <|
  match s.deck.segs.find? fun g => g.kind = .stream && !g.closed with
  | some g => .next (s.closeSegment g.num)
  | none => .next s

/-- SEGMENT_COMMIT (R209, R291): a closed STREAM or GC segment whose every share is programmed. -/
def execSegmentCommit (seg : Nat) (s : State) : Answer :=
  s.engines <|
  match s.deck.segs.find? fun g => g.num = seg && g.closed && (g.kind = .stream || g.kind = .gc) with
  | some g => if s.segWritten seg then .next (s.commitSegment g) else .next s
  | none => .next s

/-- SEGMENT_ABANDON (R291): a stream segment that can no longer commit within its 256 bars. -/
def execSegmentAbandon (seg : Nat) (s : State) : Answer :=
  s.engines <|
  match s.deck.segs.find? fun g => g.num = seg && g.kind = .stream with
  | some g => if s.segLate g then .next (s.abandonSegment g 1) else .next s
  | none => .next s

/-- STREAM_TOKEN_ADD (R210): once at each phrase start. -/
def execStreamTokenAdd (s : State) : Answer :=
  s.engines <|
  if s.atDownbeat && s.phraseStart && s.tile.tokenPhrase ≠ s.bar then .next s.addTokens else .next s

/-- NMAX_RECOMPUTE (R213, R223): at a phrase start, and at the downbeat after its inputs ask for it, from start-up step 8 on. -/
def execNmaxRecompute (s : State) : Answer :=
  s.engines <|
  if s.atDownbeat && s.portsUp && (s.phraseStart || s.tile.recompute) then .next s.recomputeBudget else .next s

/-- PERSISTENCE_ASSURED (R223): after start-up. -/
def execPersistenceAssured (s : State) : Answer :=
  s.engines <|
  if !s.assured && s.get Reg.SYS_STATE_STEP = 15 && decide (64 ≤ s.tile.assuredRun) then .next s.regainAssured else .next s

/-- PERSIST_POLICY_SET (R224). -/
def execPersistPolicySet (p : Pkt) (s : State) : Answer := .next (persistPolicySetOp.command p s)

/-- STREAM_TUNE (R225). -/
def execStreamTune (p : Pkt) (s : State) : Answer := .next (streamTuneOp.command p s)

/-- PERSIST_STATUS (R226). -/
def execPersistStatus (p : Pkt) (s : State) : Answer := .next (persistStatusOp.command p s)

/-! ### Triggers (R230, R231, R235, R340) -/

/-- PFAIL_N has been low for 1,600 slots: the filtered level falls, and cause 1 is latched while PFAIL_EN is 1, once for a fall (R231). A
committed or failed save that waits for the dwell ends in shut-down (R252). -/
def State.pfailLatch (s : State) : State :=
  let s := s.set Reg.TILE_SAVE_STAT_PFAIL 0
  let s := if s.flag Reg.TILE_SAVE_CTL_PFAIL_EN && !s.save.pfailTaken then
      (s.updSave fun x => { x with pfailTaken := true }).latchSave 1 false else s
  if s.saveState = saveCommitted || s.saveState = saveFailed then s.endSave else s

/-- Has the pin been low for the filter's time, with the filtered level still to fall or cause 1 still to be latched (R231)? A pin that
was low before PFAIL_EN was set latches once it is (DEDUCED, notes/assumptions/79.md). -/
def State.pfailDue (s : State) : Bool :=
  !s.save.pfailPin && decide (s.save.pfailFell + 1600 ≤ s.now)
    && (s.flag Reg.TILE_SAVE_STAT_PFAIL || (s.flag Reg.TILE_SAVE_CTL_PFAIL_EN && !s.save.pfailTaken))

/-- A low shorter than the filter (R231). -/
def State.pfailGlitch (s : State) : State :=
  if !(s.flag Reg.TILE_SAVE_CTL_PFAIL_EN) then s else
    let s := s.count Reg.TILE_SAVE_STAT_GLITCHES
    if s.save.glitchPhrase = s.bar / 256 + 1 then s
    else (s.updSave fun x => { x with glitchPhrase := s.bar / 256 + 1 }).raise 0x159 [d2 (s.get Reg.TILE_SAVE_STAT_GLITCHES)]

/-- The pin rises after its filter (R252, R362, R363). -/
def State.pfailRise (s : State) : State :=
  let s := (s.set Reg.TILE_SAVE_STAT_PFAIL 1).updSave fun x => { x with pfailHigh := s.bar }
  let s := { s with sys := { s.sys with pfailRose := s.sys.pfailFell } }
  if s.get Reg.SEQ_STAT_STATE = 5 && s.sys.drain.isNone then s.raise 0x1ED [d2 ((s.bar - s.pwr.tick0) / 64)] else s

/-- The pin changes while only the always-on domain is powered: it watches the pin, and a low and a high let PKG_EN rise again
after three failed tries (R362, R548). -/
def State.offPin (s : State) (level : Bool) : State :=
  let s := s.updSave fun x => { x with pfailPin := level }
  if level then s.updSys fun x => { x with pfailRose := x.pfailFell, pkgHeld := x.pkgHeld && !x.pfailFell }
  else s.updSys fun x => { x with pfailFell := true, pfailRose := false }

/-- PFAIL_N_CHANGE (R231, R252, R362, R363): the pin changes level at a slot of the bar. -/
def execPfailNChange (level : Bool) (slot : Fin 6240) (s : State) : Answer :=
  let s := s.at slot
  if level = s.save.pfailPin then .next s
  else if !s.on then .next (s.offPin level)
  else if !level then
    let s := s.updSave fun x => { x with pfailPin := false, pfailFell := s.now, pfailTaken := false }
    .next (s.updSys fun x => { x with pfailFell := x.pfailFell || x.drain.isSome, pfailRose := false })
  else
    let s := if s.pfailDue then s.pfailLatch else s
    let s := s.updSave fun x => { x with pfailPin := true }
    if s.flag Reg.TILE_SAVE_STAT_PFAIL then .next s.pfailGlitch else .next s.pfailRise

/-- PFAIL_TRIGGER_LATCH (R231): PFAIL_N has been low for 1,600 consecutive slots at a slot of the bar. -/
def execPfailTriggerLatch (slot : Fin 6240) (s : State) : Answer :=
  s.powered <|
  let s := s.at slot
  if s.pfailDue then .next s.pfailLatch else .next s

/-- INPUT_UNDERVOLTAGE (R230, R340): VIN_SENSE has been below UV_MV for 16,000 slots, at `mv`. Cause 4 is a trigger while
PFAIL_N is high; it stays present until the rail is measured at UV_MV again. -/
def execInputUndervoltage (mv : Nat) (s : State) : Answer :=
  s.powered <|
  if s.get Reg.PACK_INPUT_UV_MV ≤ mv then .next s
  else
    let s := (s.updSave fun x => { x with inputLow := true }).set Reg.PACK_INPUT_VIN_MV (satW 16 (mv / 10 * 10))
    let s := s.raise 0x1CB [d2 mv]
    let s := if s.flag Reg.TILE_SAVE_STAT_PFAIL then s.latchSave 4 false else s
    if s.saveState = saveCommitted || s.saveState = saveFailed then .next s.endSave else .next s

/-- SAVE_NOW (R235). -/
def execSaveNow (p : Pkt) (s : State) : Answer := .next (saveNowOp.command p s)

/-! ### The save's stages (R238 to R253) -/

/-- The fence is in place from this downbeat: everything admitted is through, and DRAM has left self-refresh (R233, R238). -/
def State.fenceDue (s : State) : Bool :=
  s.saveState = saveFencing && decide (s.save.start < s.bar) && s.fenceClear
    && !(channels.any fun c => s.flag (Reg.DCH_STAT_SELF_REFRESH c))

/-- What the downbeat at which the fence is in place does: the snapshot, and the save's end at once where it finds nothing new (R234,
R239, R252). -/
def State.fencePlaced (s : State) : State :=
  let s := s.fenceDone
  if s.saveState = saveCommitted then s.endSave else s

/-- FENCE_IN_PLACE (R238, R239, R234): at a downbeat. -/
def execFenceInPlace (s : State) : Answer :=
  s.engines <|
  if s.atDownbeat && s.fenceDue then .next s.fencePlaced else .next s

/-- SAVE_TILE_COPY (R240, R241): the save scan reaches the lowest-numbered residual tile of a channel, reading its word and its tile-map
entry, and its frame has been read. -/
def execSaveTileCopy (c : Fin 8) (r : SaveRead) (s : State) : Answer :=
  s.engines <|
  if s.saveState ≠ saveSaving then .next s else
    match (s.residualOn c).head? with
    | none => .next s.dropLost
    | some t =>
      let s := ((s.readState (t / 16) r.word).readMap t r.entry).dropLost
      match s.frameOf t with
      | some f =>
        if s.saveState = saveSaving && s.save.residual.contains t && !(s.jobLeft c .save f) then .next (s.saveTile t f r.errs) else .next s
      | none => .next s

/-- IMAGE_MAP_WRITTEN (R243): the image tile map and the lost-tile list are programmed, and every save segment before them. -/
def execImageMapWritten (s : State) : Answer :=
  s.engines <|
  if s.saveState = saveClosing && s.kindsWritten fun k => k = .save || k = .map || k = .lostList then .next s.enterKeystone
  else .next s

/-- SAVE_FAIL_RETURN (R251): a failed save that would have resumed returns to service at a downbeat. -/
def execSaveFailReturn (s : State) : Answer :=
  s.engines <|
  if s.atDownbeat && s.saveState = saveFailed && s.saveEnd = .resume then .next s.failReturn else .next s

/-- RESUME_IN_PLACE (R252, R253): at a downbeat. -/
def execResumeInPlace (s : State) : Answer :=
  s.engines <|
  if s.atDownbeat && s.saveState = saveCommitted && s.saveEnd = .resume then .next s.resume else .next s

/-- PORT_FENCE_RELEASE (R253, R254): the first downbeat after the in-service entry verifies, at which the ports leave the fence; an
entry that fails verify is written again at the next free position (R421). -/
def execPortFenceRelease (ok : Bool) (s : State) : Answer :=
  s.powered <|
  match s.save.entry with
  | none => .next s
  | some b =>
    if ok then (if s.atDownbeat && decide (b < s.bar) then .next s.releasePorts else .next s)
    else .next ((s.updFlash fun x => { x with prsPos := (x.prsPos + 1) % 512 }).updSave fun x => { x with entry := some s.bar })

/-! ### Restore (R258 to R267) -/

/-- The data of a fetch stands in its tile's frame, or the fetch ends without data (R258, R260, R264). -/
def State.written (s : State) (f : Fetch) : Bool :=
  f.lost || f.queued && match s.frameOf f.tile with
    | some k => !(s.jobLeft (k % 8) .touch k) && !(s.jobLeft (k % 8) .restore k) && !(s.jobLeft (k % 8) .fill k)
    | none => false

/-- BACKGROUND_RESTORE_TILE (R258): the copy of a tile under background restore has reached its frame; a tile with a ZERO
record takes no NAND read. -/
def execBackgroundRestoreTile (tile : Nat) (s : State) : Answer :=
  s.engines <|
  if !s.bgRuns then .next s else
    let s := if (s.newFetch tile s.now true).need.isEmpty && s.bgOrder.contains tile then
        let s := s.bgAdd tile
        match s.tile.fetches.find? fun f => f.tile = tile with
        | some f => if f.lost then s else s.inHand f
        | none => s
      else s
    match s.tile.fetches.find? fun f => f.tile = tile && f.bg && f.need.isEmpty with
    | none => .next s
    | some f => if s.written f then .next (s.finishFetch f) else .next s

/-- TOUCH_FETCH_ENTER (R263): at a downbeat, waiting fetches enter the queue. -/
def execTouchFetchEnter (s : State) : Answer :=
  s.engines <|
  if !s.atDownbeat then .next s else
  let zero := s.touchWaiting.filter fun f => f.need.isEmpty && !f.lost && !f.queued
  let s := s.enterFetches
  .next (s.each zero fun s f => if (s.touchQueue.any fun g => g.tile = f.tile) then s.inHand f else s)

/-- TOUCH_FETCH_COMPLETE (R264, R267): the downbeat after the tile's data has been written in full, or was found not to be had (R260;
DEDUCED, notes/assumptions/89.md). -/
def execTouchFetchComplete (tile : Nat) (s : State) : Answer :=
  s.engines <|
  match s.touchQueue.find? fun f => f.tile = tile && f.need.isEmpty with
  | none => .next s
  | some f =>
    if !s.atDownbeat then .next s
    else if s.written f then .next (s.finishFetch f)
    else if !f.queued then .next (s.inHand f)
    else .next s

/-- TOUCH_FETCH_LONG (R265, R267): a fetch still in the queue past T_touch raises 0x15C, once. -/
def execTouchFetchLong (tile : Nat) (s : State) : Answer :=
  s.engines <|
  match s.touchQueue.find? fun f => f.tile = tile && !f.long with
  | none => .next s
  | some f =>
    let bars := s.bar - f.entered.getD s.bar
    let b := s.get Reg.TILE_TOUCH_BOUND_BARS
    if b ≠ 65535 && b < bars then
      .next ((s.updFetch tile fun g => { g with long := true }).raise 0x15C [dTile tile, d4 (barsUs bars), d1 (bit f.eraseHeld)])
    else .next s

/-- RESTORE_CONTROL (R262, R486). -/
def opRestoreControl (p : Pkt) (s : State) : OpResult :=
  let reply := fun (s : State) =>
    let v := if s.restoring then s.later Reg.TILE_RESTORE_STAT_STATE (2 + s.coming Reg.TILE_RESTORE_CTL_PAUSE) else s
    OpResult.ok s (wordsBytes [v.comingWord 0x80120, s.word 0x80124, s.word 0x8006C, s.word 0x8012C, s.word 0x80130])
  let act := if s.holds p.src .mgmt then p.u8 0 else 0
  let pause := fun (s : State) (v : Nat) => (s.later Reg.TILE_RESTORE_CTL_PAUSE v).raise 0x161 [d1 v]
  match act with
  | 0 => reply s
  | 4 => if p.expert && decide (p.u8 2 ≤ 1) then reply (s.later Reg.TILE_RESTORE_CTL_HOST_GATE (p.u8 2)) else .refuse s stInvalid
  | a =>
    if 4 < a then .refuse s stInvalid
    else if !s.restoring then .refuse s stForbids
    else if a = 3 then
      if !(s.region (p.u8 1)).active then .refuse s stInvalid
      else reply ((s.later Reg.TILE_RESTORE_CTL_PRIO_EN 1).later Reg.TILE_RESTORE_CTL_PRIO_REGION (p.u8 1))
    else reply (pause s (if a = 1 then 1 else 0))

def restoreControlOp : PktOp :=
  ⟨0x0405, some .host, true, fun _ ps => ps.length = 4 && decide (leAt ps 1 1 ≤ 63) && zeroAt ps 3 1, fun _ _ => 20,
    opRestoreControl⟩

/-- RESTORE_CONTROL (R262). -/
def execRestoreControl (p : Pkt) (s : State) : Answer := .next (restoreControlOp.command p s)

end Sys2Proof.Machine
end

