-- ==== Sys2Proof/Machine/Power.lean ====
section
/-! DEFINITION. Card power sequencing and margining (spec/10_power_sequencing.md R346 to R372). Times are sequencer ticks of
64 bars (R3). -/

namespace Sys2Proof.Machine

def State.updPwr (s : State) (f : SeqPwr → SeqPwr) : State := { s with pwr := f s.pwr }
def State.rail (s : State) (n : Nat) : RailState := s.pwr.rails.getD n .init
def State.updRail (s : State) (n : Nat) (f : RailState → RailState) : State :=
  s.updPwr fun x => { x with rails := setAt 16 .init x.rails n (f (s.rail n)) }
def rails : List Nat := List.range 16

/-- SEQ_STAT.STATE codes (R369). -/
def seqNotStarted : Nat := 0
def seqWait : Nat := 1
def seqUp : Nat := 2
def seqOn : Nat := 3
def seqReversing : Nat := 4
def seqDown : Nat := 5
def seqOff : Nat := 6
def seqHalted : Nat := 7
def State.seqState (s : State) : Nat := s.get Reg.SEQ_STAT_STATE

def State.railEn (s : State) (n : Nat) : Bool := bitAt (s.get Reg.SEQ_LIVE_EN) n
def State.railUsed (s : State) (n : Nat) : Bool := bitAt (s.get Reg.SEQ_CTL_RAIL_EN) n
def State.railGood (s : State) (n : Nat) : Bool := bitAt (s.get Reg.SEQ_STAT_GOOD) n

/-- The tick of the sequence that runs. -/
def State.tickNow (s : State) : Nat := (s.bar - s.pwr.tick0) / 64

def State.tickStart (s : State) : Bool := s.bar % 64 = 0

/-- Causes of a reverse, as 0x1E5 and 0x1EF carry them (DESIGN CHOICE, notes/assumptions/40.md): 1 not good in time, 2 PG low for
GLITCH_BARS, 3 chatter. -/
def State.powerFault (s : State) (n cause : Nat) : State :=
  if s.pwr.fault.isSome then s else s.updPwr fun x => { x with fault := some (n, cause), lastFault := (n, cause) }

/-! ### Power-up (R348 to R356) -/

/-- CASCADE: MODE 1, or the fall-back of R350. -/
def State.cascade (s : State) : Bool := s.get Reg.SEQ_CTL_MODE = 1 || s.flag Reg.SEQ_STAT_CASCADE_NOW

/-- The power-up is armed (R347): WAIT_START. A START latched before acts now; a first sample of PWR_GO high after a cold
power-on is stuck high (R349, R350). -/
def State.armPower (s : State) (goStuck : Bool) : State :=
  let s := (s.set Reg.SEQ_STAT_STATE seqWait).set (Reg.GUARD_OUT_OUT 1) 1
  let s := s.updPwr fun x => { x with waitBar := s.bar, go := x.startLatched, startLatched := false }
  let s := if s.pwr.go then s.set Reg.SEQ_STAT_START_SRC 2 else s
  if goStuck && s.get Reg.SEQ_CTL_MODE ≠ 1 then
    let c := s.flag Reg.SEQ_CTL_AUTO_CASCADE
    (((s.set Reg.SEQ_STAT_PWR_GO 1).set Reg.SEQ_STAT_STUCK 2).setB Reg.SEQ_STAT_CASCADE_NOW c).raise 0x1EA [d1 1, d1 (bit c)]
  else s

/-- The power-up completes (R354). -/
def State.powerOn (s : State) : State :=
  let t := s.tickNow
  let s := ((s.set Reg.SEQ_STAT_STATE seqOn).set Reg.SEQ_STAT_SEQ_OUT 1).set Reg.SEQ_LAST_UP_TICKS t
  s.raise 0x1E1 [d2 t]

/-- Every rail in use is good. -/
def State.allGood (s : State) : Bool := (rails.filter s.railUsed).all s.railGood

def railAt (n o : Nat) : Nat := 0xC8100 + 0x20 * n + o

/-- Tick 0 of a power-up (R348, R351, R353, R356): with no rail in use it completes at once. The table as it now stands comes into force
(R364; DEDUCED, notes/assumptions/90.md); a judgement of PWR_GO holds for the power-up that it let start (R350). -/
def State.beginPower (s : State) : State :=
  let s := if s.seqState = seqWait then s else (s.set Reg.SEQ_STAT_STUCK 0).set Reg.SEQ_STAT_CASCADE_NOW 0
  let s := (((s.set Reg.SEQ_STAT_STATE seqUp).set Reg.SEQ_STAT_GOOD 0).set Reg.SEQ_LIVE_EN 0).set Reg.SEQ_LIVE_PG 0
  let s := s.updPwr fun x => { x with
    tick0 := s.bar, go := false, fault := none, glitch := s.get Reg.SEQ_TIMING_GLITCH_BARS, inUse := s.get Reg.SEQ_CTL_RAIL_EN
    rails := x.rails.map fun r => { RailState.init with dropPhrase := r.dropPhrase } }
  let s := s.each rails fun s n =>
    (((s.updRail n fun r => { r with pmbus := s.word (railAt n 12) }).set (Reg.SEQ_RAIL_STAT_CHATTER n) 0).set (Reg.SEQ_RAIL_STAT_MARGIN n) 0).set (Reg.SEQ_RAIL_STAT_LOST n) 0
  let s := s.raise 0x1E0 [d1 (s.get Reg.SEQ_STAT_START_SRC), d1 (s.get Reg.SEQ_STAT_RETRIES)]
  if s.allGood then s.powerOn else s

/-- A reverse or shut-down completes (R355, R361): every rail in use has EN low and is finished. -/
def State.railsDone (s : State) : Bool := (rails.filter s.railUsed).all fun n => !(s.railEn n) && (s.rail n).finished

/-- A shut-down that follows SHIP_MODE's committed save writes the estimator's records and enters SHIP_PENDING (R341). -/
def State.checkDown (s : State) : State :=
  if !s.railsDone then s
  else if s.seqState = seqReversing then
    let s := ((s.set Reg.SEQ_STAT_STATE seqOff).set Reg.SEQ_LAST_DOWN_TICKS s.tickNow).set Reg.SEQ_DIS_DIS 0
    s.updPwr fun x => { x with offBar := s.bar }
  else if s.seqState = seqDown && s.sys.drain.isNone then
    let t := s.tickNow
    let forced := (rails.map fun n => if s.flag (Reg.SEQ_RAIL_STAT_FORCED n) then 2 ^ n else 0).sum
    let s := ((s.set Reg.SEQ_LAST_DOWN_TICKS t).set Reg.SEQ_DIS_DIS 0).raise 0x1E8 [d2 t, d2 forced]
    let ship := s.pack.ship && s.saveState = saveCommitted
    let s := s.when ship fun s =>
      (s.writeRecord.writeCycles.set Reg.PACK_STAT_STATE packShip).raise 0x1CE [d4 (s.get Reg.PACK_EAVAIL_JOULES)]
    let s := s.updPack fun x => { x with ship := ship }
    s.updSys fun x => { x with drain := some s.bar, pfailFell := !s.save.pfailPin, pfailRose := false }
  else s

/-- Rails whose EN has not risen have nothing to release; every FORCED is cleared. -/
def State.startDown (s : State) : State :=
  s.each rails fun s n => (s.set (Reg.SEQ_RAIL_STAT_FORCED n) 0).updRail n fun r => { r with finished := !(s.railEn n), low := none }

/-- The latch loses its arming to a reverse or shut-down (R376). -/
def State.disarm (s : State) : State :=
  if s.get (Reg.GUARD_OUT_OUT 1) = 0 then s else (s.set (Reg.GUARD_OUT_OUT 1) 0).set (Reg.GUARD_OUT_HW 1) 1

/-- Reverse tick 0 (R355). -/
def State.beginReverse (s : State) (f : Nat × Nat) : State :=
  let s := ((s.set Reg.SEQ_STAT_STATE seqReversing).set Reg.SEQ_STAT_SEQ_OUT 0).disarm
  let s := (s.updPwr fun x => { x with tick0 := s.bar, fault := none, minOff := s.get Reg.SEQ_OFF_MIN_OFF_MS }).startDown
  (s.raise 0x1E5 [d1 f.1, d1 f.2]).checkDown

/-- What a tick boundary begins: a reverse after a fault, or a power-up whose start was seen (R348, R355). -/
def State.tickPower (s : State) : State :=
  if !s.tickStart then s else
    match s.pwr.fault with
    | some f => if s.seqState = seqUp then s.beginReverse f else s
    | none => if s.pwr.go then s.beginPower else s

/-- PWR_GO_START (R348, R350): PWR_GO has been high for 16 bars. -/
def execPwrGoStart (s : State) : Answer :=
  s.powered <|
  let s := s.set Reg.SEQ_STAT_PWR_GO 1
  if s.seqState = seqWait && !s.cascade && s.get Reg.SEQ_STAT_STUCK = 0 && !s.pwr.go then
    .next ((s.set Reg.SEQ_STAT_START_SRC 1).updPwr fun x => { x with go := true })
  else .next s

/-- START (R349). -/
def opStart (_ : Pkt) (s : State) : OpResult :=
  let reply := fun (s : State) => OpResult.ok s (s.words [0xC8004])
  let st := s.seqState
  if st = seqNotStarted then reply (s.updPwr fun x => { x with startLatched := true })
  else if st = seqWait then reply ((s.set Reg.SEQ_STAT_START_SRC 2).updPwr fun x => { x with go := true })
  else if st = seqHalted then
    let s := (((s.set Reg.SEQ_STAT_RETRIES 0).set Reg.SEQ_STAT_START_SRC 2).set (Reg.GUARD_OUT_OUT 1) 1).unhalt
    reply (s.updPwr fun x => { x with go := true })
  else .refuse s stForbids

/-- SEQ_IN_START (R351): SEQ_IN has been high for 16 bars. -/
def execSeqInStart (s : State) : Answer :=
  s.powered <|
  if s.seqState = seqWait && s.cascade && !s.pwr.go then
    let s := (s.set Reg.SEQ_STAT_SEQ_IN 1).set Reg.SEQ_STAT_START_SRC 3
    .next (s.updPwr fun x => { x with go := true })
  else if s.seqState = seqWait then .next (s.set Reg.SEQ_STAT_SEQ_IN 1) else .next s

/-- PWR_GO_STUCK_LOW (R350): START_WAIT ticks after WAIT_START without a start; in TIME mode. -/
def execPwrGoStuckLow (s : State) : Answer :=
  s.powered <|
  let w := s.get Reg.SEQ_TIMING_START_WAIT
  if s.seqState = seqWait && !s.cascade && !s.pwr.go && s.get Reg.SEQ_STAT_STUCK = 0 && w ≠ 0
      && decide (s.pwr.waitBar + 64 * w ≤ s.bar) then
    let c := s.flag Reg.SEQ_CTL_AUTO_CASCADE
    .next ((((s.set Reg.SEQ_STAT_PWR_GO 0).set Reg.SEQ_STAT_STUCK 1).setB Reg.SEQ_STAT_CASCADE_NOW c).raise 0x1EA [d1 0, d1 (bit c)])
  else .next s

/-- RAIL_ENABLE (R352): EN_n rises at tick ON_DELAY. -/
def execRailEnable (n : Fin 16) (s : State) : Answer :=
  s.powered <|
  if s.seqState = seqUp && s.pwr.fault.isNone && s.railUsed n && !(s.railEn n) && decide (s.pwr.tick0 ≤ s.bar)
      && decide (s.get (Reg.SEQ_RAIL_CFG_ON_DELAY n) ≤ s.tickNow) then
    .next ((s.setBit Reg.SEQ_LIVE_EN n true).updRail n fun r => { r with from' := s.bar, low := none })
  else .next s

/-- RAIL_GOOD (R352, R354): PG_n has been high for 64 × STABLE bars; VOUT_MODE, read once per power-up (R365). -/
def execRailGood (n : Fin 16) (linear : Bool) (s : State) : Answer :=
  s.powered <|
  if s.seqState = seqUp && s.railEn n && !(s.railGood n) && (s.rail n).low.isNone
      && decide ((s.rail n).from' + 64 * max 1 (s.get (Reg.SEQ_RAIL_CFG_STABLE n)) ≤ s.bar) then
    let s := (s.setBit Reg.SEQ_STAT_GOOD n true).setBit Reg.SEQ_LIVE_PG n true
    let s := (s.set (Reg.SEQ_RAIL_STAT_UP_TICK n) (satW 13 s.tickNow)).updRail n fun r => { r with linear := linear }
    .next (if s.allGood then s.powerOn else s)
  else .next s

/-- RAIL_PG_TIMEOUT (R352): not good by tick ON_DELAY + PG_TIMEOUT. -/
def execRailPgTimeout (n : Fin 16) (s : State) : Answer :=
  s.powered <|
  if s.seqState = seqUp && s.pwr.fault.isNone && s.railUsed n && !(s.railGood n)
      && decide (s.get (Reg.SEQ_RAIL_CFG_ON_DELAY n) + s.get (Reg.SEQ_RAIL_DIS_PG_TIMEOUT n) ≤ s.tickNow) then
    .next ((s.raise 0x1E2 [d1 n, d2 s.tickNow]).powerFault n 1)
  else .next s

/-! ### PG in sequence and in service (R353, R358) -/

/-- GLITCH_BARS as in force (R364). -/
def State.glitchBars (s : State) : Nat := s.pwr.glitch

/-- PG_DROP (R353, R358): PG_n falls after it has been high. -/
def execPgDrop (n : Fin 16) (s : State) : Answer :=
  s.powered <|
  if (s.seqState = seqUp || s.seqState = seqOn) && s.railEn n && (s.rail n).low.isNone then
    .next ((s.setBit Reg.SEQ_LIVE_PG n false).updRail n fun r => { r with low := some s.bar })
  else .next s

/-- A drop of GLITCH_BARS or more: a fault of the power-up, or the loss of the rail and of what it feeds (R353, R358). -/
def State.railDropped (s : State) (n : Nat) : State :=
  if s.seqState = seqUp then (s.setBit Reg.SEQ_STAT_GOOD n false).powerFault n 2
  else if s.flag (Reg.SEQ_RAIL_STAT_LOST n) then s
  else
    let d := s.get (Reg.SEQ_RAIL_FEED_DCH n)
    let k := s.get (Reg.SEQ_RAIL_FEED_NCH n)
    let s := (s.set (Reg.SEQ_RAIL_STAT_LOST n) 1).raise 0x1E9 [d1 n, d1 d, d2 k]
    let s := s.each (channels.filter fun c => bitAt d c && s.serving c) fun s c => s.failCause c 4
    s.each (nandChannels.filter fun c => bitAt k c && s.nchUp c) fun s c => s.updNch c fun x => { x with failNext := some 3 }

/-- A drop shorter than GLITCH_BARS: chatter, or a drop in service (R353, R358). -/
def State.railChatter (s : State) (n : Nat) : State :=
  if s.seqState = seqUp then
    let c := s.get (Reg.SEQ_RAIL_STAT_CHATTER n) + 1
    let s := (s.count (Reg.SEQ_RAIL_STAT_CHATTER n)).raise 0x1E3 [d1 n, d1 c]
    let s := if s.railGood n then s else s.updRail n fun r => { r with from' := s.bar }
    if s.get Reg.SEQ_TIMING_CHATTER_LIMIT < c then (s.raise 0x1E4 [d1 n]).powerFault n 3 else s
  else
    let s := s.count (Reg.SEQ_RAIL_SENSE_DROPS n)
    if (s.rail n).dropPhrase = s.bar / 256 + 1 then s
    else (s.updRail n fun r => { r with dropPhrase := s.bar / 256 + 1 }).raise 0x1E3 [d1 n, d1 (s.get (Reg.SEQ_RAIL_SENSE_DROPS n))]

/-- PG_RETURN (R352, R353, R358): PG_n rises, after EN_n for the first time or after a drop. -/
def execPgReturn (n : Fin 16) (s : State) : Answer :=
  s.powered <|
  match (s.rail n).low with
  | none =>
    if s.seqState = seqUp && s.railEn n && !(bitAt (s.get Reg.SEQ_LIVE_PG) n) then
      .next ((s.setBit Reg.SEQ_LIVE_PG n true).updRail n fun r => { r with from' := s.bar })
    else .next s
  | some b =>
    if s.seqState = seqUp || s.seqState = seqOn then
      let s := if s.bar - b < s.glitchBars then s.railChatter n else s.railDropped n
      .next ((s.setBit Reg.SEQ_LIVE_PG n true).updRail n fun r => { r with low := none })
    else .next s

/-- PG_GLITCH_EXPIRE (R353, R358): PG_n has been low for GLITCH_BARS bars. -/
def execPgGlitchExpire (n : Fin 16) (s : State) : Answer :=
  s.powered <|
  match (s.rail n).low with
  | none => .next s
  | some b =>
    if (s.seqState = seqUp || s.seqState = seqOn) && decide (s.glitchBars ≤ s.bar - b) then .next (s.railDropped n)
    else .next s

/-! ### Shut-down (R357, R359 to R361) -/

/-- Shut-down tick 0 (R359, R376). -/
def State.beginDown (s : State) : State :=
  let s := (((s.set Reg.SEQ_STAT_STATE seqDown).set Reg.SEQ_STAT_SEQ_OUT 0).disarm).updSave fun x => { x with shut := false }
  let s := if s.get (Reg.GUARD_OUT_OUT 3) = 0 then s else (s.set (Reg.GUARD_OUT_OUT 3) 0).set (Reg.GUARD_OUT_HW 3) 1
  let s := (s.updPwr fun x => { x with tick0 := s.bar, fault := none, go := false, startLatched := false, hTick := none }).startDown
  (s.raise 0x1E6 [d1 s.saveCause]).checkDown

/-- SHUTDOWN_BEGIN (R357, R359): at the first tick boundary after R252 or R357 calls for it. -/
def execShutdownBegin (s : State) : Answer :=
  s.powered <|
  if s.save.shut && s.tickStart && s.seqState ≠ seqDown && !s.sys.off then .next s.beginDown else .next s

/-- Rails go off now: in a reverse, in a shut-down, or for H; answers the tick. -/
def State.downTick (s : State) (n : Nat) : Option Nat :=
  if s.seqState = seqReversing || s.seqState = seqDown then some s.tickNow
  else match s.pwr.hTick with
    | some b => if s.railsOfH.contains n && s.bar ≥ b then some ((s.bar - b) / 64) else none
    | none => none

/-- RAIL_RELEASE (R355, R359, R535): EN_n falls at tick OFF_DELAY; DIS_n rises with it under DIS_ALWAYS. -/
def execRailRelease (n : Fin 16) (s : State) : Answer :=
  s.powered <|
  match s.downTick n with
  | some t =>
    if s.railEn n && decide (s.get (Reg.SEQ_RAIL_CFG_OFF_DELAY n) ≤ t) then
      let s := ((s.setBit Reg.SEQ_LIVE_EN n false).setBit Reg.SEQ_STAT_GOOD n false).updRail n fun r =>
        { r with from' := s.bar, finished := false }
      .next (if s.flag (Reg.SEQ_RAIL_DIS_DIS_ALWAYS n) then s.setBit Reg.SEQ_DIS_DIS n true else s)
    else .next s
  | none => .next s

/-- RAIL_DISCHARGED (R360, R361): a released rail is below THRESH_MV. -/
def execRailDischarged (n : Fin 16) (mv : Nat) (s : State) : Answer :=
  s.powered <|
  if (s.downTick n).isSome && !(s.railEn n) && decide (mv < s.get (Reg.SEQ_RAIL_DIS_THRESH_MV n)) then
    let s := ((s.set (Reg.SEQ_RAIL_SENSE_MV n) mv).setBit Reg.SEQ_DIS_DIS n false).updRail n fun r => { r with finished := true }
    .next s.checkDown
  else .next s

/-- RAIL_DISCHARGE_TIMEOUT (R360, R361). -/
def execRailDischargeTimeout (n : Fin 16) (mv : Nat) (s : State) : Answer :=
  s.powered <|
  if (s.downTick n).isSome && !(s.railEn n) && !(s.rail n).finished
      && decide ((s.rail n).from' + 64 * max 1 (s.get (Reg.SEQ_RAIL_DIS_DIS_TIMEOUT n)) ≤ s.bar) then
    let s := ((s.set (Reg.SEQ_RAIL_SENSE_MV n) mv).setBit Reg.SEQ_DIS_DIS n true).set (Reg.SEQ_RAIL_STAT_FORCED n) 1
    let s := (s.raise 0x1E7 [d1 n, d2 mv]).updRail n fun r => { r with finished := true }
    .next s.checkDown
  else .next s

/-- POWER_UP_RETRY (R355, R356): MIN_OFF_MS after RAILS_OFF a retry starts at the next tick, or the sequencer halts. -/
def execPowerUpRetry (s : State) : Answer :=
  s.powered <|
  if s.seqState = seqOff && !s.pwr.go && s.elapsed s.pwr.offBar (s.pwr.minOff * 1000) then
    if s.get Reg.SEQ_STAT_RETRIES < s.get Reg.SEQ_CTL_RETRY then
      .next ((s.bump Reg.SEQ_STAT_RETRIES).updPwr fun x => { x with go := true })
    else
      let s := (s.set Reg.SEQ_STAT_STATE seqHalted).raise 0x1EF [d1 s.pwr.lastFault.2, d1 s.pwr.lastFault.1]
      .next (if s.get Reg.SYS_STATE_STEP = 4 then s.halt 4 4 else s)
  else .next s

/-! ### The sequencing table (R364) -/

/-- May the table change in this state? -/
def State.tableMay (s : State) : Bool := !([seqUp, seqReversing, seqDown].contains s.seqState)

/-- Ranges of SEQ_TIMING and SEQ_OFF (R370). -/
def timingOk (v : Nat) : Bool := decide (1 ≤ bitsAt v 8 8) && decide (1 ≤ bitsAt v 4 4)
def offOk (v : Nat) : Bool := between 100 60000 (bitsAt v 16 16)

/-- Ranges of a rail's words CFG, DIS and PMBUS (R364, R371): PG_TIMEOUT above STABLE, THRESH_MV below NOM_MV. -/
def railOk (cfg dis pmbus : Nat) : Bool :=
  decide (bitsAt cfg 0 8 < bitsAt dis 4 8) && (bitsAt pmbus 0 16 = 0 || decide (bitsAt dis 20 12 < bitsAt pmbus 0 16))

/-- Set every RW field of a register. -/
def State.setRw (s : State) (a v : Nat) : State :=
  s.each (fieldsAt a) fun s d => if d.access = .rw then s.set ⟨a, d.lo, d.width⟩ (bitsAt v d.lo d.width) else s

/-- A table change is accepted. -/
def State.tableChanged (s : State) : State :=
  let s := s.bump Reg.SEQ_GEN_GEN
  s.raise 0x1EE [d2 (s.get Reg.SEQ_GEN_GEN)]

/-- SEQ_TABLE_SET (R364, R489). -/
def opSeqTableSet (p : Pkt) (s : State) : OpResult :=
  let ns := rails.filter (bitAt (p.u16 0xC))
  let at' := fun i o => p.u32 (0x10 + 16 * i + o)
  let ok := timingOk (p.u32 4) && offOk (p.u32 8) && (List.range ns.length).all fun i => railOk (at' i 0) (at' i 4) (at' i 12)
  if !(p.genOk (s.get Reg.SEQ_GEN_GEN)) then .refuse s stStale
  else if !s.tableMay then .refuse s stForbids
  else if !ok then .refuse s stInvalid
  else
    let s := ((s.setRw 0xC8000 (p.u32 0)).setRw 0xC8008 (p.u32 4)).setRw 0xC800C (p.u32 8)
    let s := s.each (List.range ns.length) fun s i => (List.range 4).foldl (fun s k =>
      s.setRw (railAt (ns.getD i 0) (4 * k)) (at' i (4 * k))) s
    let s := s.tableChanged
    .ok s (s.words [0xC801C])

/-- Is an address a table register (R368 to R371)? -/
def tableReg (a : Nat) : Bool :=
  a = 0xC8000 || a = 0xC8008 || a = 0xC800C || (decide (0xC8100 ≤ a) && decide (a < 0xC8300) && decide (a % 0x20 < 0x10))

/-- A register write to a table field follows the rules of SEQ_TABLE_SET (R364). -/
def State.writeTable (s : State) (src : Src) (a v : Nat) : State :=
  let n := (a - 0xC8100) / 0x20
  let w := fun o => if a = railAt n o then v else s.comingWord (railAt n o)
  let ok := s.tableMay && (if a = 0xC8000 then true else if a = 0xC8008 then timingOk v else if a = 0xC800C then offOk v
    else railOk (w 0) (w 4) (w 12))
  if !ok then s.badAccess src a else (s.plainWrite a v).tableChanged

/-- SEQ_STATUS (R364, R489). -/
def opSeqStatus (_ : Pkt) (s : State) : OpResult :=
  .ok s (s.words ((List.range 8).map (0xC8000 + 4 * ·) ++ rails.flatMap fun n => (List.range 6).map fun i => railAt n (4 * i)))

/-! ### Margining (R365 to R367) -/

/-- A margin in half-percent steps, from its 5-bit field. -/
def State.margin5 (s : State) (n : Nat) : Int :=
  let v := s.get (Reg.SEQ_RAIL_STAT_MARGIN n)
  if v < 16 then v else (v : Int) - 32

def State.setMargin (s : State) (n : Nat) (m : Int) : State := s.set (Reg.SEQ_RAIL_STAT_MARGIN n) (m % 32).toNat

/-- NOM_MV × (1 + m / 200), rounded down. -/
def marginMv (nom : Nat) (m : Int) : Nat := ((nom : Int) * (200 + m) / 200).toNat

/-- PMBUS address, page and nominal voltage of a rail, as in force (R364, R371). -/
def RailState.addr (r : RailState) : Nat := bitsAt r.pmbus 17 7
def RailState.page (r : RailState) : Nat := bitsAt r.pmbus 24 8
def RailState.nomMv (r : RailState) : Nat := bitsAt r.pmbus 0 16

/-- May a rail be margined: in use since the last power-up, with an address (R365, R366)? -/
def State.marginable (s : State) (n : Nat) : Bool := bitAt s.pwr.inUse n && (s.rail n).addr ≠ 0

/-- The PMBus writes of a margin: PAGE where there is one, then VOUT_COMMAND with the voltage in mV; the mantissa that a
regulator's VOUT_MODE makes of it is not computed (notes/assumptions/40.md). -/
def State.sendVout (s : State) (n : Nat) (mv : Nat) : State :=
  s.send (.pmbus (s.rail n).addr (s.rail n).page (leBytes 1 0x21 ++ leBytes 2 mv))

/-- MARGIN_SET (R366, R489). -/
def opMarginSet (p : Pkt) (s : State) : OpResult :=
  let ns := rails.filter (bitAt (p.u16 0))
  let m := fun n => signed8 (if p.expert then p.u8 (4 + n) else p.u8 2)
  if s.saving || s.restoring then .refuse s stForbids
  else if s.seqState ≠ seqOn then .refuse s stForbids
  else if ns.any fun n => decide (m n < -10) || decide (10 < m n) || !(s.marginable n) then
    .refuse s stInvalid
  else if ns.any fun n => !(s.rail n).linear then .refuse s stUnsupported
  else
    let s := s.each ns fun s n => s.updRail n fun r => { r with target := m n, stepBar := s.bar + 1 }
    .ok s (rails.flatMap fun n => leBytes 1 (byteOfInt (s.rail n).target))

/-- MARGIN_STEP (R365): at a tick, a rail off its target moves one step; `ack` says whether its PMBus transaction was
acknowledged with a good PEC. -/
def execMarginStep (n : Fin 16) (ack : Bool) (s : State) : Answer :=
  s.powered <|
  let old := s.margin5 n
  let tgt := (s.rail n).target
  if s.seqState ≠ seqOn || !s.tickStart || old = tgt || (s.rail n).stepBar = s.bar + 1 then .next s
  else
    let new := if old < tgt then old + 1 else old - 1
    let s := (s.updRail n fun r => { r with stepBar := s.bar + 1 }).sendVout n (marginMv (s.rail n).nomMv new)
    if ack then
      let s := (s.setMargin n new).set (Reg.SEQ_RAIL_STAT_MARGIN_FAIL n) 0
      .next (if new = tgt then s.raise 0x1EB [d1 n, d1 (byteOfInt old), d1 (byteOfInt new), d1 0] else s)
    else
      let s := (s.set (Reg.SEQ_RAIL_STAT_MARGIN_FAIL n) 1).updRail n fun r => { r with target := old }
      .next (s.raise 0x1EB [d1 n, d1 (byteOfInt old), d1 (byteOfInt old), d1 1])

/-- Margins return to nominal at a save's fence (R367). -/
def State.clearMargins (s : State) : State :=
  let ns := rails.filter fun n => s.margin5 n ≠ 0
  let s := s.each ns fun s n => (s.sendVout n (s.rail n).nomMv).setMargin n 0
  let s := s.each rails fun s n => s.updRail n fun r => { r with target := 0 }
  if ns.isEmpty then s else s.raise 0x1EC [d2 ((ns.map (2 ^ ·)).sum)]

/-! ### PMBus alert (R328, R329, R559) -/

/-- Is a fault bit set in the charger's STATUS_WORD? The bits PMBus 1.4 gives to faults: 15 to 12, 10, 9 and 5 to 1 (PRESUMED,
notes/assumptions/41.md). -/
def chargerFault (status : Nat) : Bool := Nat.land status 0xF63E ≠ 0

/-- PMBUS_ALERT (R329, R559): the active warden reads the charger's STATUS_WORD; without one nothing is read. -/
def execPmbusAlert (status : Nat) (s : State) : Answer :=
  s.powered <|
  if s.get Reg.WARDEN_STAT_ACTIVE = 0 then .next s
  else .next ((s.updPack fun x => { x with chargerFault := chargerFault status }).driveCharger)

def startOp : PktOp := ⟨0x0008, some .mgmt, true, fun _ ps => ps.length = 0, fun _ _ => 4, opStart⟩
def seqTableSetOp : PktOp :=
  ⟨0x0701, none, true, fun _ ps => ps.length = 16 + 16 * popcount (leAt ps 0xC 2) 16 && zeroAt ps 0xE 2, fun _ _ => 4, opSeqTableSet⟩
def seqStatusOp : PktOp := ⟨0x0702, some .mgmt, false, fun _ ps => ps.length = 0, fun _ _ => 416, opSeqStatus⟩
def marginSetOp : PktOp :=
  ⟨0x0703, some .mgmt, true, fun e ps => ps.length = (if e then 20 else 4) && zeroAt ps 3 1, fun _ _ => 16, opMarginSet⟩

/-- START (R349). -/
def execStart (p : Pkt) (s : State) : Answer := .next (startOp.command p s)
/-- SEQ_TABLE_SET (R364). -/
def execSeqTableSet (p : Pkt) (s : State) : Answer := .next (seqTableSetOp.command p s)
/-- SEQ_STATUS (R364). -/
def execSeqStatus (p : Pkt) (s : State) : Answer := .next (seqStatusOp.command p s)
/-- MARGIN_SET (R366). -/
def execMarginSet (p : Pkt) (s : State) : Answer := .next (marginSetOp.command p s)

end Sys2Proof.Machine
end

