-- ==== Sys2Proof/Machine/Options.lean ====
section
/-! DEFINITION. The option area (spec/12_code_flash.md R422 to R427) and the commands of the code flash (R403 to R417). -/

namespace Sys2Proof.Machine

/-! ### Where an option copy holds a register (R422, R488) -/

/-- Register addresses whose opt fields stand in a copy, with the offset of their image. SYS_PWR_CFG has no place in R422
(notes/assumptions/47.md). -/
def optImages : List (Nat × Nat) :=
  [(0x20000, 0x100), (0x8001C, 0x250), (0x80024, 0x254), (0x80028, 0x258), (0x8002C, 0x25C), (0x8011C, 0x260),
    (0x80128, 0x264), (0xA001C, 0x268), (0xA0010, 0x270), (0xC0038, 0x2E8), (0xC003C, 0x2EC), (0xC0040, 0x2F0),
    (0xC8000, 0x380), (0xC8008, 0x384), (0xC800C, 0x388), (0xD0004, 0x4A0)]
  ++ (channels.flatMap fun c => [(0x40000 + 0x4000 * c, 0x14), (0x4001C + 0x4000 * c, 0x110), (0x40024 + 0x4000 * c, 0x114)])
  ++ (ports.flatMap fun p =>
    [(0x60004 + 0x4000 * p, 0x130 + 72 * p), (0x60008 + 0x4000 * p, 0x134 + 72 * p)]
      ++ (List.range 16).map fun l => (0x60040 + 0x4000 * p + 4 * l, 0x138 + 72 * p + 4 * l))
  ++ (rails.flatMap fun n => (List.range 4).map fun j => (railAt n (4 * j), 0x39C + 16 * n + 4 * j))
  ++ (List.range 128).map fun w => (0x10400 + 4 * w, 0x4B0 + 4 * w)

/-! ### The built-in defaults (R425) -/

/-- The reference-pack values of R321, in the layout of R488. -/
def defaultPack : List Byte :=
  leBytes 1 1 ++ leBytes 1 4 ++ leBytes 2 3000 ++ leBytes 2 2400 ++ leBytes 2 3600
    ++ [2900, 3200, 3240, 3265, 3280, 3290, 3300, 3310, 3325, 3340, 3400].flatMap (leBytes 2) ++ leBytes 2 0
    ++ [(0, 10000), (250, 9800), (500, 9650), (1000, 9400), (1500, 9150), (2000, 8900), (3000, 8450), (4000, 8000)].flatMap
      (fun e => leBytes 2 e.1 ++ leBytes 2 e.2)
    ++ [(236, 7000), (251, 8500), (5, 9500), (15, 10000)].flatMap (fun e => leBytes 1 e.1 ++ leBytes 1 0 ++ leBytes 2 e.2)
    ++ leBytes 2 9000 ++ leBytes 1 5 ++ leBytes 1 98 ++ leBytes 4 67931 ++ leBytes 2 15 ++ leBytes 2 150 ++ leBytes 2 200
    ++ leBytes 2 1500 ++ leBytes 2 4000 ++ leBytes 1 60 ++ leBytes 1 0 ++ leBytes 4 20000

/-- The words of the defaults that are not zero: every default named in the manual; RANKS, DENSITY and the like of the
reference card (notes/assumptions/48.md). -/
def defaultWords : List (Nat × Nat) :=
  [(0x10, 0xFF), (0x14, 0x000A8000), (0x18, 0x00200020), (0x100, 0x00310000), (0x110, 0x01004080), (0x114, 3),
    (0x250, 64), (0x254, 0x1001), (0x258, 0x27100101), (0x25C, 140), (0x260, 0x10000001), (0x268, 0x5400),
    (0x270, 0x40101E01), (0x2E8, 0x3C000000), (0x2EC, 5000), (0x2F0, 0x2A300000),
    (0x380, 0x14000000), (0x384, 0x10004030), (0x388, 0x03E80000), (0x4A0, 0x04008006)]

/-- The default image (R425). -/
def defaultOptions : List Host.Cell :=
  let m := defaultWords.foldl (fun m e => Store.setRange 0#8 m e.1 (leBytes 4 e.2)) []
  let m := Store.setRange 0#8 m 0x280 defaultPack
  Store.setRange 0#8 m 0x4B0 ((List.range 512).map fun n => BitVec.ofNat 8 (defaultRoute n))

/-- SYS_PWR_CFG at its defaults: D2_EN, D1_QUIET 4, SCRUB_DEFER_S 60 (R542). -/
def defaultPwrCfg : Nat := 0x4004003C

/-! ### Is a copy valid (R424)? -/

/-- Every field in its range. -/
def optRangesOk (b : List Byte) : Bool :=
  let w := fun o => leAt b o 4
  let counts := ports.map fun p => countOf (w (0x130 + 72 * p))
  (decide (bitsAt (w 0x10) 0 8 ≤ 63) || bitsAt (w 0x10) 0 8 = 255) && between 1 2 (bitsAt (w 0x14) 14 2)
    && between 8 1024 (bitsAt (w 0x18) 0 16) && between 8 1024 (bitsAt (w 0x18) 16 16)
    && between 1 15 (bitsAt (w 0x110) 4 4)
    && ports.all (fun p => decide (bitsAt (w (0x130 + 72 * p)) 25 5 ≤ 16)
      && (List.range 16).all fun l => decide (bitsAt (w (0x138 + 72 * p + 4 * l)) 0 12 ≤ 2048))
    && decide (counts.sum ≤ 16)
    && between 1 4095 (bitsAt (w 0x250) 0 12) && between 1 255 (bitsAt (w 0x254) 8 8)
    && between 1000 60000 (bitsAt (w 0x258) 16 16) && between 1 64 (bitsAt (w 0x258) 8 8)
    && between 50 1000 (bitsAt (w 0x25C) 0 10) && between 12 240 (bitsAt (w 0x268) 8 8)
    && between 1 255 (bitsAt (w 0x270) 8 8) && packParamsOk (sliceBytes b 0x280 104)
    && between 1 255 (bitsAt (w 0x2E8) 24 8) && timingOk (w 0x384) && offOk (w 0x388)
    && (rails.filter (bitAt (w 0x380))).all (fun n =>
      railOk (w (0x39C + 16 * n)) (w (0x3A0 + 16 * n)) (w (0x3A8 + 16 * n)))
    && (List.range 512).all fun n => decide (leAt b (0x4B0 + n) 1 < 128)

/-- "NOPT", "NOPTDONE" and "NSIG". -/
def magicOpt : List Byte := [0x4E#8, 0x4F#8, 0x50#8, 0x54#8]
def doneOpt : List Byte := [0x4E#8, 0x4F#8, 0x50#8, 0x54#8, 0x44#8, 0x4F#8, 0x4E#8, 0x45#8]
def magicSig : List Byte := [0x4E#8, 0x53#8, 0x49#8, 0x47#8]

/-- The checks other than digest and signature. -/
def optFormOk (b : List Byte) : Bool :=
  sliceBytes b 0 4 = magicOpt && leAt b 4 2 = 1 && leAt b 8 4 ≠ 0 && sliceBytes b 0x1FF8 8 = doneOpt
    && sliceBytes b 0x1F50 4 = magicSig && optRangesOk b

/-- The key of a slot: Azinador's while no owner key is in force, the owner's afterwards (R501). -/
def State.optKey (s : State) (slot : Nat) : Option (List Byte) :=
  match slot, s.ownerKey with
  | 0, none => some Config.azOptionKey
  | 1, some k => some k
  | _, _ => none

/-- Digest and signature (R422, R500, R501). -/
def State.optSigned (s : State) (b : List Byte) : Bool :=
  Config.sha384 (b.take 0x1F50) = sliceBytes b 0x1F60 48 &&
    (match s.optKey (leAt b 0x1F54 1) with
      | some k => Config.ecdsaVerify k (b.take 0x1F90) (sliceBytes b 0x1F90 96)
      | none => false)

def optAt (c : Nat) : Nat := 0x1000000 + 0x2000 * c

def State.optCopy (s : State) (c : Nat) : List Byte := s.flashRead (optAt c) 8192

/-- COPY0 and COPY1 of FL_OPTION (R431): 0 valid, 1 erased or no COMMIT, 2 a check failed, 3 INDETERMINATE or WORN. -/
def State.copyState (s : State) (c : Nat) : Nat :=
  if s.sect (4096 + 2 * c) ≠ 0 || s.sect (4097 + 2 * c) ≠ 0 then 3
  else if s.flashRead (optAt c + 0x1FF8) 8 ≠ doneOpt then 1
  else if optFormOk (s.optCopy c) && s.optSigned (s.optCopy c) then 0
  else 2

def State.copySeq (s : State) (c : Nat) : Nat := s.flashNat (optAt c + 8) 4

/-- A signature or digest of an option copy failed (R500). -/
def State.optionFails (s : State) (slot : Nat) : State := (s.count Reg.SEC_SIG_FAIL_OPTION).raise 0x1FF [d1 2, d1 slot]

/-! ### Loading (R424, R425, R504) -/

/-- Every opt field takes its value from the image in force (R423). -/
def State.loadImage (s : State) (img : List Host.Cell) : State :=
  let s := { s with opt := img }
  let s := s.each optImages fun s e =>
    s.each ((fieldsAt e.1).filter fun d => d.reset = .opt) fun s d =>
      s.set ⟨e.1, d.lo, d.width⟩ (bitsAt (s.optWord e.2) d.lo d.width)
  let s := s.each ((fieldsAt 0x14).filter fun d => d.reset = .opt) fun s d =>
    s.set ⟨0x14, d.lo, d.width⟩ (bitsAt defaultPwrCfg d.lo d.width)
  let s := s.each ports fun s p =>
    let cfg := s.word (cfgWord p)
    let s := (s.set (Reg.HPORT_STAT_MLD p) (bitsAt cfg 30 1)).set (Reg.HPORT_STAT_LD_COUNT p) (countOf cfg)
    (s.set (Reg.HPORT_STAT_ISOCH p) (bitsAt cfg 24 1)).set (Reg.HPORT_STAT_GPF_MODE p) (bitsAt cfg 23 1)
  let s := s.each nandChannels fun s n => s.set (Reg.NCH_STAT_DIES n) s.card.nandDies
  let a := s.get Reg.WARDEN_CTL_RANK_A
  let b := s.get Reg.WARDEN_CTL_RANK_B
  let s := s.set Reg.WARDEN_STAT_PREFERRED (if a = b then 0 else if b < a then 1 else 2)
  let id := s.optWord 0x10 % 256
  let s := (s.setB Reg.CMD_STAT_OVERRIDE (id ≠ 255)).set Reg.CMD_STAT_SPAN_ID
    (if id = 255 then s.get Reg.CMD_STAT_STRAP_ID else id)
  let s := s.set Reg.CMD_GROUPS_MASK (bitsAt (s.optWord 0x10) 8 16)
  let s := s.updPack fun x => { x with params := s.optBytes 0x280 104, paramsNext := none }
  (s.set Reg.PACK_UNCERT_RATE (s.par 0x5A 2)).setB Reg.SEC_STAT_IMPORT s.importPresent

/-- OWNER_KEY of a loaded copy that is not yet in force (R504). -/
def State.takeOwnerKey (s : State) (slot : Nat) : State :=
  let k := s.optBytes (0x6B0 + 0x10) 97
  if k.all (· = 0#8) || s.ownerKey = some k || !(keyOk k) then s
  else if slot = 0 ∧ s.ownerKey.isSome then s
  else s.programKey true k

/-- The load of start-up step 2. Answers whether there was no valid copy. -/
def State.loadOptions (s : State) : State × Bool :=
  let st := [s.copyState 0, s.copyState 1]
  let s := s.each [0, 1] fun s c =>
    let k := st.getD c 0
    let b := s.optCopy c
    let s := s.when (k = 2 && optFormOk b) fun s => s.optionFails (leAt b 0x1F54 1)
    s.when (k ≠ 0) fun s => s.raise 0x1F1 [d1 c, d1 k]
  let s := (s.set Reg.FL_OPTION_COPY0 (st.getD 0 0)).set Reg.FL_OPTION_COPY1 (st.getD 1 0)
  let pick := if st.getD 0 0 = 0 ∧ (st.getD 1 0 ≠ 0 ∨ s.copySeq 1 ≤ s.copySeq 0) then some 0
    else if st.getD 1 0 = 0 then some 1 else none
  match pick with
  | some c =>
    let b := s.optCopy c
    let s := s.loadImage (Store.setRange 0#8 [] 0 b)
    let s := ((s.set Reg.FL_OPTION_LOADED c).set Reg.FL_OPTION_DEFAULTS 0).set Reg.FL_OPTION_SEQ_SEQ (leAt b 8 4)
    ((s.raise 0x1F0 [d1 c, d4 (leAt b 8 4)]).takeOwnerKey (leAt b 0x1F54 1), false)
  | none =>
    let s := s.loadImage defaultOptions
    let s := ((s.set Reg.FL_OPTION_LOADED 0).set Reg.FL_OPTION_DEFAULTS 1).set Reg.FL_OPTION_SEQ_SEQ 0
    (s.raise 0x1F3 [d1 (st.getD 0 0), d1 (st.getD 1 0)], true)

/-! ### OPTION_WRITE (R426) -/

/-- The staged image. -/
def OptStage.image (g : OptStage) : List Byte := Store.getRange 0#8 g.bytes 0 8192

/-- The copy to write: an invalid one, copy 1 before copy 0, otherwise the valid one with the lower OPT_SEQ. -/
def State.optTarget (s : State) : Nat :=
  if s.copyState 1 ≠ 0 then 1
  else if s.copyState 0 ≠ 0 then 0
  else if s.copySeq 0 < s.copySeq 1 then 0 else 1

def State.highestSeq (s : State) : Nat :=
  max (if s.copyState 0 = 0 then s.copySeq 0 else 0) (if s.copyState 1 = 0 then s.copySeq 1 else 0)

/-- The reply of R490. -/
def optReply (copy sector seq : Nat) : List Byte := leBytes 1 copy ++ leBytes 1 0 ++ leBytes 2 sector ++ leBytes 4 seq

/-- The job ends: its buffer is freed and its packet answered. -/
def State.optEnd (s : State) (status : Nat) (data : List Byte) : State :=
  match s.flash.job with
  | none => s
  | some j => (s.updFlash fun x => { x with job := none, stage := none }).answer j.pkt status data

/-- The next operation of the job starts, once no other operation stands in its way: two erases, then 1,024 words, the COMMIT
word last. -/
def State.optNext (s : State) : State :=
  match s.flash.job with
  | none => s
  | some j =>
    if s.flash.erase.isSome || s.flash.prog.isSome then s
    else if j.next < 2 then
      let sec := 4096 + 2 * j.copy + j.next
      let s := s.startErase (sec * 4096)
      if s.flash.erase.isSome then s else s.optEnd stForbids (optReply 0 sec 0)
    else if j.next < 1026 then
      let a := optAt j.copy + 8 * (j.next - 2)
      let data := (s.flash.stage.map fun g => leNat (Store.getRange 0#8 g.bytes (8 * (j.next - 2)) 8)).getD 0
      let s := s.startProgram a data
      if s.flash.prog.isSome then s else s.optEnd stForbids (optReply 0 (sectorOf a) 0)
    else
      let seq := s.copySeq j.copy
      (s.raise 0x1F2 [d1 j.copy, d4 seq]).optEnd stOk (optReply j.copy 0 seq)

/-- The job's erase or word has ended. -/
def State.optStep (s : State) (sector : Nat) (ok : Bool) : State :=
  match s.flash.job with
  | none => s
  | some j =>
    if sector / 2 ≠ 2048 + j.copy then s
    else if ok then (s.updFlash fun x => { x with job := some { j with next := j.next + 1 } }).optNext
    else s.optEnd stForbids (optReply 0 sector 0)

/-- A save trigger takes effect during the write (R426). -/
def State.optAbandon (s : State) : State := s.optEnd stForbids []

/-- OPTION_WRITE (R426): a chunk is staged; FINAL checks the image and starts the write. -/
def opOptionWrite (p : Pkt) (s : State) : OpResult :=
  let off := p.u16 0
  let data := p.params.drop 8
  let g := s.flash.stage.getD ⟨p.src, [], [], s.bar⟩
  if !(p.genOk (s.get Reg.FL_OPTION_SEQ_SEQ)) then .refuse s stStale
  else if g.src ≠ p.src || s.flash.job.isSome then .refuse s stBusy
  else if s.saving || s.restoring || s.warden.update.isSome then .refuse s stForbids
  else if off % 16 ≠ 0 || decide (8192 < off + data.length) || (data.length % 16 ≠ 0 && off + data.length ≠ 8192) then
    .refuse s stInvalid
  else
    let g := { g with
      bytes := Store.setRange 0#8 g.bytes off data
      units := Store.setRange false g.units (off / 16) (List.replicate (ceilDiv data.length 16) true)
      since := s.bar }
    let s := s.updFlash fun x => { x with stage := some g }
    let b := g.image
    let seq := leAt b 8 4
    if p.u8 2 % 2 = 0 then .ok s (optReply 0xFF 0 seq)
    else if decide (g.units.length < 512) || !(optFormOk b) then .refuse s stInvalid
    else if seq ≤ s.highestSeq then .refuse s stInvalid
    else if !(s.optSigned b) then .refuse (s.optionFails (leAt b 0x1F54 1)) stSignature
    else ⟨(s.updFlash fun x => { x with job := some ⟨p, s.optTarget, 0⟩ }).optNext, stLater, []⟩

def optionWriteOp : PktOp :=
  ⟨0x0901, none, false, fun _ ps => decide (24 ≤ ps.length) && decide (ps.length ≤ 4056) && zeroAt ps 3 5, fun _ _ => 8,
    opOptionWrite⟩

/-! ### FLASH_READ (R427, R491) -/

/-- FLASH_READ: banks A and B need expert privilege; without it the packet is the no-op of R475. -/
def opFlashRead (p : Pkt) (s : State) : OpResult :=
  let a := p.u32 0
  let n := p.u16 4
  if a < 0x1000000 ∧ !(s.holds p.src .expert) then ⟨s.noPriv p.src, stOk, List.replicate (28 + n) 0#8⟩
  else
    let bad := (List.range (n / 8)).filter fun i => Store.get false s.flash.ue (a + 8 * i)
    let len := match bad[10]? with
      | some i => 8 * i
      | none => n
    let told := bad.take 10
    let ind := fun k => bit (s.sect k = 1)
    let first := sectorOf a
    let flags := ind first + 2 * (if sectorOf (a + n - 1) = first then 0 else ind (first + 1)) + 4 * bit (decide (len < n))
    let s := s.each told fun s i =>
      ((s.count Reg.FL_ECC_UE).latch Reg.FL_STAT_READ_UE).raise 0x1F7 [d4 (a + 8 * i), d1 1]
    .ok s (leBytes 4 a ++ leBytes 2 len ++ leBytes 1 flags ++ leBytes 1 told.length
      ++ ((List.range 10).flatMap fun i => leBytes 2 (told.getD i 0xFFFF)) ++ s.flashRead a len)

def flashReadOp : PktOp :=
  ⟨0x0902, some .mgmt, false, fun _ ps => ps.length = 8 && leAt ps 0 4 % 8 = 0 && between 8 4032 (leAt ps 4 2)
    && leAt ps 4 2 % 8 = 0 && zeroAt ps 6 2 && decide (leAt ps 0 4 + leAt ps 4 2 ≤ flashSize),
    fun _ p => 28 + p.u16 4, opFlashRead⟩

/-! ### The commands -/

/-- An operation of the flash interface by the active warden; from any other source it is ignored and counted (R407). -/
def State.flashBy (s : State) (src : Src) (op margin a data diff : Nat) : State :=
  if !(s.holds src .expert) then s.noPriv src
  else if s.isActive src then s.flashOp op margin a data diff else s.badAccess src 0xE0004

/-- FLASH_UNLOCK (R405). -/
def execFlashUnlock (src : Src) (value : Nat) (s : State) : Answer :=
  s.powered <|
  .next (if !(s.holds src .expert) then s.noPriv src
    else if s.isActive src then s.flashKey (value % 2 ^ 32) else s.badAccess src 0xE0000)

/-- PROGRAM_WORD (R405, R406, R408). -/
def execProgramWord (src : Src) (a data : Nat) (s : State) : Answer := s.powered <| .next (s.flashBy src 1 0 a (data % 2 ^ 64) 0)

/-- PROGRAM_WORD_DONE (R406). -/
def execProgramWordDone (ok : Bool) (s : State) : Answer :=
  s.powered <|
  match s.flash.prog with
  | none => .next s
  | some (a, _) => .next (((s.programEnd ok).optStep (sectorOf a) ok).clearNext)

/-- ERASE_SECTOR (R405, R409, R414). -/
def execEraseSector (src : Src) (a : Nat) (s : State) : Answer := s.powered <| .next (s.flashBy src 2 0 a 0 0)

/-- The sector of a clear has been erased, or cannot be (R457). -/
def State.clearStep (s : State) (sector : Nat) : State :=
  match s.recorder.clear with
  | none => s
  | some c => if c.left ≠ 0 && sector = 4175 + c.left then
      s.updRec fun r => { r with clear := some { c with left := c.left - 1 } } else s

/-- ERASE_PULSE_DONE (R409): whatever waits for the erase goes on. -/
def execErasePulseDone (ok : Bool) (s : State) : Answer :=
  s.powered <|
  match s.flash.erase with
  | none => .next s
  | some (n, _) =>
    let s := s.pulseDone ok
    if s.flash.erase.isSome then .next s
    else .next ((((s.clearStep n).optStep n (s.sect n = 0)).optNext).clearNext)

/-- ERASE_SUSPEND (R410). -/
def execEraseSuspend (src : Src) (a : Nat) (s : State) : Answer := s.powered <| .next (s.flashBy src 3 0 a 0 0)

/-- ERASE_RESUME (R410). -/
def execEraseResume (src : Src) (a : Nat) (s : State) : Answer := s.powered <| .next (s.flashBy src 4 0 a 0 0)

/-- BLANK_CHECK (R406). -/
def execBlankCheck (src : Src) (a : Nat) (s : State) : Answer := s.powered <| .next (s.flashBy src 5 0 a 0 0)

/-- MARGIN_READ (R406): `diff` bits differ from a normal read. -/
def execMarginRead (src : Src) (a : Nat) (margin : Fin 4) (diff : Fin 73) (s : State) : Answer :=
  s.powered <|
  .next (s.flashBy src 6 margin a 0 diff)

/-- FLASH_BANK_READ (R403, R404, R411). -/
def execFlashBankRead (u : Sys2Proof.WardenUnit) (a : Fin 0x1400000) (fetch : Bool) (e : SecDed) (s : State) : Answer :=
  s.powered <|
  .next (s.bankRead (match u with | .a => 0 | .b => 1) a fetch e)

/-- OPTION_WRITE (R426). -/
def execOptionWrite (p : Pkt) (s : State) : Answer := .next (optionWriteOp.command p s)

/-- OPTION_STAGING_TIMEOUT (R426): 10 s without an accepted chunk. -/
def execOptionStagingTimeout (s : State) : Answer :=
  s.powered <|
  match s.flash.stage with
  | some g =>
    if s.flash.job.isNone && s.elapsed g.since 10000000 then .next (s.updFlash fun x => { x with stage := none }) else .next s
  | none => .next s

/-- FLASH_READ (R427). -/
def execFlashRead (p : Pkt) (s : State) : Answer := .next (flashReadOp.command p s)

end Sys2Proof.Machine
end

