-- ==== Sys2Proof/Machine/DeckCommands.lean ====
section
/-! DEFINITION. The commands of the Deck (spec/08_deck.md): NAND operations, lost channels, compaction, refresh Keystones,
the governor and formats. The commit of a Keystone stands in Resets.lean, with what its commit sets off. -/

namespace Sys2Proof.Machine

/-- Is the write-enable gate of a NAND channel open (R375)? -/
def State.gateOpen (s : State) (n : Nat) : Bool := bitAt (s.get (Reg.GUARD_OUT_OUT 3)) n

/-- NAND_PROGRAM_START (R47, R79, R292): a PROGRAM budget of a channel, at a slot of one of its windows; a budget that finds no free die with
work lapses; a closed write-enable gate lets nothing start (R375). -/
def execNandProgramStart (x : NandSlot) (s : State) : Answer :=
  s.powered <|
  let n := x.chan
  let s := (s.at x.slot).placeWaiting
  if !(s.gateOpen n) then .next s else
  match s.windowFor n .program with
  | none => .next s
  | some w => match s.pickDie n w (s.programWork n) with
    | some (d, k) => .next (s.startOp n w d k 77)
    | none => .next s

/-- NAND_PROGRAM_DONE (R286, R245, R307): the program on a die ends, with its status and its time in 0.1 µs. -/
def execNandProgramDone (n : Fin 16) (die : Fin 8) (ok : Bool) (time : Nat) (s : State) : Answer :=
  s.powered <|
  .next (s.programDone n die ok time)

/-- NAND_READ_START (R258, R284, R292): touch fetches, background restore, compaction, then patrol, its own retries first. -/
def execNandReadStart (x : NandSlot) (s : State) : Answer :=
  s.powered <|
  let n := x.chan
  let s := s.at x.slot
  match s.windowFor n .read with
  | none => .next s
  | some w =>
    let s := (s.bgTake n (s.freeIn n w)).gcTake
    match s.readWork n (s.freeIn n w) with
    | some (d, k) => .next (s.startOp n w d k 12)
    | none => match s.pickDie n w (s.patrolRetry n) with
      | some (d, k) => .next (s.startOp n w d k 12)
      | none => match s.pickDie n w fun d => (s.patrolNext n d).map (·.2) with
        | some (d, k) => .next ((s.startOp n w d k 12).patrolStep (((s.patrolNext n d).map (·.1)).getD 0))
        | none => .next s

/-- NAND_READ_DONE (R284, R307): the most corrected bits in a codeword, or none where a codeword of the share, or its segment header,
does not decode at this retry level. -/
def execNandReadDone (n : Fin 16) (die : Fin 8) (bits : Option (Fin 41)) (s : State) : Answer :=
  s.powered <|
  .next (s.readDone n die bits)

/-- NAND_ERASE_START (R265, R293): no erase starts while a tile is ABSENT, nor through a closed gate (R375). -/
def execNandEraseStart (x : NandSlot) (s : State) : Answer :=
  s.powered <|
  let n := x.chan
  let s := s.at x.slot
  if s.anyAbsent || !(s.gateOpen n) then .next s else
    match s.windowFor n .erase with
    | none => .next s
    | some w => match s.pickDie n w fun d => s.ringWork n d <|> (s.eraseWork n d).map NandWork.band with
      | some (d, .band b) => .next ((s.beginErase b).startOp n w d (.band b) 2052)
      | some (d, k) => .next (s.startOp n w d k 2052)
      | none => .next s

/-- The wear tables are kept; a format whose NEEDED bands are erased may end (R311). -/
def State.formatReady (s : State) : Bool :=
  s.get Reg.DECK_STAT_STATE = 4 && decide (s.neededBands ≤ s.erasedBands)

/-- NAND_ERASE_DONE (R293, R307, R285). -/
def execNandEraseDone (n : Fin 16) (die : Fin 8) (ok : Bool) (s : State) : Answer :=
  s.powered <|
  .next ((s.eraseDone n die ok).updSaveRate false)

/-- NAND_CHANNEL_FAIL (R289): the cause that arose takes effect at a downbeat; that the named die no longer answers is such a cause. -/
def execNandChannelFail (n : Fin 16) (noAnswer : Option (Fin 8)) (s : State) : Answer :=
  s.engines <|
  if !(s.nchUp n) then .next s
  else
    let s := match noAnswer with
      | some d => (s.setBit (Reg.NCH_STAT_DIE_FAIL n) d true).updNch n fun x => { x with failNext := x.failNext <|> some 3 }
      | none => s
    match (s.nch n).failNext with
    | some cause => if s.atDownbeat then .next (s.failNand n cause) else .next s
    | none => .next s

/-- COMPACTION_SHARE_MOVE (R289, R293). -/
def execCompactionShareMove (s : State) : Answer :=
  s.engines <|
  if s.get Reg.DECK_STAT_STATE ≠ 2 then .next s else .next s.moveShare

/-- REFRESH_KEYSTONE (R295): at a downbeat. -/
def execRefreshKeystone (s : State) : Answer := s.engines <| if s.atDownbeat && s.refreshDue then .next s.beginRefresh else .next s

/-- GOVERNOR_RECOMPUTE (R308): every 65,536 phrases. -/
def execGovernorRecompute (s : State) : Answer :=
  s.engines <|
  if s.phraseStart && decide (s.deck.govPhrase + 65536 ≤ s.bar / 256) then .next s.govern else .next s

/-- NCH_RETIRE (R310). -/
def execNchRetire (p : Pkt) (s : State) : Answer := .next (nchRetireOp.command p s)

/-- DECK_FORMAT (R311). -/
def execDeckFormat (p : Pkt) (s : State) : Answer := .next (deckFormatOp.command p s)

/-- IMAGE_LIST (R313). -/
def execImageList (p : Pkt) (s : State) : Answer := .next (imageListOp.command p s)

/-- DECK_STATUS (R486). -/
def execDeckStatus (p : Pkt) (s : State) : Answer := .next (deckStatusOp.command p s)

end Sys2Proof.Machine
end

