-- ==== Sys2Proof/Machine/DramCommands.lean ====
section
/-! DEFINITION. The commands of the DRAM engine (spec/04_dram_engine.md). -/

namespace Sys2Proof.Machine

/-- The controller plays a table and its ranks are not in self-refresh: it carries out maintenance (R122, R143). -/
def State.maintains (s : State) (c : Nat) : Bool :=
  decide (chInService ≤ s.chState c) && s.chState c ≠ chFailed && !(s.flag (Reg.DCH_STAT_SELF_REFRESH c))

/-- The maintenance that falls due at a downbeat enters the MAINT work of each channel: a temperature read each sequencer tick, ZQ
calibration every 128 phrases and DQS oscillator tracking every 16 (R120, R127). -/
def State.maintDue (s : State) : State :=
  s.each (channels.filter s.maintains) fun s c =>
    let s := if s.bar % 64 = 0 then s.addMaint c .temp else s
    let s := if (s.ch c).zqBar + 32768 ≤ s.bar then (s.addMaint c .zq).updCh c fun x => { x with zqBar := s.bar } else s
    if (s.ch c).dqsBar + 4096 ≤ s.bar then (s.addMaint c .dqs).updCh c fun x => { x with dqsBar := s.bar } else s

/-- TEMPERATURE_READ (R120): the MRR read that MAINT slots have issued answers. -/
def execTemperatureRead (c : Fin 8) (readings : List TempReading) (s : State) : Answer :=
  s.engines <|
  if s.hasTask c (.maint .temp) then .next ((s.takeTask c (.maint .temp)).tempRead c readings) else .next s

/-- TEMPERATURE_STALE (R121): a channel that has completed no read for 256 bars shows VALID 0; one in service then reports above
85 °C. -/
def execTemperatureStale (c : Fin 8) (slot : Fin 6240) (s : State) : Answer :=
  s.engines <|
  let s := s.at slot
  if decide (chInService ≤ s.chState c) && !(s.ch c).stale && !(s.flag (Reg.DCH_STAT_SELF_REFRESH c))
      && decide ((s.ch c).tempSlot + 256 * 6240 ≤ s.now) then
    let s := (s.set (Reg.DCH_TEMP_VALID c) 0).updCh c fun x => { x with stale := true }
    .next (if s.serving c then (s.raise (srcDram c 5) [d1 (s.get (Reg.DCH_TEMP_TEMP_C c))]).updHot c else s)
  else .next s

/-- DRAM enters self-refresh at a downbeat at which no channel has debt; until then the wait of R60 is open, and no pressed window begins
to play (R122). -/
def State.selfRefreshOn (s : State) : State :=
  if s.anyDebt || !s.atDownbeat then
    let s := s.updSeq fun q => { q with selfRefreshWait := true, selfRefreshExit := false }
    if s.atDownbeat then s.replan else s
  else
    let s := s.updSeq fun q => { q with selfRefreshWait := false, selfRefreshExit := false }
    let s := (s.set (Reg.GUARD_OUT_OUT 2) 1).set (Reg.GUARD_OUT_HW 2) 0
    s.each (channels.filter fun c => decide (chInService ≤ s.chState c) && s.chState c ≠ chFailed) fun s c =>
      s.set (Reg.DCH_STAT_SELF_REFRESH c) 1

/-- Self-refresh ends at a downbeat; the first temperature read falls within the first sequencer tick (R122). -/
def State.selfRefreshOff (s : State) : State :=
  let s := s.updSeq fun q => { q with selfRefreshWait := false }
  let dozing := channels.filter fun c => s.flag (Reg.DCH_STAT_SELF_REFRESH c)
  if !s.atDownbeat then s.updSeq fun q => { q with selfRefreshExit := !dozing.isEmpty }
  else
    let s := s.updSeq fun q => { q with selfRefreshExit := false }
    let s := (s.set (Reg.GUARD_OUT_OUT 2) 0).set (Reg.GUARD_OUT_HW 2) 0
    s.each dozing fun s c => (s.set (Reg.DCH_STAT_SELF_REFRESH c) 0).addMaint c .temp

/-- In D1 or D2, whose DRAM the active warden has in self-refresh (R122, R530)? -/
def State.dozing (s : State) : Bool := s.get Reg.SYS_PWR_STATE_STATE = 2 || s.get Reg.SYS_PWR_STATE_STATE = 3

/-- SELF_REFRESH_ENTRY (R122, R375): for D1 and deeper states, by the active warden. -/
def execSelfRefreshEntry (s : State) : Answer :=
  s.powered <|
  if s.get Reg.WARDEN_STAT_ACTIVE ≠ 0 && s.dozing && !s.saving then .next s.selfRefreshOn else .next s

/-- SELF_REFRESH_EXIT (R122, R375): once those states are left. -/
def execSelfRefreshExit (s : State) : Answer :=
  s.engines <|
  if s.get Reg.WARDEN_STAT_ACTIVE ≠ 0 && !s.dozing then .next s.selfRefreshOff else .next s

/-- ZQ_CALIBRATION (R127): the calibration that MAINT slots have issued completes. -/
def execZqCalibration (c : Fin 8) (s : State) : Answer := s.engines <| .next (s.takeTask c (.maint .zq))

/-- DQS_OSCILLATOR_TRACKING (R127): the tracking that MAINT slots have issued completes. -/
def execDqsOscillatorTracking (c : Fin 8) (s : State) : Answer := s.engines <| .next (s.takeTask c (.maint .dqs))

/-- DRAM_TRAINING_DONE (R123 to R125, R140, R141): a channel in TRAINING, or RETURNING and not yet trained. -/
def execDramTrainingDone (c : Fin 8) (o : TrainOutcome) (s : State) : Answer :=
  s.engines <|
  if s.chState c = chTraining || (s.chState c = chReturning && !(s.ch c).trained) then
    let s := s.trainEnd c o
    let s := if s.chState c = chReturning && (s.ch c).trained then
        s.updCh c fun x => { x with work := { x.work with
          jobs := x.work.jobs ++ [⟨.zero, none, (s.framesPerChannel - x.retired.length) * 65536⟩] } }
      else s
    .next s.updOffline
  else .next s

/-- TRAINING_SEED_WRITE (R126): after start-up, in the background, not during a save; what is due of a channel's training record goes to
its older slot. -/
def execTrainingSeedWrite (x : SeedWrite) (s : State) : Answer :=
  s.engines <|
  if ((s.ch x.chan).seedNew.isSome || (s.ch x.chan).recordDue) && !s.saving && s.get Reg.SYS_STATE_STEP = 15 then
    .next (s.writeTraining x.chan x.ok)
  else .next s

/-- PATROL_READ (R136, R137): the patrol read that a quad has issued returns. -/
def execPatrolRead (c : Fin 8) (e : LineRead) (s : State) : Answer :=
  s.engines <|
  if s.hasTask c .patrol then .next (((s.takeTask c .patrol).patrol c e).updSys fun x => { x with patrolBar := s.bar }) else .next s

/-- SCRUB_WRITEBACK (R131, R137). -/
def execScrubWriteback (c : Fin 8) (s : State) : Answer := s.engines <| .next (s.writeback c)

/-- SCRUB_SET (R139). -/
def execScrubSet (p : Pkt) (s : State) : Answer := .next (scrubSetOp.command p s)

/-- DCH_STATUS (R484). -/
def execDchStatus (p : Pkt) (s : State) : Answer := .next (dchStatusOp.command p s)

/-- DCH_OFFLINE (R144). -/
def execDchOffline (p : Pkt) (s : State) : Answer := .next (dchOfflineOp.command p s)

/-- RELOCATION_TILE_COPY (R145): the walk of a relocating channel takes its next tile. -/
def execRelocationTileCopy (x : WalkRead) (s : State) : Answer :=
  s.engines <|
  if s.chState x.chan = chRelocating then .next (s.relocStep x.chan x.errs) else .next s

/-- RELOCATION_TILE_SWITCH (R145): at a downbeat. -/
def execRelocationTileSwitch (c : Fin 8) (s : State) : Answer :=
  s.engines <|
  if s.chState c = chRelocating && s.atDownbeat then .next (s.relocSwitch c) else .next s

/-- RELOCATION_DONE (R147): at a downbeat, nothing mapped is left and the channel's debt is 0. -/
def execRelocationDone (c : Fin 8) (s : State) : Answer :=
  s.engines <|
  if s.chState c = chRelocating && s.atDownbeat && (s.mappedFrames c).isEmpty && s.debt c = 0 then .next (s.relocDone c) else .next s

/-- DCH_ONLINE (R149). -/
def execDchOnline (p : Pkt) (s : State) : Answer := .next (dchOnlineOp.command p s)

/-- CHANNEL_RETURN_DONE (R149): trained and zeroed, at a downbeat with zero debt. -/
def execChannelReturnDone (c : Fin 8) (s : State) : Answer :=
  s.engines <|
  if s.chState c = chReturning && s.atDownbeat && (s.ch c).trained && (s.jobOf c .zero).isNone && s.debt c = 0 then
    .next (s.returnDone c)
  else .next s

/-- DRAM_CHANNEL_FAIL (R150): a cause that arose in a bar takes effect at the next downbeat. -/
def execDramChannelFail (c : Fin 8) (s : State) : Answer :=
  s.engines <|
  match (s.ch c).failNext with
  | some (cause, b) => if s.serving c && s.atDownbeat && decide (b < s.bar) then .next (s.failChannel c cause) else .next s
  | none => .next s

end Sys2Proof.Machine
end

