-- ==== Sys2Proof/Machine/Wardens.lean ====
section
/-! DEFINITION. Wardens, claims, guard latches, tolls, handover and firmware updates (spec/11_wardens.md R373 to R400). -/

namespace Sys2Proof.Machine

def WardenUnit.num : Sys2Proof.WardenUnit → Nat
  | .a => 0
  | .b => 1

def State.updWarden (s : State) (f : WardenState → WardenState) : State := { s with warden := f s.warden }

def State.unit (s : State) (u : Nat) : WardenUnitState := s.warden.units.getD u .init

def State.updUnit (s : State) (u : Nat) (f : WardenUnitState → WardenUnitState) : State :=
  s.updWarden fun w => { w with units := setAt 2 .init w.units u (f (s.unit u)) }

/-- The states of WARDEN_STAT (R397). -/
def unitOff : Nat := 0
def unitBooting : Nat := 1
def unitStandby : Nat := 2
def unitActive : Nat := 3
def unitUpdate : Nat := 4
def unitFailed : Nat := 5

def unitState (u : Nat) : Field := if u = 0 then Reg.WARDEN_STAT_A_STATE else Reg.WARDEN_STAT_B_STATE
def unitTollOk (u : Nat) : Field := if u = 0 then Reg.WARDEN_STAT_TOLL_A_OK else Reg.WARDEN_STAT_TOLL_B_OK
def unitMiss (u : Nat) : Field := if u = 0 then Reg.WARDEN_TOLL_MISS_A else Reg.WARDEN_TOLL_MISS_B
def unitRev (u : Nat) : Field := if u = 0 then Reg.WARDEN_A_INFO_FW_REV else Reg.WARDEN_B_INFO_FW_REV
def unitBoots (u : Nat) : Field := if u = 0 then Reg.WARDEN_A_INFO_BOOTS else Reg.WARDEN_B_INFO_BOOTS
def unitTest (u : Nat) : Field := if u = 0 then Reg.WARDEN_A_INFO_SELF_TEST else Reg.WARDEN_B_INFO_SELF_TEST
def unitRank (u : Nat) : Field := if u = 0 then Reg.WARDEN_CTL_RANK_A else Reg.WARDEN_CTL_RANK_B

def latches : List Nat := List.range 5

def State.phrase (s : State) : Nat := s.bar / 256

/-- "A save or restore in progress, or start-up not finished" (R393). -/
def State.unsettled (s : State) : Bool := s.saving || s.restoring || s.get Reg.SYS_STATE_STEP ≠ 15

/-! ### Claims and latches (R377 to R382) -/

def State.claimOf (s : State) (n : Nat) : Nat := s.get (Reg.GUARD_HOLDER_CLAIM n)

/-- A claim number: rank, epoch and unit (R377). -/
def claimNumber (rank epoch unit : Nat) : Nat := rank * 16384 + epoch * 2 + unit

def claimEpoch (k : Nat) : Nat := bitsAt k 1 13
def claimUnit (k : Nat) : Nat := k % 2

/-- The highest epoch in the HOLDER and PREV fields of the latches (R377). -/
def State.highEpoch (s : State) : Nat :=
  (latches.flatMap fun n => [claimEpoch (s.claimOf n), claimEpoch (s.get (Reg.GUARD_HOLDER_PREV n))]).foldl max 0

/-- The common holder of the five latches: 0 none, 1 A, 2 B (R382). -/
def State.commonHolder (s : State) : Nat :=
  let k := s.claimOf 0
  if k ≠ 0 && latches.all (fun n => s.claimOf n = k) then claimUnit k + 1 else 0

/-- WARDEN_STAT.ACTIVE follows the latches (R382; notes/assumptions/44.md). The event summary starts afresh when the active
warden goes, so that the next one counts the events of the takeover too (R443). -/
def State.updActive (s : State) : State :=
  let old := s.get Reg.WARDEN_STAT_ACTIVE
  if old = s.commonHolder then s
  else
    let s := s.set Reg.WARDEN_STAT_ACTIVE s.commonHolder
    if old = 0 then s else { s with recorder := { s.recorder with wardenEvents := 0 } }

def State.refuseLatch (s : State) (n : Nat) : State := s.count (Reg.GUARD_LEASE_REFUSED n)

/-- A unit claims: it offers its new claim number to every latch (R377, R378). -/
def State.claimAll (s : State) (u cause : Nat) : State :=
  let e := s.highEpoch + 1
  let s := s.when (decide (8191 < e)) fun s => s.raise 0x02F [d1 u]
  let k := claimNumber (s.get (unitRank u)) (min e 8191) u
  let s := s.updUnit u fun x => { x with claiming := cause, claim := k }
  s.updWarden fun w => { w with offers := w.offers ++ latches.map fun n => (⟨n, k, s.bar⟩ : ClaimOffer) }

/-- A claim arrives at a latch on a unit's bus (R378). -/
def State.offerClaim (s : State) (u n claim : Nat) : State :=
  if claimUnit claim ≠ u || (s.unit u).held then s.refuseLatch n
  else
    let new := (s.unit u).claim ≠ claim
    let s := s.when (new && claimEpoch claim = 8191 && s.highEpoch = 8191) fun s => s.raise 0x02F [d1 u]
    let s := s.updUnit u fun x => { x with
      claim := claim
      claiming := if x.claiming = 0 then (if s.get (unitState u) = unitBooting then 1 else 2) else x.claiming }
    s.updWarden fun w => { w with offers := w.offers ++ [(⟨n, claim, s.bar⟩ : ClaimOffer)] }

/-- One latch keeps the largest of its claim and those offered; every other offer is refused (R378). -/
def State.resolveLatch (s : State) (n : Nat) (offered : List Nat) : State :=
  let cur := s.claimOf n
  let best := offered.foldl max cur
  let lost := (offered.filter fun k => k ≠ best || k = cur).length
  let s := s.count (Reg.GUARD_LEASE_REFUSED n) lost
  if best = cur then s
  else
    let s := if cur = 0 then s else s.set (Reg.GUARD_HOLDER_PREV n) cur
    ((s.set (Reg.GUARD_HOLDER_CLAIM n) best).set (Reg.GUARD_LEASE_COUNT n) 0).set (Reg.GUARD_LEASE_MISSED n) 0

/-- The claims offered before this bar are resolved (R378, R387). -/
def State.resolveClaims (s : State) : State :=
  let due := s.warden.offers.filter fun o => decide (o.bar < s.bar)
  let s := s.updWarden fun w => { w with offers := w.offers.filter fun o => !(decide (o.bar < s.bar)) }
  (s.each latches fun s n => s.resolveLatch n ((due.filter fun o => o.latch = n).map (·.claim))).updActive

/-- Every latch shows HOLDER 0. -/
def State.latchesFree (s : State) : Bool := latches.all fun n => s.claimOf n = 0

/-- A warden that has passed its self-test claims, or stands by where a latch is held (R388). -/
def State.bootClaim (s : State) (u : Nat) : State :=
  let s := s.updUnit u fun x => { x with booted := false }
  if s.latchesFree then s.claimAll u 1 else s.set (unitState u) unitStandby

/-- The wardens that passed claim at a phrase start; both find what stood before either claims (R388). -/
def State.bootClaims (s : State) : State :=
  if s.phraseStart then s.each ([0, 1].filter fun u => (s.unit u).booted) State.bootClaim else s

/-- A refresh (R378): only the holder's own claim counts. -/
def State.refreshLatch (s : State) (u n claim : Nat) : State :=
  if claim = 0 || claimUnit claim ≠ u || s.claimOf n ≠ claim || (s.unit u).held then s.refuseLatch n
  else
    let s := (s.bump (Reg.GUARD_LEASE_COUNT n)).set (Reg.GUARD_LEASE_MISSED n) 0
    s.updWarden fun w => { w with refreshed := n :: w.refreshed }

/-- A latch gives up its claim, which moves into PREV (R379, R382). -/
def State.freeLatch (s : State) (n : Nat) : State :=
  if s.claimOf n = 0 then s
  else (s.set (Reg.GUARD_HOLDER_PREV n) (s.claimOf n)).set (Reg.GUARD_HOLDER_CLAIM n) 0

/-- A unit releases every latch it holds (R382, R393). -/
def State.releaseLatches (s : State) (u : Nat) : State :=
  (s.each (latches.filter fun n => s.claimOf n ≠ 0 && claimUnit (s.claimOf n) = u) State.freeLatch).updActive

/-- The commands that a latch refuses while a save runs (R381). -/
def State.saveRefuses (s : State) (n out : Nat) : Bool :=
  between 1 4 s.saveState && (match n with
    | 2 => out % 2 = 1
    | 3 => nandChannels.any fun c => s.gateOpen c && !(bitAt out c) && s.nchServing c
    | 4 => out % 2 = 1
    | _ => true)

/-- A command sets a latch output (R375, R376). A trigger cause starts a save or joins the one latched before it (R230, R232); bit 0 of RAIL arms the power-up of
start-up step 4 (R347); SELF_REFRESH moves the DRAM (R122); an open disconnect takes the pack's energy away. -/
def State.latchOutput (s : State) (n out : Nat) : State :=
  let put := fun (s : State) (v : Nat) => (s.set (Reg.GUARD_OUT_OUT n) v).set (Reg.GUARD_OUT_HW n) 0
  match n with
  | 0 =>
    let c := out % 16
    let s := if s.get (Reg.GUARD_OUT_OUT 0) = 0 then put s c else s
    if [2, 3, 6, 7].contains c then s.latchSave c false else s
  | 1 =>
    let arms := out % 2 = 1 && s.get (Reg.GUARD_OUT_OUT 1) % 2 = 0 && s.seqState = seqNotStarted
      && s.get Reg.SYS_STATE_STEP = 4
    put (if arms then s.armPower false else s) (out % 4)
  | 2 => if out % 2 = 1 then s.selfRefreshOn else s.selfRefreshOff
  | 3 => put s out
  | _ => (put s (out % 2)).publishPack

/-- A command to a latch (R378, R381). No command clears a latched save trigger before its save ends (R230); one that tries outside
STATE 1 to 4 counts as refused, without 0x02C, and so does one that would close the pack disconnect after a trip (R339; DESIGN CHOICE,
notes/assumptions/82.md). -/
def State.commandLatch (s : State) (u n claim out : Nat) : State :=
  if claim = 0 || claimUnit claim ≠ u || s.claimOf n ≠ claim || (s.unit u).held then s.refuseLatch n
  else if s.saveRefuses n out then (s.refuseLatch n).raise 0x02C [d1 n, d2 out]
  else if n = 0 && out % 16 = 0 && s.get (Reg.GUARD_OUT_OUT 0) ≠ 0 then s.refuseLatch n
  else if n = 4 && out % 2 = 0 && s.pack.tripped then s.refuseLatch n
  else s.latchOutput n out

/-- One latch at a phrase start: a phrase without a refresh counts, and at 4 the latch lapses (R379). -/
def State.leaseLatch (s : State) (n : Nat) : State :=
  if s.claimOf n = 0 || s.warden.refreshed.contains n then s
  else
    let s := s.count (Reg.GUARD_LEASE_MISSED n)
    if s.get (Reg.GUARD_LEASE_MISSED n) < 4 then s
    else (s.raise 0x022 [d1 n, d2 (s.claimOf n)]).freeLatch n

/-- The check of every latch, once at each phrase start (R379). -/
def State.checkLeases (s : State) : State :=
  if !s.phraseStart || s.warden.leaseAt = s.phrase + 1 then s
  else
    let s := (s.each latches State.leaseLatch).updActive
    s.updWarden fun w => { w with refreshed := [], leaseAt := s.phrase + 1 }

/-! ### Tolls (R383, R384, R557) -/

/-- One bit into CRC-8 with polynomial 0x07. -/
def crc8Bit (c : Nat) (b : Bool) : Nat :=
  if decide (128 ≤ c) != b then Nat.xor (c * 2 % 256) 7 else c * 2 % 256

/-- CRC-8 over bits [55:0], bit 55 first (notes/assumptions/45.md). -/
def crc8 (v : Nat) : Nat := (List.range 56).foldl (fun c i => crc8Bit c (bitAt v (55 - i))) 0

/-- A warden whose firmware runs: it sends and receives tolls. -/
def State.unitRuns (s : State) (u : Nat) : Bool :=
  !(s.unit u).held && [unitStandby, unitActive, unitFailed].contains (s.get (unitState u))

/-- The toll frame of a unit in this phrase (R383). -/
def State.tollFrame (s : State) (u : Nat) : Nat :=
  let body := 0xA5 + u * 2 ^ 8 + s.get Reg.WARDEN_STAT_REVERT_HELD * 2 ^ 11 + bit (s.unit u).pass * 2 ^ 12
    + s.get (unitState u) * 2 ^ 13 + min 65535 (s.unit (1 - u)).good * 2 ^ 16 + s.phrase % 65536 * 2 ^ 32
    + s.get (unitRev u) % 256 * 2 ^ 48
  body + crc8 body * 2 ^ 56

/-- Is a frame from unit `u` a good toll (R383, R557)? -/
def State.tollGood (s : State) (u frame : Nat) : Bool :=
  let ph := bitsAt frame 32 16
  frame % 256 = 0xA5 && bitsAt frame 8 1 = u && frame / 2 ^ 56 = crc8 (frame % 2 ^ 56)
    && (ph = s.phrase % 65536 || (ph + 1) % 65536 = s.phrase % 65536) && decide (s.bar % 256 ≤ 3)

/-- A toll from unit `u` is missed, one in a phrase (R384). A unit in UPDATE raises nothing (R394). -/
def State.missToll (s : State) (u : Nat) : State :=
  if !(s.unitRuns (1 - u)) || (s.unit u).goodAt = s.phrase + 1 || (s.unit u).missedAt = s.phrase + 1 then s
  else
    let s := (s.count (unitMiss u)).set Reg.WARDEN_TOLL_GOOD_RUN 0
    let s := s.updUnit u fun x => { x with missed := x.missed + 1, good := 0, missedAt := s.phrase + 1 }
    if (s.unit u).missed < 4 || (s.unit u).failedAt ≠ 0 then s
    else
      let s := (s.updUnit u fun x => { x with failedAt := s.phrase + 1 }).set (unitTollOk u) 0
      if (s.unit u).held then s else s.raise 0x023 [d1 u]

/-- A direction comes back after 16 good tolls (R384); with both back, LINK_FAULT ends (R385). -/
def State.restoreToll (s : State) (u : Nat) : State :=
  let x := s.unit u
  if x.failedAt = 0 then s.set (unitTollOk u) 1
  else if x.good < 16 then s
  else
    let s := (s.raise 0x024 [d1 u, d4 (s.phrase + 1 - x.failedAt)]).set (unitTollOk u) 1
    let s := s.updUnit u fun x => { x with failedAt := 0 }
    let s := s.updUnit (1 - u) fun x => { x with silent := false, stopped := false, counts := [] }
    if (s.unit (1 - u)).failedAt = 0 then s.set Reg.WARDEN_STAT_LINK_FAULT 0 else s

/-- A good toll from unit `u` (R383, R384). -/
def State.goodToll (s : State) (u frame : Nat) : State :=
  let s := s.updUnit u fun x => { x with
    missed := 0, good := min 65535 (x.good + 1), goodAt := s.phrase + 1
    rxRun := bitsAt frame 16 16, tollState := bitsAt frame 13 3, tollRev := bitsAt frame 48 8, tollTest := bitAt frame 12 }
  let s := s.restoreToll u
  let both := (s.unit 0).goodAt = s.phrase + 1 && (s.unit 1).goodAt = s.phrase + 1
  let ok := s.flag Reg.WARDEN_STAT_TOLL_A_OK && s.flag Reg.WARDEN_STAT_TOLL_B_OK
  if both && ok then s.count Reg.WARDEN_TOLL_GOOD_RUN else s

/-! ### A silent partner (R385) -/

/-- The COUNT of every latch. -/
def State.latchCounts (s : State) : List Nat := latches.map fun n => s.get (Reg.GUARD_LEASE_COUNT n)

/-- A unit holds some latch. -/
def State.holdsLatch (s : State) (u : Nat) : Bool := latches.any fun n => s.claimOf n ≠ 0 && claimUnit (s.claimOf n) = u

/-- What the unit concludes from the COUNT readings; the first reading concludes nothing. -/
def State.judgePartner (s : State) (u : Nat) (before : List Nat) (fresh : Bool) : State :=
  let now := s.latchCounts
  let p := 1 - u
  if !fresh then s
  else if !(s.holdsLatch p) then
    if (s.unit u).silent then s
    else (s.updUnit u fun x => { x with silent := true }).raise 0x025 (d1 1 :: now.map d2)
  else if before ≠ now then
    if s.flag Reg.WARDEN_STAT_LINK_FAULT then s else (s.set Reg.WARDEN_STAT_LINK_FAULT 1).raise 0x025 (d1 2 :: now.map d2)
  else if (s.unit u).stopped then s
  else (s.updUnit u fun x => { x with stopped := true }).raise 0x026 [d1 p, d2 (now.getD 0 0)]

/-- A unit whose partner's direction has failed reads the latches at a phrase start; once the partner has stopped, it claims as
soon as every latch is free (R385). -/
def State.checkPartner (s : State) (u : Nat) : State :=
  let x := s.unit u
  let p := 1 - u
  let runs := s.get (unitState u) = unitStandby || s.get (unitState u) = unitActive
  if !s.phraseStart || !runs || x.held || (s.unit p).failedAt = 0 || (s.unit p).held || x.checkedAt = s.phrase + 1 then s
  else if x.stopped && s.latchesFree then
    (s.updUnit u fun x => { x with stopped := false, counts := [], checkedAt := s.phrase + 1 }).claimAll u 2
  else
    let s := s.judgePartner u x.counts (x.checkedAt = s.phrase && !x.counts.isEmpty)
    s.updUnit u fun y => { y with counts := s.latchCounts, checkedAt := s.phrase + 1 }

/-! ### Firmware images (R502) and updates (R394 to R396) -/

def bankBase (u : Nat) : Nat := u * 0x800000

/-- A warden image fails its check: header, R94 signature block in slot 0 under the Azinador firmware key, and SEC_VERSION
(R500, R502). -/
def State.imageBad (s : State) (u : Nat) : Bool :=
  let b := bankBase u
  let n := s.flashNat (b + 0x10) 4
  let g := b + n - 176
  let v := s.flashNat (b + 8) 1
  s.flashRead b 4 ≠ [0x4E#8, 0x46#8, 0x57#8, 0x49#8] || s.flashNat (b + 4) 2 ≠ 1
    || decide (n < 176 + 64) || decide (0x800000 < n) || s.flashRead g 4 ≠ [0x4E#8, 0x53#8, 0x49#8, 0x47#8]
    || s.flashNat (g + 4) 1 ≠ 0 || Config.sha384 (s.flashRead b (n - 176)) ≠ s.flashRead (g + 0x10) 48
    || !(Config.ecdsaVerify Config.azFirmwareKey (s.flashRead b (n - 176 + 0x40)) (s.flashRead (g + 0x40) 96))
    || decide (63 < v) || decide (v < s.get Reg.SEC_FW_MIN_SV)

/-- A failed firmware signature (R500). -/
def State.firmwareFails (s : State) : State := (s.count Reg.SEC_SIG_FAIL_FIRMWARE).raise 0x1FF [d1 0, d1 0]

/-- The partner of the active warden; B where none is active. -/
def State.standby (s : State) : Nat := if s.get Reg.WARDEN_STAT_ACTIVE = 2 then 0 else 1

/-- The states of WARDEN_FW (R398). -/
def fwIdle : Nat := 0
def fwLoading : Nat := 1
def fwBooting : Nat := 3
def fwFailed : Nat := 4

def wardenFw : Nat := 0xD001C

/-- What 0x02E reports: 0 begun, 1 done, 2 signature, 3 time-out, 4 abandoned (DESIGN CHOICE, notes/assumptions/46.md). -/
def State.fwEvent (s : State) (rev result : Nat) : State := s.raise 0x02E [d1 s.standby, d4 rev, d1 result]

/-- FW_UPDATE_BEGIN (R394). A unit left in reset by an abandoned update is still the standby (R396). -/
def opFwUpdateBegin (p : Pkt) (s : State) : OpResult :=
  let u := s.standby
  let st := s.get (unitState u)
  let other := match s.warden.update with
    | some x => decide (x.src ≠ p.src) || x.finish.isSome
    | none => false
  if !(p.genOk (s.get Reg.WARDEN_GEN_GEN)) then .refuse s stStale
  else if !(st = unitStandby || st = unitUpdate) || s.saving || s.restoring || other then .refuse s stForbids
  else if p.u32 0 = 0 || decide (0x800000 < p.u32 0) then .refuse s stInvalid
  else
    let s := (s.updUnit u fun x => { x with held := true, pass := false, claiming := 0 }).set (unitState u) unitUpdate
    let s := s.each (List.range 2048) fun s i => s.eraseNow (bankBase u / 4096 + i)
    let s := s.updWarden fun w => { w with update := some ⟨p.src, p.u32 0, [], s.bar, p.u32 4, none⟩ }
    let s := ((s.set Reg.WARDEN_FW_STATE fwLoading).set Reg.WARDEN_FW_SOURCE (srcNum p.src)).set Reg.WARDEN_FW_BYTES 0
    let s := s.fwEvent (p.u32 4) 0
    .ok s (s.words [wardenFw])

/-- FW_UPDATE_DATA (R394, R489), under the rules of R99. -/
def opFwUpdateData (p : Pkt) (s : State) : OpResult :=
  let off := p.u32 0
  let data := p.params.drop 8
  match s.warden.update with
  | none => .refuse s stForbids
  | some x =>
    if x.src ≠ p.src || x.finish.isSome then .refuse s stForbids
    else if decide (x.length < off + data.length) || off % 16 ≠ 0
        || (data.length % 16 ≠ 0 && off + data.length ≠ x.length) then .refuse s stInvalid
    else
      let units := Store.setRange false x.units (off / 16) (List.replicate (ceilDiv data.length 16) true)
      let s := s.flashPut (bankBase s.standby + off) data
      let s := s.updWarden fun w => { w with update := some { x with units := units, since := s.bar } }
      let s := s.set Reg.WARDEN_FW_BYTES (min (16 * units.length) x.length)
      .ok s (s.words [wardenFw])

/-- The update is abandoned; the standby stays in reset (R394, R396). -/
def State.fwAbandon (s : State) : State :=
  match s.warden.update with
  | some x =>
    if x.finish.isSome then s
    else ((s.updWarden fun w => { w with update := none }).set Reg.WARDEN_FW_STATE fwIdle).fwEvent x.rev 4
  | none => s

/-- The update ends with a result: WARDEN_GEN increments, and an updated preferred unit may return (R395). -/
def State.fwEnd (s : State) (u rev st result : Nat) : State :=
  let s := ((s.updWarden fun w => { w with update := none }).bump Reg.WARDEN_GEN_GEN).set Reg.WARDEN_FW_STATE st
  let s := s.fwEvent rev result
  if s.get Reg.WARDEN_STAT_PREFERRED = u + 1 then s.set Reg.WARDEN_STAT_REVERT_HELD 0 else s

/-- A unit's island leaves reset and boots. -/
def State.bootUnit (s : State) (u : Nat) : State :=
  (s.updUnit u fun x => { WardenUnitState.init with missed := x.missed, failedAt := x.failedAt }).set (unitState u) unitBooting

/-- FW_UPDATE_END (R395): the reply to a verified image waits for the standby's toll. -/
def opFwUpdateEnd (p : Pkt) (s : State) : OpResult :=
  match s.warden.update with
  | none => .refuse s stForbids
  | some x =>
    let u := s.standby
    if x.src ≠ p.src || x.finish.isSome then .refuse s stForbids
    else if decide (16 * x.units.length < x.length) then .refuse s stInvalid
    else if s.imageBad u then
      .refuse ((s.firmwareFails.set (unitState u) unitFailed).fwEnd u x.rev fwFailed 2) stSignature
    else
      let s := (s.bootUnit u).set Reg.WARDEN_FW_STATE fwBooting
      ⟨s.updWarden fun w => { w with update := some { x with finish := some p, since := s.bar } }, stLater, []⟩

/-- The reply of FW_UPDATE_END, once the standby tolls with its new revision and a passed self-test (R395). -/
def State.fwToll (s : State) (u : Nat) : State :=
  match s.warden.update with
  | some x => match x.finish with
    | some p =>
      if u = s.standby && (s.unit u).tollTest && (s.unit u).tollRev = x.rev % 256 then
        let s := s.fwEnd u x.rev fwIdle 1
        s.answer p stOk (s.words [wardenFw] ++ leBytes 2 (s.get (unitRev u)) ++ leBytes 2 0)
      else s
    | none => s
  | none => s

/-! ### Readback, boot, return and handover (R382, R386 to R393) -/

/-- An update under way was another warden's: it is abandoned, and a packet of its end gets no reply (R390). -/
def State.fwDrop (s : State) : State :=
  (s.updWarden fun w => { w with update := w.update.map fun x => { x with finish := none } }).fwAbandon

/-- A claim is confirmed: the unit is active (R386). -/
def State.becomeActive (s : State) (u : Nat) : State :=
  let x := s.unit u
  let s := if x.claiming = 0 then s else s.raise 0x020 [d1 u, d2 x.claim, d1 x.claiming]
  let s := if s.get (unitState u) = unitActive then s else (s.set (unitState u) unitActive).fwDrop
  s.updUnit u fun x => { x with claiming := 0, tries := 0 }

/-- A unit becomes STANDBY, with 0x021 where it found a higher claim (R386, R389). -/
def State.standDown (s : State) (u found : Nat) (higher : Bool) : State :=
  let s := s.when higher fun s => s.raise 0x021 [d1 u, d2 found]
  (s.set (unitState u) unitStandby).updUnit u fun x => { x with claiming := 0, tries := 0, claim := 0 }

/-- Latches held by different claims: the unit whose claim is the lower releases every latch it holds, the other claims
again (R382). Two claims of one unit: it releases the latches and claims again. -/
def State.mixedHolders (s : State) (found : List Nat) : State :=
  let s := s.raise 0x02D (found.map d2)
  let top := found.foldl max 0
  let w := claimUnit top
  let l := 1 - w
  let cause := if (s.unit w).claiming = 0 then 2 else (s.unit w).claiming
  if found.any fun k => k ≠ 0 && claimUnit k = l then
    (((s.releaseLatches l).standDown l top (s.get (unitState l) ≠ unitOff)).claimAll w cause)
  else (s.releaseLatches w).claimAll w cause

/-- The readback of a unit (R386, R389). -/
def State.readback (s : State) (u : Nat) : State :=
  let own := (s.unit u).claim
  let found := latches.map s.claimOf
  let held := found.filter (· ≠ 0)
  if own ≠ 0 && found.all (· = own) then s.becomeActive u
  else if decide (1 < held.dedup.length) then s.mixedHolders found
  else if found.any fun k => decide (own < k) then s.standDown u (found.foldl max 0) true
  else if own = 0 || held.length = 5 then s.standDown u (found.foldl max 0) false
  else if (s.unit u).tries < 4 then
    (s.updUnit u fun x => { x with tries := x.tries + 1 }).claimAll u (max 1 (s.unit u).claiming)
  else
    let s := (s.raise 0x02D (found.map d2)).releaseLatches u
    let s := s.standDown u 0 false
    if s.get (unitState (1 - u)) = unitStandby then s.claimAll (1 - u) 2 else s

/-- A warden finishes booting with the result of its self-test (R388): FW_REV and SEC_VERSION are those of its bank. At a phrase start
it claims at once, else at the next. -/
def State.bootDone (s : State) (u result : Nat) : State :=
  if s.get (unitState u) ≠ unitBooting || (s.unit u).held || (s.unit u).claiming ≠ 0 || (s.unit u).booted then s
  else
    let s := ((s.bump (unitBoots u)).set (unitTest u) result).set (unitRev u) (s.flashNat (bankBase u + 6) 2)
    let sv := s.flashNat (bankBase u + 8) 1
    let s := s.updUnit u fun x => { x with secVersion := sv, pass := result = 1 }
    if result ≠ 1 then
      ((s.when (result = 2) State.firmwareFails).set (unitState u) unitFailed).raise 0x029 [d1 u, d1 result]
    else if s.phraseStart then s.bootClaim u
    else s.updUnit u fun x => { x with booted := true }

/-- A unit's island is reset (R374, R522): it stops refreshing and boots again. -/
def State.resetUnit (s : State) (u : Nat) : State :=
  if (s.unit u).held then s
  else (s.bootUnit u).count Reg.SYS_RESET_CAUSE_WARDEN_RESETS

/-- REVERT_HOLD; lower values act as 64 (R398). -/
def State.revertHold (s : State) : Nat := max 64 (s.get Reg.WARDEN_CTL_REVERT_HOLD)

/-- May the preferred unit claim by itself (R392)? -/
def State.mayRevert (s : State) (u : Nat) : Bool :=
  s.phraseStart && s.get (unitState u) = unitStandby && (s.unit u).pass && s.flag Reg.WARDEN_CTL_REVERT_EN
    && !(s.flag Reg.WARDEN_STAT_REVERT_HELD) && decide (s.revertHold ≤ s.get Reg.WARDEN_TOLL_GOOD_RUN)
    && decide (s.revertHold ≤ (s.unit (1 - u)).rxRun) && [0, 5, 6].contains s.saveState
    && s.get Reg.SYS_STATE_STEP = 15 && (s.unit u).claiming = 0

/-- The preferred unit returns (R392). -/
def State.revert (s : State) : State :=
  match s.get Reg.WARDEN_STAT_PREFERRED with
  | 0 => s
  | n + 1 =>
    if s.mayRevert n then
      let s := s.claimAll n 3
      s.raise 0x027 [d2 (s.unit n).claim, d2 (s.get Reg.WARDEN_TOLL_GOOD_RUN)]
    else s

/-- WARDEN_HANDOVER (R393). -/
def opWardenHandover (p : Pkt) (s : State) : OpResult :=
  let u := p.u8 0
  let x := s.unit u
  let ok := fun (s : State) => OpResult.ok s (s.words [0xD0000])
  if !(p.genOk (s.get Reg.WARDEN_GEN_GEN)) then .refuse s stStale
  else if s.get Reg.WARDEN_STAT_ACTIVE = u + 1 then ok s
  else if s.get (unitState u) ≠ unitStandby || !x.pass || s.get Reg.WARDEN_TOLL_GOOD_RUN < 64 then .refuse s stForbids
  else if s.unsettled then .refuse s stForbids
  else ok (s.updWarden fun w => { w with handover := some u })

/-- The handover at the phrase start after its command (R393). -/
def State.doHandover (s : State) : State :=
  match s.warden.handover with
  | none => s
  | some u =>
    if !s.phraseStart then s
    else
      let from' := s.get Reg.WARDEN_STAT_ACTIVE
      let s := s.updWarden fun w => { w with handover := none }
      let s := if from' = 0 then s else (s.releaseLatches (from' - 1)).standDown (from' - 1) 0 false
      let s := (s.claimAll u 4).bump Reg.WARDEN_GEN_GEN
      let s := s.setB Reg.WARDEN_STAT_REVERT_HELD (s.get Reg.WARDEN_STAT_PREFERRED ≠ u + 1)
      s.raise 0x028 [d1 (from' - 1), d1 u, d1 (s.get Reg.WARDEN_STAT_REVERT_HELD)]

/-! ### WARDEN_STATUS (R489) and the opcodes -/

def wardenWords : List Nat :=
  (List.range 8).map (fun i => 0xD0000 + 4 * i) ++ latches.flatMap fun n => [0, 4, 8].map fun o => 0xD0100 + 16 * n + o

def opWardenStatus (_ : Pkt) (s : State) : OpResult := .ok s (s.words wardenWords)

def wardenStatusOp : PktOp := ⟨0x0801, some .mgmt, false, fun _ ps => ps.length = 0, fun _ _ => 92, opWardenStatus⟩
def wardenHandoverOp : PktOp :=
  ⟨0x0802, some .mgmt, false, fun _ ps => ps.length = 4 && decide (leAt ps 0 1 < 2) && zeroAt ps 1 3, fun _ _ => 4,
    opWardenHandover⟩
def fwUpdateBeginOp : PktOp := ⟨0x0803, none, false, fun _ ps => ps.length = 8, fun _ _ => 4, opFwUpdateBegin⟩
def fwUpdateDataOp : PktOp :=
  ⟨0x0804, none, false, fun _ ps => decide (24 ≤ ps.length) && decide (ps.length ≤ 4056) && zeroAt ps 4 4, fun _ _ => 4,
    opFwUpdateData⟩
def fwUpdateEndOp : PktOp := ⟨0x0805, none, false, fun _ ps => ps.length = 0, fun _ _ => 8, opFwUpdateEnd⟩

/-! ### The commands -/

/-- WATCHDOG_RESET (R374): 16 phrases without service. -/
def execWatchdogReset (u : Sys2Proof.WardenUnit) (s : State) : Answer :=
  s.powered <|
  if (s.unit (WardenUnit.num u)).held then .next s
  else .next ((s.resetUnit (WardenUnit.num u)).raise 0x02A [d1 (WardenUnit.num u)])

/-- LATCH_CLAIM (R378). -/
def execLatchClaim (u : Sys2Proof.WardenUnit) (latch : Fin 5) (claim : Fin 65536) (s : State) : Answer :=
  s.powered <|
  .next (s.offerClaim (WardenUnit.num u) latch claim)

/-- CLAIM_RESOLUTION (R378, R387, R388). -/
def execClaimResolution (s : State) : Answer := s.powered <| .next s.resolveClaims.bootClaims

/-- LATCH_REFRESH (R378). -/
def execLatchRefresh (u : Sys2Proof.WardenUnit) (latch : Fin 5) (claim : Fin 65536) (s : State) : Answer :=
  s.powered <|
  .next (s.refreshLatch (WardenUnit.num u) latch claim)

/-- LATCH_COMMAND (R378, R381). -/
def execLatchCommand (u : Sys2Proof.WardenUnit) (latch : Fin 5) (claim out : Fin 65536) (s : State) : Answer :=
  s.powered <|
  .next (s.commandLatch (WardenUnit.num u) latch claim out)

/-- LEASE_CHECK (R379). -/
def execLeaseCheck (s : State) : Answer := s.powered <| .next s.checkLeases

/-- TOLL_SEND (R383): at bar 1 of the phrase. -/
def execTollSend (u : Sys2Proof.WardenUnit) (s : State) : Answer :=
  s.powered <|
  let n := WardenUnit.num u
  if s.bar % 256 = 1 && s.unitRuns n then .next (s.send (.toll n (s.tollFrame n))) else .next s

/-- TOLL_RECEIVE (R383, R384, R395): a frame from unit `u` reaches its partner; one that is not good counts as missed. A second good
one of a phrase does nothing. -/
def execTollReceive (u : Sys2Proof.WardenUnit) (frame : Nat) (s : State) : Answer :=
  s.powered <|
  let n := WardenUnit.num u
  if !(s.unitRuns (1 - n)) then .next s
  else if s.tollGood n frame then (if (s.unit n).goodAt = s.phrase + 1 then .next s else .next ((s.goodToll n frame).fwToll n))
  else .next (s.missToll n)

/-- TOLL_MISSED (R384). -/
def execTollMissed (u : Sys2Proof.WardenUnit) (s : State) : Answer := s.powered <| .next (s.missToll (WardenUnit.num u))

/-- PARTNER_CHECK (R385). -/
def execPartnerCheck (u : Sys2Proof.WardenUnit) (s : State) : Answer := s.powered <| .next (s.checkPartner (WardenUnit.num u))

/-- CLAIM_READBACK (R386, R382): by a warden whose firmware runs. -/
def execClaimReadback (u : Sys2Proof.WardenUnit) (s : State) : Answer :=
  s.powered <|
  let n := WardenUnit.num u
  let st := s.get (unitState n)
  if (s.unit n).held || !([unitStandby, unitActive].contains st || (st = unitBooting && (s.unit n).claiming ≠ 0)) then .next s
  else .next (s.readback n)

/-- WARDEN_BOOT_DONE (R388): 1 pass, 2 image signature, 3 RAM, 4 latch readback; 0 reports nothing. -/
def execWardenBootDone (u : Sys2Proof.WardenUnit) (result : Fin 5) (s : State) : Answer :=
  s.powered <|
  if result.val = 0 then .next s else .next (s.bootDone (WardenUnit.num u) result)

/-- NO_WARDEN_TIMEOUT (R388): neither warden has passed 256 phrases after the reset. -/
def execNoWardenTimeout (s : State) : Answer :=
  s.powered <|
  if decide (65536 ≤ s.bar) && s.get Reg.SYS_STATE_STEP = 3 && !(s.flag Reg.SYS_STATE_HALT)
      && s.get Reg.WARDEN_A_INFO_SELF_TEST ≠ 1 && s.get Reg.WARDEN_B_INFO_SELF_TEST ≠ 1 then
    .next ((s.raise 0x030 [d1 (s.get Reg.WARDEN_A_INFO_SELF_TEST), d1 (s.get Reg.WARDEN_B_INFO_SELF_TEST)]).halt 3 2)
  else .next s

/-- REVERTIVE_RETURN (R392). -/
def execRevertiveReturn (s : State) : Answer := s.powered <| .next s.revert

/-- WARDEN_HANDOVER (R393). -/
def execWardenHandover (p : Pkt) (s : State) : Answer := .next (wardenHandoverOp.command p s)

/-- FW_UPDATE_BEGIN (R394). -/
def execFwUpdateBegin (p : Pkt) (s : State) : Answer := .next (fwUpdateBeginOp.command p s)

/-- FW_UPDATE_DATA (R394). -/
def execFwUpdateData (p : Pkt) (s : State) : Answer := .next (fwUpdateDataOp.command p s)

/-- FW_UPDATE_TIMEOUT (R394): 10 s without a chunk. -/
def execFwUpdateTimeout (s : State) : Answer :=
  s.powered <|
  match s.warden.update with
  | some x => if x.finish.isNone && s.elapsed x.since 10000000 then .next s.fwAbandon else .next s
  | none => .next s

/-- FW_UPDATE_END (R395). -/
def execFwUpdateEnd (p : Pkt) (s : State) : Answer := .next (fwUpdateEndOp.command p s)

/-- FW_UPDATE_BOOT_TIMEOUT (R395): 256 phrases without the toll that was awaited. -/
def execFwUpdateBootTimeout (s : State) : Answer :=
  s.powered <|
  match s.warden.update with
  | some x => match x.finish with
    | some p =>
      if x.since + 65536 ≤ s.bar then .next ((s.fwEnd s.standby x.rev fwFailed 3).answer p stTimeout []) else .next s
    | none => .next s
  | none => .next s

/-- WARDEN_STATUS (R489). -/
def execWardenStatus (p : Pkt) (s : State) : Answer := .next (wardenStatusOp.command p s)

/-- MIN_SV_RAISE (R502): both wardens have passed self-test. -/
def execMinSvRaise (s : State) : Answer :=
  s.powered <|
  let v := min 63 (min (s.unit 0).secVersion (s.unit 1).secVersion)
  if s.phraseStart && (s.unit 0).pass && (s.unit 1).pass && decide (s.get Reg.SEC_FW_MIN_SV < v) then
    .next (s.set Reg.SEC_FW_MIN_SV v)
  else .next s

end Sys2Proof.Machine
end

