-- ==== Sys2Proof/Machine/Security.lean ====
section
/-! DEFINITION. Certificates, attestation, keys and crypto erase (spec/15_security.md R506 to R517), and the verification of a
loaded score, whose keys stand here (R100, R501). -/

namespace Sys2Proof.Machine

/-! ### Verification of scores (R95, R100, R501) -/

/-- The card a score is judged by (R115). -/
def State.cardCfg (s : State) : CardCfg where
  density := s.get (Reg.DCH_STAT_DENSITY 0)
  ranks := s.get (Reg.DCH_STAT_RANKS 0)
  dchMask := s.card.dchMask
  nandDies := s.card.nandDies
  nchMask := s.card.nchMask

/-- Slot 0 holds the Azinador score key, slot 1 the owner key in force. -/
def State.verifyCtx (s : State) : VerifyCtx where
  card := s.cardCfg
  scoreId := s.seq.staged.id
  revision := s.seq.staged.rev
  keys := [some Config.azScoreKey, s.ownerKey]
  refuse0 := s.refuseAzScore

/-- SCORE_VERIFY_DONE (R95, R100): verification ends; it needs an active warden (R390). -/
def execScoreVerifyDone (s : State) : Answer :=
  s.powered <|
  if s.loadState = loadVerifying && s.get Reg.WARDEN_STAT_ACTIVE ≠ 0 then .next (s.verifyEnd s.verifyCtx) else .next s

/-! ### SPDM (R506 to R508) -/

def spdmKey (p l : Nat) : Nat := 16 * p + l

/-- A requester that offered the algorithm (R506). -/
def State.negotiated (s : State) (p l : Nat) : Bool := Store.get false s.sec.spdmAlg (spdmKey p l)

/-- The chain of a certificate slot: root, CA and identity in slot 0, the alias certificate added in slot 1 (R507). -/
def State.chain (s : State) (slot : Nat) : List Byte := Config.certChain slot s.sec.aliasRot

/-- A signature of the alias key over a response, with a fresh nonce (R499). -/
def State.sign (s : State) : State × List Byte := ({ s with draws := s.draws + 1 }, Config.signature s.sec.aliasRot s.draws)

/-- The R94 DIGEST of a bank's image. -/
def State.imageDigest (s : State) (u : Nat) : List Byte :=
  s.flashRead (bankBase u + s.flashNat (bankBase u + 0x10) 4 - 160) 48

/-- A measurement block (R508). -/
def State.measurement (s : State) (i : Nat) : List Byte :=
  let zero := List.replicate 48 0#8
  match i with
  | 1 => Config.bootRomDigest
  | 2 => s.imageDigest 0
  | 3 => s.imageDigest 1
  | 4 => leBytes 2 (s.get Reg.WARDEN_A_INFO_FW_REV) ++ leBytes 2 (s.get Reg.WARDEN_B_INFO_FW_REV)
      ++ leBytes 1 (s.unit 0).secVersion ++ leBytes 1 (s.unit 1).secVersion ++ leBytes 2 (s.get Reg.SEC_FW_MIN_SV)
  | 5 => if s.flag Reg.FL_OPTION_DEFAULTS then zero else s.optBytes 0x1F60 48
  | 6 => if s.seq.playDigest.isEmpty then zero else s.seq.playDigest
  | _ => Config.sha384 (s.ownerKey.getD [] ++ s.escrowKey.getD [] ++ leBytes 1 (s.get Reg.SEC_STAT_EPOCH))

/-- Answer an SPDM request of an LD's function, where the LD exists. -/
def State.spdm (s : State) (p l : Nat) (r : Spdm) : State := if s.ldExists p l then s.send (.spdm p l r) else s

/-- GET_VERSION: 1.2 and 1.3. -/
def execGetVersion (port : Fin 4) (ld : Fin 16) (s : State) : Answer := s.powered <| .next (s.spdm port ld (.version [0x12, 0x13]))

/-- GET_CAPABILITIES: CERT_CAP, CHAL_CAP, MEAS_CAP signed. -/
def execGetCapabilities (port : Fin 4) (ld : Fin 16) (s : State) : Answer := s.powered <| .next (s.spdm port ld (.capabilities true true true))

/-- NEGOTIATE_ALGORITHMS: does the requester offer the extended algorithm 0x0001 of the vendor registry? -/
def execNegotiateAlgorithms (port : Fin 4) (ld : Fin 16) (offers : Bool) (s : State) : Answer :=
  s.powered <|
  if s.ldExists port ld then
    let s := s.updSec fun x => { x with spdmAlg := Store.set false x.spdmAlg (spdmKey port ld) offers }
    .next (s.spdm port ld (.algorithms offers))
  else .next s

/-- GET_DIGESTS: slot 0, the digest of the alias chain. -/
def execGetDigests (port : Fin 4) (ld : Fin 16) (s : State) : Answer :=
  s.powered <|
  .next (s.spdm port ld (.digests 1 (Config.sha384 (s.chain 1))))

/-- GET_CERTIFICATE: a part of slot 0's chain. -/
def execGetCertificate (port : Fin 4) (ld : Fin 16) (slot : Fin 8) (off len : Nat) (s : State) : Answer :=
  s.powered <|
  if slot.val = 0 && s.negotiated port ld then .next (s.spdm port ld (.certificate (((s.chain 1).drop off).take len)))
  else .next (s.spdm port ld .unsupported)

/-- CHALLENGE: signed by the alias key. -/
def execChallenge (port : Fin 4) (ld : Fin 16) (slot : Fin 8) (s : State) : Answer :=
  s.powered <|
  if slot.val = 0 && s.negotiated port ld && s.ldExists port ld then
    .next (s.sign.1.spdm port ld (.challengeAuth s.sign.2))
  else .next (s.spdm port ld .unsupported)

/-- GET_MEASUREMENTS: index 0 asks for their number, 0xFF for all of them; unsigned ones are always returned. -/
def execGetMeasurements (port : Fin 4) (ld : Fin 16) (index : Fin 256) (signed : Bool) (s : State) : Answer :=
  s.powered <|
  let i := index.val
  let l := if i = 0 then [] else if i = 255 then (List.range 7).map (· + 1) else if i ≤ 7 then [i] else []
  let blocks := l.map fun k => (k, s.measurement k)
  if (7 < i && i ≠ 255) || (signed && !(s.negotiated port ld)) then .next (s.spdm port ld .unsupported)
  else if signed && s.ldExists port ld then .next (s.sign.1.spdm port ld (.measurements blocks s.sign.2))
  else .next (s.spdm port ld (.measurements blocks []))

/-! ### The security opcodes (R505, R507, R514 to R517) -/

/-- SEC_GET_CERT (R507). -/
def opSecGetCert (p : Pkt) (s : State) : OpResult :=
  if 1 < p.u8 0 then .refuse s stInvalid
  else
    let c := s.chain (p.u8 0)
    .ok s (leBytes 2 c.length ++ leBytes 2 (p.u16 2) ++ (c.drop (p.u16 2)).take 4048)

/-- The reply of an accepted key command: SEC_GEN. -/
def State.secReply (s : State) : List Byte := leBytes 4 (s.get Reg.SEC_GEN_GEN)

/-- A source that may not send security commands gets the no-op of R475 (R505). -/
def State.secNoOp (s : State) (p : Pkt) : OpResult := ⟨s.noPriv p.src, stOk, List.replicate 4 0#8⟩

/-- "NERS" (R517). -/
def confirmErase : List Byte := [0x4E#8, 0x45#8, 0x52#8, 0x53#8]

/-- One above the highest epoch a Keystone has used (R517). -/
def State.nextEpoch (s : State) : Nat :=
  ((s.deck.keystones.map fun k => k.keyRef.epoch).foldl max (s.get Reg.SEC_STAT_EPOCH)) + 1

/-- SEC_CRYPTO_ERASE (R517). -/
def opSecCryptoErase (p : Pkt) (s : State) : OpResult :=
  if !(s.mayCommandKeys p.src) then s.secNoOp p
  else if p.params.take 4 ≠ confirmErase then .refuse s stInvalid
  else if !(p.genOk (s.get Reg.SEC_GEN_GEN)) then .refuse s stStale
  else if s.eraseLock || s.tile.regions.any (·.active) || s.saving || s.restoring || decide (255 < s.nextEpoch) then
    .refuse s stForbids
  else
    let e := s.nextEpoch
    let s := ((s.set Reg.SEC_STAT_EPOCH e).set Reg.SEC_STAT_EPOCH_LEFT (255 - e)).set Reg.SEC_STAT_ROTATE_PENDING 0
    let s := (s.updSave fun x => { x with mediaKey := 0 }).set Reg.SEC_STAT_MK_SOURCE 0
    let s := ((s.updSec fun x => { x with erasing := true }).bump Reg.SEC_GEN_GEN).raise 0x1FE [d1 2, d1 e]
    let s := s.beginFormat false
    .ok s s.secReply

/-- SEC_KEY_ROTATE (R516). -/
def opSecKeyRotate (p : Pkt) (s : State) : OpResult :=
  let e := s.get Reg.SEC_STAT_EPOCH
  if !(s.mayCommandKeys p.src) then s.secNoOp p
  else if !(p.genOk (s.get Reg.SEC_GEN_GEN)) then .refuse s stStale
  else if 1 < p.u8 0 then .refuse s stInvalid
  else if s.saving || s.restoring then .refuse s stForbids
  else if p.u8 0 = 1 && (s.get Reg.DECK_STAT_STATE ≠ 2 || s.flag Reg.SEC_STAT_ROTATE_PENDING || e = 255) then
    .refuse s stForbids
  else
    let s := (s.bump Reg.SEC_GEN_GEN).raise 0x1FE [d1 (p.u8 0), d1 e]
    let s := if p.u8 0 = 0 then s.updSec fun x => { x with aliasRot := x.aliasRot + 1 }
      else (s.set Reg.SEC_STAT_ROTATE_PENDING 1).updDeck fun d => { d with refreshWanted := true }
    .ok s s.secReply

/-- SEC_ESCROW_SET (R514): an accepted change asks for a refresh Keystone. -/
def opSecEscrowSet (p : Pkt) (s : State) : OpResult :=
  let set := p.u8 0 = 0
  let key := sliceBytes p.params 4 97
  if !(s.mayCommandKeys p.src) then s.secNoOp p
  else if !(p.genOk (s.get Reg.SEC_GEN_GEN)) then .refuse s stStale
  else if 1 < p.u8 0 || (set && !(keyOk key)) then .refuse s stInvalid
  else if s.saving || s.restoring then .refuse s stForbids
  else if (set && s.escrowKey = some key) || (!set && s.escrowKey.isNone) then .ok s s.secReply
  else if !set && s.escrowLock then .refuse s stForbids
  else if set && decide (24 ≤ s.sec.store.length) then .refuse s stForbids
  else
    let old := s.escrowKey.getD []
    let s := if set then s.programKey false key
      else
        let s := s.updSec fun x => { x with store := x.store.map fun k =>
          if !k.owner && k.key = old then { k with revoked := true } else k }
        s.syncKeys.keyEvent false old
    let s := (s.bump Reg.SEC_GEN_GEN).updDeck fun d => { d with refreshWanted := true }
    .ok s s.secReply

def secGetCertOp : PktOp :=
  ⟨0x0B01, some .any, false, fun _ ps => ps.length = 4 && zeroAt ps 1 1,
    fun s p => 4 + min 4048 ((s.chain (p.u8 0)).length - p.u16 2), opSecGetCert⟩
def secCryptoEraseOp : PktOp := ⟨0x0B02, none, false, fun _ ps => ps.length = 8 && zeroAt ps 4 4, fun _ _ => 4, opSecCryptoErase⟩
def secKeyRotateOp : PktOp := ⟨0x0B03, none, false, fun _ ps => ps.length = 4 && zeroAt ps 1 3, fun _ _ => 4, opSecKeyRotate⟩
def secEscrowSetOp : PktOp :=
  ⟨0x0B04, none, false, fun _ ps => ps.length = 104 && zeroAt ps 1 3 && zeroAt ps 0x65 3, fun _ _ => 4, opSecEscrowSet⟩

/-- SEC_GET_CERT (R507). -/
def execSecGetCert (p : Pkt) (s : State) : Answer := .next (secGetCertOp.command p s)

/-- SEC_CRYPTO_ERASE (R517). -/
def execSecCryptoErase (p : Pkt) (s : State) : Answer := .next (secCryptoEraseOp.command p s)

/-- SEC_KEY_ROTATE (R516). -/
def execSecKeyRotate (p : Pkt) (s : State) : Answer := .next (secKeyRotateOp.command p s)

/-- SEC_ESCROW_SET (R514). -/
def execSecEscrowSet (p : Pkt) (s : State) : Answer := .next (secEscrowSetOp.command p s)

end Sys2Proof.Machine
end

