-- ==== Sys2Proof/Machine/RegAccess.lean ====
section
/-! DEFINITION. Register accesses over the register transports (R9 to R14, R27 to R30, R537): the rules of each register's
own, the commands that read and write registers, and REG_READ and REG_WRITE (R492, R493). -/

namespace Sys2Proof.Machine

/-! ### Writes -/

/-- Is every field of a plain RW register in the range its map gives it? A write out of range is ignored and counted: R228
says so of TILE; of the other blocks, whose maps give ranges alone, it is DEDUCED (notes/assumptions/49.md). -/
def rangeOk (a v : Nat) : Bool :=
  if a = 0x00014 then between 1 255 (bitsAt v 16 8) && between 1 65535 (bitsAt v 0 16)
  else if a = 0x8001C then between 1 4095 (bitsAt v 0 12)
  else if a = 0x80024 then between 1 255 (bitsAt v 8 8)
  else if a = 0x80028 then between 1000 60000 (bitsAt v 16 16) && between 1 64 (bitsAt v 8 8)
  else if a = 0x8002C then between 50 1000 (bitsAt v 0 10)
  else if a = 0xA0010 then between 1 255 (bitsAt v 8 8)
  else if a = 0xC0038 then between 1 255 (bitsAt v 24 8)
  else if 0x40000 ≤ a ∧ a < 0x60000 ∧ a % 0x4000 = 0x1C then between 1 15 (bitsAt v 4 4)
  else true

/-- The registers through which the flash is operated (R405). -/
def flashSteps : List Nat := [0xE0000, 0xE0004, 0xE0008, 0xE000C]

/-- A write of a flash step: by the active warden it is the step, from any other source it is ignored and counted
(R405, R407). -/
def State.writeFlash (s : State) (src : Src) (a v : Nat) : State :=
  if !(s.isActive src) then s.badAccess src a
  else if a = 0xE0000 then s.flashKey v
  else if a = 0xE0004 then s.flashCmd v
  else if a = 0xE0008 then s.flashAddr v
  else s.flashData v

/-- A GUARD register (R399): a write through a register transport is ignored and counted (R378). The word at offset 0xC of a latch, RSV in
R399, counts as one of them, whose writes R378 counts without exception (DESIGN CHOICE, notes/assumptions/80.md). -/
def guardReg (a : Nat) : Bool := decide (0xD0100 ≤ a) && decide (a < 0xD0150)

/-- HPORT_n_LD_l (R195). -/
def ldReg (a : Nat) : Bool :=
  decide (0x60000 ≤ a) && decide (a < 0x70000) && decide (0x40 ≤ a % 0x4000) && decide (a % 0x4000 < 0x80)

/-- An aligned 32-bit write by a source that holds the privilege, under the register's own rules. -/
def State.writeWord (s : State) (src : Src) (a v : Nat) : State :=
  if s.frozen a then s.badAccess src a
  else if guardReg a then s.badAccess src a
  else if flashSteps.contains a then s.writeFlash src a v
  else if a = 0x20008 then s.writeVariantReq v
  else if 0x10400 ≤ a ∧ a < 0x10600 then s.writeRoute src ((a - 0x10400) / 4) v
  else if 0x10080 ≤ a ∧ a < 0x100C0 then s.writeMask ((a - 0x10080) / 4) v
  else if tableReg a then s.writeTable src a v
  else if 0x60000 ≤ a ∧ a < 0x70000 ∧ a % 0x4000 = 4 then s.writeCfg src ((a - 0x60000) / 0x4000) v
  else if ldReg a then s.writeLdSize src ((a - 0x60000) / 0x4000) ((a % 0x4000 - 0x40) / 4) v
  else if rangeOk a v then s.plainWrite a v
  else s.badAccess src a

/-- A write of `size` bytes at a byte address by a source: privilege first (R14), then width and alignment (R11). R11 names writes
narrower than 32 bits and unaligned ones; an aligned write that is wider, or of no byte, is ignored and counted like them (DESIGN CHOICE,
notes/assumptions/81.md). -/
def State.write (s : State) (src : Src) (a size v : Nat) : State :=
  if !(s.holds src (writePriv a)) then s.noPriv src
  else if size ≠ 4 || a % 4 ≠ 0 then s.badAccess src a
  else s.writeWord src a (v % 2 ^ 32)

/-- A read, answered to its source. -/
def State.readOut (s : State) (src : Src) (a size : Nat) : State :=
  let r := s.access src a size
  r.1.send (.word src r.2)

/-! ### The commands -/

/-- REGISTER_WRITE (R9 to R14, R27): the privilege, width, alignment, RSV and RO rules. -/
def execRegisterWrite (x : SrcSlot) (a : Fin 0x100000) (size : Fin 9) (v : Nat) (s : State) : Answer :=
  s.powered <|
  .next ((s.at x.slot).write x.src a size v)

/-- RC_REGISTER_READ (R9, R10): returns the word and clears its RC fields. -/
def execRcRegisterRead (x : SrcSlot) (a : Fin 0x100000) (size : Fin 9) (s : State) : Answer :=
  s.powered <| .next ((s.at x.slot).readOut x.src a size)

/-- WIDE_REGISTER_LOW_READ (R13): the low word is read and the high word latched. -/
def execWideRegisterLowRead (src : Src) (a : Fin 0x100000) (s : State) : Answer := s.powered <| .next (s.readOut src a 4)

/-- SCORE_VARIANT_REQ_WRITE (R53, R71). -/
def execScoreVariantReqWrite (src : Src) (v : Nat) (s : State) : Answer := s.powered <| .next (s.write src 0x20008 4 v)

/-- GUARD_REGISTER_WRITE (R378): ignored and counted. -/
def execGuardRegisterWrite (src : Src) (latch : Fin 5) (word : Fin 4) (v : Nat) (s : State) : Answer :=
  s.powered <|
  .next (s.write src (0xD0100 + 16 * latch.val + 4 * word.val) 4 v)

/-- HPORT_LD_SIZE_WRITE (R195). -/
def execHportLdSizeWrite (src : Src) (port : Fin 4) (ld : Fin 16) (v : Nat) (s : State) : Answer :=
  s.powered <|
  .next (s.write src (0x60040 + 0x4000 * port.val + 4 * ld.val) 4 v)

/-- HPORT_CFG_WRITE (R194). -/
def execHportCfgWrite (src : Src) (port : Fin 4) (v : Nat) (s : State) : Answer := s.powered <| .next (s.write src (cfgWord port) 4 v)

/-- EVT_ROUTE_REGISTER_WRITE (R438, R462). -/
def execEvtRouteRegisterWrite (src : Src) (w : Fin 128) (v : Nat) (s : State) : Answer :=
  s.powered <|
  .next (s.write src (0x10400 + 4 * w.val) 4 v)

/-- EVT_MASK_REGISTER_WRITE (R436, R462). -/
def execEvtMaskRegisterWrite (src : Src) (w : Fin 16) (v : Nat) (s : State) : Answer :=
  s.powered <|
  .next (s.write src (0x10080 + 4 * w.val) 4 v)

/-- SEQ_TABLE_REGISTER_WRITE (R364). -/
def execSeqTableRegisterWrite (src : Src) (a : Fin 0x100000) (v : Nat) (s : State) : Answer := s.powered <| .next (s.write src a 4 v)

/-! ### REG_READ and REG_WRITE (R492, R493) -/

/-- Does a range of words lie in the register space? -/
def regRange (a n : Nat) : Bool := decide (a + 4 * n ≤ 0x100000)

/-- The words at ascending addresses, each one full access. -/
def State.readWords (s : State) (src : Src) (a : Nat) : Nat → State × List Nat
  | 0 => (s, [])
  | n + 1 =>
    let r := s.access src a 4
    let q := r.1.readWords src (a + 4) n
    (q.1, r.2 :: q.2)

/-- REG_READ. -/
def opRegRead (p : Pkt) (s : State) : OpResult :=
  let r := s.readWords p.src (p.u32 0) (p.u16 4)
  .ok r.1 (leBytes 4 (p.u32 0) ++ leBytes 2 (p.u16 4) ++ leBytes 2 0 ++ wordsBytes r.2)

/-- REG_WRITE: words that a register ignores count as written. -/
def opRegWrite (p : Pkt) (s : State) : OpResult :=
  let s := s.each (List.range (p.u16 4)) fun s i => s.write p.src (p.u32 0 + 4 * i) 4 (p.u32 (8 + 4 * i))
  .ok s (leBytes 2 (p.u16 4) ++ leBytes 2 0)

def regReadOp : PktOp :=
  ⟨0x0C02, none, false, fun _ ps => ps.length = 8 && leAt ps 0 4 % 4 = 0 && between 1 1012 (leAt ps 4 2) && zeroAt ps 6 2
    && regRange (leAt ps 0 4) (leAt ps 4 2), fun _ p => 8 + 4 * p.u16 4, opRegRead⟩
def regWriteOp : PktOp :=
  ⟨0x0C03, none, false, fun _ ps => between 1 1013 (leAt ps 4 2) && ps.length = 8 + 4 * leAt ps 4 2 && leAt ps 0 4 % 4 = 0
    && zeroAt ps 6 2 && regRange (leAt ps 0 4) (leAt ps 4 2), fun _ _ => 4, opRegWrite⟩

/-- REG_READ (R492, R493). -/
def execRegRead (p : Pkt) (s : State) : Answer := .next (regReadOp.command p s)

/-- REG_WRITE (R492, R493). -/
def execRegWrite (p : Pkt) (s : State) : Answer := .next (regWriteOp.command p s)

end Sys2Proof.Machine
end

