-- ==== Sys2Proof/Machine/Packets.lean ====
section
/-! DEFINITION. The system and diagnostic opcodes (R482, R492), the opcode table, and packets from arrival to their downbeat
(spec/14_command_packets.md R466 to R481). -/

namespace Sys2Proof.Machine

/-! ### System and diagnostic opcodes -/

/-- ECHO (R482). -/
def opEcho (p : Pkt) (s : State) : OpResult := .ok s p.params

/-- The words a source may read; any other reads zero (R479). -/
def State.wordsFor (s : State) (src : Src) (as : List Nat) : List Byte :=
  wordsBytes (as.map fun a => if s.holds src (readPriv a) && !(s.hidden src a) then s.word a else 0)

/-- ASCII "LGX-N840-". -/
def orderingStem : List Byte := [0x4C#8, 0x47#8, 0x58#8, 0x2D#8, 0x4E#8, 0x38#8, 0x34#8, 0x30#8, 0x2D#8]

/-- The ordering number of the part, 16 bytes zero-padded (R482, R566). -/
def State.ordering (s : State) : List Byte :=
  let grade : Byte := if s.get Reg.SYS_ID_GRADE = 0 then 0x43#8 else 0x45#8
  let tail : List Byte := if s.flag Reg.SYS_ID_ESCROW_P then [0x2D#8, 0x50#8] else []
  (orderingStem ++ [grade] ++ tail ++ List.replicate 6 0#8).take 16

/-- Populated DRAM channels of the card. -/
def State.populated (s : State) : List Nat := channels.filter (bitAt s.card.dchMask)

/-- DRAM capacity in GiB: 16,384 frames each. -/
def State.capacityGib (s : State) : Nat := s.populated.length * s.framesPerChannel / 16384

/-- IDENTIFY (R482). -/
def opIdentify (p : Pkt) (s : State) : OpResult :=
  .ok s (s.wordsFor p.src [0x00000] ++ leBytes 1 (s.get Reg.CMD_STAT_SPAN_ID) ++ leBytes 1 (s.get Reg.CMD_STAT_STRAP_ID)
    ++ leBytes 2 (s.get Reg.CMD_GROUPS_MASK) ++ s.ordering ++ leBytes 2 (s.get Reg.WARDEN_A_INFO_FW_REV)
    ++ leBytes 2 (s.get Reg.WARDEN_B_INFO_FW_REV) ++ leBytes 1 (s.get Reg.WARDEN_STAT_ACTIVE) ++ leBytes 3 0
    ++ sliceBytes s.deviceId 0 48 ++ leBytes 2 s.capacityGib ++ leBytes 1 s.card.nandDies ++ leBytes 1 0
    ++ leBytes 2 s.card.nchMask ++ leBytes 2 0 ++ leBytes 4 (s.optWord 0x14) ++ leBytes 4 (s.get Reg.FL_OPTION_SEQ_SEQ))

/-- GET_STATUS (R443, R479, R482). -/
def opGetStatus (p : Pkt) (s : State) : OpResult :=
  .ok s (s.wordsFor p.src [0x00004, 0x0000C, 0x00008, 0x0004C, 0x00040, 0x00044, 0x00050, 0x20004, 0x80000, 0x80100, 0x80120,
      0xA0000, 0xC0000, 0xC8004, 0xD0000, 0x10000]
    ++ leBytes 4 s.recorder.wardenEvents ++ leBytes 2 s.recorder.lastWarden ++ leBytes 2 0
    ++ s.wordsFor p.src [0xD0208, 0xD020C])

/-- The first phrase start at least `n` bars from now (R482). -/
def State.phraseAfter (s : State) (n : Nat) : Nat := ceilDiv (s.bar + n) 256 * 256

/-- RESET_DEVICE (R482, R522). -/
def opResetDevice (p : Pkt) (s : State) : OpResult :=
  let k := p.u8 0
  if k ≠ 1 && k ≠ 2 then .refuse s stInvalid
  else if s.saving then .refuse s stForbids
  else
    let s := { s with sys := { s.sys with resetReq := some (k, s.phraseAfter 16, srcNum p.src) } }
    .ok (s.raise 0x00D [d1 k, d1 (srcNum p.src)])

/-- SET_GROUPS (R480, R482). -/
def opSetGroups (p : Pkt) (s : State) : OpResult :=
  .ok (s.set Reg.CMD_GROUPS_MASK (p.u16 0)) (leBytes 2 (p.u16 0) ++ leBytes 2 0)

/-- The hint a source sets: its port's, or the span timer (R532). -/
def hintIndex : Src → Nat
  | .hport n => n
  | _ => 4

/-- IDLE_HINT (R532): 0 withdraws it. -/
def opIdleHint (p : Pkt) (s : State) : OpResult :=
  let us := p.u32 0
  let i := hintIndex p.src
  let fin := if us = 0 then 0 else s.bar + ceilDiv (us * 10) 39
  let s := { s with sys := { s.sys with hints := Store.set 0 s.sys.hints i fin } }
  let s := s.raise 0x006 [match p.src with | .hport n => dPort n | _ => d1 4, d4 us]
  let s := if us = 0 && i = 4 && s.inH then { s with sys := { s.sys with wakes := s.sys.wakes ++ [4] } } else s
  .ok s (s.words [0x0000C])

/-- DIAG_LOOPBACK (R492). -/
def opDiagLoopback (p : Pkt) (s : State) : OpResult := .ok s (leBytes 8 p.rxBar ++ leBytes 8 s.bar ++ p.params)

def echoOp : PktOp := ⟨0x0001, some .any, false, fun _ ps => decide (ps.length ≤ 4060), fun _ p => p.params.length, opEcho⟩
def identifyOp : PktOp := ⟨0x0002, some .any, false, fun _ ps => ps.length = 0, fun _ _ => 96, opIdentify⟩
def getStatusOp : PktOp := ⟨0x0003, some .host, false, fun _ ps => ps.length = 0, fun _ _ => 80, opGetStatus⟩
def resetDeviceOp : PktOp :=
  ⟨0x0004, none, true, fun _ ps => ps.length = 4 && zeroAt ps 1 3, fun _ _ => 0, opResetDevice⟩
def setGroupsOp : PktOp :=
  ⟨0x0005, some .mgmt, true, fun _ ps => ps.length = 4 && zeroAt ps 2 2, fun _ _ => 4, opSetGroups⟩
def idleHintOp : PktOp := ⟨0x0006, some .host, true, fun _ ps => ps.length = 4, fun _ _ => 4, opIdleHint⟩
def diagLoopbackOp : PktOp :=
  ⟨0x0C01, none, false, fun _ ps => decide (ps.length ≤ 4044), fun _ p => 16 + p.params.length, opDiagLoopback⟩

/-- ECHO (R482). -/
def execEcho (p : Pkt) (s : State) : Answer := .next (echoOp.command p s)
/-- IDENTIFY (R482). -/
def execIdentify (p : Pkt) (s : State) : Answer := .next (identifyOp.command p s)
/-- GET_STATUS (R482). -/
def execGetStatus (p : Pkt) (s : State) : Answer := .next (getStatusOp.command p s)
/-- RESET_DEVICE (R482, R522). -/
def execResetDevice (p : Pkt) (s : State) : Answer := .next (resetDeviceOp.command p s)
/-- SET_GROUPS (R480, R482). -/
def execSetGroups (p : Pkt) (s : State) : Answer := .next (setGroupsOp.command p s)
/-- IDLE_HINT (R532). -/
def execIdleHint (p : Pkt) (s : State) : Answer := .next (idleHintOp.command p s)
/-- DIAG_LOOPBACK (R492). -/
def execDiagLoopback (p : Pkt) (s : State) : Answer := .next (diagLoopbackOp.command p s)

/-! ### The opcode table -/

/-- Every opcode of R482 to R492. -/
def packetTable : List PktOp :=
  [echoOp, identifyOp, getStatusOp, resetDeviceOp, setGroupsOp, idleHintOp, setTimeAnchorOp, startOp]
  ++ [scoreLoadBeginOp, scoreLoadDataOp, scoreLoadEndOp, scoreArmOp, scoreQueryOp]
  ++ [dchStatusOp, dchOfflineOp, dchOnlineOp, scrubSetOp, portConfigOp, regionAssignOp, regionReleaseOp, regionQueryOp,
    latencyTargetSetOp]
  ++ [persistPolicySetOp, persistStatusOp, streamTuneOp, saveNowOp, restoreControlOp]
  ++ [deckStatusOp, nchRetireOp, deckFormatOp, imageListOp, packStatusOp, packParamsSetOp, shipModeOp, restWindowOp]
  ++ [seqTableSetOp, seqStatusOp, marginSetOp, wardenStatusOp, wardenHandoverOp, fwUpdateBeginOp, fwUpdateDataOp,
    fwUpdateEndOp]
  ++ [optionWriteOp, flashReadOp, evtRouteSetOp, recorderReadOp, recorderClearOp, evtMaskOp, secGetCertOp, secCryptoEraseOp,
    secKeyRotateOp, secEscrowSetOp]
  ++ [diagLoopbackOp, regReadOp, regWriteOp]

/-- The row of an opcode. -/
def findOp (opcode : Nat) : Option PktOp := packetTable.find? fun o => o.opcode = opcode

/-! ### Validation (R474) -/

/-- How a packet arrives. -/
inductive Via where
  | mailbox | write | ccc
  deriving DecidableEq, Repr

def State.updCmd (s : State) (f : CmdState → CmdState) : State := { s with cmd := f s.cmd }

/-- Step 1: the transported length. -/
def lengthBad (bs : List Byte) : Bool :=
  decide (bs.length < 20) || decide (4096 < bs.length) || decide (bs.length ≠ 20 + leAt bs 0xC 2)

/-- Step 2: the trailer. -/
def crcBad (bs : List Byte) : Bool := decide (leAt bs (bs.length - 4) 4 ≠ crc32c (bs.take (bs.length - 4)))

/-- Step 5: the header's form; a mailbox ignores bits 1 to 3 of the flags and the destination (R466). -/
def headerBad (p : Pkt) (bs : List Byte) : Bool :=
  let box := p.isMailbox
  decide (bitsAt p.flags 4 4 ≠ 0) || decide (leAt bs 7 1 ≠ 0) || decide (leAt bs 0xE 2 ≠ 0)
    || (!box && bitAt p.flags 2 && bitAt p.flags 3)
    || (!box && bitAt p.flags 2 && decide (p.dest ≠ 0xFF))
    || (!box && bitAt p.flags 3 && decide (15 < p.dest))

/-- Step 6: is the packet addressed to this device (R478)? Group membership is the one in force now (R480). -/
def State.addressed (s : State) (p : Pkt) : Bool :=
  if p.isMailbox || bitAt p.flags 2 then true
  else if bitAt p.flags 3 then bitAt (s.get Reg.CMD_GROUPS_MASK) p.dest
  else p.dest = s.get Reg.CMD_STAT_SPAN_ID

/-- What validation of a packet's form finds. -/
inductive Form where
  /-- a failure of steps 1 and 2, or R481: status, and whether it is answered by reply -/
  | bad (status : Nat) (reply : Bool)
  | other
  | good
  deriving DecidableEq, Repr

/-- Steps 1 to 6 of R474 in their order, with R481 after step 2. -/
def State.judge (s : State) (via : Via) (p : Pkt) (bs : List Byte) : Form :=
  if lengthBad bs then .bad stInvalid (via ≠ .ccc)
  else if crcBad bs then .bad stCrc (via ≠ .ccc)
  else if s.get Reg.WARDEN_STAT_ACTIVE = 0 then .bad stBusy p.replies
  else if leAt bs 0 1 ≠ 1 then .bad stUnsupported p.replies
  else if (findOp p.opcode).isNone then .bad stUnsupported p.replies
  else if headerBad p bs then .bad stInvalid p.replies
  else if !(s.addressed p) then .other
  else .good

/-- Is a packet answered at once, not at its downbeat: no warden is active to validate it (R481)? -/
def State.atOnce (s : State) (bs : List Byte) : Bool := !(lengthBad bs) && !(crcBad bs) && s.get Reg.WARDEN_STAT_ACTIVE = 0

/-- CMD_ERR counts CRC errors and packets malformed under steps 1 and 5 (R474, R495). -/
def State.countErr (s : State) (p : Pkt) (bs : List Byte) : State :=
  if lengthBad bs then s.count Reg.CMD_ERR_MALFORMED
  else if crcBad bs then s.count Reg.CMD_ERR_CRC
  else if s.get Reg.WARDEN_STAT_ACTIVE ≠ 0 && leAt bs 0 1 = 1 && (findOp p.opcode).isSome && headerBad p bs then
    s.count Reg.CMD_ERR_MALFORMED
  else s

/-- A validation failure is answered: by reply or by record (R474, R478). -/
def State.reject (s : State) (p : Pkt) (status : Nat) (reply : Bool) : State :=
  if reply then s.giveReply p status [] else s.record p status

/-- A packet arrives: its form is judged, and it waits for the downbeat at which its validation completes; `late` puts that
at the second downbeat (R474). -/
def State.arrive (s : State) (via : Via) (src : Src) (bs : List Byte) (late : Bool) : State :=
  let p := parsePkt src bs s.bar
  let due := s.bar + (if late then 2 else 1)
  let s' := s.countErr p bs
  let put := fun (f : Option (Nat × Bool)) => s'.updCmd fun c => { c with queue := c.queue ++ [⟨p, due, f⟩] }
  match s.judge via p bs with
  | .bad st reply => if s.atOnce bs then s'.reject p st reply else put (some (st, reply))
  | .other => s'.drop Reg.CMD_STAT_OUTSTANDING (if src = .span then 1 else 0)
  | .good => put none

/-! ### Application at the downbeat (R20, R477) -/

/-- One packet of the queue is applied, or its failure answered. -/
def State.applyPkt (s : State) (q : QPkt) : State :=
  match q.fail with
  | some (st, reply) => s.reject q.pkt st reply
  | none => match findOp q.pkt.opcode with
    | some o => o.apply q.pkt s
    | none => s.answer q.pkt stUnsupported []

/-- The packets of a source, in arrival order. -/
def State.packetsOf (s : State) (n : Nat) : List QPkt := s.cmd.queue.filter fun q => srcNum q.pkt.src = n

/-- Has a packet's validation completed? -/
def State.isDue (s : State) (q : QPkt) : Bool := decide (q.due ≤ s.bar)

/-- A warden that stops answers nothing it had received (R390). -/
def State.dropQueue (s : State) : State :=
  let n := (s.cmd.queue.filter fun q => q.pkt.src = .span).length
  (s.drop Reg.CMD_STAT_OUTSTANDING n).updCmd fun c => { c with queue := [] }

/-- Step 3 of R20: the span bus first, then HPORT_0 to HPORT_3, each in arrival order up to the first packet whose validation
has not completed (R477). -/
def State.applyPackets (s : State) : State :=
  if s.get Reg.WARDEN_STAT_ACTIVE = 0 then s.dropQueue
  else
    let now := (List.range 5).flatMap fun n => (s.packetsOf n).takeWhile s.isDue
    let rest := (List.range 5).flatMap fun n => (s.packetsOf n).dropWhile s.isDue
    (s.updCmd fun c => { c with queue := rest }).each now State.applyPkt

end Sys2Proof.Machine
end

