-- ==== Sys2Proof/Machine/Span.lean ====
section
/-! DEFINITION. The two transports: the mailboxes of the host ports and the span bus (R466 to R470, R568). -/

namespace Sys2Proof.Machine

/-! ### Mailboxes (R466) -/

/-- CXL return code Invalid Payload Length. -/
def mbLength : Nat := 0x16

/-- MAILBOX_COMMAND_PACKET (R466, R474): a payload no packet can have returns Invalid Payload Length; any other is a packet
from the mailbox's port. Without power there is no mailbox (R537). -/
def execMailboxCommandPacket (port : Fin 4) (ld : Fin 16) (bytes : List Byte) (late : Bool) (s : State) : Answer :=
  if !s.on || !(s.ldExists port ld) then .next s
  else if bytes.length < 20 || 4096 < bytes.length then .next (s.send (.mailbox port ld mbLength []))
  else .next (s.arrive .mailbox (.hport port) bytes late)

/-! ### Packets and replies over the span bus (R469, R470) -/

/-- Does the device answer its address on the span bus (R537, R568)? -/
def State.spanHere (s : State) : Bool := s.on && decide (s.get Reg.CMD_STAT_DYN_ADDR ≠ 0)

/-- A span-bus packet is taken: it is outstanding from now (R469, R494). -/
def State.takeSpan (s : State) (via : Via) (bytes : List Byte) (late : Bool) : State :=
  let s := (s.bump Reg.CMD_STAT_OUTSTANDING).setB Reg.CMD_STAT_HDR s.cmd.hdr
  s.arrive via .span bytes late

/-- SPAN_PRIVATE_WRITE (R469): a ninth outstanding packet is NACKed at its address header. -/
def execSpanPrivateWrite (bytes : List Byte) (late : Bool) (s : State) : Answer :=
  if !s.spanHere then .next s
  else if 8 ≤ s.get Reg.CMD_STAT_OUTSTANDING then .next ((s.count Reg.CMD_ERR_NACKED).send (.span false []))
  else .next ((s.send (.span true [])).takeSpan .write bytes late)

/-- SPAN_PRIVATE_READ (R469): the oldest ready reply, which is then read; without one the address is NACKed. -/
def execSpanPrivateRead (s : State) : Answer :=
  if !s.spanHere then .next s
  else match s.cmd.replies with
    | [] => .next (s.send (.span false []))
    | r :: l => .next (((s.updCmd fun c => { c with replies := l }).drop Reg.CMD_STAT_OUTSTANDING).send (.span true r.bytes))

/-- REPLY_UNREAD_TIMEOUT (R469): replies ready for 1 s and not read are discarded and counted. -/
def execReplyUnreadTimeout (s : State) : Answer :=
  s.powered <|
  let old := fun (r : Reply) => s.elapsed r.ready 1000000
  let n := (s.cmd.replies.filter old).length
  let s := s.updCmd fun c => { c with replies := c.replies.filter fun r => !(old r) }
  .next ((s.count Reg.CMD_ERR_UNREAD n).drop Reg.CMD_STAT_OUTSTANDING n)

/-- VENDOR_BROADCAST_CCC (R470): CCC 0x61 reaches every Niril of the bus. With 8 packets outstanding it is not accepted
(DEDUCED, notes/assumptions/51.md). -/
def execVendorBroadcastCcc (bytes : List Byte) (late : Bool) (s : State) : Answer :=
  if !s.on || decide (8 ≤ s.get Reg.CMD_STAT_OUTSTANDING) then .next s else .next (s.takeSpan .ccc bytes late)

/-! ### Common command codes (R467, R468) -/

/-- The provisioned ID (R468). -/
def State.provisionedId (s : State) : Nat :=
  0x2A9 * 2 ^ 33 + 0x0840 * 2 ^ 16 + s.get Reg.CMD_STAT_SPAN_ID * 2 ^ 6 + s.cmd.pidRandom

/-- Bytes most significant first, as MIPI I3C sends them. -/
def beBytes (n v : Nat) : List Byte := (leBytes n v).reverse

/-- BCR and DCR, and the fixed maximum length. -/
def bcr : Nat := 0x06
def dcr : Nat := 0x00
def maxLength : Nat := 4096

/-- New random bits of the provisioned ID (R468): a free value. -/
def State.drawPid (s : State) : State :=
  { s with draws := s.draws + 1, cmd := { s.cmd with pidRandom := Config.entropy s.draws % 64 } }

/-- The target loses its dynamic address; its IBIs are enabled; packets outstanding and replies unread are discarded
(R442, R568). -/
def State.resetTarget (s : State) : State :=
  let s := ((s.set Reg.CMD_STAT_DYN_ADDR 0).set Reg.EVT_IBI_IBI_EN 1).set Reg.CMD_STAT_OUTSTANDING 0
  (s.updCmd fun c => { c with
    queue := c.queue.filter (fun q => q.pkt.src ≠ .span)
    replies := []
    ibis := []
    hdr := false }).drawPid

/-- ENTDAA (R467, R468, R568): a device without an address takes part and takes the one it wins; 0 stands for a round in
which it wins none. -/
def execEntdaa (addr : Fin 128) (s : State) : Answer :=
  if !s.on || s.get Reg.CMD_STAT_DYN_ADDR ≠ 0 then .next s
  else .next ((s.send (.span true (beBytes 6 s.provisionedId ++ beBytes 1 bcr ++ beBytes 1 dcr))).set Reg.CMD_STAT_DYN_ADDR addr)

/-- RSTDAA (R467, R468): the address is lost, and new random bits are drawn. -/
def execRstdaa (s : State) : Answer :=
  if !s.on then .next s else .next ((s.set Reg.CMD_STAT_DYN_ADDR 0).drawPid)

/-- SETNEWDA (R467): a new dynamic address. -/
def execSetnewda (addr : Fin 128) (s : State) : Answer :=
  if !s.spanHere || addr.val = 0 then .next s else .next ((s.set Reg.CMD_STAT_DYN_ADDR addr).send (.span true []))

/-- SETDASA (R467): there is no static address; it is refused. -/
def execSetdasa (s : State) : Answer := if !s.on then .next s else .next (s.send (.span false []))

/-- ENEC (R442, R467): IBIs are enabled. -/
def execEnec (s : State) : Answer := if !s.on then .next s else .next (s.set Reg.EVT_IBI_IBI_EN 1)

/-- DISEC (R442, R467): IBIs are disabled. -/
def execDisec (s : State) : Answer := if !s.on then .next s else .next (s.set Reg.EVT_IBI_IBI_EN 0)

/-- The answer of a direct CCC that reads. -/
def State.cccRead (s : State) (bytes : List Byte) : State := if s.spanHere then s.send (.span true bytes) else s

/-- GETPID (R468). -/
def execGetpid (s : State) : Answer := .next (s.cccRead (beBytes 6 s.provisionedId))

/-- GETBCR (R467). -/
def execGetbcr (s : State) : Answer := .next (s.cccRead (beBytes 1 bcr))

/-- GETDCR (R467). -/
def execGetdcr (s : State) : Answer := .next (s.cccRead (beBytes 1 dcr))

/-- GETSTATUS (R467): the MIPI I3C status word, whose low bits number the pending interrupt (PRESUMED,
notes/assumptions/52.md). -/
def execGetstatus (s : State) : Answer := .next (s.cccRead (beBytes 2 (bit (!s.cmd.ibis.isEmpty))))

/-- GETMWL (R467). -/
def execGetmwl (s : State) : Answer := .next (s.cccRead (beBytes 2 maxLength))

/-- GETMRL (R467): with the IBI payload length of R442 in a third byte, as MIPI I3C has it for a target whose IBIs carry a
payload (PRESUMED, notes/assumptions/52.md). -/
def execGetmrl (s : State) : Answer := .next (s.cccRead (beBytes 2 maxLength ++ beBytes 1 4))

/-- SETMWL (R467): refused. -/
def execSetmwl (s : State) : Answer := if !s.spanHere then .next s else .next (s.send (.span false []))

/-- SETMRL (R467): refused. -/
def execSetmrl (s : State) : Answer := if !s.spanHere then .next s else .next (s.send (.span false []))

/-- ENTHDR0 (R467): the bus enters HDR-DDR. -/
def execEnthdr0 (s : State) : Answer := if !s.on then .next s else .next (s.updCmd fun c => { c with hdr := true })

/-- HDR_EXIT_PATTERN (R467): the bus is back in SDR. -/
def execHdrExitPattern (s : State) : Answer := if !s.on then .next s else .next (s.updCmd fun c => { c with hdr := false })

/-- IBI_ACCEPTED (R442, R469): the controller accepts or refuses the oldest request; an accepted event IBI ends what made it
due. -/
def execIbiAccepted (accepted : Bool) (s : State) : Answer :=
  match s.cmd.ibis with
  | [] => .next s
  | b :: l =>
    if !s.spanHere || !accepted || !(s.flag Reg.EVT_IBI_IBI_EN) then .next s
    else
      let event := b.headD 0#8 = 0xA0#8
      .next ((s.count Reg.EVT_IBI_SENT).updCmd fun c => { c with ibis := l, fresh := if event then [] else c.fresh })

end Sys2Proof.Machine
end

