-- ==== Sys2Proof/Machine/Startup.lean ====
section
/-! DEFINITION. Start-up (spec/16_startup_power_states.md R524 to R529): the end of each step, the Deck scan and the recovery of
the image key, the region map and tile states, and the all-zero image (spec/07_save_restore.md R247, R254 to R261, R270). -/

namespace Sys2Proof.Machine

/-! ### Steps -/

/-- A subsystem finds no history: its bit of FIRST_USE (R529). -/
def State.firstUse (s : State) (b : Nat) : State := (s.setBit Reg.SYS_STATE_FIRST_USE b true).raise 0x004 [d1 b]

/-- The step in progress ends after `ms` milliseconds (R526). -/
def State.endStep (s : State) (ms : Nat) : State :=
  (s.raise 0x001 [d1 (s.get Reg.SYS_STATE_STEP), d2 ms]).updSys fun x => { x with totalMs := x.totalMs + ms, stepBar := s.bar }

def State.toStep (s : State) (n : Nat) : State := s.set Reg.SYS_STATE_STEP n

/-- Step 1 ends: the score clock runs, and PFAIL shows the pin's level (R231, R525). -/
def State.step1 (s : State) : State :=
  ((s.setB Reg.TILE_SAVE_STAT_PFAIL s.save.pfailPin).updSave fun x => { x with pfailHigh := s.bar }).toStep 2

/-! ### Time bases (R524) -/

/-- The highest position of a committed event record. -/
def State.lastRecord (s : State) : Option Nat :=
  ((s.usedSlots (recAt 0) 8192).filter s.recOk).foldl (fun b i => match b with
    | none => some i
    | some j => some (max i j)) none

/-- OP_SECONDS and PWR_CYCLES as the newest records hold them, with the source of each: 1 estimator, 2 persistence, 3 event
record (DESIGN CHOICE, notes/assumptions/43.md). -/
def State.timeRecords (s : State) : List (Nat × Nat × Nat) :=
  (s.estNewest.map fun a => (s.flashNat (a + 8) 4, s.flashNat (a + 0xC) 4 % 2 ^ 24, 1)).toList
    ++ ((s.prsNewest fun _ => true).map fun i =>
      (s.flashNat (prsAt i + 0x18) 4, s.flashNat (prsAt i + 0x1C) 4 % 2 ^ 24, 2)).toList
    ++ (s.lastRecord.map fun i => (s.flashNat (recAt i + 4) 4, s.flashNat (recAt i + 8) 3, 3)).toList

/-- After a reset that the always-on domain did not survive, both are one more than the largest found; with no record they start
at 0 and 1. -/
def State.timeBases (s : State) : State :=
  let kind := s.get Reg.SYS_RESET_CAUSE_KIND
  if kind ≠ 0 && kind ≠ 2 then s
  else
    let l := s.timeRecords
    let ops := (l.map (·.1)).foldl max 0
    let src := ((l.find? fun e => e.1 = ops).map (·.2.2)).getD 0
    let s := s.set Reg.OP_SECONDS_SECONDS (if l.isEmpty then 0 else ops + 1)
    let s := s.set Reg.PWR_CYCLES_CYCLES (if l.isEmpty then 1 else (l.map (·.2.1)).foldl max 0 + 1)
    s.raise 0x00F [d4 (s.get Reg.OP_SECONDS_SECONDS), d4 (s.get Reg.PWR_CYCLES_CYCLES), d1 src]

/-- Step 2 ends: the journal, the option area, the time bases, the recorder and the estimator (R416, R424, R524, R453, R338);
both wardens then boot (R388). -/
def State.step2 (s : State) (r : StepReport) : State :=
  let s := s.readJournal.syncKeys.setB Reg.SEC_STAT_IDENTITY_OK r.identityOk
  let o := s.loadOptions
  let s := o.1.when o.2 fun s => s.firstUse 0
  let s := s.prsScan.timeBases.startRecorder
  let e := (s.measure r.meas true).startEstimator r.present r.eeprom
  let s := e.1.when e.2 fun s => s.firstUse 2
  let s := s.raise 0x000 [d1 (s.get Reg.SYS_RESET_CAUSE_KIND), d1 (s.get Reg.SYS_RESET_CAUSE_OFF_CAUSE),
    d4 (s.get Reg.PWR_CYCLES_CYCLES), d1 s.sys.pkgTries]
  ((s.toStep 3).bootUnit 0).bootUnit 1

/-! ### The boot score and the card rails (R105, R347, R350) -/

/-- The boot score of this card (R105). -/
def State.bootGraph (s : State) : Score := bootScore s.cardCfg (bitsAt (s.optWord 0x18) 0 16) (bitsAt (s.optWord 0x18) 16 16)

/-- Step 3 ends: the boot score is verified, and the active warden arms the power-up with the first sample of PWR_GO (R347,
R350). Built-in defaults, or a boot score that fails, halt start-up (R527). -/
def State.step3 (s : State) (r : StepReport) : State :=
  if s.flag Reg.FL_OPTION_DEFAULTS then s.halt 2 1
  else match bootVerify s.cardCfg s.bootGraph with
    | some f => (s.raise 0x058 [d2 f.code, d4 ((s.setLoc f.loc).word 0x20014)]).halt 3 3
    | none =>
      let cold := s.get Reg.SYS_RESET_CAUSE_KIND = 0 && !(s.flag Reg.PACK_OFF_VALID)
      let s := ((s.toStep 4).setB Reg.SEQ_STAT_PWR_GO r.pwrGo).armPower (r.pwrGo && cold)
      if r.pwrGo && s.get Reg.SEQ_STAT_STUCK = 0 && !s.cascade && !s.pwr.go then
        (s.set Reg.SEQ_STAT_START_SRC 1).updPwr fun x => { x with go := true }
      else s

/-- Populated channels train (R123): at a start-up all of them, on the way out of H those that were in service (R142, R535). -/
def State.trainAll (s : State) : State :=
  s.each (s.populated.filter fun c => decide (s.chState c ≤ chInService)) State.trainStart

/-- Step 4 ends: the table is complete; step 5 trains DRAM (R354). -/
def State.step4 (s : State) : State := (s.toStep 5).trainAll

/-! ### DRAM and NAND (R123, R278) -/

/-- Is training over: no populated channel is still TRAINING without a result? -/
def State.trainingOver (s : State) : Bool := s.populated.all fun c => s.chState c ≠ chTraining || (s.ch c).trained

/-- NAND channels of the card enter service, or fail R278; a channel that failed for the life of the format stays out (R278,
R289). -/
def State.startNand (s : State) (up : List Bool) : State :=
  s.each (nandChannels.filter (bitAt s.card.nchMask)) fun s n =>
    match s.deck.failed.find? fun e => e.1 = n with
    | some e => (s.setNch n 3).set (Reg.NCH_STAT_FAIL_CAUSE n) e.2
    | none =>
      if up.getD n false then s.setNch n 1
      else ((s.setNch n 3).set (Reg.NCH_STAT_FAIL_CAUSE n) 1).raise (srcNand n 2) [d1 0, d2 0, d2 0, d1 0]

/-- Did the channel train without a valid seed (R124, R529)? -/
def State.noSeed (s : State) (c : Nat) : Bool := (((s.ch c).newestSlot).bind (·.2.seed)).isNone || s.get (Reg.DCH_TRAIN_RESULT c) = 1

/-- The boot score plays (R105). That its first variant counts as a change from V0 to V0, with 0x040, is a DESIGN CHOICE
(notes/assumptions/83.md). -/
def State.playBoot (s : State) : State :=
  let s := s.beginScore s.bootGraph
  let s := s.updSeq fun q => { q with playDigest := [], staged := Staged.empty }
  let s := ((s.set Reg.SCORE_STAT_BOOT 1).set Reg.SCORE_STAT_ARMED 0).set Reg.SCORE_LOAD_STAT_STATE loadEmpty
  let s := ((s.set Reg.SCORE_PLAY_ID_ID 0).set Reg.SCORE_PLAY_REV_REV 0).raise 0x057
    [d2 (bitsAt (s.optWord 0x18) 0 16), d2 (bitsAt (s.optWord 0x18) 16 16), d1 s.seq.play.density]
  (s.planBar true false false).publishBounds.updGpf

/-- Trained channels serve; with none, start-up halts (R142, R527). -/
def State.step5 (s : State) (r : StepReport) : State :=
  let s := s.when (s.populated.any s.noSeed) fun s => s.firstUse 1
  let s := s.each (s.populated.filter fun c => s.chState c = chTraining) fun s c =>
    (s.setChState c chInService).updCh c fun x => { x with trained := false, zqBar := s.bar, dqsBar := s.bar }
  let s := (s.startNand r.nandUp).updOffline
  let gates := (nandChannels.map fun n => if s.nchServing n then 2 ^ n else 0).sum
  let s := (s.set (Reg.GUARD_OUT_OUT 3) gates).set (Reg.GUARD_OUT_HW 3) 0
  let s := s.set Reg.SYS_STARTUP_TRAIN_MS (satW 16 r.ms)
  if !(channels.any s.serving) then s.halt 5 7
  else
    let s := s.playBoot
    ((s.toStep 6).set Reg.DECK_STAT_STATE 1).set Reg.TILE_RESTORE_STAT_STATE 1

/-! ### The Deck scan (R246, R247, R512, R513) -/

/-- Was the Keystone written by this Niril, or by the writer that the import record of this Deck names (R512)? -/
def State.ownKeystone (s : State) (k : Keystone) : Bool := k.device = s.deviceId
def State.importWriter (s : State) (k : Keystone) : Bool :=
  s.importPresent && s.importDeck = k.deckId && k.device = Config.sha384 s.importKey

def State.accepted (s : State) (k : Keystone) : Bool := s.ownKeystone k || s.importWriter k

/-- Keystones with a copy that is valid, or foreign: commit word and digest good. -/
def State.validKeystones (s : State) : List Keystone := s.deck.keystones.filter fun k => !k.copies.isEmpty && s.accepted k
def State.foreignKeystones (s : State) : List Keystone := s.deck.keystones.filter fun k => !k.copies.isEmpty && !(s.accepted k)

/-- The Keystone of the highest sequence number; among several of it, that with a copy on the lowest channel (R247). -/
def highestOf (l : List Keystone) : Option Keystone :=
  l.foldl (fun b k => match b with
    | none => some k
    | some c =>
      if c.seq < k.seq || (c.seq = k.seq && decide ((k.copies.min?).getD 16 < (c.copies.min?).getD 16)) then some k else some c) none

/-- The highest sequence number in any copy, valid or not (R248). -/
def State.highestSeen (s : State) : Nat := (s.deck.keystones.map (·.seq)).foldl max 0

/-- How the media key of a Keystone is recovered: MK_SOURCE, or none with the row of R512 that failed, 1 to 3. -/
def State.keyRecovery (s : State) (k : Keystone) : Option Nat × Nat :=
  let e := s.get Reg.SEC_STAT_EPOCH
  if s.ownKeystone k then
    if k.keyRef.mode = 1 then (if k.keyRef.epoch = e || k.keyRef.epoch = e + 1 then some 2 else none, 1)
    else (if s.sec.store.any fun x => !x.owner && keyId x.key = k.keyRef.escrowId then some 2 else none, 2)
  else
    let id := leNat (s.optBytes (0x6B0 + 0x74) 4)
    let ok := (s.sec.store.any fun x => !x.owner && keyId x.key = id)
      && Config.importUnwraps (s.optBytes (0x6B0 + 0xEC) 40) k.keyRef.mediaKey
    (if ok then some 3 else none, 3)

/-- KEY_REF as the SEC_FOREIGN registers show it: the fields the model holds; WRAP and MK_CHECK are not computed
(notes/assumptions/3.md). -/
def KeyRef.bytes (r : KeyRef) : List Byte :=
  leBytes 1 1 ++ leBytes 1 r.mode ++ leBytes 2 r.epoch ++ leBytes 4 r.escrowId ++ Config.wrapBytes r.mediaKey

/-- The SEC_FOREIGN registers (R513, R519). -/
def State.showForeign (s : State) (k : Keystone) : State :=
  let s := (s.set Reg.SEC_FOREIGN_SEQ_LO_SEQ (k.seq % 2 ^ 32)).set Reg.SEC_FOREIGN_SEQ_HI_SEQ (k.seq / 2 ^ 32)
  let s := s.each (List.range 4) fun s w => s.set (Reg.SEC_FOREIGN_DECK_ID_BYTES w) (leAt k.deckId (4 * w) 4)
  let s := s.each (List.range 12) fun s w => s.set (Reg.SEC_FOREIGN_DEVICE_ID_BYTES w) (leAt k.device (4 * w) 4)
  (s.each (List.range 16) fun s w => s.set (Reg.SEC_FOREIGN_KEY_REF_BYTES w) (leAt k.keyRef.bytes (4 * w) 4)).set
    Reg.SEC_STAT_FOREIGN 1

/-- The image key cannot be had: start-up holds (R255, R513). -/
def State.holdImage (s : State) (row seq : Nat) : State :=
  let s := (s.set Reg.TILE_RESTORE_STAT_NO_KEY 1).raise 0x1FD [d1 row, d8 seq]
  (s.raise 0x15D [d1 2]).halt 6 5

/-- A rebuild that was running goes on: bands with stripes written while a failed channel was in service (R289). -/
def State.resumeRebuild (s : State) : State :=
  let bands := (s.deck.failed.flatMap fun e => s.rebuildBands e.1).dedup
  if bands.isEmpty || s.nchCount < 14 then s
  else
    let s := (s.updDeck fun d => { d with rebuild := bands }).set Reg.DECK_STAT_REBUILD 1
    s.set Reg.DECK_REBUILD_REMAIN bands.length

/-- Is a format unfinished: no Keystone, and too few bands erased (R311, R312)? -/
def State.formatOpen (s : State) : Bool := s.deck.keystones.isEmpty && decide (s.erasedBands < s.neededBands)

/-- The Deck's tables are loaded, and its state is READY, or FORMATTING while a format is unfinished (R306). -/
def State.loadDeck (s : State) : State :=
  let s := s.updDeck fun d => { d with seqHigh := max d.seqHigh s.highestSeen }
  let s := if s.formatOpen then (s.updDeck fun d => { d with autoFormat := true }).set Reg.DECK_STAT_STATE 4
    else s.set Reg.DECK_STAT_STATE 2
  let s := s.each nandChannels fun s n => (s.updWear n).updSpares n
  let s := s.set Reg.DECK_SEGMENT_NEXT s.deck.segNext
  (s.resumeRebuild.updBands).updSaveRate true

/-- Does the image record tiles in segments that its parent records too (R268)? -/
def State.chained (s : State) (k : Keystone) : Bool :=
  k.parent ≠ 0 && ((s.deck.keystones.find? fun x => x.seq = k.parent).map fun x =>
    k.map.any fun e => e.2 ≠ .lost && x.map.contains e).getD false

/-- A Keystone is taken: its key, its map and its sequence number (R247, R306, R512). It stands first from here on, before a copy of the
same number with other contents. -/
def State.takeKeystone (s : State) (k : Keystone) (src : Nat) : State :=
  let e := s.get Reg.SEC_STAT_EPOCH
  let up := s.ownKeystone k && k.keyRef.mode = 1 && k.keyRef.epoch = e + 1
  let s := s.when up fun s => (s.set Reg.SEC_STAT_EPOCH (e + 1)).set Reg.SEC_STAT_EPOCH_LEFT (255 - (e + 1))
  let s := (s.updSave fun x => { x with mediaKey := k.keyRef.mediaKey, parent := k.seq, dirtied := false }).set
    Reg.SEC_STAT_MK_SOURCE src
  let s := s.raise 0x1FD [d1 src, d8 k.seq]
  let s := (s.updDeck fun d => { d with loc := k.map, keystones := k :: d.keystones.erase k }).setKeystoneSeq k.seq
  let s := (s.set Reg.TILE_RESTORE_STAT_VALID_COPIES (min 3 k.copies.length)).setB Reg.TILE_RESTORE_STAT_CHAINED (s.chained k)
  s

/-- Several valid Keystones share the selected number with other contents: 0x15E (R247). -/
def State.conflict (s : State) (k : Keystone) : State :=
  let same := s.validKeystones.filter fun x => x.seq = k.seq
  if same.length < 2 then s else s.raise 0x15E (d8 k.seq :: (same.flatMap (·.copies)).map d1)

/-- Copies of an accepted writer whose signature does not verify (R500). -/
def State.forgedCopies (s : State) : State :=
  s.each ((s.deck.keystones.filter s.accepted).flatMap (·.forged)) fun s _ =>
    (s.count Reg.SEC_SIG_FAIL_KEYSTONE).raise 0x1FF [d1 3, d1 0]

def State.scanDone (s : State) (seq copies ms : Nat) : State :=
  s.raise 0x170 [d1 (s.get Reg.DECK_STAT_STATE), d8 seq, d1 copies, d2 ms]

/-- Step 6 ends: no Deck (R278), an unformatted one (R306), a foreign or unreadable image (R513, R255), or a Deck whose image, if
it holds one, is selected. -/
def State.step6 (s : State) (ms : Nat) : State :=
  let next := fun (s : State) => s.toStep 7
  if s.nchCount < 14 then next ((s.set Reg.DECK_STAT_STATE 5).updSaveRate true)
  else if s.deck.header.isNone then
    if s.deck.blank && s.flag Reg.DECK_CFG_AUTO_FORMAT then next ((s.firstUse 3).beginFormat true)
    else ((s.set Reg.DECK_STAT_STATE 3).raise 0x17A [d1 (bit s.deck.blank)]).halt 6 6
  else
    let s := s.loadDeck.forgedCopies
    let best := highestOf s.validKeystones
    let bestSeq := (best.map (·.seq)).getD 0
    match highestOf (s.foreignKeystones.filter fun k => best.isNone || decide (bestSeq < k.seq)) with
    | some f => ((s.showForeign f).scanDone 0 0 ms).holdImage 4 f.seq
    | none =>
      match best with
      | none => next (s.scanDone 0 0 ms)
      | some k =>
        let s := (s.conflict k).scanDone k.seq (min 3 k.copies.length) ms
        match s.keyRecovery k with
        | (some src, _) => next (s.takeKeystone k src)
        | (none, row) => s.holdImage row k.seq

/-! ### Tile states (R254, R256, R257, R270) -/

/-- Every frame in service that no tile holds enters the zeroing queue (R257, R270). -/
def State.queueLeft (s : State) : State :=
  s.each (channels.filter s.serving) fun s c =>
    let taken := ((s.mappedFrames c).map (· / 8)) ++ (s.ch c).retired
    s.each (((List.range s.framesPerChannel).filter fun g => !(taken.contains g)).map fun g => 8 * g + c) State.queueZero

/-- The tile engine holds no tile. -/
def State.clearTiles (s : State) : State :=
  let s := { s with dram := { s.dram with zeroQueue := [] } }
  let s := s.each channels fun s c => s.updCh c fun x => { x with work := { x.work with jobs := [] }, copying := none }
  s.updTile fun x => { x with
    codes := [], map := [], homeless := [], releasing := [], origins := [], strayFrames := [], held := [], waits := []
    fetches := [], flights := [], sweep := none, sweepStopped := false, sweepNext := false }

/-- The all-zero image (R270). -/
def State.zeroImage (s : State) (reason : Nat) : State :=
  let s := s.clearTiles.updTile fun x => { x with regions := List.replicate 64 .free }
  let s := (s.updDeck fun d => { d with loc := [] }).updSave fun x => { x with parent := 0, dirtied := true }
  ((s.queueLeft).set Reg.TILE_RESTORE_STAT_STATE 5).raise 0x15D [d1 reason]

/-- Index of a tile's record in an image tile map: regions in ascending number, tiles in ascending number (R301). -/
def mapIndex (regions : List Region) (t : Nat) : Option Nat :=
  match regions.findIdx? (·.hasTile t) with
  | none => none
  | some r => some ((((regions.take r).filter (·.active)).map fun x => 16384 * x.size).sum + (t - (regions.getD r .free).tileBase))

/-- Can map share `i` of a Keystone be read or reconstructed (R256, R284)? -/
def State.mapShareOk (s : State) (seq i : Nat) : Bool :=
  s.deck.stripes.any fun x => x.kind = .map && x.shares.any (fun e =>
    e.2.tile = i && e.2.seq = seq && (s.shareOk x e.1 || decide ((s.missing x).length ≤ 2)))

/-- The region map and the tile states of the selected image (R256): LOST, or ABSENT with a frame in ascending tile number
while there are frames (R257). -/
def State.restoreImage (s : State) (k : Keystone) : State :=
  let s := s.clearTiles.updTile fun x => { x with regions := k.regions }
  let tiles := (k.regions.filter (·.active)).flatMap Region.tiles
  let bad := fun (t : Nat) => !(s.mapShareOk k.seq (((mapIndex k.regions t).getD 0) / 8192))
  let s := s.each (sortBy (fun a b => a ≤ b) tiles) fun s t =>
    if bad t || s.recOf t = .lost then ((s.setCode t codeLost).setFrame t none).setRec t .lost
    else (s.setCode t codeAbsent).rehome t
  let s := s.queueLeft
  s.each (List.range 64) fun s r =>
    let x := s.region r
    if x.active && !(s.ldExists x.port x.ld && decide (x.base + x.size ≤ s.get (Reg.HPORT_LD_LD_SIZE x.port x.ld))) then
      s.raise 0x162 [dRegion r, dPort x.port, dLd x.port x.ld]
    else s

/-- The dirty shutdown count (R254): the newest persistence entry of kinds 1 to 3 is an in-service or an open-save entry. The
cases are numbered as R254 lists them. -/
def State.decideDsc (s : State) : State :=
  match s.prsNewest fun k => k = 1 || k = 2 || k = 3 with
  | none => s
  | some i =>
    let kind := s.flashNat (prsAt i + 8) 1
    if kind = 3 then s
    else
      let s := s.bump Reg.TILE_DSC_COUNT
      let case := if kind = 2 then 1 else 2
      (s.prsAdd 4 0 s.keystoneSeq).raise 0x160 [d4 (s.get Reg.TILE_DSC_COUNT), d1 case]

/-- The first recomputation of N_max, when step 8 begins, sets persistence directly (R223). -/
def State.firstBudget (s : State) : State :=
  let s := s.publishBudget.updOverWindow
  let c := s.causeFound
  ((s.setB Reg.TILE_STAT_ASSURED (c = 0)).set Reg.TILE_STAT_CAUSE c).updExpedited

/-- Restore begins: at the ports' coming up, or, with HOST_GATE 1, before it (R259, R261). -/
def State.beginRestore (s : State) : State :=
  if s.get Reg.TILE_RESTORE_STAT_STATE ≠ 1 then s
  else
    let s := (s.set Reg.TILE_RESTORE_STAT_STATE (2 + s.get Reg.TILE_RESTORE_CTL_PAUSE)).set Reg.TILE_RESTORE_DONE_TILES 0
    let s := s.updTile fun x => { x with restoreBar := s.bar }
    let s := s.raise 0x15A [d8 s.keystoneSeq, d8 (((s.keystoneOf s.keystoneSeq).map (·.parent)).getD 0),
      d4 (s.tilesWith (· = codeAbsent)).length, d4 (s.tilesWith (· = codeLost)).length]
    s.checkRestoreDone

/-- Step 8 begins: the first recomputation of N_max, and the host ports are enabled (R223, R526). -/
def State.openPorts (s : State) : State := ((s.toStep 8).firstBudget).each ports State.trainPort

/-- Step 7 sets up the image selected, or the all-zero image (R256, R257, R270), and decides the dirty shutdown count (R254). It ends there,
or, with HOST_GATE 1, once the restore that begins is DONE (R261, R526). -/
def State.step7 (s : State) : State :=
  let image := if s.get Reg.DECK_STAT_STATE = 2 then s.keystoneOf s.keystoneSeq else none
  let s := match image with
    | some k => s.restoreImage k
    | none =>
      let none' := s.deck.keystones.isEmpty
      let s := s.when none' fun s => s.firstUse 4
      (s.zeroImage (if none' then 0 else 1)).newMediaKey
  let s := (s.decideDsc.publishBounds.updGpf).updSys fun x => { x with tilesSet := true }
  if s.flag Reg.TILE_RESTORE_CTL_HOST_GATE then s.beginRestore else s

/-! ### The end of start-up (R526, R535) -/

/-- Host requests that waited in H are looked up, with their own stamps (R534, R535). -/
def State.serveHReqs (s : State) : State :=
  let l := s.sys.hReqs
  (s.updSys fun x => { x with hReqs := [] }).each l fun s r => s.lookUp r.acc r.stamp r.write r.data r.mask

/-- An exit from H is over (R534, R535): A0, with 0x008, and 0x009 where it took more than 300 ms. -/
def State.endHExit (s : State) : State :=
  match s.sys.hExit with
  | none => s
  | some (cause, bar) =>
    let us := (s.bar - bar) * 39 / 10
    let s := s.updSys fun x => { x with hExit := none, wakes := [] }
    let s := (s.raise 0x008 [d1 cause, d4 (us / 1000)]).when (decide (300000 < us)) fun s => s.raise 0x009 [d1 4, d4 us]
    (s.setPower 0 1).serveHReqs

/-- Step 8 ends: the in-service entry has verified, the host ports are enabled and restore has begun (R254, R259, R526). -/
def State.step8 (s : State) : State :=
  let s := (s.prsAdd 1 0 s.keystoneSeq).each (ports.filter fun p => s.get (Reg.HPORT_STAT_LINK_STATE p) = 4) fun s p =>
    (s.set (Reg.HPORT_STAT_LINK_STATE p) 3).raise (srcPort p 14) [d1 0]
  let s := (s.beginRestore).toStep 15
  let s := if s.assured then s else s.notAssured (s.get Reg.TILE_STAT_CAUSE)
  if s.sys.hExit.isSome then s.endHExit
  else
    let s := s.set Reg.SYS_STARTUP_TOTAL_MS (satW 16 s.sys.totalMs)
    s.raise 0x002 [d2 (s.get Reg.SYS_STARTUP_TOTAL_MS), d1 (s.get Reg.SYS_STATE_FIRST_USE)]

/-- May the step in progress end: what it waits for inside the block is there? Step 3 waits for an active warden, step 4 for the
rails, step 5 for training, step 7, with HOST_GATE 1, for the restore (R261, R526). -/
def State.stepMay (s : State) : Bool :=
  !(s.flag Reg.SYS_STATE_HALT) && !s.save.shut && s.seqState ≠ seqDown && (match s.get Reg.SYS_STATE_STEP with
    | 3 => decide (s.get Reg.WARDEN_STAT_ACTIVE ≠ 0)
    | 4 => decide (s.seqState = seqOn)
    | 5 => decide (s.seqState = seqOn) && s.trainingOver
    | 7 => !s.sys.tilesSet || !s.restoring
    | n => decide (1 ≤ n) && decide (n ≤ 8))

/-- The step in progress ends, and the next begins (R526). A step that halts has not ended. -/
def State.stepDone (s : State) (r : StepReport) : State :=
  let t := match s.get Reg.SYS_STATE_STEP with
    | 1 => (s.endStep r.ms).step1
    | 2 => (s.endStep r.ms).step2 r
    | 3 => s.step3 r
    | 4 => (s.endStep r.ms).step4
    | 5 => s.step5 r
    | 6 => s.step6 r.ms
    | 7 =>
      let t := if s.sys.tilesSet then s else s.step7
      if t.restoring then t else (t.endStep r.ms).openPorts
    | _ => (s.endStep r.ms).step8
  if [3, 5, 6].contains (s.get Reg.SYS_STATE_STEP) && !(t.flag Reg.SYS_STATE_HALT) then
    (t.raise 0x001 [d1 (s.get Reg.SYS_STATE_STEP), d2 r.ms]).updSys fun x => { x with totalMs := x.totalMs + r.ms, stepBar := s.bar }
  else t

/-- STARTUP_STEP_DONE (R526): a step that halted, or still waits, does not end. -/
def execStartupStepDone (r : StepReport) (s : State) : Answer :=
  s.powered <| if s.stepMay then .next (s.stepDone r) else .next s

/-! ### Formats that end (R311, R312, R517) -/

/-- NEEDED bands are erased: the Deck is READY (R311, R312). After a format that was commanded the image is all-zero under a new
media key (R270, R509), start-up goes on where it waited for the format (R527), and a crypto erase ends (R517). -/
def State.formatDone (s : State) : State :=
  let id := (s.deck.header.map (·.1)).getD []
  let s := (s.set Reg.DECK_STAT_STATE 2).raise 0x179 [d8 (leNat (id.take 8)), d8 (leNat (id.drop 8))]
  let s := if s.deck.autoFormat then s
    else if s.get Reg.SYS_STATE_STEP = 6 then
      ((s.set Reg.TILE_RESTORE_STAT_NO_KEY 0).set Reg.SEC_STAT_FOREIGN 0).unhalt
    else (s.zeroImage 0).newMediaKey
  let s := s.when s.sec.erasing fun s =>
    { s with sec := { s.sec with erasing := false } }.raise 0x1FE [d1 2, d1 (s.get Reg.SEC_STAT_EPOCH)]
  (s.updSaveRate false).updTile fun x => { x with recompute := true }

/-- DECK_FORMAT_DONE (R311, R312): NEEDED bands are erased. -/
def execDeckFormatDone (s : State) : Answer := s.powered <| if s.formatReady then .next s.formatDone else .next s

end Sys2Proof.Machine
end

