-- ==== Sys2Proof/Machine/Resets.lean ====
section
/-! DEFINITION. Device resets, the off state, ship mode and the pins that reset or cut the device (spec/16_startup_power_states.md
R521 to R525, spec/17_electrical_package.md R546 to R556, R341, R361, R362, R454). -/

namespace Sys2Proof.Machine

/-! ### What a loss of power leaves on NAND and in the code flash -/

/-- A stripe whose shares were not all programmed: what was queued is missing for good (R283, R284). -/
def Stripe.cut (x : Stripe) : Stripe :=
  if x.closed then { x with todo := [], gone := x.gone ++ sharePositions.filter fun k => x.todo.contains (x.chan k) }
  else { x with closed := true, todo := [], gone := sharePositions }

/-- Add channels to the copies of a Keystone that are not valid. -/
def Keystone.tear (k : Keystone) (cs : List Nat) : Keystone :=
  { k with copies := k.copies.filter (fun c => !cs.contains c), bad := k.bad ++ cs }

/-- The Keystones with the copies that were being written: a page was programmed and the commit page had not verified
(R245, R246). -/
def DeckState.tornCopies (d : DeckState) : List Keystone :=
  match d.writing with
  | none => d.keystones
  | some w =>
    let torn := (w.copies.filter fun c => c.chan ≠ 16 && c.commit && decide (c.body < w.ks.pages)).map (·.chan)
    if torn.isEmpty then d.keystones
    else if d.keystones.any (fun k => k.seq = w.ks.seq) then
      d.keystones.map fun k => if k.seq = w.ks.seq then k.tear torn else k
    else d.keystones ++ [({ w.ks with copies := [] } : Keystone).tear torn]

/-- The copies in a ring superblock whose erase was cut short are not valid (notes/assumptions/54.md). -/
def State.cutRings (s : State) : State :=
  s.each nandChannels fun s n =>
    let rings := (s.nch n).ops.filterMap (fun o => match o.work with | .ring r => some r | _ => Option.none)
    let seqs := rings.flatMap fun r => (s.nch n).ring.seqs.getD r []
    let cut := fun (k : Keystone) => if seqs.contains k.seq && k.copies.contains n then k.tear [n] else k
    s.updDeck fun d => { d with keystones := d.keystones.map cut }

/-- The NAND and the Deck engine lose power: operations, open segments and a Keystone being written are cut short (R250, R297). -/
def State.deckCut (s : State) : State :=
  let s := s.cutRings
  s.updDeck fun d => { d with
    stripes := d.stripes.map Stripe.cut
    keystones := d.tornCopies
    writing := none, segs := [], rebuild := [], refreshWanted := false, moves := [], retries := []
    chans := d.chans.map fun x => { NandCh.init with ring := x.ring, times := x.times, warned := x.warned } }

/-- A word program that power cuts short leaves a word with contents of its own (R406): a free value. -/
def State.cutProgram (s : State) : State :=
  match s.flash.prog with
  | none => s
  | some (a, _) =>
    let bad := (List.range 8).map fun i => Config.flashNoise s.flash.noise (a + i)
    (s.flashPut a bad).updFlash fun x => { x with prog := none, noise := x.noise + 1 }

/-- An event record that power cuts short is torn: some of its words, and a free value after them (R445, R453). -/
def State.cutRecord (s : State) : State :=
  match s.recorder.prog, s.recPlace with
  | some (e, supp), some i =>
    let k := Config.entropy s.draws % 8
    let bad := (List.range 8).map fun j => Config.flashNoise s.flash.noise (recAt i + 8 * k + j)
    let s := s.flashPut (recAt i) ((recBytes e supp).take (8 * k) ++ bad)
    { s.updFlash (fun x => { x with noise := x.noise + 1 }) with draws := s.draws + 1 }
  | _, _ => s

/-! ### A device reset (R521, R524, R568) -/

/-- Take over field values from another state. -/
def State.keep (t s : State) (l : List Field) : State := t.each l fun t f => t.set f (s.get f)

/-- What a channel keeps in the code flash: the two slots of its training record (R126). -/
def DramCh.kept (x : DramCh) : DramCh :=
  { DramCh.init with slots := x.slots }

/-- What the Deck holds on NAND (R297 to R304). -/
def DeckState.kept (d : DeckState) : DeckState :=
  { DeckState.init with
    header := d.header, blank := d.blank, autoFormat := d.autoFormat, failed := d.failed, stripes := d.stripes
    segNext := d.segNext, bands := d.bands, keystones := d.keystones, streamed := d.streamed, raw := d.raw, govStreamed := d.streamed
    wear := d.wear, remap := d.remap, marked := d.marked, sparesUsed := d.sparesUsed
    chans := d.chans.map fun x => { NandCh.init with ring := x.ring } }

/-- What the code flash holds; the controller starts afresh (R401). -/
def FlashState.kept (x : FlashState) : FlashState :=
  { FlashState.init with bytes := x.bytes, sect := x.sect, ue := x.ue, noise := x.noise + 1 }

/-- What fuses hold (R497, R502, R503). -/
def fuseFields : List Field := [Reg.SEC_GEN_GEN, Reg.SEC_STAT_EPOCH, Reg.SEC_STAT_EPOCH_LEFT, Reg.SEC_FW_MIN_SV]

/-- What the always-on domain holds (R456, R524, R540). -/
def alwaysOnFields : List Field :=
  [Reg.OP_SECONDS_SECONDS, Reg.EVT_REC_DROPPED_COUNT, Reg.EVT_REC_STAT_DROPPED_LOST, Reg.SYS_RESET_CAUSE_OFF_CAUSE,
    Reg.CMD_STAT_STRAP_ID]

/-- Everything volatile returns to its reset value. -/
def State.cleared (s : State) : State :=
  let t := State.reset
  let t := { t with
    pending := s.pending, outs := s.outs, draws := s.draws, card := s.card
    dram := { t.dram with chans := s.dram.chans.map DramCh.kept }
    deck := s.deck.kept
    flash := s.flash.kept
    sec := { t.sec with store := s.sec.store, aliasRot := s.sec.aliasRot }
    save := { t.save with pfailPin := s.save.pfailPin }
    sys := { t.sys with rstLow := s.sys.rstLow } }
  t.keep s fuseFields

/-- Does the always-on domain survive a reset of this kind (R521)? -/
def survives (kind : Nat) : Bool := kind ≠ 0 && kind ≠ 2

/-- A device reset of a kind: start-up step 1 begins (R521, R524, R525). With the always-on domain its holdings survive, with
the time off where it was off; without it the straps are sampled again (R554). -/
def State.resetTo (s : State) (kind offMs straps : Nat) : State :=
  let s := (s.cutProgram.cutRecord).deckCut
  let t := s.cleared
  let t := if survives kind then
      let t := (t.keep s alwaysOnFields).set Reg.PWR_CYCLES_CYCLES (s.get Reg.PWR_CYCLES_CYCLES + 1)
      let t := (t.set Reg.PACK_OFF_VALID 1).set Reg.PACK_OFF_SECONDS (offMs / 1000)
      t.set Reg.SEQ_OFF_LAST_OFF_MS (satW 16 offMs)
    else t.set Reg.CMD_STAT_STRAP_ID straps
  let t := (t.set Reg.CMD_STAT_SPAN_ID (t.get Reg.CMD_STAT_STRAP_ID)).set Reg.SYS_RESET_CAUSE_KIND kind
  t.resetTarget

/-- COLD_POWER_ON (R521, kind 0): power reaches an always-on domain that had none; in ship mode a rising CHG_DET comes first
(SHIP_WAKE). A disconnect that a trip opened closes at this power-on; a condition that still holds trips again (R339,
notes/assumptions/82.md). The operand is what ID_0 to ID_5 show. -/
def execColdPowerOn (straps : Fin 64) (s : State) : Answer :=
  if s.sys.dead && !(s.packState = packShip && s.get (Reg.GUARD_OUT_OUT 4) = 1) then .next (s.resetTo 0 0 straps) else .next s

/-- POWER_LOSS (R250): energy runs out, and everything stops. -/
def execPowerLoss (s : State) : Answer := .next (s.updSys fun x => { x with dead := true, off := false })

/-! ### The off state (R361, R362, R454, R549) -/

/-- The shut-down's trigger cause as SYS_RESET_CAUSE.OFF_CAUSE will show it (R540). -/
def State.enterOff (s : State) (cause : Nat) : State :=
  (s.set Reg.SYS_RESET_CAUSE_OFF_CAUSE cause).updSys fun x => { x with off := true, drain := none }

/-- RECORDER_DRAIN_END (R361, R454, R549): 16 phrases after a shut-down completed, or earlier where nothing is queued; what is
left is dropped, and the device is off. -/
def execRecorderDrainEnd (s : State) : Answer :=
  s.powered <| match s.sys.drain with
  | none => .next s
  | some b =>
    let idle := s.recorder.queue.isEmpty && s.recorder.prog.isNone && s.recorder.supp.isEmpty
    if b + 4096 ≤ s.bar || idle then
      let running := ((s.recorder.prog.map fun e => 1 + e.1.repeats)).getD 0
      .next ((s.recDrop (s.recHeld + running)).enterOff s.saveCause)
    else .next s

/-- Do the conditions of R362 hold for every cause of the shut-down? -/
def State.mayRestart (s : State) (offMs pfailHighMs : Nat) (dieTemp : Int) : Bool :=
  let c := s.sys.offCauses
  decide (s.get Reg.SEQ_OFF_MIN_OFF_MS ≤ offMs) && s.save.pfailPin && decide (100 ≤ pfailHighMs)
    && (!(c.contains 8 || (c.contains 3 && !s.save.reset)) || s.sys.pfailRose)
    && (!(c.contains 5) || decide (dieTemp < 95))
    && !s.pack.ship

/-- OFF_STATE_RESTART (R362, R522): off for `offMs`, PFAIL_N high for `pfailHighMs` without a break, at a die temperature. -/
def execOffStateRestart (offMs pfailHighMs : Nat) (dieTemp : Int) (s : State) : Answer :=
  if s.sys.off && !s.sys.dead && s.mayRestart offMs pfailHighMs dieTemp then
    .next (s.resetTo (if s.save.reset then 3 else 1) offMs 0)
  else .next s

/-! ### Ship mode (R341) -/

/-- SHIP_DISCONNECT (R341): CHG_DET has been low for 1 s in SHIP_PENDING, the rails being off; the disconnect opens. -/
def execShipDisconnect (s : State) : Answer :=
  if s.sys.off && s.packState = packShip then
    .next (((s.set (Reg.GUARD_OUT_OUT 4) 1).set (Reg.GUARD_OUT_HW 4) 1).updSys fun x => { x with dead := true, off := false })
  else .next s

/-- SHIP_WAKE (R341, R521, kind 2): a rising CHG_DET closes the disconnect. -/
def execShipWake (straps : Fin 64) (s : State) : Answer :=
  if s.sys.dead && s.packState = packShip && s.get (Reg.GUARD_OUT_OUT 4) = 1 then .next (s.resetTo 2 0 straps) else .next s

/-! ### RESET_DEVICE (R522) -/

/-- The reset of kind 1: a save with OFF, or before step 7 the shut-down at once; in H the image is committed already. -/
def State.resetDevice (s : State) : State :=
  let s := s.updSave fun x => { x with reset := true }
  if !s.sys.tilesSet || s.inH then
    ((s.set Reg.TILE_SAVE_STAT_CAUSE 3).updSave fun x => { x with shut := true }).noteOff [(3, true)]
  else s.latchSave 3 true

/-- RESET_DEVICE_EXECUTE (R522): at the phrase start that is due. -/
def execResetDeviceExecute (s : State) : Answer :=
  s.powered <| match s.sys.resetReq with
  | none => .next s
  | some (k, b, _) =>
    if s.phraseStart && decide (b ≤ s.bar) then
      let s := s.updSys fun x => { x with resetReq := none }
      .next (if k = 1 then s.resetDevice else (s.resetUnit 0).resetUnit 1)
    else .next s

/-! ### SYS_RST_N (R523, R556) -/

/-- Must the pin wait: for a save in STATE 1 to 4, or one that a trigger of this bar begins (R556)? -/
def State.pinWaits (s : State) : Bool :=
  (decide (1 ≤ s.saveState) && decide (s.saveState ≤ 4)) || !s.save.latched.isEmpty
    || (!s.save.pfailPin && s.flag Reg.TILE_SAVE_STAT_PFAIL && s.save.pfailFell / 6240 = s.bar)

/-- The pin holds the device in reset: every EN_n is low, without sequencing, and every DIS_n is high (R556). -/
def State.pinHolds (s : State) : State :=
  ((s.set Reg.SEQ_LIVE_EN 0).set Reg.SEQ_DIS_DIS 0xFFFF).updSys fun x => { x with rstHeld := true, rstWaits := false }

/-- SYS_RST_N_ASSERT (R556): the pin has been low for 1.0 µs. In the off state it is ignored. -/
def execSysRstNAssert (slot : Fin 6240) (s : State) : Answer :=
  s.powered <|
    let s := (s.at slot).updSys fun x => { x with rstLow := true }
    if s.pinWaits then .next (s.updSys fun x => { x with rstWaits := true }) else .next s.pinHolds

/-- A pin that waited acts once the save has committed or failed, if it is still low (R556). -/
def State.pinAfterSave (s : State) : State :=
  if s.sys.rstWaits && s.sys.rstLow && !s.pinWaits then s.pinHolds else s

/-- SYS_RST_N_RELEASE (R556): the pin has risen, and 100 ms have passed since it fell; step 1 begins where it held the device in
reset. -/
def execSysRstNRelease (s : State) : Answer :=
  let s := s.updSys fun x => { x with rstLow := false, rstWaits := false }
  if s.sys.rstHeld && !s.sys.dead then .next (s.resetTo 4 0 0) else .next s

/-! ### Package supplies and the clock (R548, R550, R562) -/

/-- PKG_PG_TIMEOUT (R548): PKG_PG is not high within 5.0 ms in step 1. Every third failed try holds PKG_EN low until PFAIL_N has
fallen and risen. -/
def execPkgPgTimeout (s : State) : Answer :=
  s.powered <|
    if s.get Reg.SYS_STATE_STEP ≠ 1 || s.flag Reg.SYS_STATE_HALT then .next s
    else .next (s.updSys fun x => { x with
      pkgTries := x.pkgTries + 1
      pkgHeld := decide ((x.pkgTries + 1) % 3 = 0)
      pfailFell := x.pfailFell && decide ((x.pkgTries + 1) % 3 ≠ 0)
      pfailRose := x.pfailRose && decide ((x.pkgTries + 1) % 3 ≠ 0) })

/-- PKG_EN is pulled low at once; no save runs (R550, R563). -/
def State.cutSupplies (s : State) (cause : Nat) (conds : List Nat) : State :=
  ((s.enterOff cause).updSys fun x => { x with offCauses := conds, pfailFell := !s.save.pfailPin, pfailRose := false }).updPack
    fun x => { x with ship := false }

/-- SUPPLY_UNDERVOLTAGE (R550): OFF_CAUSE 0; the device powers up again as after cause 1. -/
def execSupplyUndervoltage (s : State) : Answer := s.powered <| .next (s.cutSupplies 0 [1])

/-- THERMAL_CUTOFF (R563): 125 °C for 10 µs. -/
def execThermalCutoff (s : State) : Answer := s.powered <| .next (s.cutSupplies 5 [5])

/-- CRYSTAL_FAULT (R562): the PLLs run on the ring oscillator, and every bar is void until the next reset; a crystal that is
absent at step 1 halts start-up there. -/
def execCrystalFault (s : State) : Answer :=
  s.powered <|
    if s.get Reg.SYS_STATE_STEP = 1 then .next (s.halt 1 8)
    else if s.sys.clockFault then .next s
    else
      let s := (s.raise 0x00E [d1 0]).updSys fun x => { x with clockFault := true }
      .next ((s.set Reg.SCORE_STAT_VOID_MASK 255).set Reg.SCORE_STAT_BOUND_VOID 1)

/-! ### Thermal (R563) -/

/-- DIE_TEMP_READ (R563): the eight sensors, once a phrase. -/
def execDieTempRead (temps : List Int) (s : State) : Answer :=
  s.powered <| match temps.max? with
  | none => .next s
  | some t =>
    let s := s.set Reg.SYS_STAT_DIE_TEMP_C (byteOfInt t)
    let old := s.sys.dieAt = s.bar / 256 + 1
    let hot := if t < 112 then 0 else if old then s.sys.hotPhrases else s.sys.hotPhrases + 1
    let s := s.updSys fun x => { x with hotPhrases := hot, dieAt := s.bar / 256 + 1 }
    if 100 ≤ t && !s.sys.dieWarn then
      .next ((s.updSys fun x => { x with dieWarn := true }).raise 0x00A [d1 (byteOfInt t)])
    else if t ≤ 95 then .next (s.updSys fun x => { x with dieWarn := false })
    else .next s

/-- THERMAL_TRIP (R563): the hottest sensor has been at 112 °C or above for 4 consecutive phrases. -/
def execThermalTrip (s : State) : Answer :=
  s.powered <|
    if s.sys.hotPhrases < 4 then .next s
    else
      let s := s.updSys fun x => { x with hotPhrases := 0 }
      .next ((s.latchSave 5 false).raise 0x00B [d1 (s.get Reg.SYS_STAT_DIE_TEMP_C)])

/-! ### Time (R326, R524) -/

/-- OPERATING_SECOND (R524): start-up step 2 has passed and the device is not off. -/
def execOperatingSecond (s : State) : Answer :=
  s.powered <|
    if s.get Reg.SYS_STATE_STEP ≤ 2 then .next s
    else
      let s := (s.bump Reg.OP_SECONDS_SECONDS).count Reg.PACK_REST_SINCE_CORR
      .next (if s.flag Reg.PACK_STAT_AT_REST then s.updPack (fun x => { x with rest := x.rest + 1 }) else s)

/-! ### The Keystone's commit (R245) -/

/-- KEYSTONE_COMMIT (R245, R252): the first commit page of the save's Keystone has verified. A SYS_RST_N that waited for the
commit acts now (R556). -/
def execKeystoneCommit (s : State) : Answer :=
  s.powered <| match s.keystoneOf s.save.seq with
  | none => .next s
  | some k =>
    if s.saveState = saveKeystone && !k.copies.isEmpty then
      let s := ((s.commitSave k).updPack fun x => { x with recordDue := true }).endSave
      .next s.pinAfterSave
    else .next s

end Sys2Proof.Machine
end

