-- ==== Sys2Proof/Machine/PowerStates.lean ====
section
/-! DEFINITION. Power states and hints (spec/16_startup_power_states.md R530 to R537): known events, the choice at a phrase
start, the ways out of A1, D1, D2 and H. -/

namespace Sys2Proof.Machine

/-! ### Work (R531, R533) -/

/-- Host requests outstanding, and the answers they are owed. -/
def State.hostWork (s : State) : Bool :=
  !s.tile.held.isEmpty || !s.tile.waits.isEmpty || !s.tile.fetches.isEmpty
    || channels.any fun c =>
      let x := s.ch c
      !x.reqs.isEmpty || !x.issued.isEmpty || !x.marks.isEmpty || !x.writebacks.isEmpty

/-- Engine work queued: the first row of R531. -/
def State.engineWork (s : State) : Bool :=
  (!(s.tilesWith (· = codeCold)).isEmpty && decide (655360 ≤ s.tile.tokens)) || !s.tile.flights.isEmpty
    || !s.dram.zeroQueue.isEmpty || !s.tile.releasing.isEmpty
    || (channels.any fun c => s.chState c = chRelocating || s.chState c = chReturning || s.chState c = chTraining)
    || s.get Reg.DECK_STAT_STATE = 4 || (s.get Reg.DECK_STAT_STATE = 2 && decide (s.erasedBands < s.neededBands))
    || !s.deck.rebuild.isEmpty || s.deck.writing.isSome || s.refreshDue

/-- Is there work, or a save or restore in progress: the first case of R533? -/
def State.working (s : State) : Bool := s.hostWork || s.engineWork || s.saving || s.restoring

/-! ### Known events and T_known (R531) -/

def State.usUntil (s : State) (bar : Nat) : Nat := ceilDiv ((bar - s.bar) * 39) 10

/-- Bars that hold `us` microseconds. -/
def barsOf (us : Nat) : Nat := ceilDiv (us * 10) 39

/-- The second row of R531: what is due now without being engine work. -/
def State.eventNow (s : State) : Bool :=
  !s.recorder.queue.isEmpty || !s.recorder.supp.isEmpty || !s.cmd.queue.isEmpty
    || s.loadState = loadLoading || s.loadState = loadVerifying || s.warden.update.isSome

/-- The next cooling-epoch boundary. -/
def State.nextEpoch' (s : State) : Nat :=
  let n := 256 * max 1 (s.get Reg.TILE_COOL_EPOCH_PHRASES)
  (s.bar / n + 1) * n

/-- Microseconds to the known events that fall due at a time of their own, in H as well: patrol, the estimator's record at
the next 131,072-phrase point while it estimates (notes/assumptions/58.md), NAND patrol. -/
def State.timedEvents (s : State) : List Nat :=
  (if channels.any s.patrolMay then
      [s.usUntil (s.sys.patrolBar + barsOf (s.get Reg.SYS_PWR_CFG_SCRUB_DEFER_S * 1000000))] else [])
    ++ (if s.packState = packAbsent || s.packState = packShip then []
      else [if s.recordPointPassed then 0 else s.usUntil ((s.bar / 256 / 131072 + 1) * 131072 * 256)])
    ++ (if s.get Reg.DECK_STAT_STATE = 2 then
        [if s.deck.patrolPos ≠ 0 then 0 else s.usUntil (s.deck.patrolAt + barsOf (s.get Reg.DECK_CFG_PATROL_DAYS * 86400000000))]
      else [])

/-- Microseconds to every known event. -/
def State.knownTimes (s : State) : List Nat :=
  (if s.engineWork || s.eventNow then [0] else [])
    ++ (if (s.tilesWith (· = 1)).isEmpty then [] else [s.usUntil s.nextEpoch'])
    ++ s.timedEvents
    ++ (if Store.get 0 s.sys.hints 4 = 0 then [] else [s.remainUs 4])

/-- T_known in microseconds; without a known event it is unlimited, as T_host is without a port (notes/assumptions/58.md). -/
def State.tKnown (s : State) : Nat := ((s.knownTimes).min?).getD (2 ^ 64)

/-- T_host: the least remaining hint over the ports in service, none where it is unlimited (R532). -/
def State.tHost (s : State) : Option Nat :=
  ((ports.filter fun p => s.get (Reg.HPORT_STAT_LINK_STATE p) = 3).map s.remainUs).min?

/-! ### The choice (R533) -/

/-- A state's own conditions: why it is not taken, as LIMIT shows it (6 not enabled, 5 T_host, 3 T_known); 0 where it may be. -/
def State.stopDeeper (s : State) (enabled : Bool) (us : Nat) : Nat :=
  if !enabled then 6
  else if (s.tHost.map fun t => decide (t < us)).getD false then 5
  else if s.tKnown < us then 3
  else 0

/-- The chosen state and the condition that stopped a deeper one. -/
def State.choosePower (s : State) : Nat × Nat :=
  let h := s.stopDeeper (s.flag Reg.SYS_PWR_CFG_H_EN) 1800000000
  let d := s.stopDeeper (s.flag Reg.SYS_PWR_CFG_D2_EN) 50000
  if s.working then (0, 1)
  else if s.sys.idle < s.get Reg.SYS_PWR_CFG_D1_QUIET then (1, 2)
  else if s.tKnown < 1000 then (1, 3)
  else if s.anyDebt || s.flag Reg.TILE_STAT_STRAIN then (1, 4)
  else if h = 0 then (4, 0)
  else if d = 0 then (3, h)
  else (2, d)

/-- Enter a state from A0, A1, D1 or D2. H is entered through a save of cause 6 (R535). -/
def State.toPower (s : State) (new limit : Nat) : State :=
  if new = 4 then
    let s := s.set Reg.SYS_PWR_STATE_LIMIT 0
    if s.save.latched.isEmpty then s.latchSave 6 false else s
  else
    let s := if 2 ≤ new then s.selfRefreshOn else s.selfRefreshOff
    s.setPower new limit

/-- POWER_STATE_SELECT (R533): once at each phrase start, after start-up has finished. -/
def execPowerStateSelect (s : State) : Answer :=
  s.powered <|
    if !s.phraseStart || !s.atDownbeat || s.sys.chosenAt = s.bar + 1 || s.get Reg.SYS_STATE_STEP ≠ 15 || s.inH then .next s
    else
      let s := s.set Reg.SYS_PWR_STATE_T_KNOWN_MS (satW 16 (s.tKnown / 1000))
      let woken := s.working || s.save.wake
      let c := if s.save.wake && !s.working then (1, 2) else s.choosePower
      let s := s.updSys fun x => { x with idle := if woken then 0 else x.idle + 1, chosenAt := s.bar + 1 }
      let s := if s.saving then s else s.updSave fun x => { x with wake := false }
      .next (s.toPower c.1 c.2)

/-- Exit latency in tenths of a microsecond (R530). -/
def exitLatency : Nat → Nat
  | 1 => 39 | 2 => 400 | 3 => 20000 | _ => 3000000

/-- POWER_STATE_WAKE (R533): work, a request, or a known event that the exit must meet, brings the device out of A1, D1 or D2; the exit
took `us`. -/
def execPowerStateWake (us : Nat) (s : State) : Answer :=
  s.powered <|
    let st := s.get Reg.SYS_PWR_STATE_STATE
    let due := decide (2 ≤ st) && decide (s.tKnown * 10 ≤ exitLatency st)
    if 1 ≤ st && st ≤ 3 && (s.working || s.save.wake || due) then
      let s := (s.updSys fun x => { x with idle := 0 }).selfRefreshOff
      let s := if exitLatency st < us * 10 then s.raise 0x009 [d1 st, d4 us] else s
      .next (s.setPower 0 1)
    else .next s

/-! ### Hints (R532) -/

/-- IDLE_HINT_EXPIRE (R532, R535): the hint of a port (0 to 3) or the span timer (4) has counted down to zero. -/
def execIdleHintExpire (src : Fin 5) (s : State) : Answer :=
  s.powered <|
    let fin := Store.get 0 s.sys.hints src
    if fin = 0 || s.bar < fin then .next s
    else
      let s := s.updSys fun x => { x with hints := Store.set 0 x.hints src 0 }
      .next (if src.val = 4 && s.inH then s.updSys (fun x => { x with wakes := x.wakes ++ [2] }) else s)

/-! ### Exit from H (R535) -/

/-- Has the cause of an exit arisen: 1 a CXL.mem request, 2 the span timer, 3 a known event that falls due, 4 IDLE_HINT of 0, 5 a
packet for a stopped block? What is queued for the recorder, and the engines' work, ask for no exit: the one runs in H, and the
other was saved (DESIGN CHOICE, notes/assumptions/55.md). -/
def State.exitCause (s : State) : Nat → Bool
  | 1 => !s.sys.hReqs.isEmpty
  | 3 => s.timedEvents.contains 0
  | c => s.sys.wakes.contains c

/-- The rails that went off power up from a new tick 0 (R535). -/
def State.railsUpFromH (s : State) : State :=
  let off := s.railsOfH.filter fun n => !(s.railEn n)
  let s := s.each off fun s n =>
    (((s.setBit Reg.SEQ_STAT_GOOD n false).setBit Reg.SEQ_LIVE_PG n false).setBit Reg.SEQ_DIS_DIS n false).updRail n fun r => { RailState.init with dropPhrase := r.dropPhrase, pmbus := s.word (railAt n 12) }
  let s := (s.setBit (Reg.GUARD_OUT_OUT 1) 1 false).updPwr fun x => { x with
    tick0 := ceilDiv s.bar 64 * 64
    hTick := Option.none
    glitch := s.get Reg.SEQ_TIMING_GLITCH_BARS
    inUse := s.get Reg.SEQ_CTL_RAIL_EN }
  let s := s.set Reg.SEQ_STAT_STATE seqUp
  if s.allGood then s.powerOn else s

/-- HIBERNATE_EXIT (R535): the rails power up, and steps 5 to 8 run. -/
def execHibernateExit (cause : Fin 6) (s : State) : Answer :=
  s.powered <|
    if s.get Reg.SYS_PWR_STATE_STATE = 4 && s.sys.hExit.isNone && !s.save.shut && s.exitCause cause then
      let s := (s.dramOff.deckCut).railsUpFromH
      let s := s.updSys fun x => { x with hExit := some (cause.val, s.bar), stepBar := s.bar }
      .next (((s.updSys fun x => { x with tilesSet := false }).toStep 5).trainAll)
    else .next s

end Sys2Proof.Machine
end

