-- ==== Sys2Proof/Machine/Downbeat.lean ====
section
/-! DEFINITION. The downbeat (spec/01_architecture.md R20 to R26): the order in which a bar closes and the next begins. -/

namespace Sys2Proof.Machine

/-! ### Step 1: the bar closes (R62, R63, R101, R288) -/

/-- The overruns of one NAND channel at a downbeat: each is recorded, rest bars are inserted, and during a save the channel is suspended
(R62, R63, R288). An engine is numbered 0x80 + n in 0x046 (DESIGN CHOICE, notes/assumptions/56.md). -/
def State.nandRestBar (s : State) (n : Nat) : State :=
  let x := s.nch n
  let k := restBarStep x.restBars x.busy (!x.overruns.isEmpty)
  let s := s.each x.overruns fun s o => (s.recordOverrun true n).raise 0x045 [d1 n, d1 o.die, d1 o.cls, d4 o.excess]
  let s := s.updNch n fun x => { x with overruns := [], restBars := k.1, busy := k.2.1 }
  let s := if k.2.2 then s.raise 0x046 [d1 (0x80 + n), d2 k.1] else s
  if !x.overruns.isEmpty && s.saving && s.nchServing n then s.suspend n else s

/-- 0x055, once, while an arm waits for refresh debt (R101). -/
def State.noteDeferredArm (s : State) : State :=
  if s.loadState = loadArmPending && s.anyDebt && !s.seq.armDeferred then
    (s.raise 0x055 [d1 (maskOf fun c => s.debt c ≠ 0)]).updSeq fun q => { q with armDeferred := true }
  else s

/-- The bar closes: BAR_COUNT advances, overruns of the bar are recorded, and what was raised in it is delivered (R20, R26, R434). Of
several overruns that one downbeat records, DRAM channels come before NAND channels and lower channels before higher ones, so
SCORE_OVERRUN names the last in that order (DESIGN CHOICE, notes/assumptions/84.md). -/
def State.closeBar (s : State) : State :=
  let s := { s with bar := s.bar + 1, slot := 0, slotIncs := [], slotSets := [] }
  let s := s.each nandChannels fun s n => s.updNch n fun x => { x with used := [0, 0] }
  let s := (s.each channels State.dramRestBar).each nandChannels State.nandRestBar
  s.noteDeferredArm.deliverEvents

/-! ### Step 2: triggers (R232, R236, R331, R367, R396, R412, R426) -/

/-- What a fence downbeat does beside the save: margins return to nominal, an update or an option write is abandoned, a running
erase is suspended, and a rest window ends. -/
def State.fenceElse (s : State) : State :=
  let s := s.clearMargins.fwAbandon.optAbandon
  let s := if s.erasing then s.suspendErase.updFlash (fun x => { x with fenced := true }) else s
  (s.endWindow 4).updPack fun x => { x with windowNext := false }

/-- Triggers latched since the last downbeat are taken; a save that begins has its fence here. -/
def State.fenceStep (s : State) : State :=
  let t := s.takeTriggers
  if t.saving && !s.saving then t.fenceElse else t

/-- What a save's fence stopped in the code flash goes on after it (R412, R458). -/
def State.flashResumes (s : State) : State :=
  if s.saving || !s.save.latched.isEmpty || s.get Reg.WARDEN_STAT_ACTIVE = 0 then s
  else (if s.flash.fenced then s.resumeErase else s).clearNext

/-! ### Step 3: register writes and commands (R20, R23, R477, R537) -/

/-- Fields on which DECK_SAVE_RATE and the reserve depend, and those on which the bounds do. -/
def rateRegs : List Nat := [0x80028, 0xA0010]
def boundRegs : List Nat := [0x80024]

/-- Register writes take effect: those of a port's configuration as one, with what it changes (R23, R194). A PHRASES that changes moves the
next cooling-epoch boundary past this downbeat (R206), and a policy that becomes VOLATILE holds no write while persistence is not
assured (R222). -/
def State.applyWrites (s : State) : State :=
  let now := s.dueWrites.1
  let old := s.get Reg.TILE_COOL_EPOCH_PHRASES
  let cfgs := (ports.filter fun p => now.any fun w => w.1.addr = cfgWord p).map fun p => (p, s.comingWord (cfgWord p))
  let plain := now.filter fun w => !(ports.any fun p => w.1.addr = cfgWord p)
  let s := { s with writes := s.dueWrites.2 }
  let s := (s.each plain fun s w => s.set w.1 w.2).each cfgs fun s c => s.applyCfg c.1 c.2
  let s := s.when (plain.any fun w => w.1 = Reg.TILE_COOL_EPOCH_PHRASES && w.2 ≠ old) fun s =>
    s.updTile fun x => { x with epochAt := s.bar }
  let s := s.when (plain.any fun w => rateRegs.contains w.1.addr) fun s => ((s.updSaveRate false).updBands).releaseVolatile
  s.when (plain.any fun w => boundRegs.contains w.1.addr) fun s => s.publishBounds.updGpf

/-- Packets that waited for the end of H are applied at the first downbeat after step 8 (R537), in the order in which they were held and
before those due at this downbeat (DESIGN CHOICE, notes/assumptions/85.md). -/
def State.applyHeld (s : State) : State :=
  if s.inH || s.sys.hPackets.isEmpty || s.get Reg.SYS_STATE_STEP ≠ 15 then s
  else
    let l := s.sys.hPackets
    (s.updSys fun x => { x with hPackets := [] }).each l fun s p => match findOp p.opcode with
      | some o => o.apply p s
      | none => s

/-- TILE_RESTORE_STAT.STATE shows PAUSED while PAUSE is set (R262). -/
def State.showPause (s : State) : State :=
  if s.restoring then s.set Reg.TILE_RESTORE_STAT_STATE (2 + s.get Reg.TILE_RESTORE_CTL_PAUSE) else s

/-- Retrained links take up their factor and term (R164). -/
def State.relinkPorts (s : State) : State :=
  s.each ports fun s p => match (s.portState p).relink with
    | some (r, w) => (s.updPort p fun x => { x with relink := none }).takeLink p r w
    | none => s

/-- A rest window that was asked for starts (R330). -/
def State.openWindow (s : State) : State :=
  if !s.pack.windowNext then s
  else if s.windowMay then s.startWindow
  else s.updPack fun x => { x with windowNext := false }

/-- Step 3 of R20, whose order stands there for packets alone: register writes, handover, parameters and the rest window come first, then
packets, and last what follows from them (DESIGN CHOICE, notes/assumptions/85.md). -/
def State.applyStep (s : State) : State :=
  let s := s.applyWrites.doHandover.takeParams.openWindow
  let s := s.applyHeld.applyPackets
  (s.showPause.relinkPorts).tickPower

/-! ### Steps 4 and 5: the new bar (R51, R52, R57, R60, R122, R214) -/

/-- DRAM plays a score in this bar: not in H, nor before step 5 of the exit from it. -/
def State.plays (s : State) : Bool := !s.inH || decide (6 ≤ s.get Reg.SYS_STATE_STEP)

/-- LAST shows the variant that the bar before played; while the save score plays it keeps its value (R71). -/
def State.noteLast (s : State) : State :=
  if s.flag Reg.SCORE_STAT_SAVE then s else s.set Reg.SCORE_VARIANT_LAST s.active

/-- The table set of the new bar (R52, R101, R236, R239). During a save the playing variant goes on until the fence is in place, and the
save score from there (DEDUCED, notes/assumptions/90.md); an image that is due begins to play; else R52 selects the variant. -/
def State.chooseTables (s : State) (hotStarted : Bool) : State :=
  if s.saving then (if s.fenceDue then s.fencePlaced else s)
  else
    let t := s.swapDue
    if t.planned then t
    else
      let v := s.selectVariant hotStarted
      v.1.planBar v.2.1 v.2.2 false

/-- Steps 4 and 5: the table set of the new bar, and the bar's plan. -/
def State.newBar (s : State) : State :=
  if !s.plays then s
  else
    let h := s.noteLast.hotStart
    let t := h.1.chooseTables h.2
    if t.planned then t else t.planBar false false false

/-- An entry into self-refresh that waited for a downbeat without debt is made, and an exit that waited for one (R60, R122). -/
def State.dozeStep (s : State) : State :=
  if s.seq.selfRefreshWait && !s.anyDebt then s.selfRefreshOn
  else if s.seq.selfRefreshExit then s.selfRefreshOff
  else s

/-- Strain follows N, and DECK_SAVE_RATE may rise at a phrase start (R214, R285). Where N_max is recomputed at this downbeat, strain is judged
there, by the new threshold. In D2 the tile and Deck engines stand still (R29, R530). -/
def State.budgetStep (s : State) : State :=
  if !s.clocked || s.inH || s.get Reg.SYS_STATE_STEP < 8 then s
  else
    let s := s.when s.phraseStart fun s => s.updSaveRate true
    if s.phraseStart || s.tile.recompute then s else s.updStrain

/-- DOWNBEAT (R20): before the end of step 1 no score clock runs (R525). -/
def execDownbeat (s : State) : Answer :=
  s.powered <|
    if s.get Reg.SYS_STATE_STEP = 1 then .next s
    else
      let s := (s.closeBar.fenceStep).pinAfterSave
      if !s.on then .next s else .next (((s.applyStep.flashResumes).leaveStep.dozeStep.newBar).maintDue.budgetStep)

end Sys2Proof.Machine
end

