-- ==== Sys2Proof/Machine/Dispatch.lean ====
section
/-! DEFINITION. The effect of each command: one arm per constructor of Instr, one direct call of its meaning. -/

namespace Sys2Proof.Machine

def exec (i : Instr) (s : State) : Host.Outcome State Fault Refusal :=
  match i with
  | .registerWrite src a size v => Sys2Proof.Machine.execRegisterWrite src a size v s
  | .rcRegisterRead src a size => Sys2Proof.Machine.execRcRegisterRead src a size s
  | .wideRegisterLowRead src a => Sys2Proof.Machine.execWideRegisterLowRead src a s
  | .scoreVariantReqWrite src v => Sys2Proof.Machine.execScoreVariantReqWrite src v s
  | .guardRegisterWrite src latch word v => Sys2Proof.Machine.execGuardRegisterWrite src latch word v s
  | .hportLdSizeWrite src port ld v => Sys2Proof.Machine.execHportLdSizeWrite src port ld v s
  | .hportCfgWrite src port v => Sys2Proof.Machine.execHportCfgWrite src port v s
  | .evtRouteRegisterWrite src w v => Sys2Proof.Machine.execEvtRouteRegisterWrite src w v s
  | .evtMaskRegisterWrite src w v => Sys2Proof.Machine.execEvtMaskRegisterWrite src w v s
  | .seqTableRegisterWrite src a v => Sys2Proof.Machine.execSeqTableRegisterWrite src a v s
  | .flashUnlock src value => Sys2Proof.Machine.execFlashUnlock src value s
  | .programWord src a data => Sys2Proof.Machine.execProgramWord src a data s
  | .programWordDone ok => Sys2Proof.Machine.execProgramWordDone ok s
  | .eraseSector src a => Sys2Proof.Machine.execEraseSector src a s
  | .erasePulseDone ok => Sys2Proof.Machine.execErasePulseDone ok s
  | .eraseSuspend src a => Sys2Proof.Machine.execEraseSuspend src a s
  | .eraseResume src a => Sys2Proof.Machine.execEraseResume src a s
  | .blankCheck src a => Sys2Proof.Machine.execBlankCheck src a s
  | .marginRead src a margin diff => Sys2Proof.Machine.execMarginRead src a margin diff s
  | .flashBankRead u a fetch e => Sys2Proof.Machine.execFlashBankRead u a fetch e s
  | .downbeat => Sys2Proof.Machine.execDownbeat s
  | .deferredVariantSwitch => Sys2Proof.Machine.execDeferredVariantSwitch s
  | .hotConditionEndCheck => Sys2Proof.Machine.execHotConditionEndCheck s
  | .quadPlay c q => Sys2Proof.Machine.execQuadPlay c q s
  | .hostReadRequest a => Sys2Proof.Machine.execHostReadRequest a s
  | .hostWriteRequest a data mask => Sys2Proof.Machine.execHostWriteRequest a data mask s
  | .heldWriteRelease => Sys2Proof.Machine.execHeldWriteRelease s
  | .holdLong port tag slot => Sys2Proof.Machine.execHoldLong port tag slot s
  | .dramReadReturn c e => Sys2Proof.Machine.execDramReadReturn c e s
  | .poisonMarkerWrite c => Sys2Proof.Machine.execPoisonMarkerWrite c s
  | .urgencyRise port tag slot => Sys2Proof.Machine.execUrgencyRise port tag slot s
  | .latencyTargetReached port tag slot => Sys2Proof.Machine.execLatencyTargetReached port tag slot s
  | .alertNReport c sub rank kind excess busy => Sys2Proof.Machine.execAlertNReport c sub rank kind excess busy s
  | .dramContractOverrun c excess busy => Sys2Proof.Machine.execDramContractOverrun c excess busy s
  | .nandContractOverrun n die excess busy => Sys2Proof.Machine.execNandContractOverrun n die excess busy s
  | .engineRestLimit e => Sys2Proof.Machine.execEngineRestLimit e s
  | .scoreLoadBegin p => Sys2Proof.Machine.execScoreLoadBegin p s
  | .scoreLoadData p => Sys2Proof.Machine.execScoreLoadData p s
  | .scoreLoadTimeout => Sys2Proof.Machine.execScoreLoadTimeout s
  | .scoreLoadEnd p => Sys2Proof.Machine.execScoreLoadEnd p s
  | .scoreVerifyDone => Sys2Proof.Machine.execScoreVerifyDone s
  | .scoreArm p => Sys2Proof.Machine.execScoreArm p s
  | .scoreArmSwap => Sys2Proof.Machine.execScoreArmSwap s
  | .scoreQuery p => Sys2Proof.Machine.execScoreQuery p s
  | .temperatureRead c readings => Sys2Proof.Machine.execTemperatureRead c readings s
  | .temperatureStale c slot => Sys2Proof.Machine.execTemperatureStale c slot s
  | .selfRefreshEntry => Sys2Proof.Machine.execSelfRefreshEntry s
  | .selfRefreshExit => Sys2Proof.Machine.execSelfRefreshExit s
  | .zqCalibration c => Sys2Proof.Machine.execZqCalibration c s
  | .dqsOscillatorTracking c => Sys2Proof.Machine.execDqsOscillatorTracking c s
  | .dramTrainingDone c o => Sys2Proof.Machine.execDramTrainingDone c o s
  | .trainingSeedWrite c => Sys2Proof.Machine.execTrainingSeedWrite c s
  | .patrolRead c e => Sys2Proof.Machine.execPatrolRead c e s
  | .scrubWriteback c => Sys2Proof.Machine.execScrubWriteback c s
  | .scrubSet p => Sys2Proof.Machine.execScrubSet p s
  | .dchStatus p => Sys2Proof.Machine.execDchStatus p s
  | .dchOffline p => Sys2Proof.Machine.execDchOffline p s
  | .relocationTileCopy c => Sys2Proof.Machine.execRelocationTileCopy c s
  | .relocationTileSwitch c => Sys2Proof.Machine.execRelocationTileSwitch c s
  | .relocationDone c => Sys2Proof.Machine.execRelocationDone c s
  | .dchOnline p => Sys2Proof.Machine.execDchOnline p s
  | .channelReturnDone c => Sys2Proof.Machine.execChannelReturnDone c s
  | .dramChannelFail c => Sys2Proof.Machine.execDramChannelFail c s
  | .linkUp port rate width => Sys2Proof.Machine.execLinkUp port rate width s
  | .linkRetrain port rate width => Sys2Proof.Machine.execLinkRetrain port rate width s
  | .linkDown port => Sys2Proof.Machine.execLinkDown port s
  | .portReset port => Sys2Proof.Machine.execPortReset port s
  | .hdmDecoderCommit port ld dec base size ways gran => Sys2Proof.Machine.execHdmDecoderCommit port ld dec base size ways gran s
  | .regionAssign p => Sys2Proof.Machine.execRegionAssign p s
  | .regionRelease p => Sys2Proof.Machine.execRegionRelease p s
  | .regionQuery p => Sys2Proof.Machine.execRegionQuery p s
  | .frameZeroingEntry => Sys2Proof.Machine.execFrameZeroingEntry s
  | .frameZeroed c => Sys2Proof.Machine.execFrameZeroed c s
  | .portConfig p => Sys2Proof.Machine.execPortConfig p s
  | .latencyTargetSet p => Sys2Proof.Machine.execLatencyTargetSet p s
  | .gpfPhase1 port => Sys2Proof.Machine.execGpfPhase1 port s
  | .gpfPhase2 port ld slot => Sys2Proof.Machine.execGpfPhase2 port ld slot s
  | .gpfPhase2Complete port slot => Sys2Proof.Machine.execGpfPhase2Complete port slot s
  | .setShutdownState port ld v => Sys2Proof.Machine.execSetShutdownState port ld v s
  | .getPoisonList port ld dpa len => Sys2Proof.Machine.execGetPoisonList port ld dpa len s
  | .injectPoison port ld dpa => Sys2Proof.Machine.execInjectPoison port ld dpa s
  | .clearPoison port ld dpa data => Sys2Proof.Machine.execClearPoison port ld dpa data s
  | .getHealthInfo port ld => Sys2Proof.Machine.execGetHealthInfo port ld s
  | .cdatRead port ld => Sys2Proof.Machine.execCdatRead port ld s
  | .getVersion port ld => Sys2Proof.Machine.execGetVersion port ld s
  | .getCapabilities port ld => Sys2Proof.Machine.execGetCapabilities port ld s
  | .negotiateAlgorithms port ld offers => Sys2Proof.Machine.execNegotiateAlgorithms port ld offers s
  | .getDigests port ld => Sys2Proof.Machine.execGetDigests port ld s
  | .getCertificate port ld slot off len => Sys2Proof.Machine.execGetCertificate port ld slot off len s
  | .challenge port ld slot => Sys2Proof.Machine.execChallenge port ld slot s
  | .getMeasurements port ld index signed => Sys2Proof.Machine.execGetMeasurements port ld index signed s
  | .coolingEpochBoundary => Sys2Proof.Machine.execCoolingEpochBoundary s
  | .coolingSweepStep e => Sys2Proof.Machine.execCoolingSweepStep e s
  | .tileSelect c e => Sys2Proof.Machine.execTileSelect c e s
  | .tileCopyReadDone tile bad => Sys2Proof.Machine.execTileCopyReadDone tile bad s
  | .segmentCopyEntry tile => Sys2Proof.Machine.execSegmentCopyEntry tile s
  | .streamSegmentClose => Sys2Proof.Machine.execStreamSegmentClose s
  | .segmentCommit seg => Sys2Proof.Machine.execSegmentCommit seg s
  | .segmentAbandon seg => Sys2Proof.Machine.execSegmentAbandon seg s
  | .streamTokenAdd => Sys2Proof.Machine.execStreamTokenAdd s
  | .nmaxRecompute => Sys2Proof.Machine.execNmaxRecompute s
  | .persistenceAssured => Sys2Proof.Machine.execPersistenceAssured s
  | .persistPolicySet p => Sys2Proof.Machine.execPersistPolicySet p s
  | .streamTune p => Sys2Proof.Machine.execStreamTune p s
  | .persistStatus p => Sys2Proof.Machine.execPersistStatus p s
  | .pfailNChange level slot => Sys2Proof.Machine.execPfailNChange level slot s
  | .pfailTriggerLatch slot => Sys2Proof.Machine.execPfailTriggerLatch slot s
  | .inputUndervoltage mv => Sys2Proof.Machine.execInputUndervoltage mv s
  | .saveNow p => Sys2Proof.Machine.execSaveNow p s
  | .fenceInPlace => Sys2Proof.Machine.execFenceInPlace s
  | .saveTileCopy c r => Sys2Proof.Machine.execSaveTileCopy c r s
  | .imageMapWritten => Sys2Proof.Machine.execImageMapWritten s
  | .keystoneCommit => Sys2Proof.Machine.execKeystoneCommit s
  | .saveFailReturn => Sys2Proof.Machine.execSaveFailReturn s
  | .resumeInPlace => Sys2Proof.Machine.execResumeInPlace s
  | .portFenceRelease ok => Sys2Proof.Machine.execPortFenceRelease ok s
  | .powerLoss => Sys2Proof.Machine.execPowerLoss s
  | .backgroundRestoreTile tile => Sys2Proof.Machine.execBackgroundRestoreTile tile s
  | .touchFetchEnter => Sys2Proof.Machine.execTouchFetchEnter s
  | .touchFetchComplete tile => Sys2Proof.Machine.execTouchFetchComplete tile s
  | .touchFetchLong tile => Sys2Proof.Machine.execTouchFetchLong tile s
  | .restoreControl p => Sys2Proof.Machine.execRestoreControl p s
  | .nandProgramStart n => Sys2Proof.Machine.execNandProgramStart n s
  | .nandProgramDone n die ok time => Sys2Proof.Machine.execNandProgramDone n die ok time s
  | .nandReadStart n => Sys2Proof.Machine.execNandReadStart n s
  | .nandReadDone n die bits => Sys2Proof.Machine.execNandReadDone n die bits s
  | .nandEraseStart n => Sys2Proof.Machine.execNandEraseStart n s
  | .nandEraseDone n die ok => Sys2Proof.Machine.execNandEraseDone n die ok s
  | .nandChannelFail n noAnswer => Sys2Proof.Machine.execNandChannelFail n noAnswer s
  | .compactionShareMove => Sys2Proof.Machine.execCompactionShareMove s
  | .refreshKeystone => Sys2Proof.Machine.execRefreshKeystone s
  | .governorRecompute => Sys2Proof.Machine.execGovernorRecompute s
  | .nchRetire p => Sys2Proof.Machine.execNchRetire p s
  | .deckFormat p => Sys2Proof.Machine.execDeckFormat p s
  | .deckFormatDone => Sys2Proof.Machine.execDeckFormatDone s
  | .imageList p => Sys2Proof.Machine.execImageList p s
  | .deckStatus p => Sys2Proof.Machine.execDeckStatus p s
  | .estimatorPhrase m => Sys2Proof.Machine.execEstimatorPhrase m s
  | .ocvCorrection => Sys2Proof.Machine.execOcvCorrection s
  | .estimatorRecordWrite => Sys2Proof.Machine.execEstimatorRecordWrite s
  | .restWindow p => Sys2Proof.Machine.execRestWindow p s
  | .restWindowTimeout => Sys2Proof.Machine.execRestWindowTimeout s
  | .packRemoval => Sys2Proof.Machine.execPackRemoval s
  | .packInsertion eeprom => Sys2Proof.Machine.execPackInsertion eeprom s
  | .packSettled => Sys2Proof.Machine.execPackSettled s
  | .packPresentGlitch phrases => Sys2Proof.Machine.execPackPresentGlitch phrases s
  | .packProtectWarn cond value => Sys2Proof.Machine.execPackProtectWarn cond value s
  | .packProtectTrip cond value => Sys2Proof.Machine.execPackProtectTrip cond value s
  | .packChargeFault cell => Sys2Proof.Machine.execPackChargeFault cell s
  | .shipMode p => Sys2Proof.Machine.execShipMode p s
  | .shipDisconnect => Sys2Proof.Machine.execShipDisconnect s
  | .shipWake straps => Sys2Proof.Machine.execShipWake straps s
  | .packParamsSet p => Sys2Proof.Machine.execPackParamsSet p s
  | .packStatus p => Sys2Proof.Machine.execPackStatus p s
  | .pmbusAlert status => Sys2Proof.Machine.execPmbusAlert status s
  | .pwrGoStart => Sys2Proof.Machine.execPwrGoStart s
  | .start p => Sys2Proof.Machine.execStart p s
  | .seqInStart => Sys2Proof.Machine.execSeqInStart s
  | .pwrGoStuckLow => Sys2Proof.Machine.execPwrGoStuckLow s
  | .railEnable n => Sys2Proof.Machine.execRailEnable n s
  | .railGood n linear => Sys2Proof.Machine.execRailGood n linear s
  | .railPgTimeout n => Sys2Proof.Machine.execRailPgTimeout n s
  | .pgDrop n => Sys2Proof.Machine.execPgDrop n s
  | .pgReturn n => Sys2Proof.Machine.execPgReturn n s
  | .pgGlitchExpire n => Sys2Proof.Machine.execPgGlitchExpire n s
  | .shutdownBegin => Sys2Proof.Machine.execShutdownBegin s
  | .railRelease n => Sys2Proof.Machine.execRailRelease n s
  | .railDischarged n mv => Sys2Proof.Machine.execRailDischarged n mv s
  | .railDischargeTimeout n mv => Sys2Proof.Machine.execRailDischargeTimeout n mv s
  | .powerUpRetry => Sys2Proof.Machine.execPowerUpRetry s
  | .offStateRestart offMs pfailHighMs dieTemp => Sys2Proof.Machine.execOffStateRestart offMs pfailHighMs dieTemp s
  | .seqTableSet p => Sys2Proof.Machine.execSeqTableSet p s
  | .seqStatus p => Sys2Proof.Machine.execSeqStatus p s
  | .marginSet p => Sys2Proof.Machine.execMarginSet p s
  | .marginStep n ack => Sys2Proof.Machine.execMarginStep n ack s
  | .watchdogReset u => Sys2Proof.Machine.execWatchdogReset u s
  | .latchClaim u latch claim => Sys2Proof.Machine.execLatchClaim u latch claim s
  | .claimResolution => Sys2Proof.Machine.execClaimResolution s
  | .latchRefresh u latch claim => Sys2Proof.Machine.execLatchRefresh u latch claim s
  | .latchCommand u latch claim out => Sys2Proof.Machine.execLatchCommand u latch claim out s
  | .leaseCheck => Sys2Proof.Machine.execLeaseCheck s
  | .tollSend u => Sys2Proof.Machine.execTollSend u s
  | .tollReceive u frame => Sys2Proof.Machine.execTollReceive u frame s
  | .tollMissed u => Sys2Proof.Machine.execTollMissed u s
  | .partnerCheck u => Sys2Proof.Machine.execPartnerCheck u s
  | .claimReadback u => Sys2Proof.Machine.execClaimReadback u s
  | .wardenBootDone u result => Sys2Proof.Machine.execWardenBootDone u result s
  | .noWardenTimeout => Sys2Proof.Machine.execNoWardenTimeout s
  | .revertiveReturn => Sys2Proof.Machine.execRevertiveReturn s
  | .wardenHandover p => Sys2Proof.Machine.execWardenHandover p s
  | .fwUpdateBegin p => Sys2Proof.Machine.execFwUpdateBegin p s
  | .fwUpdateData p => Sys2Proof.Machine.execFwUpdateData p s
  | .fwUpdateTimeout => Sys2Proof.Machine.execFwUpdateTimeout s
  | .fwUpdateEnd p => Sys2Proof.Machine.execFwUpdateEnd p s
  | .fwUpdateBootTimeout => Sys2Proof.Machine.execFwUpdateBootTimeout s
  | .wardenStatus p => Sys2Proof.Machine.execWardenStatus p s
  | .minSvRaise => Sys2Proof.Machine.execMinSvRaise s
  | .optionWrite p => Sys2Proof.Machine.execOptionWrite p s
  | .flashRead p => Sys2Proof.Machine.execFlashRead p s
  | .spanIbiRequest => Sys2Proof.Machine.execSpanIbiRequest s
  | .recorderRecordDone => Sys2Proof.Machine.execRecorderRecordDone s
  | .recorderDrainEnd => Sys2Proof.Machine.execRecorderDrainEnd s
  | .setTimeAnchor p => Sys2Proof.Machine.execSetTimeAnchor p s
  | .recorderRead p => Sys2Proof.Machine.execRecorderRead p s
  | .recorderClear p => Sys2Proof.Machine.execRecorderClear p s
  | .recorderClearDone => Sys2Proof.Machine.execRecorderClearDone s
  | .evtRouteSet p => Sys2Proof.Machine.execEvtRouteSet p s
  | .evtMask p => Sys2Proof.Machine.execEvtMask p s
  | .mailboxCommandPacket port ld bytes late => Sys2Proof.Machine.execMailboxCommandPacket port ld bytes late s
  | .spanPrivateWrite bytes late => Sys2Proof.Machine.execSpanPrivateWrite bytes late s
  | .spanPrivateRead => Sys2Proof.Machine.execSpanPrivateRead s
  | .replyUnreadTimeout => Sys2Proof.Machine.execReplyUnreadTimeout s
  | .vendorBroadcastCcc bytes late => Sys2Proof.Machine.execVendorBroadcastCcc bytes late s
  | .entdaa addr => Sys2Proof.Machine.execEntdaa addr s
  | .rstdaa => Sys2Proof.Machine.execRstdaa s
  | .setnewda addr => Sys2Proof.Machine.execSetnewda addr s
  | .setdasa => Sys2Proof.Machine.execSetdasa s
  | .enec => Sys2Proof.Machine.execEnec s
  | .disec => Sys2Proof.Machine.execDisec s
  | .getpid => Sys2Proof.Machine.execGetpid s
  | .getbcr => Sys2Proof.Machine.execGetbcr s
  | .getdcr => Sys2Proof.Machine.execGetdcr s
  | .getstatus => Sys2Proof.Machine.execGetstatus s
  | .getmwl => Sys2Proof.Machine.execGetmwl s
  | .getmrl => Sys2Proof.Machine.execGetmrl s
  | .setmwl => Sys2Proof.Machine.execSetmwl s
  | .setmrl => Sys2Proof.Machine.execSetmrl s
  | .enthdr0 => Sys2Proof.Machine.execEnthdr0 s
  | .echo p => Sys2Proof.Machine.execEcho p s
  | .identify p => Sys2Proof.Machine.execIdentify p s
  | .getStatus p => Sys2Proof.Machine.execGetStatus p s
  | .resetDevice p => Sys2Proof.Machine.execResetDevice p s
  | .resetDeviceExecute => Sys2Proof.Machine.execResetDeviceExecute s
  | .setGroups p => Sys2Proof.Machine.execSetGroups p s
  | .idleHint p => Sys2Proof.Machine.execIdleHint p s
  | .idleHintExpire src => Sys2Proof.Machine.execIdleHintExpire src s
  | .diagLoopback p => Sys2Proof.Machine.execDiagLoopback p s
  | .regRead p => Sys2Proof.Machine.execRegRead p s
  | .regWrite p => Sys2Proof.Machine.execRegWrite p s
  | .secGetCert p => Sys2Proof.Machine.execSecGetCert p s
  | .secCryptoErase p => Sys2Proof.Machine.execSecCryptoErase p s
  | .secKeyRotate p => Sys2Proof.Machine.execSecKeyRotate p s
  | .secEscrowSet p => Sys2Proof.Machine.execSecEscrowSet p s
  | .coldPowerOn straps => Sys2Proof.Machine.execColdPowerOn straps s
  | .sysRstNAssert slot => Sys2Proof.Machine.execSysRstNAssert slot s
  | .startupStepDone r => Sys2Proof.Machine.execStartupStepDone r s
  | .pkgPgTimeout => Sys2Proof.Machine.execPkgPgTimeout s
  | .supplyUndervoltage => Sys2Proof.Machine.execSupplyUndervoltage s
  | .crystalFault => Sys2Proof.Machine.execCrystalFault s
  | .dieTempRead temps => Sys2Proof.Machine.execDieTempRead temps s
  | .thermalTrip => Sys2Proof.Machine.execThermalTrip s
  | .thermalCutoff => Sys2Proof.Machine.execThermalCutoff s
  | .powerStateSelect => Sys2Proof.Machine.execPowerStateSelect s
  | .powerStateWake us => Sys2Proof.Machine.execPowerStateWake us s
  | .hibernateExit cause => Sys2Proof.Machine.execHibernateExit cause s
  | .operatingSecond => Sys2Proof.Machine.execOperatingSecond s
  | .optionStagingTimeout => Sys2Proof.Machine.execOptionStagingTimeout s
  | .sysRstNRelease => Sys2Proof.Machine.execSysRstNRelease s
  | .ibiAccepted accepted => Sys2Proof.Machine.execIbiAccepted accepted s
  | .hdrExitPattern => Sys2Proof.Machine.execHdrExitPattern s
  | .clearEventRecords port ld log n => Sys2Proof.Machine.execClearEventRecords port ld log n s

end Sys2Proof.Machine
end

