-- ==== Sys2Proof/Safety.lean ====
section
/-! DEFINITION. The terms the statements use: when a command packet reaches its application, what its application leaves, and
the canonical form of the register file and of the memories. -/

namespace Sys2Proof.Machine

/-- The packet with the opcode of the row that names it. -/
def Pkt.as (p : Pkt) (opcode : Nat) : Pkt := { p with opcode := opcode }

/-- Does a packet of this row reach its application: with power, an active warden, the privilege, a form the row takes, and
the block it acts on up and not stopped by H (R474, R475, R481, R528, R537)? -/
def PktOp.reaches (o : PktOp) (p : Pkt) (s : State) : Bool :=
  s.on && decide (s.get Reg.WARDEN_STAT_ACTIVE ≠ 0) && s.holds p.src (o.needs p.expert) && (!p.isCast || o.cast)
    && o.paramsOk p.expert p.params && !(s.inH && s.actsOnStopped (Pkt.as p o.opcode))
    && decide (upStep o.opcode ≤ s.stepUp)

/-- The end of a packet: its reply or record, with a status and data. -/
def State.ended (s : State) (o : PktOp) (p : Pkt) (status : Nat) (data : List Byte := []) : State :=
  s.answer (Pkt.as p o.opcode) status data

/-- The commands of the score, the DRAM engine, the streams and the Deck act: with power, and with the engines' domains clocked, in
neither D2 nor H (R29, R530, R535, R537). -/
def State.running (s : State) : Bool := s.on && s.clocked

/-- No tile of the word holds a code that is not used (R198, R203). -/
def State.wordGood (s : State) (w : Nat) : Bool :=
  (List.range 16).all fun i => let c := s.code (16 * w + i); !((5 < c && c < 8) || (11 < c && c < 15))

/-- A host access enters its port: with power, outside H, on a link that carries CXL.mem, with a credit held, no write behind a
fence, and with both look-ups clean (R41, R50, R162, R172, R240, R534). -/
def State.carries (s : State) (a : HostAccess) (write : Bool) : Bool :=
  s.on && !s.inH && decide (3 ≤ s.get (Reg.HPORT_STAT_LINK_STATE a.port)) && decide (s.heldCredits a.port write ≠ 0)
    && decide (a.word = .clean) && decide (a.entry = .clean) && !(write && s.fencedOut)
    && decide ((s.portState a.port).dropBefore ≤ s.bar * 6240 + a.slot)

/-- The two states differ in the flash, in its registers FL_CMD to FL_JOURNAL, and in events raised, and in nothing else. -/
def State.onlyFlash (s t : State) : Prop :=
  { t with regs := s.regs, flash := s.flash, raised := s.raised, slotSets := s.slotSets } = s ∧
  ∀ f : Field, f.key / 32 < 0xE0004 ∨ 0xE0020 < f.key / 32 → t.get f = s.get f

/-- Every store that every access goes through is in its canonical form: the registers, the latched high words, DRAM and its
poison markers, the flash, the tile codes, the tile map, the homeless tiles and the location table. -/
def State.canonical (s : State) : Bool :=
  Store.wf 0 s.regs && Store.wf 0 s.shadows && Store.wf 0#8 s.dram.bytes && Store.wf false s.dram.poison
    && Store.wf 0xFF#8 s.flash.bytes && Store.wf codeUnmapped s.tile.codes && Store.wf 0 s.tile.map
    && Store.wf false s.tile.homeless && Store.wf .zero s.deck.loc

end Sys2Proof.Machine
end

