-- ==== Sys2Proof/Certificates/Slice0/Obligations.lean ====
section
/-! DEFINITION. The statements about the block, each a proposition named for what it says. -/

open Sys2Proof Sys2Proof.Machine

/-- An access without privilege has no effect but CMD_NOPRIV_n (R14). -/
def Obligations.AccessWithoutPrivilege : Prop :=
  ∀ (src : Src) (slot : Fin 6240) (a : Fin 0x100000) (size : Fin 9) (v : Nat) (s : State), s.on = true →
    (s.holds src (writePriv a) = false → exec (.registerWrite ⟨src, slot⟩ a size v) s = .next ((s.at slot).noPriv src)) ∧
    (s.holds src (readNeeds src a) = false →
      exec (.rcRegisterRead ⟨src, slot⟩ a size) s = .next (((s.at slot).noPriv src).send (.word src 0))) ∧
    (∀ n, src = .hport n → (s.noPriv src).get (Reg.CMD_NOPRIV_COUNT n) =
      min (s.get (Reg.CMD_NOPRIV_COUNT n) + 1) (2 ^ (Reg.CMD_NOPRIV_COUNT n).width - 1)) ∧
    (∀ f : Field, (∀ n, src = .hport n → f.key ≠ (Reg.CMD_NOPRIV_COUNT n).key) → (s.noPriv src).get f = s.get f) ∧
    { s.noPriv src with regs := s.regs, slotIncs := s.slotIncs } = s

/-- A write that is not an aligned word, and a read across two words, are ignored and counted (R11). -/
def Obligations.AccessOutOfForm : Prop :=
  ∀ (src : Src) (slot : Fin 6240) (a : Fin 0x100000) (size : Fin 9) (v : Nat) (s : State), s.on = true →
    (s.holds src (writePriv a) = true → (size.val < 4 ∨ a.val % 4 ≠ 0) →
      exec (.registerWrite ⟨src, slot⟩ a size v) s = .next ((s.at slot).badAccess src a)) ∧
    (s.holds src (readNeeds src a) = true → a.val / 4 ≠ (a.val + size.val - 1) / 4 →
      exec (.rcRegisterRead ⟨src, slot⟩ a size) s = .next (((s.at slot).badAccess src a).send (.word src 0))) ∧
    (s.badAccess src a).get Reg.SYS_STAT_BAD_ACCESS =
      min (s.get Reg.SYS_STAT_BAD_ACCESS + 1) (2 ^ Reg.SYS_STAT_BAD_ACCESS.width - 1) ∧
    (∀ f : Field, f.key ≠ Reg.SYS_STAT_BAD_ACCESS.key → (s.badAccess src a).get f = s.get f) ∧
    (s.badAccess src a).raised = s.raised ++
      (if s.sys.badPhrase = s.bar / 256 + 1 then [] else [⟨0x00C, [⟨4, a, .plain⟩, ⟨1, srcCode src, .plain⟩], s.bar, []⟩]) ∧
    { s.badAccess src a with regs := s.regs, slotIncs := s.slotIncs, raised := s.raised, sys := s.sys } = s

/-- A register read answers the addressed bytes, clears RC fields but for what the slot added, and latches the high word of a 64-bit
register (R9, R10, R11, R13). -/
def Obligations.RegisterReads : Prop :=
  (∀ (src : Src) (slot : Fin 6240) (a w : Fin 0x100000) (size : Fin 9) (s : State), s.on = true →
    s.holds src (readNeeds src a) = true → a.val / 4 = (a.val + size.val - 1) / 4 → w.val = a.val - a.val % 4 →
    (s.hidden src w = true → exec (.rcRegisterRead ⟨src, slot⟩ a size) s = .next ((s.at slot).send (.word src 0))) ∧
    (s.hidden src w = false → wideLow.contains (w.val - 4) = true → 4 ≤ w.val →
      exec (.rcRegisterRead ⟨src, slot⟩ a size) s =
        .next ((s.at slot).send (.word src (Store.get 0 s.shadows w / 2 ^ (8 * (a.val % 4)) % 2 ^ (8 * size.val))))) ∧
    (s.hidden src w = false → ¬ (wideLow.contains (w.val - 4) = true ∧ 4 ≤ w.val) → ∃ t : State,
      exec (.rcRegisterRead ⟨src, slot⟩ a size) s =
        .next (t.send (.word src ((s.at slot).readWord w / 2 ^ (8 * (a.val % 4)) % 2 ^ (8 * size.val)))) ∧
      (s.frozen w = true → t.regs = s.regs) ∧
      (s.frozen w = false →
        (∀ d ∈ fieldsAt w, d.access = .rc →
          (∀ c : Fin 8, (⟨w, d.lo, d.width⟩ : Field) ≠ Reg.DCH_REF_DEBT_MAX c ∧ (⟨w, d.lo, d.width⟩ : Field) ≠ Reg.DCH_TEMP_PEAK_C c) →
          t.get ⟨w, d.lo, d.width⟩ = satW d.width ((s.at slot).risen ⟨w, d.lo, d.width⟩).2) ∧
        (∀ c : Fin 8, w.val = 0x40004 + 0x4000 * c.val →
          t.get (Reg.DCH_REF_DEBT_MAX c) = s.get (Reg.DCH_REF_DEBT_DEBT c) % 2 ^ (Reg.DCH_REF_DEBT_MAX c).width) ∧
        (∀ c : Fin 8, w.val = 0x40008 + 0x4000 * c.val →
          t.get (Reg.DCH_TEMP_PEAK_C c) = s.get (Reg.DCH_TEMP_TEMP_C c) % 2 ^ (Reg.DCH_TEMP_PEAK_C c).width) ∧
        (∀ f : Field, (∀ d ∈ fieldsAt w, d.access = .rc → f.key ≠ (⟨w, d.lo, d.width⟩ : Field).key) → t.get f = s.get f)) ∧
      (wideLow.contains w.val = true → Store.get 0 t.shadows (w.val + 4) = s.word (w.val + 4)) ∧
      (wideLow.contains w.val = false → t.shadows = s.shadows) ∧
      { t with regs := s.regs, slotIncs := s.slotIncs, shadows := s.shadows, slot := s.slot, slotSets := s.slotSets } = s)) ∧
  (∀ (slot : Nat) (w : Fin 0x100000) (f : Field) (s : State), slot ≠ s.slot →
    (s.at slot).risen f = (s.get f, 0) ∧ (w.val % 4 = 0 → (s.at slot).readWord w = s.word w)) ∧
  (∀ (f : Field) (n : Nat) (s : State), 0 < n → (s.count f n).risen f = ((s.risen f).1, (s.risen f).2 + n)) ∧
  (∀ (src : Src) (a : Fin 0x100000) (s : State), s.on = true → s.holds src (readNeeds src a) = true →
    wideLow.contains a.val = true → s.hidden src a = false →
    exec (.wideRegisterLowRead src a) s = .next
      (({ s with shadows := Store.set 0 s.shadows (a.val + 4) (s.word (a.val + 4)) } : State).send (.word src (s.word a % 2 ^ 32))))

/-- A plain register write queues its RW fields for the downbeat, clears the W1C bits written as 1 at once, and changes no other field
(R9, R10, R11, R12, R20). -/
def Obligations.RegisterWriteWaitsForDownbeat : Prop :=
  ∀ (src : Src) (slot : Fin 6240) (a : Fin 0x100000) (v : Nat) (s : State), s.on = true → s.holds src (writePriv a) = true →
    a.val % 4 = 0 →
    (∀ size : Fin 9, 4 < size.val → exec (.registerWrite ⟨src, slot⟩ a size v) s = .next ((s.at slot).badAccess src a)) ∧
    (s.frozen a = true → exec (.registerWrite ⟨src, slot⟩ a 4 v) s = .next ((s.at slot).badAccess src a)) ∧
    (s.frozen a = false → guardReg a = false → flashSteps.contains a.val = false → a.val ≠ 0x20008 →
      ¬ (0x10400 ≤ a.val ∧ a.val < 0x10600) → ¬ (0x10080 ≤ a.val ∧ a.val < 0x100C0) → tableReg a = false →
      ¬ (0x60000 ≤ a.val ∧ a.val < 0x70000 ∧ a.val % 0x4000 = 4) → ldReg a = false →
      (rangeOk a (v % 2 ^ 32) = false → exec (.registerWrite ⟨src, slot⟩ a 4 v) s = .next ((s.at slot).badAccess src a)) ∧
      (rangeOk a (v % 2 ^ 32) = true → ∃ t : State, exec (.registerWrite ⟨src, slot⟩ a 4 v) s = .next t ∧
        t.writes = s.writes ++ ((fieldsAt a).filter (·.access = .rw)).map
          (fun d => ((⟨a, d.lo, d.width⟩ : Field), bitsAt (v % 2 ^ 32) d.lo d.width % 2 ^ d.width)) ∧
        (∀ d ∈ fieldsAt a, d.access = .w1c → ∀ k < d.width, bitAt (t.get ⟨a, d.lo, d.width⟩) k =
          (bitAt (s.get ⟨a, d.lo, d.width⟩) k && !(bitAt (v % 2 ^ 32) (d.lo + k) &&
            !(bitAt (Store.get 0 (s.at slot).slotSets (⟨a, d.lo, d.width⟩ : Field).key) k)))) ∧
        (∀ f : Field, (∀ d ∈ fieldsAt a, d.access = .w1c → f.key ≠ (⟨a, d.lo, d.width⟩ : Field).key) → t.get f = s.get f) ∧
        { t with regs := s.regs, writes := s.writes, slot := s.slot, slotIncs := s.slotIncs, slotSets := s.slotSets } = s))

/-- Writes to GUARD registers are ignored and counted; SCORE_VARIANT.REQ takes only a present variant (R53, R378). -/
def Obligations.GuardedRegisterWrites : Prop :=
  ∀ (src : Src) (v : Nat) (s : State), s.on = true →
    (∀ (latch : Fin 5) (word : Fin 4), s.holds src .expert = true →
      exec (.guardRegisterWrite src latch word v) s = .next (s.badAccess src (0xD0100 + 16 * latch.val + 4 * word.val))) ∧
    (s.holds src .expert = true → s.frozen 0x20008 = false →
      ((s.seq.play.tab (v / 256 % 8)).isSome = true →
        exec (.scoreVariantReqWrite src v) s =
          .next { s with writes := s.writes ++ [(Reg.SCORE_VARIANT_REQ, v / 256 % 8)] }) ∧
      ((s.seq.play.tab (v / 256 % 8)).isSome = false → exec (.scoreVariantReqWrite src v) s =
        .next { s with raised := s.raised ++ [⟨0x047, [⟨1, v / 256 % 8, .plain⟩], s.bar, []⟩] })) ∧
    (s.holds src .expert = true → s.frozen 0x20008 = true →
      exec (.scoreVariantReqWrite src v) s = .next (s.badAccess src 0x20008))

/-- Writes of HPORT_CFG, HPORT_LD, EVT_ROUTE, EVT_MASK and sequencer-table registers follow their rules (R166, R184, R194, R195, R364,
R438, R461, R462). -/
def Obligations.TableAndPortRegisterWrites : Prop :=
  (∀ (src : Src) (v : Nat) (s : State), s.on = true → v < 2 ^ 32 → s.holds src .mgmt = true →
    (∀ (p : Fin 4) (l : Fin 16),
      ((2048 < v % 4096 ∨ ∃ x ∈ s.tile.regions, x.active = true ∧ x.port = p.val ∧ x.ld = l.val ∧
          v % 4096 < s.get (Reg.HPORT_LD_LD_SIZE p l) ∧ v % 4096 < x.base + x.size) →
        exec (.hportLdSizeWrite src p l v) s = .next (s.badAccess src (Reg.HPORT_LD_LD_SIZE p l).addr)) ∧
      (¬ (2048 < v % 4096 ∨ ∃ x ∈ s.tile.regions, x.active = true ∧ x.port = p.val ∧ x.ld = l.val ∧
          v % 4096 < s.get (Reg.HPORT_LD_LD_SIZE p l) ∧ v % 4096 < x.base + x.size) →
        exec (.hportLdSizeWrite src p l v) s =
          .next { s with writes := s.writes ++ [(Reg.HPORT_LD_LD_SIZE p l, v % 4096)] })) ∧
    (∀ (p : Fin 4) (count presented : Nat), count = max 1 (v / 2 ^ 25 % 32) → presented = (if v / 2 ^ 30 % 2 = 1 then count else 1) →
      ((16 < count + ((ports.filter (· ≠ p.val)).map fun q => max 1 (s.comingWord (0x60004 + 0x4000 * q) / 2 ^ 25 % 32)).sum ∨
          ∃ x ∈ s.tile.regions, x.active = true ∧ x.port = p.val ∧ s.ldExists p x.ld = true ∧ presented ≤ x.ld) →
        exec (.hportCfgWrite src p v) s = .next (s.badAccess src (0x60004 + 0x4000 * p.val))) ∧
      (¬ (16 < count + ((ports.filter (· ≠ p.val)).map fun q => max 1 (s.comingWord (0x60004 + 0x4000 * q) / 2 ^ 25 % 32)).sum ∨
          ∃ x ∈ s.tile.regions, x.active = true ∧ x.port = p.val ∧ s.ldExists p x.ld = true ∧ presented ≤ x.ld) →
        exec (.hportCfgWrite src p v) s = .next { s with writes := s.writes ++
          [(Reg.HPORT_CFG_ENABLE p, v / 2 ^ 31), (Reg.HPORT_CFG_MLD p, v / 2 ^ 30 % 2), (Reg.HPORT_CFG_LD_COUNT p, v / 2 ^ 25 % 32),
            (Reg.HPORT_CFG_ISOCH p, v / 2 ^ 24 % 2), (Reg.HPORT_CFG_GPF_MODE p, v / 2 ^ 23 % 2)] })) ∧
    (∀ w : Fin 16, exec (.evtMaskRegisterWrite src w v) s = .next (({ s with writes := s.writes ++
        [(Reg.EVT_MASK_MASK w, if w.val = 15 ∧ v / 2 ^ 26 % 2 = 1 then v - 2 ^ 26 else v)] } : State).set Reg.EVT_GEN_GEN
          (s.get Reg.EVT_GEN_GEN + 1))) ∧
    (∀ w : Fin 128,
      ((∃ j < 4, 128 ≤ v / 256 ^ j % 256) → exec (.evtRouteRegisterWrite src w v) s = .next (s.badAccess src (0x10400 + 4 * w.val))) ∧
      ((∀ j < 4, v / 256 ^ j % 256 < 128) → ∃ t : State, exec (.evtRouteRegisterWrite src w v) s = .next t ∧
        t.writes = s.writes ++ [(Reg.EVT_ROUTE_ROUTE w, ((List.range 4).map fun j => newRoute (4 * w.val + j)
          (s.routeByte (4 * w.val + j)) (v / 256 ^ j % 256) (s.holds src .expert) * 256 ^ j).sum % 2 ^ 32)] ∧
        t.get Reg.EVT_GEN_GEN = (s.get Reg.EVT_GEN_GEN + 1) % 2 ^ 16 ∧
        (∀ f : Field, f.key ≠ Reg.EVT_GEN_GEN.key → f.key ≠ Reg.EVT_ROUTE_REFUSED_COUNT.key → t.get f = s.get f) ∧
        { t with regs := s.regs, slotIncs := s.slotIncs, writes := s.writes } = s))) ∧
  (∀ (old v : Nat) (expert : Bool), v < 128 →
    (∀ source, source < 0x100 → newRoute source old v expert = if expert then v else Nat.land v 0x67 + Nat.land old 0x18) ∧
    (∀ n : Fin 4, newRoute (0x103 + 16 * n.val) old v expert % 4 = 0) ∧
    bitAt (newRoute 0x1FA old v expert) 3 = true ∧ bitAt (newRoute 0x1FB old v expert) 3 = false) ∧
  (∀ (src : Src) (a : Fin 0x100000) (v : Nat) (s : State) (cfg dis pmbus : Nat) (n : Fin 16), s.on = true → v < 2 ^ 32 →
    s.holds src .expert = true →
    (s.tableMay = false → tableReg a = true → a.val % 4 = 0 → exec (.seqTableRegisterWrite src a v) s = .next (s.badAccess src a)) ∧
    (s.tableMay = true →
      (a.val = 0xC8008 → ¬ (1 ≤ v / 256 % 256 ∧ 1 ≤ v / 16 % 16) →
        exec (.seqTableRegisterWrite src a v) s = .next (s.badAccess src a)) ∧
      (a.val = 0xC800C → ¬ (100 ≤ v / 65536 % 65536 ∧ v / 65536 % 65536 ≤ 60000) →
        exec (.seqTableRegisterWrite src a v) s = .next (s.badAccess src a)) ∧
      ((∃ k < 4, a.val = railAt n (4 * k)) → cfg = (if a.val = railAt n 0 then v else s.comingWord (railAt n 0)) →
        dis = (if a.val = railAt n 4 then v else s.comingWord (railAt n 4)) →
        pmbus = (if a.val = railAt n 12 then v else s.comingWord (railAt n 12)) →
        ¬ (cfg % 256 < dis / 16 % 256 ∧ (pmbus % 65536 = 0 ∨ dis / 2 ^ 20 % 4096 < pmbus % 65536)) →
        exec (.seqTableRegisterWrite src a v) s = .next (s.badAccess src a)) ∧
      (a.val = 0xC8000 ∨ (a.val = 0xC8008 ∧ 1 ≤ v / 256 % 256 ∧ 1 ≤ v / 16 % 16) ∨
        (a.val = 0xC800C ∧ 100 ≤ v / 65536 % 65536 ∧ v / 65536 % 65536 ≤ 60000) ∨
        ((∃ k < 4, a.val = railAt n (4 * k)) ∧ cfg = (if a.val = railAt n 0 then v else s.comingWord (railAt n 0)) ∧
          dis = (if a.val = railAt n 4 then v else s.comingWord (railAt n 4)) ∧
          pmbus = (if a.val = railAt n 12 then v else s.comingWord (railAt n 12)) ∧
          cfg % 256 < dis / 16 % 256 ∧ (pmbus % 65536 = 0 ∨ dis / 2 ^ 20 % 4096 < pmbus % 65536)) →
        ∃ t : State, exec (.seqTableRegisterWrite src a v) s = .next t ∧
          t.writes = s.writes ++ ((fieldsAt a).filter (·.access = .rw)).map
            (fun d => ((⟨a, d.lo, d.width⟩ : Field), bitsAt v d.lo d.width)) ∧
          t.get Reg.SEQ_GEN_GEN = (s.get Reg.SEQ_GEN_GEN + 1) % 2 ^ 16 ∧
          (∀ f : Field, f.key ≠ Reg.SEQ_GEN_GEN.key → t.get f = s.get f) ∧
          t.raised = s.raised ++ [⟨0x1EE, [⟨2, (s.get Reg.SEQ_GEN_GEN + 1) % 2 ^ 16, .plain⟩], s.bar, []⟩] ∧
          { t with regs := s.regs, writes := s.writes, raised := s.raised } = s)))

/-- The active warden unlocks the flash with two keys; any other value or order relocks it, and any other source is ignored (R14, R405, R407). -/
def Obligations.FlashUnlockSequence : Prop :=
  ∀ (src : Src) (v : Nat) (s : State), s.on = true → v < 2 ^ 32 →
    (s.holds src .expert = false → exec (.flashUnlock src v) s = .next (s.noPriv src)) ∧
    (s.holds src .expert = true → s.isActive src = false → exec (.flashUnlock src v) s = .next (s.badAccess src 0xE0000)) ∧
    (s.isActive src = true →
      (s.flash.prog = none → s.flash.step = 0 → v = 0xA5C3 →
        exec (.flashUnlock src v) s = .next { s with flash := { s.flash with step := 1 } }) ∧
      (s.flash.prog = none → s.flash.step = 1 → v = 0x3C5A →
        exec (.flashUnlock src v) s = .next (({ s with flash := { s.flash with step := 2 } } : State).set Reg.FL_STAT_LOCKED 0)) ∧
      (¬ (s.flash.prog = none ∧ s.flash.step = 0 ∧ v = 0xA5C3) → ¬ (s.flash.prog = none ∧ s.flash.step = 1 ∧ v = 0x3C5A) →
        ∃ t : State, exec (.flashUnlock src v) s = .next t ∧ t.flash = { s.flash with step := 0 } ∧
          t.get Reg.FL_STAT_LOCKED = 1 ∧ t.get Reg.FL_STAT_SEQ_ERR = 1 ∧
          (∀ f : Field, f.key ≠ Reg.FL_STAT_LOCKED.key → f.key ≠ Reg.FL_STAT_SEQ_ERR.key → t.get f = s.get f) ∧
          s.onlyFlash t ∧ t.raised = s.raised))

/-- PROGRAM_WORD of an erased word in a NORMAL sector starts; in the five cases of R408 it is ignored (R405, R406, R408). -/
def Obligations.ProgramWordRunsOrIsIgnored : Prop :=
  (∀ (src : Src) (a data : Nat) (s : State), s.on = true → s.isActive src = true → s.flash.step = 2 →
    s.flag Reg.FL_STAT_BUSY = false → s.flash.prog = none → a < flashSize → a % 8 = 0 → data < 2 ^ 64 →
    ∃ t : State, exec (.programWord src a data) s = .next t ∧
      (∀ c, s.ignoreCause a = some c → t.flash = { s.flash with step := 0 } ∧ t.get Reg.FL_STAT_IGNORED = 1 ∧
        t.get Reg.FL_STAT_IGN_CAUSE = c % 8 ∧ t.get Reg.FL_STAT_BUSY = 0) ∧
      (s.ignoreCause a = none → t.flash = { s.flash with step := 0, prog := some (a, data) } ∧ t.get Reg.FL_STAT_BUSY = 1 ∧
        t.get Reg.FL_STAT_IGNORED = s.get Reg.FL_STAT_IGNORED) ∧
      t.get Reg.FL_STAT_LOCKED = 1 ∧ t.get Reg.FL_STAT_LAST_OP = 1 ∧ t.get Reg.FL_STAT_SECTOR = a / 4096 ∧
      s.onlyFlash t ∧ t.raised = s.raised) ∧
  (∀ (a : Nat) (s : State),
    (s.sect (a / 4096) = 1 → s.ignoreCause a = some 1) ∧ (s.sect (a / 4096) = 2 → s.ignoreCause a = some 3) ∧
    (s.sect (a / 4096) = 3 → s.ignoreCause a = some 5) ∧
    (s.sect (a / 4096) = 0 →
      ((a < 0x800000 ∧ s.get Reg.WARDEN_STAT_A_STATE ≠ 4) ∨
          (0x800000 ≤ a ∧ a < 0x1000000 ∧ s.get Reg.WARDEN_STAT_B_STATE ≠ 4) → s.ignoreCause a = some 4) ∧
      (s.bankOpen a = true → (∃ i < 8, Store.get 0xFF#8 s.flash.bytes (a + i) ≠ 0xFF#8) → a % 8 = 0 → s.ignoreCause a = some 2) ∧
      (s.bankOpen a = true → (∀ i < 8, Store.get 0xFF#8 s.flash.bytes (a + i) = 0xFF#8) → a % 8 = 0 → s.ignoreCause a = none)))

/-- The end of a word program: the word holds its data, or PROG_FAIL is set and 0x1F5 raised (R406). -/
def Obligations.ProgramWordEnds : Prop :=
  ∀ (a d : Nat) (s : State), s.on = true → s.flash.prog = some (a, d) → s.flash.job = none → s.recorder.clear = none →
    (∃ t : State, exec (.programWordDone true) s = .next t ∧ t.flash.prog = none ∧ t.flash.erase = s.flash.erase ∧
      t.flash.bytes = Store.setRange 0xFF#8 s.flash.bytes a (leBytes 8 d) ∧ t.flash.sect = s.flash.sect ∧
      t.get Reg.FL_STAT_BUSY = bit (s.flash.erase.isSome && !(s.flag Reg.FL_STAT_SUSPENDED)) ∧
      (∀ f : Field, f.key ≠ Reg.FL_STAT_BUSY.key → t.get f = s.get f) ∧ s.onlyFlash t ∧ t.raised = s.raised) ∧
    (∃ t : State, exec (.programWordDone false) s = .next t ∧ t.flash.prog = none ∧ t.flash.erase = s.flash.erase ∧
      (∀ x, x < a ∨ a + 8 ≤ x → Store.get 0xFF#8 t.flash.bytes x = Store.get 0xFF#8 s.flash.bytes x) ∧
      t.flash.sect = s.flash.sect ∧ t.get Reg.FL_STAT_PROG_FAIL = 1 ∧
      t.get Reg.FL_STAT_BUSY = bit (s.flash.erase.isSome && !(s.flag Reg.FL_STAT_SUSPENDED)) ∧
      (∀ f : Field, f.key ≠ Reg.FL_STAT_BUSY.key → f.key ≠ Reg.FL_STAT_PROG_FAIL.key → t.get f = s.get f) ∧ s.onlyFlash t ∧
      t.raised = s.raised ++ [⟨0x1F5, [⟨2, a / 4096, .plain⟩, ⟨1, 1, .plain⟩, ⟨2, 0, .plain⟩], s.bar, []⟩])

/-- Erases start, pulse, suspend and resume, and BLANK_CHECK and MARGIN_READ answer their findings; none of them acts for another source
or out of step (R405 to R410, R415). -/
def Obligations.FlashErasesAndChecks : Prop :=
  (∀ (n p : Nat) (s : State), s.on = true → s.flash.erase = some (n, p) → s.flag Reg.FL_STAT_SUSPENDED = false →
    s.flash.job = none → s.recorder.clear = none → n < 5120 → p < 2 ^ 15 →
    (∃ t : State, exec (.erasePulseDone true) s = .next t ∧ t.flash.erase = none ∧ t.get Reg.FL_LAST_ERASE_PULSES_PULSES = p + 1 ∧
      t.sect n = 0 ∧ (∀ x, x / 4096 = n → Store.get 0xFF#8 t.flash.bytes x = 0xFF#8) ∧
      (∀ x, x / 4096 ≠ n → x / 4096 ≠ 4100 → x / 4096 ≠ 4101 → Store.get 0xFF#8 t.flash.bytes x = Store.get 0xFF#8 s.flash.bytes x) ∧
      t.get Reg.FL_STAT_BUSY = bit s.flash.prog.isSome ∧ s.onlyFlash t ∧
      t.raised = s.raised ++ (if p + 1 = 40 then [⟨0x1F4, [⟨2, n, .plain⟩, ⟨2, 40, .plain⟩], s.bar, []⟩] else [])) ∧
    (p + 1 < s.get Reg.FL_LAST_ERASE_PULSES_LIMIT → ∃ t : State, exec (.erasePulseDone false) s = .next t ∧
      t.flash = { s.flash with erase := some (n, p + 1), noise := s.flash.noise + 1 } ∧ t.regs = s.regs ∧ s.onlyFlash t ∧
      t.raised = s.raised ++ (if p + 1 = 40 then [⟨0x1F4, [⟨2, n, .plain⟩, ⟨2, 40, .plain⟩], s.bar, []⟩] else [])) ∧
    (s.get Reg.FL_LAST_ERASE_PULSES_LIMIT ≤ p + 1 → ∃ t : State, exec (.erasePulseDone false) s = .next t ∧
      t.flash.erase = none ∧ t.flash.bytes = s.flash.bytes ∧ t.get Reg.FL_STAT_ERASE_FAIL = 1 ∧ t.sect n = 3 ∧
      t.get Reg.FL_LAST_ERASE_PULSES_PULSES = p + 1 ∧ t.get Reg.FL_STAT_BUSY = bit s.flash.prog.isSome ∧ s.onlyFlash t ∧
      t.raised = s.raised ++ (if p + 1 = 40 then [⟨0x1F4, [⟨2, n, .plain⟩, ⟨2, 40, .plain⟩], s.bar, []⟩] else []) ++
        [⟨0x1F5, [⟨2, n, .plain⟩, ⟨1, 2, .plain⟩, ⟨2, p + 1, .plain⟩], s.bar, []⟩])) ∧
  (∀ (src : Src) (a data : Nat) (m : Fin 4) (diff : Fin 73) (c : Instr) (s : State), s.on = true →
    c ∈ [.programWord src a data, .eraseSector src a, .eraseSuspend src a, .eraseResume src a, .blankCheck src a,
      .marginRead src a m diff] →
    (s.holds src .expert = false → exec c s = .next (s.noPriv src)) ∧
    (s.holds src .expert = true → s.isActive src = false → exec c s = .next (s.badAccess src 0xE0004)) ∧
    (s.isActive src = true → (s.flash.step ≠ 2 ∨ (s.flag Reg.FL_STAT_BUSY = true ∧ c ≠ .eraseSuspend src a)) →
      exec c s = .next ((({ s with flash := { s.flash with step := 0 } } : State).set Reg.FL_STAT_LOCKED 1).latch
        Reg.FL_STAT_SEQ_ERR))) ∧
  (∀ (src : Src) (a : Nat) (s : State), s.on = true → s.isActive src = true → s.flash.step = 2 → a < flashSize →
    (s.flag Reg.FL_STAT_BUSY = false → s.flash.erase = none →
      (s.bankOpen a = false → ∃ t : State, exec (.eraseSector src a) s = .next t ∧ t.flash = { s.flash with step := 0 } ∧
        t.get Reg.FL_STAT_IGNORED = 1 ∧ t.get Reg.FL_STAT_IGN_CAUSE = 4 ∧ s.onlyFlash t ∧ t.raised = s.raised) ∧
      (s.bankOpen a = true → s.journal = none → ∃ t : State, exec (.eraseSector src a) s = .next t ∧
        t.sect (sectorOf a) = 2 ∧ (∀ n, n ≠ sectorOf a → t.sect n = s.sect n) ∧ t.flash.bytes = s.flash.bytes ∧
        t.flash.erase = some (sectorOf a, 0) ∧ (s.flag Reg.FL_STAT_SUSPENDED = false → t.get Reg.FL_STAT_BUSY = 1) ∧
        s.onlyFlash t ∧ t.raised = s.raised) ∧
      (s.bankOpen a = true → (s.journalErase (sectorOf a)).isSome = true → ∃ t : State, exec (.eraseSector src a) s = .next t ∧
        t.sect (sectorOf a) = 2 ∧ t.flash.erase = some (sectorOf a, 0) ∧
        (∀ x, x / 4096 ≠ 4100 → x / 4096 ≠ 4101 → Store.get 0xFF#8 t.flash.bytes x = Store.get 0xFF#8 s.flash.bytes x) ∧
        (s.flag Reg.FL_STAT_SUSPENDED = false → t.get Reg.FL_STAT_BUSY = 1) ∧ s.onlyFlash t ∧ t.raised = s.raised) ∧
      (s.bankOpen a = true → s.journalErase (sectorOf a) = none → ∃ t : State, exec (.eraseSector src a) s = .next t ∧
        t.flash = { s.flash with step := 0 } ∧ t.get Reg.FL_STAT_JOURNAL_FULL = 1 ∧ s.onlyFlash t ∧ t.raised = s.raised)) ∧
    (∀ p, s.flash.erase = some (sectorOf a, p) → s.flag Reg.FL_STAT_SUSPENDED = false → ∃ t : State,
      exec (.eraseSuspend src a) s = .next t ∧ t.get Reg.FL_STAT_SUSPENDED = 1 ∧ t.get Reg.FL_STAT_BUSY = bit s.flash.prog.isSome ∧
        t.flash = { s.flash with step := 0, noise := s.flash.noise + 1 } ∧ s.onlyFlash t ∧ t.raised = s.raised) ∧
    (∀ p, s.flash.erase = some (sectorOf a, p) → s.flag Reg.FL_STAT_SUSPENDED = true → s.flag Reg.FL_STAT_BUSY = false →
      s.flash.fenced = false → s.saving = false → ∃ t : State, exec (.eraseResume src a) s = .next t ∧
        t.get Reg.FL_STAT_SUSPENDED = 0 ∧ t.get Reg.FL_STAT_BUSY = 1 ∧ t.flash = { s.flash with step := 0 } ∧ s.onlyFlash t ∧
        t.raised = s.raised) ∧
    (s.flag Reg.FL_STAT_BUSY = false → ∃ t : State, exec (.blankCheck src a) s = .next t ∧ t.flash = { s.flash with step := 0 } ∧
      (t.get Reg.FL_RESULT_FAIL = 1 ↔ ∃ i < 512, s.blankAt (sectorOf a * 4096 + 8 * i) 8 = false) ∧
      (∀ i < 512, s.blankAt (sectorOf a * 4096 + 8 * i) 8 = false → (∀ j < i, s.blankAt (sectorOf a * 4096 + 8 * j) 8 = true) →
        t.get Reg.FL_RESULT_OFFSET = 8 * i) ∧ s.onlyFlash t ∧ t.raised = s.raised) ∧
    (s.flag Reg.FL_STAT_BUSY = false → ∀ (m : Fin 4) (diff : Fin 73), ∃ t : State,
      exec (.marginRead src a m diff) s = .next t ∧ t.flash = { s.flash with step := 0 } ∧ t.get Reg.FL_RESULT_BITS = diff.val ∧
        (t.get Reg.FL_RESULT_FAIL = 1 ↔ diff.val ≠ 0) ∧ t.get Reg.FL_CMD_MARGIN = m.val ∧ s.onlyFlash t ∧ t.raised = s.raised))

/-- A flash read answers its bytes and counts its corrections; an uncorrectable word sets READ_UE and raises 0x1F7; a read waits for a
program of its bank and suspends an erase there (R404, R411). -/
def Obligations.FlashBankReads : Prop :=
  ∀ (u : WardenUnit) (a : Fin 0x1400000) (fetch : Bool) (e : SecDed) (s : State), s.on = true →
    ((∃ p d, s.flash.prog = some (p, d) ∧ bankOf p = bankOf a) → exec (.flashBankRead u a fetch e) s = .next s) ∧
    ((∀ p d, s.flash.prog = some (p, d) → bankOf p ≠ bankOf a) →
      (∀ n k, s.flash.erase = some (n, k) → bankOf (n * 4096) = bankOf a → s.flag Reg.FL_STAT_SUSPENDED = false → ∃ t : State,
        exec (.flashBankRead u a fetch e) s = .next t ∧ t.get Reg.FL_STAT_SUSPENDED = 1 ∧ t.flash.erase = s.flash.erase ∧
          t.flash.bytes = s.flash.bytes ∧ t.flash.sect = s.flash.sect) ∧
      ((∀ n k, s.flash.erase = some (n, k) → bankOf (n * 4096) = bankOf a → s.flag Reg.FL_STAT_SUSPENDED = true) →
        ∃ t : State, exec (.flashBankRead u a fetch e) s = .next t ∧ t.flash.bytes = s.flash.bytes ∧ t.flash.sect = s.flash.sect ∧
          t.outs = s.outs ++ [.flash (match u with | .a => 0 | .b => 1)
            (if fetch then s.flashRead (a.val / 32 * 32) 32 else s.flashRead (a.val / 8 * 8) 8)] ∧
          (e = .clean → { t with outs := s.outs } = s) ∧
          (e = .corrected → t.get Reg.FL_ECC_CE = min (s.get Reg.FL_ECC_CE + 1) 65535 ∧
            (∀ f : Field, f.key ≠ Reg.FL_ECC_CE.key → t.get f = s.get f) ∧
            { t with outs := s.outs, regs := s.regs, slotIncs := s.slotIncs } = s) ∧
          (e = .uncorrectable → t.get Reg.FL_ECC_UE = min (s.get Reg.FL_ECC_UE + 1) 65535 ∧ t.get Reg.FL_STAT_READ_UE = 1 ∧
            (∀ f : Field, f.key ≠ Reg.FL_ECC_UE.key → f.key ≠ Reg.FL_STAT_READ_UE.key → t.get f = s.get f) ∧
            t.raised = s.raised ++ [⟨0x1F7, [⟨4, a, .plain⟩, ⟨1, bit (!fetch), .plain⟩], s.bar, []⟩] ∧
            s.onlyFlash { t with outs := s.outs, slotIncs := s.slotIncs })))

/-- A downbeat closes and counts the bar, takes triggers, applies writes and commands, and starts the new bar, in that order (R20, R525). -/
def Obligations.DownbeatInOrder : Prop :=
  (∀ s : State, s.on = true → s.get Reg.SYS_STATE_STEP = 1 → exec .downbeat s = .next s) ∧
  (∀ s : State, s.on = true → s.get Reg.SYS_STATE_STEP ≠ 1 →
    (s.closeBar.fenceStep.pinAfterSave.on = true → exec .downbeat s =
      .next (s.closeBar.fenceStep.pinAfterSave.applyStep.flashResumes.leaveStep.dozeStep.newBar.maintDue.budgetStep)) ∧
    (s.closeBar.fenceStep.pinAfterSave.on = false → exec .downbeat s = .next s.closeBar.fenceStep.pinAfterSave)) ∧
  (∀ s : State, s.closeBar.bar = s.bar + 1 ∧ s.closeBar.slot = 0 ∧ s.closeBar.writes = s.writes ∧ s.closeBar.cmd.queue = s.cmd.queue) ∧
  (∀ (s : State) (f : Field) (v : Nat), s.writes = [(f, v)] → phraseReg f.addr = false → (∀ p : Fin 4, f.addr ≠ cfgWord p) →
    f.addr ∉ rateRegs → f.addr ∉ boundRegs → s.applyWrites = ({ s with writes := [] } : State).set f v) ∧
  (∀ (s : State) (f : Field) (v : Nat), s.writes = [(f, v)] → phraseReg f.addr = true → s.bar % 256 ≠ 0 → s.applyWrites = s)

/-- A deferred variant switch waits for a downbeat without refresh debt, and the hot condition ends after HOT_DWELL cool phrase starts
(R51, R52). -/
def Obligations.VariantsSwitchAndCool : Prop :=
  (∀ s : State, s.running = true →
    (s.atDownbeat = false ∨ s.flag Reg.SCORE_VARIANT_REQ_PENDING = false ∨ s.anyDebt = true ∨ s.saving = true →
      exec .deferredVariantSwitch s = .next s) ∧
    (s.atDownbeat = true → s.flag Reg.SCORE_VARIANT_REQ_PENDING = true → s.anyDebt = false → s.saving = false →
      (s.wanted = s.active → exec .deferredVariantSwitch s = .next (s.set Reg.SCORE_VARIANT_REQ_PENDING 0)) ∧
      (s.wanted ≠ s.active → ∃ t : State, exec .deferredVariantSwitch s = .next (t.planBar true false false) ∧
        t.get Reg.SCORE_VARIANT_ACTIVE = s.wanted % 8 ∧ t.get Reg.SCORE_VARIANT_REQ_PENDING = 0 ∧
        t.get Reg.SCORE_VARIANT_HOT_CAP = bit (s.rateOf s.wanted = 2) ∧
        t.raised = s.raised ++ [⟨0x040, [⟨1, s.active, .plain⟩, ⟨1, s.wanted, .plain⟩], s.bar, []⟩] ∧
        (∀ f : Field, f.key ≠ Reg.SCORE_VARIANT_ACTIVE.key → f.key ≠ Reg.SCORE_VARIANT_REQ_PENDING.key →
          f.key ≠ Reg.SCORE_VARIANT_HOT_CAP.key → t.get f = s.get f) ∧
        { t with regs := s.regs, raised := s.raised } = s))) ∧
  (∀ s : State, s.wanted =
    if s.flag Reg.SCORE_STAT_HOT = true ∧ s.rateOf (s.get Reg.SCORE_VARIANT_REQ) = 1 then 1 else s.get Reg.SCORE_VARIANT_REQ) ∧
  (∀ s : State, s.running = true →
    (s.atDownbeat = false ∨ s.flag Reg.SCORE_STAT_HOT = false ∨ s.phraseStart = false ∨ s.seq.hotJudged = s.bar →
      exec .hotConditionEndCheck s = .next s) ∧
    (s.atDownbeat = true → s.flag Reg.SCORE_STAT_HOT = true → s.phraseStart = true → s.seq.hotJudged ≠ s.bar →
      ((∃ c ∈ channels, s.serving c = true ∧ s.reportsCool c = false) →
        exec .hotConditionEndCheck s = .next (s.updSeq fun q => { q with hotTally := 0, hotJudged := s.bar })) ∧
      ((∀ c ∈ channels, s.serving c = true → s.reportsCool c = true) →
        (s.seq.hotTally + 1 < max 1 (s.get Reg.SCORE_CTL_HOT_DWELL) ∨ s.flag Reg.SCORE_CTL_FORCE_HOT = true ∨ s.sys.clockFault = true →
          exec .hotConditionEndCheck s =
            .next (s.updSeq fun q => { q with hotTally := s.seq.hotTally + 1, hotJudged := s.bar })) ∧
        (max 1 (s.get Reg.SCORE_CTL_HOT_DWELL) ≤ s.seq.hotTally + 1 → s.flag Reg.SCORE_CTL_FORCE_HOT = false →
          s.sys.clockFault = false → ∃ t : State,
            t.get Reg.SCORE_STAT_HOT = 0 ∧ t.raised = s.raised ++ [⟨0x042, [], s.bar, []⟩] ∧ t.seq.hotTally = 0 ∧
            (∀ f : Field, f.key ≠ Reg.SCORE_STAT_HOT.key → t.get f = s.get f) ∧
            { t with regs := s.regs, raised := s.raised, seq := s.seq } = s ∧
            (s.saving = true → exec .hotConditionEndCheck s = .next t) ∧
            (s.saving = false → t.wanted ≠ t.active → t.anyDebt = false →
              exec .hotConditionEndCheck s = .next ((t.switchTo t.wanted false).planBar true false false)) ∧
            (s.saving = false → t.wanted ≠ t.active → t.anyDebt = true →
              exec .hotConditionEndCheck s = .next (t.set Reg.SCORE_VARIANT_REQ_PENDING 1)) ∧
            (s.saving = false → t.wanted = t.active →
              exec .hotConditionEndCheck s = .next (t.set Reg.SCORE_VARIANT_REQ_PENDING 0))))))

/-- Urgency rises at 50, 75 and 90 % of the target, and a request at its full target is counted and reported once (R41, R44). -/
def Obligations.QueueClocks : Prop :=
  (∀ (port : Fin 4) (tag : Nat) (slot : Fin 6240) (s : State) (c : Nat) (r : HostReq), s.running = true →
    s.findReq port tag = some (c, r) →
    exec (.urgencyRise port tag slot) s = .next ((s.at slot).updReq port tag fun x =>
      { x with urgency := urgencyOf (s.targetSlots r.port r.write) (s.bar * 6240 + slot - r.stamp) }) ∧
    (s.targetSlots port r.write = 0 ∨ r.exceeded = true ∨ s.bar * 6240 + slot - r.stamp < s.targetSlots port r.write →
      exec (.latencyTargetReached port tag slot) s = .next (s.at slot)) ∧
    (s.targetSlots port r.write ≠ 0 → r.exceeded = false → s.targetSlots port r.write ≤ s.bar * 6240 + slot - r.stamp →
      ∃ t : State, exec (.latencyTargetReached port tag slot) s = .next t ∧
        t.findReq port tag = some (c, { r with urgency := 3, exceeded := true }) ∧
        t.get (Reg.HPORT_LAT_STAT_EXCEEDED port) = min (s.get (Reg.HPORT_LAT_STAT_EXCEEDED port) + 1) 65535 ∧
        (∀ f : Field, f.key ≠ (Reg.HPORT_LAT_STAT_EXCEEDED port).key → t.get f = s.get f) ∧
        t.raised = s.raised ++
          [⟨0x04A, [⟨1, port, .port⟩, ⟨1, c, .plain⟩, ⟨4, s.bar * 6240 + slot - r.stamp, .plain⟩], s.bar, []⟩] ∧
        { t with regs := s.regs, slotIncs := s.slotIncs, slot := s.slot, slotSets := s.slotSets, raised := s.raised, dram := s.dram,
                 tile := s.tile } = s)) ∧
  (∀ (port : Fin 4) (tag : Nat) (slot : Fin 6240) (s : State), s.running = true → s.findReq port tag = none →
    exec (.urgencyRise port tag slot) s = .next (s.at slot) ∧ exec (.latencyTargetReached port tag slot) s = .next (s.at slot)) ∧
  (∀ (s : State) (p : Nat),
    (s.targetSlots p false * 5 ≤ s.get (Reg.HPORT_LAT_TARGET_READ_NS p) * 8 ∧
      s.get (Reg.HPORT_LAT_TARGET_READ_NS p) * 8 < s.targetSlots p false * 5 + 5) ∧
    (s.targetSlots p true * 5 ≤ s.get (Reg.HPORT_LAT_TARGET_WRITE_NS p) * 8 ∧
      s.get (Reg.HPORT_LAT_TARGET_WRITE_NS p) * 8 < s.targetSlots p true * 5 + 5)) ∧
  (∀ e, urgencyOf 0 e = 0) ∧
  ∀ t e : Nat, t ≠ 0 →
    (urgencyOf t e = 0 ↔ e < t / 2) ∧ (urgencyOf t e = 1 ↔ t / 2 ≤ e ∧ e < t * 3 / 4) ∧
    (urgencyOf t e = 2 ↔ t * 3 / 4 ≤ e ∧ e < t * 9 / 10) ∧ (urgencyOf t e = 3 ↔ t * 9 / 10 ≤ e) ∧
    ∀ e', e ≤ e' → urgencyOf t e ≤ urgencyOf t e'

/-- A read returns its data, with poison where the line was marked or uncorrectable, and errors count once; the code corrects what it
guarantees (R128 to R133). -/
def Obligations.DramReadsReturn : Prop :=
  (∀ (c : Fin 8) (e : LineRead) (s : State), s.running = true →
    ((s.ch c).issued = [] → exec (.dramReadReturn c e) s = .next s) ∧
    (∀ (r : HostReq) (l : List HostReq), (s.ch c).issued = r :: l →
      ∃ t : State, exec (.dramReadReturn c e) s = .next t ∧ (t.ch c).issued = l ∧ (t.ch c).reqs = (s.ch c).reqs ∧
        (∀ d : Fin 8, d ≠ c → t.ch d = s.ch d) ∧ t.dram.bytes = s.dram.bytes ∧ t.dram.poison = s.dram.poison ∧ t.tile = s.tile ∧
        ((s.portState r.port).dropBefore ≤ r.stamp → t.outs = s.outs ++ [.readData r.port r.ld r.tag
          (if r.poison = true then r.result else e.given (s.x8 c) r.result)
          (r.poison || decide (e.decode (s.x8 c) = .uncorrectable))]) ∧
        (r.stamp < (s.portState r.port).dropBefore → t.outs = s.outs) ∧
        (r.poison = true ∨ e.decode (s.x8 c) = .clean → t.get (Reg.DCH_ECC_CE_COUNT c) = s.get (Reg.DCH_ECC_CE_COUNT c) ∧
          t.get (Reg.DCH_ECC_UE_COUNT c) = s.get (Reg.DCH_ECC_UE_COUNT c)) ∧
        (∀ d, r.poison = false → e.decode (s.x8 c) = .corrected d →
          t.get (Reg.DCH_ECC_CE_COUNT c) = min (s.get (Reg.DCH_ECC_CE_COUNT c) + 1) (2 ^ (Reg.DCH_ECC_CE_COUNT c).width - 1)) ∧
        (r.poison = false → e.decode (s.x8 c) = .uncorrectable →
          t.get (Reg.DCH_ECC_UE_COUNT c) = min (s.get (Reg.DCH_ECC_UE_COUNT c) + 1) (2 ^ (Reg.DCH_ECC_UE_COUNT c).width - 1) ∧
          ((∀ x ∈ (s.ch c).marks, x.frame = r.frame → x.line ≠ r.line) → (t.ch c).marks = (s.ch c).marks ++
            [{ frame := r.frame, line := r.line, zero := false, port := some r.port, data := e.kept (s.x8 c) }]))) ∧
    ((s.ch c).tasks.findSome? (fun k => match k with | .marker x => some x | _ => none) = none →
      exec (.poisonMarkerWrite c) s = .next s) ∧
    (∀ x : LineRef, (s.ch c).tasks.findSome? (fun k => match k with | .marker x => some x | _ => none) = some x →
      ∃ t : State, exec (.poisonMarkerWrite c) s = .next t ∧ (t.ch c).tasks = (s.ch c).tasks.erase (.marker x) ∧
        t.poisoned x.frame x.line = true ∧ (∀ f i, f * 1024 + i ≠ x.frame * 1024 + x.line → t.poisoned f i = s.poisoned f i) ∧
        (x.data.length = 64 → t.readLine x.frame x.line = x.data) ∧ (x.data.length ≠ 64 → t.dram.bytes = s.dram.bytes) ∧
        t.get (Reg.DCH_ECC_UE_MARKS c) = min (s.get (Reg.DCH_ECC_UE_MARKS c) + 1) (2 ^ (Reg.DCH_ECC_UE_MARKS c).width - 1) ∧
        (∀ f : Field, f.key ≠ (Reg.DCH_ECC_UE_MARKS c).key → t.get f = s.get f) ∧
        t.raised = s.raised ++ [⟨srcDram c 2, [⟨4, x.frame / 8, .plain⟩, ⟨2, x.line, .plain⟩], s.bar, []⟩] ∧
        { t with regs := s.regs, slotIncs := s.slotIncs, raised := s.raised, dram := s.dram } = s)) ∧
  (∀ (x8 : Bool) (e : LineRead),
    (e.other = true → e.decode x8 = .uncorrectable) ∧
    (e.other = false → e.wrong.filter (SymErr.exists x8) = [] → e.decode x8 = .clean) ∧
    (e.other = false → withinCode x8 (e.wrong.filter (SymErr.exists x8)) = true → ∀ own, e.given x8 own = own ∧
      (e.wrong.filter (SymErr.exists x8) ≠ [] → ∃ d, e.decode x8 = .corrected d)) ∧
    (∀ d : Nat, x8 = false → (∀ a ∈ e.wrong, a.device = d) → withinCode x8 (e.wrong.filter (SymErr.exists x8)) = true))

/-- Self-refresh, calibration, training records and write-backs of the DRAM channels (R122, R126, R127, R131, R137). -/
def Obligations.DramBackgroundWork : Prop :=
  (∀ (s : State), s.on = true →
    (s.get Reg.WARDEN_STAT_ACTIVE = 0 ∨ s.dozing = false ∨ s.saving = true → exec .selfRefreshEntry s = .next s) ∧
    (s.get Reg.WARDEN_STAT_ACTIVE ≠ 0 → s.dozing = true → s.saving = false →
      (s.atDownbeat = true → s.anyDebt = false → ∃ t : State, exec .selfRefreshEntry s = .next t ∧ t.get (Reg.GUARD_OUT_OUT 2) = 1 ∧
        t.seq = { s.seq with selfRefreshWait := false, selfRefreshExit := false } ∧
        (∀ c : Fin 8, t.get (Reg.DCH_STAT_SELF_REFRESH c) =
          if chInService ≤ s.chState c ∧ s.chState c ≠ chFailed then 1 else s.get (Reg.DCH_STAT_SELF_REFRESH c)) ∧
        (∀ f : Field, f.key ≠ (Reg.GUARD_OUT_OUT 2).key → f.key ≠ (Reg.GUARD_OUT_HW 2).key →
          (∀ c : Fin 8, f.key ≠ (Reg.DCH_STAT_SELF_REFRESH c).key) → t.get f = s.get f) ∧
        { t with regs := s.regs, seq := s.seq } = s) ∧
      (s.atDownbeat = false → exec .selfRefreshEntry s =
        .next { s with seq := { s.seq with selfRefreshWait := true, selfRefreshExit := false } }) ∧
      (s.atDownbeat = true → s.anyDebt = true → exec .selfRefreshEntry s =
        .next (({ s with seq := { s.seq with selfRefreshWait := true, selfRefreshExit := false } } : State).replan)))) ∧
  (∀ (s : State), s.running = true →
    (s.get Reg.WARDEN_STAT_ACTIVE = 0 ∨ s.dozing = true → exec .selfRefreshExit s = .next s) ∧
    (s.get Reg.WARDEN_STAT_ACTIVE ≠ 0 → s.dozing = false →
      (s.atDownbeat = false → exec .selfRefreshExit s = .next { s with seq := { s.seq with
        selfRefreshWait := false, selfRefreshExit := channels.any fun c => s.flag (Reg.DCH_STAT_SELF_REFRESH c) } }) ∧
      (s.atDownbeat = true → ∃ t : State, exec .selfRefreshExit s = .next t ∧ t.get (Reg.GUARD_OUT_OUT 2) = 0 ∧
        t.seq = { s.seq with selfRefreshWait := false, selfRefreshExit := false } ∧
        ∀ c : Fin 8, t.get (Reg.DCH_STAT_SELF_REFRESH c) = 0 ∧ (t.ch c).reqs = (s.ch c).reqs ∧
          (s.flag (Reg.DCH_STAT_SELF_REFRESH c) = true → ∃ m ∈ (t.ch c).work.maint, m.1 = .temp)))) ∧
  (∀ (s : State) (c : Fin 8), s.maintains c = true →
    ((s.ch c).zqBar + 32768 ≤ s.bar → (s.maintDue.ch c).zqBar = s.bar ∧ ∃ m ∈ (s.maintDue.ch c).work.maint, m.1 = .zq) ∧
    ((s.ch c).dqsBar + 4096 ≤ s.bar → (s.maintDue.ch c).dqsBar = s.bar ∧ ∃ m ∈ (s.maintDue.ch c).work.maint, m.1 = .dqs) ∧
    (s.bar % 64 = 0 → ∃ m ∈ (s.maintDue.ch c).work.maint, m.1 = .temp)) ∧
  (∀ (s : State) (c : Fin 8), s.running = true →
    exec (.zqCalibration c) s = .next (s.updCh c fun x => { x with tasks := x.tasks.erase (.maint .zq) }) ∧
    exec (.dqsOscillatorTracking c) s = .next (s.updCh c fun x => { x with tasks := x.tasks.erase (.maint .dqs) }) ∧
    (∀ ok : Bool,
      (((s.ch c).seedNew = none ∧ (s.ch c).recordDue = false) ∨ s.saving = true ∨ s.get Reg.SYS_STATE_STEP ≠ 15 →
        exec (.trainingSeedWrite ⟨c, ok⟩) s = .next s) ∧
      ((s.ch c).seedNew ≠ none ∨ (s.ch c).recordDue = true → s.saving = false → s.get Reg.SYS_STATE_STEP = 15 →
        ∃ k : TrainSlot, k.commit = ok ∧ k.crcOk = ok ∧ k.pending = (s.ch c).pendingRows ∧ k.retired = (s.ch c).retired ∧
          k.identity = Config.identityKey ∧ k.config = s.cardConfig c ∧ (∀ d, (s.ch c).seedNew = some d → k.seed = some d) ∧
          (∀ j old, (s.ch c).newestSlot = some (j, old) → k.seq = old.seq + 1) ∧
          exec (.trainingSeedWrite ⟨c, ok⟩) s = .next (s.updCh c fun x => { x with
            slots := x.slots.set (((s.ch c).newestSlot.map (1 - ·.1)).getD 0) (some k)
            seedNew := if ok then none else x.seedNew
            recordDue := !ok && x.recordDue }))) ∧
    ((s.ch c).tasks.findSome? (fun k => match k with | .writeback x => some x | _ => none) = none →
      exec (.scrubWriteback c) s = .next s) ∧
    (∀ x : LineRef, (s.ch c).tasks.findSome? (fun k => match k with | .writeback x => some x | _ => none) = some x →
      ∃ t : State, exec (.scrubWriteback c) s = .next t ∧ (t.ch c).tasks = (s.ch c).tasks.erase (.writeback x) ∧
        (x.zero = true → t.poisoned x.frame x.line = false ∧ t.readLine x.frame x.line = List.replicate 64 0#8) ∧
        (x.zero = false → t.dram.poison = s.dram.poison ∧ (x.data.length = 64 → t.readLine x.frame x.line = x.data) ∧
          (x.data.length ≠ 64 → t.dram.bytes = s.dram.bytes)) ∧
        (∀ a, a / 64 ≠ x.frame * 1024 + x.line → Store.get 0#8 t.dram.bytes a = Store.get 0#8 s.dram.bytes a) ∧
        { t with dram := s.dram } = s))

/-- Training ends seeded, full or failed, its pending rows are repaired, and a failed SPD check, training or repair fails the channel
(R115, R121, R123, R124, R125, R140, R141). -/
def Obligations.DramTraining : Prop :=
  (∀ (c : Fin 8) (o : TrainOutcome) (s : State), s.running = true →
    (s.chState c ≠ chTraining → ¬ (s.chState c = chReturning ∧ (s.ch c).trained = false) →
      exec (.dramTrainingDone c o) s = .next s) ∧
    (s.chState c = chTraining ∨ (s.chState c = chReturning ∧ (s.ch c).trained = false) →
      (o.spdOk = false → ∃ t : State, exec (.dramTrainingDone c o) s = .next t ∧ t.chState c = chFailed ∧
        t.get (Reg.DCH_STAT_FAIL_CAUSE c) = 5) ∧
      (∀ valid quick : Bool, o.spdOk = true → valid = (s.tempRead c (o.temp :: o.temps)).seedValid c o.spd →
        quick = (valid && o.seededPass && decide (12 ≤ o.margin.val)) →
        (quick = true ∨ o.fullPass = true → ∃ t : State, exec (.dramTrainingDone c o) s = .next t ∧
          t.get (Reg.DCH_TRAIN_RESULT c) = (if quick = true then 2 else if valid = true then 3 else 1) ∧
          t.get (Reg.DCH_STAT_SEEDED c) = bit quick ∧ t.get (Reg.DCH_TRAIN_MARGIN c) = o.margin.val ∧
          t.get (Reg.DCH_TEMP_VALID c) = 1 ∧ (quick = false → (t.ch c).seedNew.isSome = true) ∧
          ((t.chState c = chFailed ∧ t.get (Reg.DCH_STAT_FAIL_CAUSE c) = 6) ∨ (t.chState c = s.chState c ∧ (t.ch c).trained = true)) ∧
          ((s.ch c).pendingRows = [] → t.chState c = s.chState c ∧ (t.ch c).trained = true ∧
            (s.chState c = chReturning → (t.ch c).work.jobs = (s.ch c).work.jobs ++
              [⟨.zero, none, (s.framesPerChannel - (s.ch c).retired.length) * 65536⟩]))) ∧
        (quick = false → o.fullPass = false → ∃ t : State, exec (.dramTrainingDone c o) s = .next t ∧
          t.get (Reg.DCH_TRAIN_RESULT c) = 4 ∧ t.get (Reg.DCH_TRAIN_FAIL_STEP c) = o.failStep.val ∧ t.chState c = chFailed ∧
          t.get (Reg.DCH_STAT_FAIL_CAUSE c) = 1)))) ∧
  (∀ (c : Fin 8) (e : RowEntry) (spare failed : Bool) (s : State),
    (spare = true → ∃ t : State, State.repairRow c (s, failed) (e, spare) = (t, failed) ∧
      (t.ch c).pendingRows = (s.ch c).pendingRows.erase e ∧ (t.ch c).retired = (s.ch c).retired ∧
      t.get (Reg.DCH_REPAIR_PPR_DONE c) = min (s.get (Reg.DCH_REPAIR_PPR_DONE c) + 1) (2 ^ (Reg.DCH_REPAIR_PPR_DONE c).width - 1) ∧
      t.raised = s.raised ++ [⟨srcDram c 14, [⟨4, e.row, .plain⟩, ⟨1, 1, .plain⟩], s.bar, []⟩]) ∧
    (∀ new : List Nat, spare = false → new = (s.rowFrames e).filter (fun g => !((s.ch c).retired.contains g)) →
      ((s.ch c).retired.length + new.length ≤ 1024 → ∃ t : State, State.repairRow c (s, failed) (e, spare) = (t, failed) ∧
        (t.ch c).pendingRows = (s.ch c).pendingRows.erase e ∧ (t.ch c).retired = (s.ch c).retired ++ new ∧
        t.raised = s.raised ++ [⟨srcDram c 14, [⟨4, e.row, .plain⟩, ⟨1, 2, .plain⟩], s.bar, []⟩]) ∧
      (1024 < (s.ch c).retired.length + new.length → State.repairRow c (s, failed) (e, spare) = (s, true))))

/-- A patrol read that was issued reads the next line, counts what it finds, and a finished pass counts in PASSES and raises k = 3
(R136, R137). -/
def Obligations.PatrolWalksTheLines : Prop :=
  ∀ (c : Fin 8) (e : LineRead) (s : State) (pos next f i : Nat), s.running = true →
    pos = (s.ch c).patrolPlace (s.ch c).patrolLine → next = (s.ch c).patrolPlace (pos + 1) → f = 8 * (pos / 1024) + c.val →
    i = pos % 1024 →
    (s.hasTask c .patrol = false → exec (.patrolRead c e) s = .next s) ∧
    (s.hasTask c .patrol = true → ∃ t : State, exec (.patrolRead c e) s = .next t ∧ t.sys.patrolBar = s.bar ∧
      (t.ch c).tasks = (s.ch c).tasks.erase .patrol ∧ (∀ d : Fin 8, d ≠ c → t.ch d = s.ch d) ∧ t.dram.bytes = s.dram.bytes ∧
      t.dram.poison = s.dram.poison ∧ t.outs = s.outs ∧
      (next < s.framesPerChannel * 1024 → (t.ch c).patrolLine = next ∧
        t.get (Reg.DCH_SCRUB_PASSES c) = s.get (Reg.DCH_SCRUB_PASSES c) ∧ (t.ch c).patrolErrors = (s.ch c).patrolErrors +
          (if s.poisoned f i = true ∨ e.decode (s.x8 c) = .clean then 0 else 1)) ∧
      (s.framesPerChannel * 1024 ≤ next → (t.ch c).patrolLine = 0 ∧ (t.ch c).patrolErrors = 0 ∧
        t.get (Reg.DCH_SCRUB_PASSES c) = (s.get (Reg.DCH_SCRUB_PASSES c) + 1) % 2 ^ (Reg.DCH_SCRUB_PASSES c).width ∧
        t.raised.getLast? = some ⟨srcDram c 3, [⟨4, t.get (Reg.DCH_SCRUB_PASSES c), .plain⟩, ⟨4, (s.ch c).patrolErrors +
          (if s.poisoned f i = true ∨ e.decode (s.x8 c) = .clean then 0 else 1), .plain⟩], s.bar, []⟩) ∧
      (s.poisoned f i = true ∨ e.decode (s.x8 c) = .clean →
        t.get (Reg.DCH_ECC_CE_COUNT c) = s.get (Reg.DCH_ECC_CE_COUNT c) ∧
        t.get (Reg.DCH_ECC_UE_COUNT c) = s.get (Reg.DCH_ECC_UE_COUNT c) ∧ t.tile = s.tile) ∧
      (∀ d, s.poisoned f i = false → e.decode (s.x8 c) = .corrected d → t.tile = s.tile ∧
        t.get (Reg.DCH_ECC_CE_COUNT c) = min (s.get (Reg.DCH_ECC_CE_COUNT c) + 1) (2 ^ (Reg.DCH_ECC_CE_COUNT c).width - 1)) ∧
      (s.poisoned f i = false → e.decode (s.x8 c) = .uncorrectable →
        t.get (Reg.DCH_ECC_UE_COUNT c) = min (s.get (Reg.DCH_ECC_UE_COUNT c) + 1) (2 ^ (Reg.DCH_ECC_UE_COUNT c).width - 1) ∧
        (∀ tile, s.tileOfFrame f = some tile → s.code tile = codeClean → t.code tile = codeAbsent) ∧
        (∀ tile, s.tileOfFrame f = some tile → inD (s.code tile) = true → t.code tile = s.code tile ∧
          ∃ x ∈ (t.ch c).marks, x.frame = f ∧ x.line = i) ∧
        (∀ tile, s.tileOfFrame f = some tile → s.code tile = codeZero →
          (t.ch c).writebacks = (s.ch c).writebacks ++ [{ frame := f, line := i, zero := true }]) ∧
        (s.tileOfFrame f = none → s.inPool f = true →
          (t.ch c).writebacks = (s.ch c).writebacks ++ [{ frame := f, line := i, zero := true }])))

/-- Relocation, its end, the return of a channel, and a channel failure (R142, R143, R145, R147, R149, R150, R151). -/
def Obligations.ChannelsLeaveAndReturn : Prop :=
  ∀ (c : Fin 8) (s : State), s.running = true →
    (∀ errs : List (Fin 1024 × LineRead),
      (s.chState c ≠ chRelocating → exec (.relocationTileCopy ⟨c, errs⟩) s = .next s) ∧
      (s.chState c = chRelocating → (s.ch c).copying = none → ∀ tile f : Nat, s.relocNext c = some tile → s.nextFrame = some f →
        (s.code tile = codeZero → exec (.relocationTileCopy ⟨c, errs⟩) s = .next (s.moveTile tile f)) ∧
        (s.code tile ≠ codeZero → ∃ t : State, exec (.relocationTileCopy ⟨c, errs⟩) s = .next t ∧
          (t.ch c).copying = some ⟨tile, f, 0, []⟩ ∧ t.tile = s.tile ∧ t.dram.bytes = s.dram.bytes))) ∧
    (∀ tile f : Nat, (s.moveTile tile f).frameOf tile = some f ∧
      ∀ old, s.frameOf tile = some old → old ∈ (s.moveTile tile f).tile.releasing.map (·.frame)) ∧
    (s.chState c = chRelocating → s.atDownbeat = true → ∀ k : Reloc, (s.ch c).copying = some k →
      (k.readAt < 1024 ∨ k.buf ≠ [] → exec (.relocationTileSwitch c) s = .next s) ∧
      (1024 ≤ k.readAt → k.buf = [] → exec (.relocationTileSwitch c) s =
        .next ((s.updCh c fun x => { x with copying := none }).moveTile k.tile k.dst))) ∧
    (s.chState c ≠ chRelocating ∨ s.atDownbeat = false → exec (.relocationTileSwitch c) s = .next s ∧
      exec (.relocationDone c) s = .next s) ∧
    (s.chState c = chRelocating → s.atDownbeat = true → s.mappedFrames c = [] → s.debt c = 0 →
      ∃ t : State, exec (.relocationDone c) s = .next t ∧ t.chState c = chOffline ∧ t.get (Reg.DCH_RELOC_RESULT c) = 2 ∧
        t.get (Reg.DCH_GEN_GEN c) = (s.get (Reg.DCH_GEN_GEN c) + 1) % 2 ^ (Reg.DCH_GEN_GEN c).width ∧ t.tile = s.tile ∧
        t.dram.bytes = s.dram.bytes) ∧
    (s.chState c = chRelocating → (s.mappedFrames c ≠ [] ∨ s.debt c ≠ 0) → exec (.relocationDone c) s = .next s) ∧
    (s.chState c = chReturning → s.atDownbeat = true → (s.ch c).trained = true → s.jobOf c .zero = none → s.debt c = 0 →
      ∃ t : State, exec (.channelReturnDone c) s = .next t ∧ t.chState c = chInService ∧
        (∀ a, a / 65536 % 8 = c.val → Store.get 0#8 t.dram.bytes a = 0#8) ∧
        (∀ a, a / 65536 % 8 ≠ c.val → Store.get 0#8 t.dram.bytes a = Store.get 0#8 s.dram.bytes a) ∧
        t.get (Reg.DCH_GEN_GEN c) = (s.get (Reg.DCH_GEN_GEN c) + 1) % 2 ^ (Reg.DCH_GEN_GEN c).width) ∧
    (s.chState c ≠ chReturning ∨ s.atDownbeat = false ∨ (s.ch c).trained = false ∨ s.jobOf c .zero ≠ none ∨ s.debt c ≠ 0 →
      exec (.channelReturnDone c) s = .next s) ∧
    (∀ cause b : Nat, (s.ch c).failNext = some (cause, b) →
      (s.serving c = false ∨ s.atDownbeat = false ∨ s.bar ≤ b → exec (.dramChannelFail c) s = .next s) ∧
      (cause < 8 → s.serving c = true → s.atDownbeat = true → b < s.bar →
        ∃ t : State, exec (.dramChannelFail c) s = .next t ∧ t.chState c = chFailed ∧
          t.get (Reg.DCH_STAT_FAIL_CAUSE c) = cause ∧ t.debt c = 0 ∧ (t.ch c).reqs = [] ∧ (t.ch c).issued = [] ∧
          (∀ tile f g, s.frameOf tile = some f → f % 8 = c.val → t.frameOf tile = some g → g % 8 ≠ c.val) ∧
          t.get (Reg.DCH_GEN_GEN c) = (s.get (Reg.DCH_GEN_GEN c) + 1) % 2 ^ (Reg.DCH_GEN_GEN c).width))

/-- SCRUB_SET, DCH_STATUS, DCH_OFFLINE and DCH_ONLINE where they reach their application (R139, R144, R149, R476, R477, R484). -/
def Obligations.DramPackets : Prop :=
  ∀ (p : Pkt) (s : State),
    (scrubSetOp.reaches p s = true → ∃ t : State,
      exec (.scrubSet p) s = .next (t.ended scrubSetOp p stOk (wordsBytes (channels.map fun c => t.comingWord (0x40024 + 0x4000 * c)))) ∧
      (∀ c : Fin 8, bitAt (p.u8 0) c = true → (Reg.DCH_SCRUB_CTL_PATROL_EN c, p.u8 1 % 2) ∈ t.writes ∧
        (p.expert = true → (Reg.DCH_SCRUB_CTL_WRITEBACK c, p.u8 2 % 2) ∈ t.writes ∧
          (p.u8 3 = 1 → (t.ch c).patrolLine = 0 ∧ t.get (Reg.DCH_SCRUB_PROGRESS c) = 0))) ∧
      (p.expert = false → { t with writes := s.writes } = s)) ∧
    (dchStatusOp.reaches p s = true → exec (.dchStatus p) s = .next (s.ended dchStatusOp p stOk (s.words
      ((channels.filter (bitAt (p.u8 0))).flatMap fun c => (List.range 16).map fun i => 0x40000 + 0x4000 * c + 4 * i)))) ∧
    (dchOfflineOp.reaches p s = true →
      (p.genOk (s.get (Reg.DCH_GEN_GEN (p.u8 0))) = false → exec (.dchOffline p) s = .next (s.ended dchOfflineOp p stStale)) ∧
      (p.genOk (s.get (Reg.DCH_GEN_GEN (p.u8 0))) = true →
        ((∃ d ∈ channels, s.chState d ≠ chInService ∨ (s.ch d).leaving = true) ∨ s.saving = true ∨ s.restoring = true ∨
            ((channels.filter (· ≠ p.u8 0)).map s.freeFrames).sum < (s.mappedFrames (p.u8 0)).length →
          exec (.dchOffline p) s = .next (s.ended dchOfflineOp p stForbids)) ∧
        ((∀ d ∈ channels, s.chState d = chInService ∧ (s.ch d).leaving = false) → s.saving = false → s.restoring = false →
          (s.mappedFrames (p.u8 0)).length ≤ ((channels.filter (· ≠ p.u8 0)).map s.freeFrames).sum →
          ∃ t : State, exec (.dchOffline p) s = .next (t.ended dchOfflineOp p stOk
              (t.words [0x40000 + 0x4000 * p.u8 0, 0x4003C + 0x4000 * p.u8 0])) ∧
            (s.debt (p.u8 0) = 0 → t.chState (p.u8 0) = chRelocating ∧ t.get (Reg.DCH_RELOC_RESULT (p.u8 0)) = 1 ∧
              t.get (Reg.DCH_GEN_GEN (p.u8 0)) = (s.get (Reg.DCH_GEN_GEN (p.u8 0)) + 1) % 2 ^ (Reg.DCH_GEN_GEN (p.u8 0)).width) ∧
            (s.debt (p.u8 0) ≠ 0 → t = s.updCh (p.u8 0) fun x => { x with leaving := true })))) ∧
    (dchOnlineOp.reaches p s = true →
      (p.genOk (s.get (Reg.DCH_GEN_GEN (p.u8 0))) = false → exec (.dchOnline p) s = .next (s.ended dchOnlineOp p stStale)) ∧
      (p.genOk (s.get (Reg.DCH_GEN_GEN (p.u8 0))) = true →
        (¬ (s.chState (p.u8 0) = chOffline ∨ (p.expert = true ∧ s.chState (p.u8 0) = chFailed)) ∨ s.saving = true ∨
            s.restoring = true → exec (.dchOnline p) s = .next (s.ended dchOnlineOp p stForbids)) ∧
        (s.saving = false → s.restoring = false →
          (s.chState (p.u8 0) = chOffline ∨ (p.expert = true ∧ s.chState (p.u8 0) = chFailed)) →
          ∃ t : State, exec (.dchOnline p) s = .next (t.ended dchOnlineOp p stOk
              (t.words [0x40000 + 0x4000 * p.u8 0, 0x4003C + 0x4000 * p.u8 0])) ∧
            t.chState (p.u8 0) = chReturning ∧ t.get (Reg.DCH_STAT_FAIL_CAUSE (p.u8 0)) = 0 ∧ (t.ch (p.u8 0)).trained = false ∧
            t.get (Reg.DCH_GEN_GEN (p.u8 0)) = (s.get (Reg.DCH_GEN_GEN (p.u8 0)) + 1) % 2 ^ (Reg.DCH_GEN_GEN (p.u8 0)).width)))

/-- A quad moves the slot clock, shows refresh, issues at most two requests of its own channel, and loses none (R36, R40, R56, R77, R122,
R142, R143). -/
def Obligations.QuadPlaysItsOwner : Prop :=
  ∀ (c : Fin 8) (q : Fin 1560) (s : State), s.running = true →
    (s.playing = none → exec (.quadPlay c q) s = .next s) ∧
    ∀ tab : VariantTab, s.playing = some tab →
      ((s.chState c < chInService ∨ s.chState c = chFailed ∨ s.flag (Reg.DCH_STAT_SELF_REFRESH c) = true) →
        exec (.quadPlay c q) s = .next ((s.at (q * 4)).updSeq fun x => { x with playedBar := s.bar + 1 })) ∧
      (chInService ≤ s.chState c → s.chState c ≠ chFailed → s.flag (Reg.DCH_STAT_SELF_REFRESH c) = false →
        ∃ t : State, exec (.quadPlay c q) s = .next t ∧ t.slot = q * 4 ∧ t.bar = s.bar ∧ t.seq.playedBar = s.bar + 1 ∧
          (∀ d : Fin 8, d ≠ c → { t.ch d with copying := none, banks := [] } = { s.ch d with copying := none, banks := [] }) ∧
          ((t.ch c).reqs.map (·.tag)).Sublist ((s.ch c).reqs.map (·.tag)) ∧
          (s.ch c).reqs.length ≤ (t.ch c).reqs.length + 2 ∧
          (((s.playRuns tab c).any fun x => decide (x.start ≤ q.val) &&
              decide (q.val < x.start + trfcQuads s.seq.play.density)) = true →
            t.get (Reg.DCH_STAT_REF_ACTIVE c) = 1 ∧ (t.ch c).reqs = (s.ch c).reqs ∧ (t.ch c).issued = (s.ch c).issued ∧
              (t.ch c).tasks = (s.ch c).tasks ∧ t.dram.bytes = s.dram.bytes) ∧
          (((s.playRuns tab c).any fun x => decide (x.start ≤ q.val) &&
              decide (q.val < x.start + trfcQuads s.seq.play.density)) = false →
            t.get (Reg.DCH_STAT_REF_ACTIVE c) = 0))

/-- The packets that load, end and arm a score, its verification, its time-out and its query, with the outcomes that refuse them
(R98, R99, R100, R101, R104, R477). PROGRESS 255 at the end of verification is the model's choice (notes/assumptions/72.md). -/
def Obligations.ScoreLoads : Prop :=
  ∀ (p : Pkt) (s : State),
    (scoreLoadBeginOp.reaches p s = true →
      let busy := ((s.loadState = loadLoading ∨ s.loadState = loadVerifying) ∧ s.get Reg.SCORE_LOAD_STAT_SOURCE ≠ srcNum p.src) ∨
        s.loadState = loadArmPending
      (busy → exec (.scoreLoadBegin p) s = .next (s.ended scoreLoadBeginOp p stBusy)) ∧
      (¬ busy → 8388608 < p.u32 0 ∨ p.u32 0 % 16 ≠ 0 → exec (.scoreLoadBegin p) s = .next (s.ended scoreLoadBeginOp p stInvalid)) ∧
      (¬ busy → p.u32 0 ≤ 8388608 → p.u32 0 % 16 = 0 → ∃ t : State,
        exec (.scoreLoadBegin p) s = .next (t.ended scoreLoadBeginOp p stOk (t.words [0x20010])) ∧
        t.loadState = loadLoading ∧ t.get Reg.SCORE_LOAD_STAT_SOURCE = srcNum p.src ∧ t.get Reg.SCORE_LOAD_BYTES_BYTES = 0 ∧
        t.get Reg.SCORE_LOAD_STAT_PROGRESS = 0 ∧ t.get Reg.SCORE_LOAD_STAT_OWNER_KEY = 0 ∧
        t.seq = { s.seq with staged := { Staged.empty with img := ⟨[], p.u32 0⟩, id := p.u32 4, rev := p.u32 8, since := s.bar } } ∧
        t.raised = s.raised ++ [⟨0x050, [⟨1, srcNum p.src, .plain⟩, ⟨4, p.u32 4, .plain⟩, ⟨4, p.u32 8, .plain⟩, ⟨4, p.u32 0, .plain⟩],
          s.bar, []⟩] ∧
        { t with regs := s.regs, raised := s.raised, seq := s.seq } = s)) ∧
    (scoreLoadDataOp.reaches p s = true →
      let n := p.params.length - 8
      let total := s.seq.staged.img.length
      let ok := s.loadState = loadLoading ∧ s.get Reg.SCORE_LOAD_STAT_SOURCE = srcNum p.src ∧ p.u32 0 + n ≤ total ∧ p.u32 0 % 16 = 0 ∧
        (n % 16 = 0 ∨ p.u32 0 + n = total)
      (¬ ok → exec (.scoreLoadData p) s = .next (s.ended scoreLoadDataOp p stInvalid)) ∧
      (ok → ∃ t : State, exec (.scoreLoadData p) s = .next (t.ended scoreLoadDataOp p stOk (t.words [0x20018])) ∧
        (∀ i, i < n → Store.get 0#8 t.seq.staged.img.bytes (p.u32 0 + i) = p.params.getD (8 + i) 0#8) ∧
        (∀ i, i < p.u32 0 ∨ p.u32 0 + n ≤ i →
          Store.get 0#8 t.seq.staged.img.bytes i = Store.get 0#8 s.seq.staged.img.bytes i) ∧
        t.seq.staged.img.length = total ∧ t.loadState = loadLoading ∧ t.seq.staged.since = s.bar ∧ t.seq.play = s.seq.play ∧
        (∀ f : Field, f.key ≠ Reg.SCORE_LOAD_BYTES_BYTES.key → t.get f = s.get f) ∧
        { t with regs := s.regs, seq := s.seq } = s)) ∧
    (scoreLoadEndOp.reaches p s = true →
      let ok := s.loadState = loadLoading ∧ s.get Reg.SCORE_LOAD_STAT_SOURCE = srcNum p.src ∧
        s.seq.staged.img.length ≤ 16 * s.seq.staged.units.length
      (¬ ok → exec (.scoreLoadEnd p) s = .next (s.ended scoreLoadEndOp p stInvalid)) ∧
      (ok → ∃ t : State, exec (.scoreLoadEnd p) s = .next (t.ended scoreLoadEndOp p stOk (t.words [0x20010])) ∧
        t.loadState = loadVerifying ∧ t.get Reg.SCORE_LOAD_STAT_PROGRESS = 0 ∧ { t with regs := s.regs } = s)) ∧
    (s.on = true →
      (s.loadState ≠ loadVerifying ∨ s.get Reg.WARDEN_STAT_ACTIVE = 0 → exec .scoreVerifyDone s = .next s) ∧
      (s.loadState = loadVerifying → s.get Reg.WARDEN_STAT_ACTIVE ≠ 0 → ∃ t : State,
        exec .scoreVerifyDone s = .next t ∧ t.get Reg.SCORE_LOAD_STAT_PROGRESS = 255 ∧ t.seq.play = s.seq.play ∧
        t.get Reg.SCORE_LOAD_STAT_OWNER_KEY = bit (s.seq.staged.img.keySlot = 1) ∧
        { t with regs := s.regs, raised := s.raised, seq := s.seq, slotIncs := s.slotIncs } = s ∧
        (∀ g, s.seq.staged.img.verify s.verifyCtx = .ok g → t.loadState = loadVerified ∧ t.seq.staged.score = some g ∧
          t.raised = s.raised ++ [⟨0x051, [⟨4, s.seq.staged.id, .plain⟩, ⟨4, s.seq.staged.rev, .plain⟩], s.bar, []⟩]) ∧
        ∀ f, s.seq.staged.img.verify s.verifyCtx = .error f → t.loadState = loadRejected ∧
          t.get Reg.SCORE_LOAD_STAT_DETAIL = f.code % 65536 ∧ t.seq.staged = s.seq.staged ∧
          t.get Reg.SCORE_LOAD_LOC_VARIANT = f.loc.variant % 16 ∧ t.get Reg.SCORE_LOAD_LOC_BAR = f.loc.bar % 256 ∧
          (f.code / 256 = 0x0A → (t.raised.map (·.src)) = s.raised.map (·.src) ++ [0x053, 0x1FF]) ∧
          (f.code / 256 ≠ 0x0A → (t.raised.map (·.src)) = s.raised.map (·.src) ++ [0x052]))) ∧
    (scoreArmOp.reaches p s = true →
      (s.loadState ≠ loadVerified → exec (.scoreArm p) s = .next (s.ended scoreArmOp p stNotArmed)) ∧
      (s.loadState = loadVerified → (p.u32 0 ≠ s.seq.staged.id ∨ p.genOk s.seq.staged.rev = false) →
        exec (.scoreArm p) s = .next (s.ended scoreArmOp p stStale)) ∧
      (s.loadState = loadVerified → p.u32 0 = s.seq.staged.id → p.genOk s.seq.staged.rev = true →
        (s.saving = true → exec (.scoreArm p) s = .next (s.ended scoreArmOp p stForbids)) ∧
        (s.saving = false → ∃ t : State, exec (.scoreArm p) s = .next (t.ended scoreArmOp p stOk (t.words [0x20010])) ∧
          t.loadState = loadArmPending ∧ t.seq = { s.seq with armDeferred := false, armAt := s.bar } ∧
          (∀ f : Field, f.key ≠ Reg.SCORE_LOAD_STAT_STATE.key → t.get f = s.get f) ∧
          { t with regs := s.regs, seq := s.seq } = s))) ∧
    (s.on = true →
      (s.loadState ≠ loadLoading ∨ s.elapsed s.seq.staged.since 10000000 = false → exec .scoreLoadTimeout s = .next s) ∧
      (s.loadState = loadLoading → s.elapsed s.seq.staged.since 10000000 = true → ∃ t : State,
        exec .scoreLoadTimeout s = .next t ∧ t.loadState = loadEmpty ∧ t.seq = { s.seq with staged := Staged.empty } ∧
        t.raised = s.raised ++ [⟨0x056, [⟨4, s.get Reg.SCORE_LOAD_BYTES_BYTES, .plain⟩], s.bar, []⟩] ∧
        { t with regs := s.regs, raised := s.raised, seq := s.seq } = s)) ∧
    (scoreQueryOp.reaches p s = true → ∃ data, data.length = 0x6C ∧
      data.take 8 = leBytes 4 s.seq.play.id ++ leBytes 4 s.seq.play.rev ∧
      data.drop 0x58 = s.words [0x20010, 0x20014, 0x20018] ++ leBytes 4 s.seq.staged.id ++ leBytes 4 s.seq.staged.rev ∧
      exec (.scoreQuery p) s = .next (s.ended scoreQueryOp p stOk data))

/-- An armed image starts to play at a downbeat without refresh debt and outside a save, not before the downbeat after its arm
(R101, R71, R112). -/
def Obligations.ArmedScoreStartsToPlay : Prop :=
  ∀ s : State, s.running = true →
    (s.atDownbeat = false ∨ s.loadState ≠ loadArmPending ∨ s.anyDebt = true ∨ s.saving = true ∨ s.bar ≤ s.seq.armAt ∨
      s.seq.staged.score = none → exec .scoreArmSwap s = .next s) ∧
    (∀ g : Score, s.atDownbeat = true → s.seq.staged.score = some g → s.loadState = loadArmPending → s.anyDebt = false →
      s.saving = false → s.seq.armAt < s.bar → ∃ t : State, exec .scoreArmSwap s = .next t ∧ t.seq.play = g ∧
        t.loadState = loadEmpty ∧ t.seq.staged = Staged.empty ∧ t.get Reg.SCORE_LOAD_STAT_OWNER_KEY = 0 ∧
        t.get Reg.SCORE_STAT_ARMED = 1 ∧ t.get Reg.SCORE_STAT_BOOT = 0 ∧
        t.get Reg.SCORE_PLAY_ID_ID = g.id % 2 ^ 32 ∧ t.get Reg.SCORE_PLAY_REV_REV = g.rev % 2 ^ 32 ∧
        t.get Reg.SCORE_ARM_BAR_BAR = s.bar % 2 ^ 32 ∧ t.tile.recompute = true ∧ t.bar = s.bar ∧
        (⟨0x054, [⟨4, g.id, .plain⟩, ⟨4, g.rev, .plain⟩, ⟨8, s.bar, .plain⟩], s.bar, []⟩ : Event) ∈ t.raised ∧
        (g.tab (s.get Reg.SCORE_VARIANT_REQ) = none →
          t.get Reg.SCORE_VARIANT_REQ = 0))

/-- A host read is queued, waits for its fetch, or is answered: zeros outside ownership, poison for LOST; what its look-ups find counts
(R41, R152, R171, R172, R173, R202, R203, R263). What stands for the DPA where no decoder is committed is the model's choice
(notes/assumptions/11.md). -/
def Obligations.HostReads : Prop :=
  ∀ (a : HostAccess) (s : State),
    (s.on = true → (s.get (Reg.HPORT_STAT_LINK_STATE a.port) < 3 ∨ s.heldCredits a.port false = 0) →
      exec (.hostReadRequest a) s = .next (s.at a.slot)) ∧
    (s.on = true → s.inH = true → 3 ≤ s.get (Reg.HPORT_STAT_LINK_STATE a.port) → s.heldCredits a.port false ≠ 0 →
      ∃ t : State, exec (.hostReadRequest a) s = .next t ∧ t.outs = s.outs ∧ t.dram = s.dram ∧ t.save.wake = true ∧
        t.sys.hReqs = s.sys.hReqs ++ [⟨a, false, [], [], s.bar * 6240 + a.slot⟩]) ∧
    (s.carries a false = true →
      (s.dpaFor a.port a.ld (a.line * 64) = none ∨
          (∃ dpa, s.dpaFor a.port a.ld (a.line * 64) = some dpa ∧ s.ownedRegion a.port a.ld dpa = none) →
        ∃ t : State, exec (.hostReadRequest a) s = .next t ∧ t.dram = s.dram ∧
          t.outs = s.outs ++ [.readData a.port a.ld a.tag zeroLine false] ∧ (∃ e ∈ t.raised, e.src = srcPort a.port 3) ∧
          t.get (Reg.HPORT_VIOL_COUNT_COUNT a.port) = min (s.get (Reg.HPORT_VIOL_COUNT_COUNT a.port) + 1) (2 ^ 32 - 1)) ∧
      ∀ dpa r tile : Nat, s.dpaFor a.port a.ld (a.line * 64) = some dpa → s.ownedRegion a.port a.ld dpa = some r →
        tile = s.tileAt r dpa → s.wordGood (tile / 16) = true →
        ((s.code tile = codeLost ∨ s.isHomeless tile = true) → ∃ t : State, exec (.hostReadRequest a) s = .next t ∧
          t.outs = s.outs ++ [.readData a.port a.ld a.tag zeroLine true] ∧ t.dram = s.dram) ∧
        (s.code tile = codeAbsent → s.isHomeless tile = false → ∃ t : State, exec (.hostReadRequest a) s = .next t ∧
          t.outs = s.outs ∧ t.tile.waits = s.tile.waits ++ [reqOf a (s.bar * 6240 + a.slot) tile (dpa / 64) false [] []] ∧
          t.dram.bytes = s.dram.bytes ∧ ∃ f ∈ t.tile.fetches, f.tile = tile ∧ f.bg = false) ∧
        ∀ f : Nat, s.code tile ≠ codeLost → s.code tile ≠ codeAbsent → s.isHomeless tile = false → s.frameOf tile = some f →
          ∃ t : State, exec (.hostReadRequest a) s = .next t ∧ t.outs = s.outs ∧ t.dram.bytes = s.dram.bytes ∧
            (t.ch (f % 8)).reqs = insertReq (s.ch (f % 8)).reqs
              { reqOf a (s.bar * 6240 + a.slot) tile (dpa / 64) false [] [] with frame := f } ∧
            ∀ c : Fin 8, c.val ≠ f % 8 → t.ch c = s.ch c) ∧
    ∀ dpa r tile : Nat, s.carries { a with word := .clean, entry := .clean } false = true →
      s.dpaFor a.port a.ld (a.line * 64) = some dpa → s.ownedRegion a.port a.ld dpa = some r → tile = s.tileAt r dpa →
      ((a.word = .uncorrectable ∨ s.wordGood (tile / 16) = false) → ∃ t : State, exec (.hostReadRequest a) s = .next t ∧
        t.code tile = codeLost ∧ t.outs = s.outs ++ [.readData a.port a.ld a.tag zeroLine true] ∧
        t.dram.bytes = s.dram.bytes ∧ ∃ e ∈ t.raised, e.src = 0x149) ∧
      (a.word = .corrected → s.wordGood (tile / 16) = true → ∃ t : State, exec (.hostReadRequest a) s = .next t ∧
        t.get Reg.TILE_STATE_ERR_CE = min (s.get Reg.TILE_STATE_ERR_CE + 1) (2 ^ 16 - 1)) ∧
      (a.word = .clean → s.wordGood (tile / 16) = true → (s.frameOf tile ≠ none ∨ s.isHomeless tile = true) →
        (a.entry = .corrected → ∃ t : State, exec (.hostReadRequest a) s = .next t ∧
          t.get Reg.TILE_MAP_CE_COUNT = min (s.get Reg.TILE_MAP_CE_COUNT + 1) (2 ^ 32 - 1)) ∧
        (a.entry = .uncorrectable → ∃ t : State, exec (.hostReadRequest a) s = .next t ∧ t.code tile = codeLost ∧
          t.outs = s.outs ++ [.readData a.port a.ld a.tag zeroLine true] ∧ t.dram.bytes = s.dram.bytes ∧
          ∃ e ∈ t.raised, ∃ n, e.src = srcPort n 13))

/-- A host write is accepted with its tile DIRTY, or held without a completion; a release lets held writes in (R17, R84, R173, R200, R202,
R215, R216, R217). That a write behind the fence waits at its port is deduced (notes/assumptions/70.md). -/
def Obligations.HostWrites : Prop :=
  (∀ (a : HostAccess) (data : List Byte) (mask : List Bool) (s : State),
    (s.on = true → (s.get (Reg.HPORT_STAT_LINK_STATE a.port) < 3 ∨ s.heldCredits a.port true = 0 ∨ s.fencedOut = true) →
      exec (.hostWriteRequest a data mask) s = .next (s.at a.slot)) ∧
    (s.on = true → s.inH = true → 3 ≤ s.get (Reg.HPORT_STAT_LINK_STATE a.port) → s.heldCredits a.port true ≠ 0 → s.fencedOut = false →
      ∃ t : State, exec (.hostWriteRequest a data mask) s = .next t ∧ t.outs = s.outs ∧ t.dram = s.dram ∧ t.save.wake = true ∧
        t.sys.hReqs = s.sys.hReqs ++ [⟨a, true, data, mask, s.bar * 6240 + a.slot⟩]) ∧
    (s.carries a true = true →
      (s.dpaFor a.port a.ld (a.line * 64) = none ∨
          (∃ dpa, s.dpaFor a.port a.ld (a.line * 64) = some dpa ∧ s.ownedRegion a.port a.ld dpa = none) →
        ∃ t : State, exec (.hostWriteRequest a data mask) s = .next t ∧
          t.outs = s.outs ++ [.writeDone a.port a.ld a.tag] ∧ t.dram = s.dram ∧ (∃ e ∈ t.raised, e.src = srcPort a.port 3) ∧
          t.get (Reg.HPORT_VIOL_COUNT_COUNT a.port) = min (s.get (Reg.HPORT_VIOL_COUNT_COUNT a.port) + 1) (2 ^ 32 - 1)) ∧
      ∀ dpa r tile : Nat, s.dpaFor a.port a.ld (a.line * 64) = some dpa → s.ownedRegion a.port a.ld dpa = some r →
        tile = s.tileAt r dpa → s.wordGood (tile / 16) = true →
        let q := reqOf a (s.bar * 6240 + a.slot) tile (dpa / 64) true data mask
        (s.code tile = codeLost → ∃ t : State, exec (.hostWriteRequest a data mask) s = .next t ∧ t.dram = s.dram ∧
          t.outs = s.outs ++ [.writeDone a.port a.ld a.tag] ∧ ∃ e ∈ t.raised, e.src = 0x14D) ∧
        (s.code tile ≠ codeLost → s.isHomeless tile = true → ∃ t : State, exec (.hostWriteRequest a data mask) s = .next t ∧
          t.dram = s.dram ∧ t.outs = s.outs ++ [.writeDone a.port a.ld a.tag]) ∧
        (s.code tile = codeAbsent → s.isHomeless tile = false → ∃ t : State, exec (.hostWriteRequest a data mask) s = .next t ∧
          t.outs = s.outs ∧ t.code tile = codeAbsent ∧ t.dram.bytes = s.dram.bytes ∧
          (∃ f ∈ t.tile.fetches, f.tile = tile ∧ f.bg = false) ∧
          (s.admitsNew = true → t.tile.waits = s.tile.waits ++ [q] ∧ t.tile.held = s.tile.held) ∧
          (s.admitsNew = false → t.tile.held = s.tile.held ++ [⟨q, false⟩] ∧ t.tile.waits = s.tile.waits)) ∧
        ∀ f : Nat, s.code tile ≠ codeLost → s.code tile ≠ codeAbsent → s.isHomeless tile = false → s.frameOf tile = some f →
          (inD (s.code tile) = true ∨ s.admitsNew = true → ∃ t : State, exec (.hostWriteRequest a data mask) s = .next t ∧
            t.outs = s.outs ++ [.writeDone a.port a.ld a.tag] ∧ t.code tile = s.hotCode tile ∧ t.dram.bytes = s.dram.bytes ∧
            { q with frame := f } ∈ (t.ch (f % 8)).reqs) ∧
          (inD (s.code tile) = false → s.admitsNew = false → ∃ t : State, exec (.hostWriteRequest a data mask) s = .next t ∧
            t.outs = s.outs ∧ t.code tile = s.code tile ∧ t.dram = s.dram ∧ t.get Reg.TILE_STAT_HOLD = 1 ∧
            t.tile.held = s.tile.held ++ [⟨q, false⟩]))) ∧
  ∀ s : State, s.running = true →
    (s.oldestHeld = none → exec .heldWriteRelease s = .next s) ∧
    (∀ r : HostReq, s.oldestHeld = some r →
      (s.admits = true → ∃ t : State, exec .heldWriteRelease s = .next t ∧ t.dram.bytes = s.dram.bytes ∧
        t.tile.held = s.tile.held.filter (fun h => !decide (h.req.tile = r.tile)) ∧
        ∀ f : Nat, s.code r.tile ≠ codeLost → s.code r.tile ≠ codeAbsent → s.isHomeless r.tile = false →
          s.frameOf r.tile = some f → t.code r.tile = s.hotCode r.tile ∧
            ∀ h ∈ s.tile.held, h.req.tile = r.tile →
              { h.req with frame := f, enters := max (h.req.stamp + 64) s.now } ∈ (t.ch (f % 8)).reqs) ∧
      (s.admits = false → exec .heldWriteRelease s = .next s)) ∧
    ∀ (port : Fin 4) (tag : Nat) (slot : Fin 6240),
      let found := s.tile.held.find? fun k => k.req.port = port.val && k.req.tag = tag && (s.at slot).heldLong k
      (found = none → exec (.holdLong port tag slot) s = .next (s.at slot)) ∧
      ∀ h : HeldWrite, found = some h → ∃ t : State, exec (.holdLong port tag slot) s = .next t ∧
        t.tile.held = s.tile.held.map (fun k => if k = h then { k with long := true } else k) ∧
        t.raised = s.raised ++ [⟨0x148, [⟨1, port, .port⟩, ⟨4, h.req.tile, .tile⟩,
          ⟨4, slotsUs ((s.at slot).now - h.req.stamp), .plain⟩], s.bar, []⟩] ∧
        { t with raised := s.raised, tile := s.tile } = s.at slot

/-- Links come up, retrain and fall, a link's factor and term take effect at a downbeat, ports reset, and HDM decoders commit and
translate (R162, R163, R164, R165, R167, R193). -/
def Obligations.LinksAndDecoders : Prop :=
  ∀ (port : Fin 4) (s : State),
    (∀ rate width : Nat, (s.portState port).relink = some (rate, width) →
      s.relinkPorts.get (Reg.HPORT_STAT_BOUND_SCALE port) = (linkTerm rate width).1 ∧
      s.relinkPorts.get (Reg.HPORT_BOUND_ADJ_SLOTS port) = (linkTerm rate width).2) ∧
    (s.on = true →
    (∀ rate width : Fin 3,
      (s.mayTrain port = false ∨ 2 ≤ s.get (Reg.HPORT_STAT_LINK_STATE port) → exec (.linkUp port rate width) s = .next s) ∧
      (s.portsUp = true → s.flag (Reg.HPORT_CFG_ENABLE port) = true → (s.seq.play.port port).present = true →
        s.get (Reg.HPORT_STAT_LINK_STATE port) ≤ 1 → ∃ t : State, exec (.linkUp port rate width) s = .next t ∧
          t.get (Reg.HPORT_STAT_RATE port) = rate ∧ t.get (Reg.HPORT_STAT_WIDTH port) = width ∧
          t.get (Reg.HPORT_STAT_BOUND_SCALE port) = s.get (Reg.HPORT_STAT_BOUND_SCALE port) ∧
          { t with regs := s.regs, raised := s.raised, cxl := s.cxl } = s ∧
          (memLink rate width = true → t.get (Reg.HPORT_STAT_LINK_STATE port) = (if s.saving || s.save.entry.isSome then 4 else 3) ∧
            (t.portState port).relink = some (rate.val, width.val) ∧ (t.portState port).freed = (0, 0) ∧
            t.raised = s.raised ++ [⟨srcPort port 0, [⟨1, rate, .plain⟩, ⟨1, width, .plain⟩], s.bar, []⟩]) ∧
          (memLink rate width = false → t.get (Reg.HPORT_STAT_LINK_STATE port) = 2 ∧ t.cxl = s.cxl ∧
            ∃ e ∈ t.raised, e.src = srcPort port 2))) ∧
    (∀ rate width : Fin 3,
      (s.get (Reg.HPORT_STAT_LINK_STATE port) < 2 → exec (.linkRetrain port rate width) s = .next s) ∧
      (2 ≤ s.get (Reg.HPORT_STAT_LINK_STATE port) →
        (s.get (Reg.HPORT_STAT_RATE port) = rate → s.get (Reg.HPORT_STAT_WIDTH port) = width →
          exec (.linkRetrain port rate width) s = .next s) ∧
        (s.get (Reg.HPORT_STAT_RATE port) ≠ rate ∨ s.get (Reg.HPORT_STAT_WIDTH port) ≠ width → ∃ t : State,
          exec (.linkRetrain port rate width) s = .next t ∧
          t.get (Reg.HPORT_STAT_RATE port) = rate ∧ t.get (Reg.HPORT_STAT_WIDTH port) = width ∧
          (∃ e ∈ t.raised, e.src = srcPort port 2) ∧ t.dram = s.dram ∧ t.tile = s.tile ∧
          t.get (Reg.HPORT_STAT_BOUND_SCALE port) = s.get (Reg.HPORT_STAT_BOUND_SCALE port) ∧
          (memLink rate width = true → (t.portState port).relink = some (rate.val, width.val) ∧
            t.get (Reg.HPORT_STAT_LINK_STATE port) = (if s.get (Reg.HPORT_STAT_LINK_STATE port) = 2 then
              (if s.saving || s.save.entry.isSome then 4 else 3) else s.get (Reg.HPORT_STAT_LINK_STATE port))) ∧
          (memLink rate width = false → t.get (Reg.HPORT_STAT_LINK_STATE port) = 2)))) ∧
    (s.get (Reg.HPORT_STAT_LINK_STATE port) = 0 → exec (.linkDown port) s = .next s) ∧
    (s.get (Reg.HPORT_STAT_LINK_STATE port) ≠ 0 → ∃ t : State, exec (.linkDown port) s = .next t ∧
      t.get (Reg.HPORT_STAT_LINK_STATE port) = bit (s.mayTrain port) ∧ t.get (Reg.HPORT_STAT_RATE port) = 0 ∧
      t.get (Reg.HPORT_STAT_WIDTH port) = 0 ∧ (t.portState port).dropBefore = s.now + 1 ∧ (t.portState port).relink = none ∧
      t.dram = s.dram ∧ t.tile = s.tile ∧ t.outs = s.outs ∧ ∃ e ∈ t.raised, e.src = srcPort port 1) ∧
    (∃ t : State, exec (.portReset port) s = .next t ∧ (t.portState port).decoders = [] ∧ (t.portState port).acked = [] ∧
      { t with cxl := s.cxl } = s) ∧
    ∀ (ld : Fin 16) (dec : Fin 2) (base size ways gran : Nat), ∃ t : State,
      exec (.hdmDecoderCommit port ld dec base size ways gran) s = .next t ∧ { t with cxl := s.cxl, outs := s.outs } = s ∧
      (s.decoderCommits port ld ⟨base, size, ways, gran⟩ = true →
        Store.get none (t.portState port).decoders (ld.val * 2 + dec.val) = some ⟨base, size, ways, gran⟩ ∧
        t.outs = s.outs ++ [.port port ld [1#8]] ∧
        (ways = 1 → Store.get none (s.portState port).decoders (ld.val * 2 + (1 - dec.val)) = none →
          ∀ off, off < size → t.dpaFor port ld (base + off) = some off)) ∧
      (s.decoderCommits port ld ⟨base, size, ways, gran⟩ = false →
        Store.get none (t.portState port).decoders (ld.val * 2 + dec.val) = none ∧ t.outs = s.outs ++ [.port port ld [0#8]]))

/-- REGION_ASSIGN makes a region's tiles ZERO, REGION_RELEASE unmaps them, and released frames are zeroed before reuse (R174, R175, R176,
R177, R178, R476). -/
def Obligations.RegionsAreAssignedAndReleased : Prop :=
  (∀ (p : Pkt) (s : State) (r port ld base size : Nat), r = p.u8 0 → port = p.u8 1 → ld = p.u8 2 → base = p.u16 4 → size = p.u16 6 →
    regionAssignOp.reaches p s = true →
    (p.genOk (s.region r).gen = false → exec (.regionAssign p) s = .next (s.ended regionAssignOp p stStale)) ∧
    (p.genOk (s.region r).gen = true → s.saving = true → exec (.regionAssign p) s = .next (s.ended regionAssignOp p stForbids)) ∧
    (p.genOk (s.region r).gen = true → s.saving = false →
      let bad := size = 0 ∨ 2048 < size ∨ s.ldExists port ld = false ∨ s.get (Reg.HPORT_LD_LD_SIZE port ld) < base + size ∨
        s.rangeTaken r port ld base size = true
      let own := (s.region r).active = true ∧ (s.region r).port = port ∧ (s.region r).ld = ld
      (bad → exec (.regionAssign p) s = .next (s.ended regionAssignOp p stInvalid)) ∧
      (¬ bad → own →
        ((s.region r).base = base → (s.region r).size = size →
          exec (.regionAssign p) s = .next (s.ended regionAssignOp p stOk (s.assignReply r 0))) ∧
        ((s.region r).base ≠ base ∨ (s.region r).size ≠ size →
          exec (.regionAssign p) s = .next (s.ended regionAssignOp p stInvalid))) ∧
      (¬ bad → ¬ own →
        let free := if (s.region r).active then s.setRegion r { s.region r with active := false } else s
        (free.freeRun size = none ∨ s.poolFrames < 16384 * size →
          exec (.regionAssign p) s = .next (s.ended regionAssignOp p stBusy (s.assignReply r (16384 * size - s.poolFrames)))) ∧
        ∀ b : Nat, free.freeRun size = some b → 16384 * size ≤ s.poolFrames → ∃ t : State,
          exec (.regionAssign p) s = .next (t.ended regionAssignOp p stOk (t.assignReply r 0)) ∧
          t.region r = ⟨true, port, ld, base, size, b, ((s.region r).gen + 1) % 65536⟩ ∧
          (∀ i, i < 16384 * size → t.code (b + i) = codeZero ∧ t.recOf (b + i) = .zero) ∧
          (∀ q, q < 64 → q ≠ r → t.region q = s.region q) ∧ t.dram.bytes = s.dram.bytes ∧
          ∃ e ∈ t.raised, e.src = srcPort port 4))) ∧
  (∀ (p : Pkt) (s : State), regionReleaseOp.reaches p s = true →
    let r := p.u8 0
    let may := s.holds p.src .mgmt = true ∨ ((s.region r).active = true ∧ ∃ n, p.src = .hport n ∧ (s.region r).port = n.val)
    (¬ may → exec (.regionRelease p) s = .next ((s.noPriv p.src).ended regionReleaseOp p stOk (List.replicate 16 0#8))) ∧
    (may → p.genOk (s.region r).gen = false → exec (.regionRelease p) s = .next (s.ended regionReleaseOp p stStale)) ∧
    (may → p.genOk (s.region r).gen = true → s.saving = true →
      exec (.regionRelease p) s = .next (s.ended regionReleaseOp p stForbids)) ∧
    (may → p.genOk (s.region r).gen = true → s.saving = false → (s.region r).active = false →
      exec (.regionRelease p) s = .next (s.ended regionReleaseOp p stOk (s.regionEntry r))) ∧
    (may → p.genOk (s.region r).gen = true → s.saving = false → (s.region r).active = true → ∃ t : State,
      exec (.regionRelease p) s = .next (t.ended regionReleaseOp p stOk (t.regionEntry r)) ∧
      (t.region r).active = false ∧ (t.region r).gen = ((s.region r).gen + 1) % 65536 ∧
      (∀ q, q < 64 → q ≠ r → t.region q = s.region q) ∧ t.dram.bytes = s.dram.bytes ∧
      (∃ e ∈ t.raised, e.src = srcPort (s.region r).port 5) ∧
      (∀ tile, (s.region r).hasTile tile = true → t.code tile = codeUnmapped ∧ t.frameOf tile = none ∧ t.recOf tile = .zero) ∧
      (∀ tile, (s.region r).hasTile tile = false → t.code tile = s.code tile ∧ t.frameOf tile = s.frameOf tile) ∧
      ∀ e ∈ s.tile.map, (s.region r).hasTile e.1 = true → ∃ o ∈ t.tile.releasing, o.frame = e.2 - 1)) ∧
  (∀ (p : Pkt) (s : State), regionQueryOp.reaches p s = true → ∃ data,
    exec (.regionQuery p) s = .next (s.ended regionQueryOp p stOk data) ∧ data.length = 12 + 16 * leAt data 8 1 ∧
    data.take 4 = leBytes 4 (if s.holds p.src .mgmt then s.poolFrames else 0)) ∧
  ∀ s : State, s.running = true →
    (∃ t : State, exec .frameZeroingEntry s = .next t ∧ t.dram.bytes = s.dram.bytes ∧ t.regs = s.regs ∧
      (∀ o ∈ s.tile.releasing, o.bar < s.bar → s.frameInUse o.frame = false →
        o ∉ t.tile.releasing ∧ (s.outOfService (o.frame % 8) = false → o.frame ∈ t.dram.zeroQueue)) ∧
      ∀ o ∈ s.tile.releasing, (s.bar ≤ o.bar ∨ s.frameInUse o.frame = true) → o ∈ t.tile.releasing) ∧
    ∀ c : Fin 8,
      ((s.dram.zeroQueue.filter fun f => decide (f % 8 = c.val)) = [] → exec (.frameZeroed c) s = .next s) ∧
      ∀ (f : Nat) (l : List Nat), (s.dram.zeroQueue.filter fun f => decide (f % 8 = c.val)) = f :: l →
        (s.jobLeft c .zero f = true → exec (.frameZeroed c) s = .next s) ∧
        (s.jobLeft c .zero f = false → ∃ t : State, exec (.frameZeroed c) s = .next t ∧
          t.dram.zeroQueue = s.dram.zeroQueue.filter (fun g => decide (g ≠ f)) ∧
          (∀ i, i < 1024 → t.readLine f i = zeroLine ∧ t.poisoned f i = false) ∧
          ∀ g i, g ≠ f → i < 1024 → t.readLine g i = s.readLine g i ∧ t.poisoned g i = s.poisoned g i)

/-- PORT_CONFIG and LATENCY_TARGET_SET set their fields and advance the port's generation (R45, R166, R184, R185, R194, R476). -/
def Obligations.PortPackets : Prop :=
  ∀ (p : Pkt) (s : State) (n : Nat), n = p.u8 0 →
    (portConfigOp.reaches p s = true →
      let old := s.word (cfgWord n)
      (p.genOk (s.get (Reg.HPORT_GEN_GEN n)) = false → exec (.portConfig p) s = .next (s.ended portConfigOp p stStale)) ∧
      (p.genOk (s.get (Reg.HPORT_GEN_GEN n)) = true → p.expert = true →
        (s.countBad n (countOf (p.u32 4)) = true ∨ (∃ l, l < 16 ∧ 2048 < p.u16 (8 + 2 * l)) →
          exec (.portConfig p) s = .next (s.ended portConfigOp p stInvalid)) ∧
        (s.countBad n (countOf (p.u32 4)) = false → (∀ l, l < 16 → p.u16 (8 + 2 * l) ≤ 2048) →
          (s.cutsRegion n (presents (p.u32 4)) (fun l => p.u16 (8 + 2 * l)) = true →
            exec (.portConfig p) s = .next (s.ended portConfigOp p stForbids)) ∧
          (s.cutsRegion n (presents (p.u32 4)) (fun l => p.u16 (8 + 2 * l)) = false → ∃ t : State,
            exec (.portConfig p) s = .next (t.ended portConfigOp p stOk (t.words [cfgWord n, 0x60020 + 0x4000 * n])) ∧
            t.get (Reg.HPORT_GEN_GEN n) = (s.get (Reg.HPORT_GEN_GEN n) + 1) % 2 ^ (Reg.HPORT_GEN_GEN n).width ∧
            t.get (Reg.HPORT_CFG_ENABLE n) = bitsAt (p.u32 4) 31 1 ∧ t.get (Reg.HPORT_CFG_MLD n) = bitsAt (p.u32 4) 30 1 ∧
            t.get (Reg.HPORT_CFG_LD_COUNT n) = bitsAt (p.u32 4) 25 5 ∧ t.get (Reg.HPORT_CFG_ISOCH n) = bitsAt (p.u32 4) 24 1 ∧
            t.get (Reg.HPORT_CFG_GPF_MODE n) = bitsAt (p.u32 4) 23 1 ∧ (∃ e ∈ t.raised, e.src = srcPort n 11) ∧
            t.dram = s.dram ∧ t.tile = s.tile ∧ ∀ l : Fin 16, t.get (Reg.HPORT_LD_LD_SIZE n l) = p.u16 (8 + 2 * l)))) ∧
      (p.genOk (s.get (Reg.HPORT_GEN_GEN n)) = true → p.expert = false →
        (s.countBad n (countOf old) = true → exec (.portConfig p) s = .next (s.ended portConfigOp p stInvalid)) ∧
        (s.countBad n (countOf old) = false →
          (s.cutsRegion n (presents old) (fun l => s.get (Reg.HPORT_LD_LD_SIZE n l)) = true →
            exec (.portConfig p) s = .next (s.ended portConfigOp p stForbids)) ∧
          (s.cutsRegion n (presents old) (fun l => s.get (Reg.HPORT_LD_LD_SIZE n l)) = false → ∃ t : State,
            exec (.portConfig p) s = .next (t.ended portConfigOp p stOk (t.words [cfgWord n, 0x60020 + 0x4000 * n])) ∧
            t.get (Reg.HPORT_GEN_GEN n) = (s.get (Reg.HPORT_GEN_GEN n) + 1) % 2 ^ (Reg.HPORT_GEN_GEN n).width ∧
            t.get (Reg.HPORT_CFG_ISOCH n) = bitsAt (p.u32 4) 24 1 ∧ t.get (Reg.HPORT_CFG_GPF_MODE n) = bitsAt (p.u32 4) 23 1 ∧
            t.get (Reg.HPORT_CFG_ENABLE n) = bitsAt old 31 1 ∧ t.get (Reg.HPORT_CFG_MLD n) = bitsAt old 30 1 ∧
            t.get (Reg.HPORT_CFG_LD_COUNT n) = bitsAt old 25 5 ∧ (∃ e ∈ t.raised, e.src = srcPort n 11) ∧
            ∀ l : Fin 16, t.get (Reg.HPORT_LD_LD_SIZE n l) = s.get (Reg.HPORT_LD_LD_SIZE n l) % 2 ^ 12)))) ∧
    (latencyTargetSetOp.reaches p s = true →
      (p.genOk (s.get (Reg.HPORT_GEN_GEN n)) = false →
        exec (.latencyTargetSet p) s = .next (s.ended latencyTargetSetOp p stStale)) ∧
      (p.genOk (s.get (Reg.HPORT_GEN_GEN n)) = true → ∃ t : State,
        exec (.latencyTargetSet p) s = .next (t.ended latencyTargetSetOp p stOk (t.words [0x60008 + 0x4000 * n])) ∧
        t.get (Reg.HPORT_LAT_TARGET_READ_NS n) = p.u16 2 ∧
        t.get (Reg.HPORT_LAT_TARGET_WRITE_NS n) = (if p.expert then p.u16 4 else p.u16 2) ∧
        t.get (Reg.HPORT_GEN_GEN n) = (s.get (Reg.HPORT_GEN_GEN n) + 1) % 2 ^ (Reg.HPORT_GEN_GEN n).width ∧
        (∃ e ∈ t.raised, e.src = srcPort n 12) ∧ { t with regs := s.regs, raised := s.raised } = s ∧
        ∀ f : Field, f.addr ≠ 0x60008 + 0x4000 * n → f.key ≠ (Reg.HPORT_GEN_GEN n).key → f.lo < 32 → t.get f = s.get f))

/-- Global Persistent Flush: Phase 1 completes at once, Phase 2 to an LD that exists waits for its condition and is timed (R166, R190,
R191). -/
def Obligations.PersistentFlush : Prop :=
  ∀ (port : Fin 4) (s : State), s.on = true →
    exec (.gpfPhase1 port) s = .next (s.send (.port port 0 [1#8])) ∧
    (∀ (ld : Fin 16) (slot : Fin 6240),
      (s.get (Reg.HPORT_STAT_LINK_STATE port) < 3 ∨ s.ldExists port ld = false →
        exec (.gpfPhase2 port ld slot) s = .next (s.at slot)) ∧
      (3 ≤ s.get (Reg.HPORT_STAT_LINK_STATE port) → s.ldExists port ld = true → ∃ t : State,
        exec (.gpfPhase2 port ld slot) s = .next t ∧
        t.get (Reg.HPORT_GPF_PH2_COUNT port) = (s.get (Reg.HPORT_GPF_PH2_COUNT port) + 1) % 2 ^ (Reg.HPORT_GPF_PH2_COUNT port).width ∧
        (t.portState port).gpf = (s.portState port).gpf ++
          [⟨ld, s.flag (Reg.HPORT_STAT_GPF_MODE port), s.bar * 6240 + slot⟩] ∧
        t.dram = s.dram ∧ t.tile = s.tile ∧ t.outs = s.outs ∧
        (s.flag (Reg.HPORT_STAT_GPF_MODE port) = true → t.save.latched = s.save.latched ++ [(2, false)] ∧ t.raised = s.raised) ∧
        (s.flag (Reg.HPORT_STAT_GPF_MODE port) = false → t.save = s.save ∧
          (s.assured = true → t.raised = s.raised) ∧
          (s.assured = false →
            t.get (Reg.HPORT_GPF_NOT_PERSIST port) = (s.get (Reg.HPORT_GPF_NOT_PERSIST port) + 1) % 2 ^ (Reg.HPORT_GPF_NOT_PERSIST port).width ∧
            t.raised = s.raised ++ [⟨srcPort port 8, [⟨1, ld, .ld port⟩], s.bar,
              [⟨some (port, ld), .failure, .vendorPersistence, 0⟩]⟩])))) ∧
    ∀ slot : Fin 6240,
      ((s.portState port).gpf = [] → exec (.gpfPhase2Complete port slot) s = .next (s.at slot)) ∧
      ∀ (g : Gpf) (l : List Gpf), (s.portState port).gpf = g :: l →
        (s.gpfReady port g = false → exec (.gpfPhase2Complete port slot) s = .next (s.at slot)) ∧
        (s.gpfReady port g = true → ∃ t : State, exec (.gpfPhase2Complete port slot) s = .next t ∧ (t.portState port).gpf = l ∧
          t.get (Reg.HPORT_GPF_LAST_US port) = min (slotsUs (s.bar * 6240 + slot - g.stamp)) 255 ∧
          t.get (Reg.HPORT_GPF_MAX_MAX_US port) = max (s.get (Reg.HPORT_GPF_MAX_MAX_US port))
            (min (slotsUs (s.bar * 6240 + slot - g.stamp)) (2 ^ 32 - 1)) % 2 ^ 32 ∧
          t.outs = s.outs ++ [.port port g.ld [2#8]] ∧ (∃ e ∈ t.raised, e.src = srcPort port 7) ∧ t.dram = s.dram ∧ t.tile = s.tile)

/-- CXL mailbox commands: shutdown state, poison, health, CDAT and event logs, none of which acts for an LD that does not exist (R133,
R161, R166, R187, R188, R189, R192, R420). -/
def Obligations.CxlMailboxCommands : Prop :=
  ∀ (port : Fin 4) (ld : Fin 16) (s : State), s.on = true →
    (s.ldExists port ld = false →
      (∀ v, exec (.setShutdownState port ld v) s = .next (s.send (.mailbox port ld mbInvalid []))) ∧
      (∀ dpa len, exec (.getPoisonList port ld dpa len) s = .next (s.send (.mailbox port ld mbInvalid []))) ∧
      exec (.getHealthInfo port ld) s = .next (s.send (.mailbox port ld mbInvalid [])) ∧
      exec (.cdatRead port ld) s = .next (s.send (.port port ld [])) ∧
      ∀ log n, exec (.clearEventRecords port ld log n) s = .next (s.send (.mailbox port ld mbInvalid []))) ∧
    (∀ v : Bool, s.ldExists port ld = true →
      (s.prsPlace = none → exec (.setShutdownState port ld v) s = .next (s.send (.mailbox port ld mbOk []))) ∧
      ∀ i, s.prsPlace = some i → ∃ t : State, exec (.setShutdownState port ld v) s = .next t ∧
        t.flash.ldShutdown = withBit s.flash.ldShutdown (s.ldIndex port ld) v ∧ t.flash.prsSeq = s.flash.prsSeq + 1 ∧
        t.get Reg.TILE_DSC_COUNT = s.get Reg.TILE_DSC_COUNT ∧ t.outs = s.outs ++ [.mailbox port ld mbOk []] ∧
        t.dram = s.dram ∧ t.tile = s.tile) ∧
    (∀ dpa len : Nat, s.ldExists port ld = true → ∃ data,
      exec (.getPoisonList port ld dpa len) s = .next (s.send (.mailbox port ld mbOk data)) ∧
      let hits := (s.poisonList port ld).filter fun e => decide (e.1 < dpa + len) && decide (dpa < e.1 + e.2)
      data = leBytes 2 (min 256 hits.length) ++ leBytes 1 (bit (decide (256 < hits.length))) ++
        (hits.take 256).flatMap fun e => leBytes 8 e.1 ++ leBytes 4 e.2) ∧
    (∀ dpa : Nat,
      (s.holds (.hport port) .expert = false →
        exec (.injectPoison port ld dpa) s = .next (s.send (.mailbox port ld mbUnsupported [])) ∧
        ∀ data, exec (.clearPoison port ld dpa data) s = .next (s.send (.mailbox port ld mbUnsupported []))) ∧
      (s.holds (.hport port) .expert = true → s.lineOfDpa port ld dpa = none →
        exec (.injectPoison port ld dpa) s = .next (s.send (.mailbox port ld mbInvalid [])) ∧
        ∀ data, exec (.clearPoison port ld dpa data) s = .next (s.send (.mailbox port ld mbInvalid []))) ∧
      ∀ f i : Nat, s.holds (.hport port) .expert = true → s.lineOfDpa port ld dpa = some (f, i) →
        (∃ t : State, exec (.injectPoison port ld dpa) s = .next t ∧ t.poisoned f i = true ∧ t.dram.bytes = s.dram.bytes ∧
          t.get (Reg.DCH_ECC_UE_MARKS (f % 8)) = min (s.get (Reg.DCH_ECC_UE_MARKS (f % 8)) + 1) (2 ^ (Reg.DCH_ECC_UE_MARKS 0).width - 1) ∧
          (∃ e ∈ t.raised, e.src = srcDram (f % 8) 2) ∧ t.outs = s.outs ++ [.mailbox port ld mbOk []]) ∧
        ∀ (data : List Byte) (tile : Nat), data.length = 64 → s.tileOfFrame f = some tile → ∃ t : State,
          exec (.clearPoison port ld dpa data) s = .next t ∧ t.poisoned f i = false ∧ t.readLine f i = data ∧
          t.outs = s.outs ++ [.mailbox port ld mbOk []]) ∧
    (s.ldExists port ld = true → ∃ data, exec (.getHealthInfo port ld) s = .next (s.send (.mailbox port ld mbOk data)) ∧
      leAt data 0 4 = s.get Reg.TILE_DSC_COUNT % 2 ^ 32 ∧ leAt data 4 1 = bit s.assured ∧
      leAt data 6 1 = s.get Reg.DECK_LIFE_USED_PCT % 256 ∧ leAt data 7 1 = s.get Reg.PACK_EFC_LIFE_PCT % 256) ∧
    (s.ldExists port ld = true → exec (.cdatRead port ld) s = .next (s.send (.port port ld (s.cdat port ld)))) ∧
    ∀ (log : CxlLogId) (n : Nat), s.ldExists port ld = true → ∃ t : State, exec (.clearEventRecords port ld log n) s = .next t ∧
      Store.get 0 t.cxl.overflow (logKey port ld log) = 0 ∧
      (t.cxl.logs.filter fun x => x.port = port.val && x.ld = ld.val && x.log = log) =
        (s.cxl.logs.filter fun x => x.port = port.val && x.ld = ld.val && x.log = log).drop n ∧
      (t.cxl.logs.filter fun x => !(x.port = port.val && x.ld = ld.val && x.log = log)) =
        (s.cxl.logs.filter fun x => !(x.port = port.val && x.ld = ld.val && x.log = log)) ∧
      t.outs = s.outs ++ [.mailbox port ld mbOk []] ∧ { t with cxl := s.cxl, outs := s.outs } = s

/-- Epoch boundaries, sweep steps, selections and copy reads change tile codes as the tile-state table says (R134, R198, R200, R203, R204,
R207, R208, R210, R211). The number of tile buffers and the carry-over under EXP_CAP_MBS are the model's choices
(notes/assumptions/74.md). -/
def Obligations.CoolingAndSelection : Prop :=
  (∀ s : State, s.running = true →
    (s.atDownbeat = false ∨ s.bar % (256 * max 1 (s.get Reg.TILE_COOL_EPOCH_PHRASES)) ≠ 0 ∨ s.tile.epochAt = s.bar →
      exec .coolingEpochBoundary s = .next s) ∧
    (s.atDownbeat = true → s.bar % (256 * max 1 (s.get Reg.TILE_COOL_EPOCH_PHRASES)) = 0 → s.tile.epochAt ≠ s.bar →
      ∃ t : State, exec .coolingEpochBoundary s = .next t ∧ t.tile.epochAt = s.bar ∧ t.tile.codes = s.tile.codes ∧
        t.get Reg.TILE_COOL_EPOCH_EPOCHS = (s.get Reg.TILE_COOL_EPOCH_EPOCHS + 1) % 65536 ∧ (∃ e ∈ t.raised, e.src = 0x14C) ∧
        (s.saving = true ∨ s.tile.sweepStopped = true → t.tile.sweep = s.tile.sweep ∧ t.tile.sweepNext = s.tile.sweepNext) ∧
        (s.saving = false → s.tile.sweepStopped = false → s.tile.sweep = none →
          t.tile.sweep = some 0 ∧ t.get Reg.TILE_STAT_SWEEP = 1) ∧
        (s.saving = false → s.tile.sweepStopped = false → s.tile.sweep ≠ none →
          t.tile.sweep = s.tile.sweep ∧ t.tile.sweepNext = true) ∧
        exec .coolingEpochBoundary t = .next t)) ∧
  (∀ (s : State) (e : SecDed), s.running = true →
    (s.tile.sweepStopped = true ∨ s.tile.sweep = none → exec (.coolingSweepStep e) s = .next s) ∧
    ∀ w : Nat, s.tile.sweepStopped = false → s.tile.sweep = some w → ∃ t : State, exec (.coolingSweepStep e) s = .next t ∧
      (s.wordGood w = true → e ≠ .uncorrectable → (∀ i, i < 16 → t.code (16 * w + i) =
        if s.code (16 * w + i) = codeUnmapped then codeUnmapped else cooled (s.code (16 * w + i)))) ∧
      (s.wordGood w = true → e = .corrected →
        t.get Reg.TILE_STATE_ERR_CE = min (s.get Reg.TILE_STATE_ERR_CE + 1) (2 ^ 16 - 1)) ∧
      (s.wordGood w = false ∨ e = .uncorrectable → (∃ x ∈ t.raised, x.src = 0x149) ∧
        ∀ i, i < 16 → t.code (16 * w + i) = if (s.regionOfTile (16 * w + i)).isSome then codeLost else codeUnmapped) ∧
      (∀ tile, tile / 16 ≠ w → t.code tile = s.code tile) ∧
      (w < t.lastWord → t.tile.sweep = some (w + 1)) ∧
      (t.lastWord ≤ w → s.tile.sweepNext = true → t.tile.sweep = some 0 ∧ t.tile.sweepNext = false) ∧
      (t.lastWord ≤ w → s.tile.sweepNext = false → t.tile.sweep = none ∧ t.get Reg.TILE_STAT_SWEEP = 0)) ∧
  (∀ (c : Fin 8) (s : State) (e : SecDed), s.running = true →
    (s.serving c = false ∨ s.saving = true ∨ s.rateAllows = false ∨ s.scanNext c = none → exec (.tileSelect c e) s = .next s) ∧
    ∀ tile f : Nat, s.serving c = true → s.saving = false → s.rateAllows = true → s.scanNext c = some tile →
      s.wordGood (tile / 16) = true → s.frameOf tile = some f → s.eligible (s.code tile) = true ∧ f % 8 = c ∧
      ∃ t : State, exec (.tileSelect c e) s = .next t ∧ t.dram.bytes = s.dram.bytes ∧
        (e = .uncorrectable → t.code tile ≠ codeFlight ∧ t.tile.flights.length = s.tile.flights.length) ∧
        (e ≠ .uncorrectable → t.code tile = codeFlight ∧
          t.tile.flights = s.tile.flights ++ [⟨tile, f, s.bar, false, none, none⟩] ∧
          (t.ch c).work.jobs = (s.ch c).work.jobs ++ [⟨.stream, some f, 65536 + 1024⟩] ∧
          t.tile.tokens = (if s.expedited then s.tile.tokens else s.tile.tokens - 655360) ∧
          (∀ x, x ≠ tile → t.code x = s.code x))) ∧
  ∀ (tile : Nat) (errs : List (Fin 1024 × LineRead)) (s : State), s.running = true →
    let found := s.tile.flights.find? fun x => x.tile = tile && x.copy.isNone
    (found = none → exec (.tileCopyReadDone tile errs) s = .next s) ∧
    ∀ k : StreamCopy, found = some k →
      (s.jobLeft (k.frame % 8) .stream k.frame = true → exec (.tileCopyReadDone tile errs) s = .next s) ∧
      (s.jobLeft (k.frame % 8) .stream k.frame = false →
        let bad := ∃ x ∈ errs, s.poisoned k.frame x.1 = false ∧ x.2.decode (s.x8 (k.frame % 8)) = .uncorrectable
        ∃ t : State, exec (.tileCopyReadDone tile errs) s = .next t ∧ t.dram.bytes = s.dram.bytes ∧
          (bad → (∃ x ∈ t.raised, x.src = 0x14A) ∧ k ∉ t.tile.flights ∧
            t.code tile = (if s.flies k then codeCold else s.code tile) ∧
            ∀ x ∈ errs, s.poisoned k.frame x.1 = false → x.2.decode (s.x8 (k.frame % 8)) = .uncorrectable →
              ∃ m ∈ (t.ch (k.frame % 8)).marks, m.frame = k.frame ∧ m.line = x.1) ∧
          (¬ bad → (s.readTile tile k.frame).isZero = true → k ∉ t.tile.flights ∧
            (s.flies k = true → t.code tile = codeZero ∧ t.recOf tile = .zero) ∧
            (s.flies k = false → t.code tile = s.code tile ∧ t.recOf tile = s.recOf tile)) ∧
          (¬ bad → (s.readTile tile k.frame).isZero = false → t.code tile = s.code tile ∧
            ∃ z ∈ t.tile.flights, z.tile = tile ∧ z.copy = some (s.readTile tile k.frame)))

/-- A copy enters the open segment; a closed and written segment commits its tiles CLEAN; one that can no longer commit is abandoned
(R200, R209, R290, R291, R293). -/
def Obligations.StreamSegments : Prop :=
  ∀ s : State, s.running = true →
    (∀ tile : Nat,
      let found := s.tile.flights.find? fun x => x.tile = tile && x.copy.isSome && x.seg.isNone
      (found = none → exec (.segmentCopyEntry tile) s = .next s) ∧
      ∀ (k : StreamCopy) (y : Copy), found = some k → k.copy = some y →
        let s' := match s.deck.segs.find? fun g => g.kind = .stream && !g.closed with
          | some g => if s.segTakes g then s else s.closeSegment g.num
          | none => s
        ∃ t : State, exec (.segmentCopyEntry tile) s = .next t ∧ t.tile.codes = s.tile.codes ∧ t.dram = s.dram ∧
          ((s'.addCopy .stream k.start { y with seq := s.nextSeq }).2 = none → t.tile.flights = s.tile.flights) ∧
          ∀ n : Nat, (s'.addCopy .stream k.start { y with seq := s.nextSeq }).2 = some n →
            t.tile.flights = s.tile.flights.map (fun z => if z = k then { z with seg := some n } else z) ∧
            ∃ g ∈ t.deck.segs, g.num = n ∧ ∃ e ∈ g.tiles, e.1 = y.tile) ∧
    ((s.deck.segs.find? fun x => x.kind = .stream && !x.closed) = none → exec .streamSegmentClose s = .next s) ∧
    (∀ g : Segment, (s.deck.segs.find? fun x => x.kind = .stream && !x.closed) = some g → ∃ t : State,
      exec .streamSegmentClose s = .next t ∧ (∀ x ∈ t.deck.segs, x.num = g.num → x.closed = true) ∧
      (∀ x ∈ t.deck.stripes, x.seg = g.num → x.closed = true) ∧ { t with deck := s.deck } = s) ∧
    (∀ seg : Nat,
      let found := s.deck.segs.find? fun x => x.num = seg && x.closed && (x.kind = .stream || x.kind = .gc)
      (found = none ∨ s.segWritten seg = false → exec (.segmentCommit seg) s = .next s) ∧
      ∀ g : Segment, found = some g → s.segWritten seg = true → ∃ t : State, exec (.segmentCommit seg) s = .next t ∧
        (∀ x ∈ t.deck.segs, x.num ≠ seg) ∧ t.dram = s.dram ∧
        (g.kind = .stream → t.save.dirtied = true ∧ ∀ k ∈ s.tile.flights, k.seg = some seg →
          (s.flies k = true → t.code k.tile = codeClean) ∧
          ∀ e : Nat × TileRec, g.tiles.find? (fun x => x.1 = k.tile) = some e → s.flies k = true →
            (∀ o ∈ s.tile.releasing, o.frame = k.frame → 64 ≤ o.region) → t.recOf k.tile = e.2) ∧
        (g.kind = .gc → t.tile.codes = s.tile.codes ∧ t.save = s.save)) ∧
    ∀ seg : Nat,
      let found := s.deck.segs.find? fun x => x.num = seg && x.kind = .stream
      (found = none → exec (.segmentAbandon seg) s = .next s) ∧
      ∀ g : Segment, found = some g →
        (s.segLate g = false → exec (.segmentAbandon seg) s = .next s) ∧
        (s.segLate g = true → ∃ t : State, exec (.segmentAbandon seg) s = .next t ∧ (∀ x ∈ t.deck.segs, x.num ≠ seg) ∧
          (∀ x ∈ t.deck.stripes, x.seg ≠ seg) ∧ (∃ e ∈ t.raised, e.src = 0x17B) ∧
          ∀ k ∈ s.tile.flights, k.seg = some seg → s.flies k = true → t.code k.tile = codeCold ∧
            (⟨0x14A, [⟨4, k.tile, .tile⟩, ⟨1, 2, .plain⟩], s.bar, []⟩ : Event) ∈ t.raised)

/-- Stream tokens, the dirty budget, assured persistence, and the packets that set and show them (R210, R212, R213, R221, R223, R224,
R225, R226). That the 64 phrases of R223 count for a state found at start-up too is deduced (notes/assumptions/68.md). -/
def Obligations.BudgetAndPersistence : Prop :=
  (∀ s : State, s.running = true →
    (s.atDownbeat = false ∨ s.phraseStart = false ∨ s.tile.tokenPhrase = s.bar → exec .streamTokenAdd s = .next s) ∧
    (s.atDownbeat = true → s.phraseStart = true → s.tile.tokenPhrase ≠ s.bar → ∃ t : State, exec .streamTokenAdd s = .next t ∧
      t.tile.tokens = (if s.flag Reg.TILE_STREAM_CTL_STREAM_EN then min (s.tile.tokens + s.get Reg.TILE_STREAM_RATE_GOV_MBS * 9984)
        (s.get Reg.TILE_STREAM_CTL_BURST * (s.get Reg.TILE_STREAM_RATE_GOV_MBS * 9984)) else s.tile.tokens) ∧
      t.tile.phraseBytes = 0 ∧ (∀ f : Field, f.key ≠ Reg.TILE_STREAM_RATE_LAST_MBS.key → t.get f = s.get f) ∧
      { t with regs := s.regs, tile := s.tile } = s ∧ exec .streamTokenAdd t = .next t) ∧
    (s.atDownbeat = false ∨ s.portsUp = false ∨ (s.phraseStart = false ∧ s.tile.recompute = false) →
      exec .nmaxRecompute s = .next s) ∧
    (s.atDownbeat = true → s.portsUp = true → (s.phraseStart = true ∨ s.tile.recompute = true) →
      ∃ t : State, exec .nmaxRecompute s = .next t ∧ t.tile.recompute = false ∧ t.dram.bytes = s.dram.bytes ∧
        t.get Reg.TILE_DMAX_TILES = min (t.get Reg.TILE_DMAX_T_TILES) (t.get Reg.TILE_DMAX_E_TILES) ∧
        t.get Reg.TILE_DMAX_T_TILES = (if s.get Reg.DECK_SAVE_RATE_MBS = 0 then 0 else
          budgetTime (s.get Reg.DECK_SAVE_RATE_MBS) (s.get Reg.TILE_POLICY_WINDOW_MS) s.margin) ∧
        t.get Reg.TILE_DMAX_E_TILES = (if s.get Reg.DECK_SAVE_RATE_MBS = 0 then 0 else
          budgetEnergy (s.get Reg.DECK_SAVE_RATE_MBS) (if s.phraseStart || s.beforePorts then s.energyJ else min s.tile.eUsed s.energyJ)
            (s.get Reg.TILE_SAVE_DRAW_WATTS) s.margin)) ∧
    (s.assured = false → s.get Reg.SYS_STATE_STEP = 15 → 64 ≤ s.tile.assuredRun → ∃ t : State,
      exec .persistenceAssured s = .next t ∧ t.assured = true ∧ t.get Reg.TILE_STAT_CAUSE = 0 ∧ (∃ e ∈ t.raised, e.src = 0x145) ∧
      { t with regs := s.regs, raised := s.raised } = s) ∧
    (s.assured = true ∨ s.get Reg.SYS_STATE_STEP ≠ 15 ∨ s.tile.assuredRun < 64 → exec .persistenceAssured s = .next s)) ∧
  ∀ (p : Pkt) (s : State),
    (persistPolicySetOp.reaches p s = true →
      (p.genOk (s.get Reg.TILE_GEN_GEN) = false → exec (.persistPolicySet p) s = .next (s.ended persistPolicySetOp p stStale)) ∧
      (p.genOk (s.get Reg.TILE_GEN_GEN) = true →
        (policyOk p = false → exec (.persistPolicySet p) s = .next (s.ended persistPolicySetOp p stInvalid)) ∧
        (policyOk p = true → (s.saving = true ∨ s.restoring = true) →
          exec (.persistPolicySet p) s = .next (s.ended persistPolicySetOp p stForbids)) ∧
        (policyOk p = true → s.saving = false → s.restoring = false → ∃ t : State,
          exec (.persistPolicySet p) s = .next (t.ended persistPolicySetOp p stOk (t.words [0x80028, 0x8002C])) ∧
          t.get Reg.TILE_POLICY_POLICY = p.u8 0 ∧ t.get Reg.TILE_POLICY_FLOOR_GIB = p.u8 2 ∧
          t.get Reg.TILE_POLICY_WINDOW_MS = p.u16 4 ∧
          t.get Reg.TILE_SAVE_DRAW_WATTS = (if p.expert then p.u16 6 else s.get Reg.TILE_SAVE_DRAW_WATTS) ∧
          (∃ e ∈ t.raised, e.src = 0x14B) ∧ t.dram.bytes = s.dram.bytes ∧
          t.get Reg.TILE_GEN_GEN = (s.get Reg.TILE_GEN_GEN + 1) % 2 ^ Reg.TILE_GEN_GEN.width))) ∧
    (streamTuneOp.reaches p s = true →
      (p.genOk (s.get Reg.TILE_GEN_GEN) = false → exec (.streamTune p) s = .next (s.ended streamTuneOp p stStale)) ∧
      (p.genOk (s.get Reg.TILE_GEN_GEN) = true → tuneOk p = false →
        exec (.streamTune p) s = .next (s.ended streamTuneOp p stInvalid)) ∧
      (p.genOk (s.get Reg.TILE_GEN_GEN) = true → tuneOk p = true → (s.saving = true ∨ s.restoring = true) →
        exec (.streamTune p) s = .next (s.ended streamTuneOp p stForbids)) ∧
      (p.genOk (s.get Reg.TILE_GEN_GEN) = true → tuneOk p = true → s.saving = false → s.restoring = false → ∃ t : State,
          exec (.streamTune p) s = .next (t.ended streamTuneOp p stOk
            (wordsBytes [t.word 0x80024, t.comingWord 0x8001C, t.word 0xA001C])) ∧
          t.get Reg.DECK_LIFE_TARGET_MONTHS = p.u8 0 ∧ (∃ e ∈ t.raised, e.src = 0x14B) ∧ t.dram = s.dram ∧
          (p.expert = true → t.get Reg.TILE_STREAM_CTL_STREAM_EN = p.u8 1 ∧ t.get Reg.TILE_STREAM_CTL_BURST = p.u8 2 ∧
            t.get Reg.TILE_STREAM_CTL_EXP_CAP_MBS = p.u16 6 ∧ t.writes = s.writes ++ [(Reg.TILE_COOL_EPOCH_PHRASES, p.u16 4)]) ∧
          (p.expert = false → t.writes = s.writes ∧
            t.get Reg.TILE_STREAM_CTL_STREAM_EN = s.get Reg.TILE_STREAM_CTL_STREAM_EN ∧
            t.get Reg.TILE_STREAM_CTL_BURST = s.get Reg.TILE_STREAM_CTL_BURST) ∧
          t.get Reg.TILE_GEN_GEN = (s.get Reg.TILE_GEN_GEN + 1) % 2 ^ Reg.TILE_GEN_GEN.width)) ∧
    (persistStatusOp.reaches p s = true → exec (.persistStatus p) s = .next (s.ended persistStatusOp p stOk
      (s.words [0x80000, 0x80004, 0x80008, 0x8000C, 0x80010, 0x80018] ++ leBytes 4 s.tile.eUsed ++ leBytes 4 s.tile.rUsed
        ++ s.words [0x80028, 0x8002C, 0x80138])))

/-- Overruns wait for their record and void the bar, each is recorded and rest bars follow, the rest limit fails a channel, and
temperature reads set DCH_TEMP (R61, R62, R63, R116, R120, R121, R150, R156, R158, R289). -/
def Obligations.EngineOverruns : Prop :=
  (∀ s : State, s.running = true →
    (∀ (n : Fin 16) (die : Fin 8) (excess busy : Nat),
      let found := (s.nch n).ops.find? fun x => x.die = die.val
      (found = none ∨ s.nchUp n = false → exec (.nandContractOverrun n die excess busy) s = .next s) ∧
      ∀ o : NandOp, found = some o → s.nchUp n = true → ∃ t : State,
        exec (.nandContractOverrun n die excess busy) s = .next t ∧
        t.nch n = { s.nch n with
          overruns := (s.nch n).overruns ++ [⟨die.val, o.work.cls, excess⟩]
          busy := max (s.nch n).busy (if (s.nch n).restBars = 0 then busy else busy + 1) } ∧
        (∀ m : Fin 16, m ≠ n → t.nch m = s.nch m) ∧ { t with deck := s.deck } = s) ∧
    (s.atDownbeat = false → ∀ e, exec (.engineRestLimit e) s = .next s) ∧
    (∀ c : Fin 8, ((s.ch c).restBars < 257 ∨ s.serving c = false → exec (.engineRestLimit (.dram c)) s = .next s) ∧
      (s.atDownbeat = true → 257 ≤ (s.ch c).restBars → s.serving c = true → ∃ t : State,
        exec (.engineRestLimit (.dram c)) s = .next t ∧ t.chState c = chFailed ∧ t.get (Reg.DCH_STAT_FAIL_CAUSE c) = 2)) ∧
    ∀ n : Fin 16, ((s.nch n).restBars < 257 ∨ s.nchUp n = false → exec (.engineRestLimit (.nand n)) s = .next s) ∧
      (s.atDownbeat = true → 257 ≤ (s.nch n).restBars → s.nchUp n = true → ∃ t : State,
        exec (.engineRestLimit (.nand n)) s = .next t ∧
        nchState t n = 3 ∧ t.get (Reg.NCH_STAT_FAIL_CAUSE n) = 2 ∧ (t.nch n).ops = [])) ∧
  (∀ (c : Fin 8) (s : State), s.get Reg.SCORE_OVERRUN_COUNT + (s.ch c).overruns.length < 256 →
    (s.dramRestBar c).get Reg.SCORE_OVERRUN_COUNT = s.get Reg.SCORE_OVERRUN_COUNT + (s.ch c).overruns.length ∧
    ((s.dramRestBar c).ch c).overruns = [] ∧
    (∀ x ∈ (s.ch c).overruns, ∃ e ∈ (s.dramRestBar c).raised, e.src = 0x044 ∧ ∃ d ∈ e.detail, d.val = x) ∧
    ((s.ch c).overruns ≠ [] → (s.ch c).restBars < 256 → ((s.dramRestBar c).ch c).restBars = (s.ch c).restBars + 1)) ∧
  (∀ (c : Fin 8) (s : State), s.running = true →
    (∀ (excess busy : Nat), ∃ t : State, exec (.dramContractOverrun c excess busy) s = .next t ∧
      t.ch c = { s.ch c with
        overruns := (s.ch c).overruns ++ [excess]
        busy := max (s.ch c).busy (if (s.ch c).restBars = 0 then busy else busy + 1) } ∧
      (∀ d : Fin 8, d ≠ c → t.ch d = s.ch d) ∧ t.get Reg.SCORE_STAT_BOUND_VOID = 1 ∧
      { t with regs := s.regs, dram := { t.dram with chans := s.dram.chans } } = s ∧
      (∀ sub rank kind : Fin 2, exec (.alertNReport c sub rank kind excess busy) s =
        .next (t.raise (srcDram c 15) [⟨1, sub, .plain⟩, ⟨1, rank, .plain⟩, ⟨1, kind, .plain⟩])) ∧
      ∀ d : Fin 8, bitAt (t.get Reg.SCORE_STAT_VOID_MASK) d = (bitAt (s.get Reg.SCORE_STAT_VOID_MASK) d || decide (d = c))) ∧
    (∀ l : List TempReading,
      (s.hasTask c (.maint .temp) = false → exec (.temperatureRead c l) s = .next s) ∧
      (s.hasTask c (.maint .temp) = true → hottest l = none →
        exec (.temperatureRead c l) s = .next (s.takeTask c (.maint .temp))) ∧
      ∀ h : TempReading, s.hasTask c (.maint .temp) = true → hottest l = some h →
        ∃ t : State, exec (.temperatureRead c l) s = .next t ∧ t.get (Reg.DCH_TEMP_VALID c) = 1 ∧
          t.get (Reg.DCH_TEMP_TEMP_C c) = byteOfInt h.celsius % 256 ∧ t.get (Reg.DCH_TEMP_HOT_RANK c) = h.rank ∧
          t.get (Reg.DCH_TEMP_HOT_SUB c) = h.sub ∧ t.get (Reg.DCH_TEMP_MR4_2X c) = bit (l.any (·.mr4)) ∧
          t.get (Reg.DCH_TEMP_PEAK_C c) = (if (s.flag (Reg.DCH_TEMP_VALID c) = false ∧ (s.ch c).stale = false) ∨
            signed8 (s.get (Reg.DCH_TEMP_PEAK_C c)) < h.celsius then byteOfInt h.celsius else s.get (Reg.DCH_TEMP_PEAK_C c)) % 256 ∧
          t.get (Reg.DCH_STAT_HOT c) = bit (t.reportsHot c) ∧
          t.ch c = { s.ch c with tasks := (s.ch c).tasks.erase (.maint .temp), stale := false, tempSlot := s.now } ∧
          t.dram.bytes = s.dram.bytes ∧ t.dram.poison = s.dram.poison ∧ t.tile = s.tile) ∧
    ∀ slot : Fin 6240,
      let due := chInService ≤ s.chState c ∧ s.flag (Reg.DCH_STAT_SELF_REFRESH c) = false ∧ (s.ch c).stale = false ∧
        (s.ch c).tempSlot + 256 * 6240 ≤ s.bar * 6240 + slot
      (¬ due → exec (.temperatureStale c slot) s = .next (s.at slot)) ∧
      (due → ∃ t : State, exec (.temperatureStale c slot) s = .next t ∧ t.get (Reg.DCH_TEMP_VALID c) = 0 ∧ (t.ch c).stale = true ∧
        t.reportsHot c = true ∧ (s.serving c = true → t.get (Reg.DCH_STAT_HOT c) = 1 ∧ ∃ e ∈ t.raised, e.src = srcDram c 5) ∧
        (s.serving c = false → t.raised = s.raised ∧ t.get (Reg.DCH_STAT_HOT c) = s.get (Reg.DCH_STAT_HOT c)) ∧
        exec (.temperatureStale c slot) t = .next t))

/-- NAND operations start within their windows and gates, and their ends are recorded (R47, R79, R258, R265, R284, R286, R293, R307,
R375). Which share background restore and compaction take up, and how many at a time, is as notes/assumptions/77.md says. -/
def Obligations.DeckOperations : Prop :=
  ∀ (n : Fin 16) (s : State), s.on = true →
    (∀ slot : Fin 6240,
      let u := (s.at slot).placeWaiting
      (s.gateOpen n = false → exec (.nandProgramStart ⟨n, slot⟩) s = .next u ∧ exec (.nandEraseStart ⟨n, slot⟩) s = .next (s.at slot)) ∧
      (u.windowFor n .program = none → exec (.nandProgramStart ⟨n, slot⟩) s = .next u) ∧
      ∀ w, s.gateOpen n = true → u.windowFor n .program = some w →
        (u.pickDie n w (u.programWork n) = none → exec (.nandProgramStart ⟨n, slot⟩) s = .next u) ∧
        ∀ (d : Nat) (k : NandWork), u.pickDie n w (u.programWork n) = some (d, k) → ∃ t : State,
          exec (.nandProgramStart ⟨n, slot⟩) s = .next t ∧ (t.nch n).ops = (u.nch n).ops ++ [⟨d, k, s.bar⟩] ∧
          t.dieFree n d = false ∧ (d, s.bar * 6240 + slot + 6240 * 77) ∈ (t.nch n).held ∧ { t with deck := u.deck } = u) ∧
    (∀ slot : Fin 6240,
      ((s.at slot).windowFor n .read = none → exec (.nandReadStart ⟨n, slot⟩) s = .next (s.at slot)) ∧
      ∀ w, (s.at slot).windowFor n .read = some w →
        let u := ((s.at slot).bgTake n ((s.at slot).freeIn n w)).gcTake
        (∀ (d : Nat) (k : NandWork), (u.readWork n (u.freeIn n w) = some (d, k) ∨
            (u.readWork n (u.freeIn n w) = none ∧ u.pickDie n w (u.patrolRetry n) = some (d, k))) → ∃ t : State,
          exec (.nandReadStart ⟨n, slot⟩) s = .next t ∧ (t.nch n).ops = (u.nch n).ops ++ [⟨d, k, s.bar⟩] ∧
          t.dieFree n d = false ∧ (d, s.bar * 6240 + slot + 6240 * 12) ∈ (t.nch n).held ∧ { t with deck := u.deck } = u) ∧
        (u.readWork n (u.freeIn n w) = none → u.pickDie n w (u.patrolRetry n) = none →
          (u.pickDie n w (fun d => (u.patrolNext n d).map (·.2)) = none → exec (.nandReadStart ⟨n, slot⟩) s = .next u) ∧
          ∀ (d : Nat) (k : NandWork), u.pickDie n w (fun d => (u.patrolNext n d).map (·.2)) = some (d, k) → ∃ t : State,
            exec (.nandReadStart ⟨n, slot⟩) s = .next t ∧ (t.nch n).ops = (u.nch n).ops ++ [⟨d, k, s.bar⟩] ∧
            t.dieFree n d = false ∧ { t with deck := u.deck } = u)) ∧
    (∀ slot : Fin 6240,
      (s.anyAbsent = true ∨ (s.at slot).windowFor n .erase = none → exec (.nandEraseStart ⟨n, slot⟩) s = .next (s.at slot)) ∧
      ∀ w, s.gateOpen n = true → s.anyAbsent = false → (s.at slot).windowFor n .erase = some w →
        let pick := (s.at slot).pickDie n w fun d => (s.at slot).ringWork n d <|> ((s.at slot).eraseWork n d).map NandWork.band
        (pick = none → exec (.nandEraseStart ⟨n, slot⟩) s = .next (s.at slot)) ∧
        ∀ (d : Nat) (k : NandWork), pick = some (d, k) → ∃ t : State, exec (.nandEraseStart ⟨n, slot⟩) s = .next t ∧
          (t.nch n).ops = (s.nch n).ops ++ [⟨d, k, s.bar⟩] ∧ t.dieFree n d = false ∧ { t with deck := s.deck } = s.at slot ∧
          (d, s.bar * 6240 + slot + 6240 * 2052) ∈ (t.nch n).held ∧
          ∀ b, k = .band b → ∀ x ∈ t.deck.stripes, (∃ l, s.band b = .erasing l) ∨ s.bandOf x.die x.sb ≠ b) ∧
    (∀ die : Fin 8, s.opOn n die = none →
      (∀ ok time, exec (.nandProgramDone n die ok time) s = .next s) ∧ (∀ b, exec (.nandReadDone n die b) s = .next s) ∧
      ∀ ok, exec (.nandEraseDone n die ok) s = .next (s.updSaveRate false)) ∧
    (∀ (die : Fin 8) (time : Nat) (a sb page pos : Nat) (q : Option Nat), (s.opOn n die).map (·.work) = some (.share a sb page pos q) →
      (∃ t : State, exec (.nandProgramDone n die true time) s = .next t ∧ t.opOn n die = none ∧ t.tile = s.tile ∧
        ∀ x ∈ t.deck.stripes, x.die = a → x.sb = sb → x.page = page → n.val ∉ x.todo) ∧
      ∃ t : State, exec (.nandProgramDone n die false time) s = .next t ∧ t.opOn n die = none ∧
        t.get (Reg.NCH_ERR_PROG_FAIL n) = min (s.get (Reg.NCH_ERR_PROG_FAIL n) + 1) 255 ∧ ∃ e ∈ t.raised, e.src = srcNand n 0) ∧
    (∀ (die : Fin 8) (time seq i : Nat), (s.opOn n die).map (·.work) = some (.keyPage seq i) → ∀ ok, ∃ t : State,
      exec (.nandProgramDone n die ok time) s = .next t ∧ t.opOn n die = none ∧ t.dram = s.dram ∧
      t.get (Reg.NCH_ERR_PROG_FAIL n) = (if ok then s.get (Reg.NCH_ERR_PROG_FAIL n)
        else min (s.get (Reg.NCH_ERR_PROG_FAIL n) + 1) 255)) ∧
    (∀ (die : Fin 8) (tile pos : Nat) (a sb page p0 seg : Nat), (s.opOn n die).map (·.work) = some (.fetch tile pos) →
      s.recOf tile = .data a sb page p0 seg →
      (∀ b : Fin 41, ∃ t : State, exec (.nandReadDone n die (some b)) s = .next t ∧ t.opOn n die = none ∧
        t.retryOf (.fetch tile pos) = 0 ∧ t.get (Reg.NCH_ERR_CBITS_MAX n) = max (s.get (Reg.NCH_ERR_CBITS_MAX n)) b % 256 ∧
        ∀ f ∈ t.tile.fetches, f.tile = tile → pos ∉ f.need) ∧
      (s.retryOf (.fetch tile pos) < 8 → ∃ t : State, exec (.nandReadDone n die none) s = .next t ∧ t.opOn n die = none ∧
        t.retryOf (.fetch tile pos) = s.retryOf (.fetch tile pos) + 1 ∧ t.tile = s.tile ∧ t.regs = s.regs) ∧
      (8 ≤ s.retryOf (.fetch tile pos) → ∃ t : State, exec (.nandReadDone n die none) s = .next t ∧ t.opOn n die = none ∧
        t.get (Reg.NCH_ERR_READ_FAIL n) = min (s.get (Reg.NCH_ERR_READ_FAIL n) + 1) 255 ∧ ∃ e ∈ t.raised, e.src = srcNand n 2)) ∧
    (∀ (die : Fin 8) (b : Nat), (s.opOn n die).map (·.work) = some (.band b) →
      (s.band b = .erasing [n.val] → s.ratedCycles = 0 → Store.get 0 s.deck.marked (sbKey n die (b / s.card.nandDies + 4)) = 0 →
        ∃ t : State, exec (.nandEraseDone n die true) s = .next t ∧ t.opOn n die = none ∧ t.band b = .erased) ∧
      ∃ t : State, exec (.nandEraseDone n die false) s = .next t ∧ t.opOn n die = none ∧
        t.get (Reg.NCH_ERR_ERASE_FAIL n) = min (s.get (Reg.NCH_ERR_ERASE_FAIL n) + 1) 255) ∧
    ∀ (die : Fin 8) (r : Nat), (s.opOn n die).map (·.work) = some (.ring r) → ∀ ok, ∃ t : State,
      exec (.nandEraseDone n die ok) s = .next t ∧ t.opOn n die = none ∧ (t.nch n).ring.used.getD r 0 = 0

/-- Lost channels, compaction, refresh Keystones, the governor, formats, and the Deck's packets (R289, R293, R295, R308, R310, R311,
R313). -/
def Obligations.DeckUpkeep : Prop :=
  (∀ s : State, s.running = true →
    (∀ (n : Fin 16) (d : Option (Fin 8)),
      (s.nchUp n = false → exec (.nandChannelFail n d) s = .next s) ∧
      (s.nchUp n = true →
        ((s.nch n).failNext = none → d = none → exec (.nandChannelFail n d) s = .next s) ∧
        (s.atDownbeat = false → ∃ t : State, exec (.nandChannelFail n d) s = .next t ∧ nchState t n = nchState s n ∧
          (t.nch n).failNext = ((s.nch n).failNext <|> d.map fun _ => 3) ∧
          (∀ i : Fin 8, d = some i → bitAt (t.get (Reg.NCH_STAT_DIE_FAIL n)) i = true) ∧ (d = none → t = s)) ∧
        ∀ cause, cause < 16 → s.atDownbeat = true → ((s.nch n).failNext <|> d.map fun _ => 3) = some cause → ∃ t : State,
          exec (.nandChannelFail n d) s = .next t ∧ nchState t n = 3 ∧ t.get (Reg.NCH_STAT_FAIL_CAUSE n) = cause ∧
          (t.nch n).ops = [] ∧ bitAt (t.get (Reg.GUARD_OUT_OUT 3)) n = false ∧ ∃ e ∈ t.raised, e.src = 0x171)) ∧
    (s.get Reg.DECK_STAT_STATE ≠ 2 → exec .compactionShareMove s = .next s) ∧
    (s.get Reg.DECK_STAT_STATE = 2 → ∃ t : State, exec .compactionShareMove s = .next t ∧
      t.deck.loc = s.deck.loc ∧ t.tile = s.tile ∧ t.dram = s.dram ∧
      ∀ (m : Move) (x : Stripe) (k : Copy), (s.deck.moves.find? fun m => m.need.isEmpty) = some m →
        t.deck.moves = s.deck.moves.erase m ∧
        (s.copyOf m.record = some (x, k) → s.recOf m.tile = m.record →
          ∀ g, (({ s with deck := { s.deck with moves := s.deck.moves.erase m } } : State).addCopy .gc s.bar k).2 = some g →
            ∃ y ∈ t.deck.segs, y.num = g ∧ ∃ e ∈ y.tiles, e.1 = k.tile)) ∧
    (s.atDownbeat = true → s.refreshDue = true → ∃ t : State, exec .refreshKeystone s = .next t ∧ t.get Reg.DECK_STAT_REFRESH = 1 ∧
      ∃ w, t.deck.writing = some w ∧ w.refresh = true ∧ w.ks.seq = max s.keystoneSeq s.deck.seqHigh + 1 ∧
        w.ks.map = s.deck.loc ∧ w.copies.length = 3) ∧
    (s.atDownbeat = false ∨ s.refreshDue = false → exec .refreshKeystone s = .next s) ∧
    (s.phraseStart = false ∨ s.bar / 256 < s.deck.govPhrase + 65536 → exec .governorRecompute s = .next s) ∧
    (s.phraseStart = true → s.deck.govPhrase + 65536 ≤ s.bar / 256 → ∃ t : State, exec .governorRecompute s = .next t ∧
      t.get Reg.TILE_STREAM_RATE_GOV_MBS = min s.governor 65535 ∧ t.deck.govPhrase = s.bar / 256 ∧ t.tile = s.tile ∧ t.dram = s.dram)) ∧
  (∀ s : State, s.on = true → (s.formatReady = false → exec .deckFormatDone s = .next s) ∧
    (s.formatReady = true → ∃ t : State, exec .deckFormatDone s = .next t ∧ t.get Reg.DECK_STAT_STATE = 2 ∧
      t.tile.recompute = true ∧ ∃ e ∈ t.raised, e.src = 0x179)) ∧
  ∀ (p : Pkt) (s : State),
    (nchRetireOp.reaches p s = true →
      let n := p.u8 0
      let up := (nandChannels.filter s.nchUp).length
      (p.genOk (s.get (Reg.NCH_GEN_GEN n)) = false → exec (.nchRetire p) s = .next (s.ended nchRetireOp p stStale)) ∧
      (p.genOk (s.get (Reg.NCH_GEN_GEN n)) = true →
        (s.saving = true ∨ s.restoring = true ∨ (s.nchUp n = true ∧ up < 15) →
          exec (.nchRetire p) s = .next (s.ended nchRetireOp p stForbids)) ∧
        (s.saving = false → s.restoring = false → s.nchUp n = false → exec (.nchRetire p) s =
          .next (s.ended nchRetireOp p stOk (s.words [0xB0000 + 0x1000 * n, 0xB0010 + 0x1000 * n]))) ∧
        (s.saving = false → s.restoring = false → s.nchUp n = true → 15 ≤ up → ∃ t : State, exec (.nchRetire p) s =
            .next (t.ended nchRetireOp p (if up = 15 then stDegraded else stOk)
              (t.words [0xB0000 + 0x1000 * n, 0xB0010 + 0x1000 * n])) ∧
          nchState t n = 3 ∧ t.get (Reg.NCH_STAT_FAIL_CAUSE n) = 4))) ∧
    (deckFormatOp.reaches p s = true →
      let may := s.get Reg.DECK_STAT_STATE = 3 ∨ s.flag Reg.TILE_RESTORE_STAT_NO_KEY = true ∨
        ((∀ x ∈ s.tile.regions, x.active = false) ∧ s.saving = false ∧ s.restoring = false)
      (p.u32 0 ≠ 0x544D464E → exec (.deckFormat p) s = .next (s.ended deckFormatOp p stInvalid)) ∧
      (p.u32 0 = 0x544D464E → p.genOk (s.get Reg.DECK_GEN_GEN) = false →
        exec (.deckFormat p) s = .next (s.ended deckFormatOp p stStale)) ∧
      (p.u32 0 = 0x544D464E → p.genOk (s.get Reg.DECK_GEN_GEN) = true → ¬ may →
        exec (.deckFormat p) s = .next (s.ended deckFormatOp p stForbids)) ∧
      (p.u32 0 = 0x544D464E → p.genOk (s.get Reg.DECK_GEN_GEN) = true → may → ∃ t : State,
        exec (.deckFormat p) s = .next (t.ended deckFormatOp p stOk (t.words [0xA0000, 0xA0028])) ∧
        t.get Reg.DECK_STAT_STATE = 4 ∧ t.deck.loc = [] ∧ t.deck.keystones = [] ∧ t.deck.stripes = [] ∧ t.deck.wear = s.deck.wear ∧
        t.keystoneSeq = 0 ∧ t.deck.failed = [] ∧
        t.get Reg.DECK_GEN_GEN = (s.get Reg.DECK_GEN_GEN + 1) % 2 ^ Reg.DECK_GEN_GEN.width)) ∧
    (imageListOp.reaches p s = true → ∃ data, data.length = 8 + 32 * min 16 s.deck.keystones.length ∧
      data.take 1 = leBytes 1 (min 16 s.deck.keystones.length) ∧
      exec (.imageList p) s = .next (s.ended imageListOp p stOk data)) ∧
    (deckStatusOp.reaches p s = true → exec (.deckStatus p) s = .next (s.ended deckStatusOp p stOk (s.words
      (((List.range 12).map fun i => 0xA0000 + 4 * i) ++
        nandChannels.flatMap fun n => (List.range 5).map fun i => 0xB0000 + 0x1000 * n + 4 * i))))

/-- PFAIL_N, an input undervoltage and SAVE_NOW latch their causes (R230, R231, R235, R252, R340, R376). -/
def Obligations.SaveTriggers : Prop :=
  (∀ (s : State) (slot : Fin 6240) (level : Bool),
    let now := s.bar * 6240 + slot
    let first := s.flag Reg.TILE_SAVE_CTL_PFAIL_EN && !s.save.pfailTaken
    let due := !s.save.pfailPin && decide (s.save.pfailFell + 1600 ≤ now) && (s.flag Reg.TILE_SAVE_STAT_PFAIL || first)
    (level = s.save.pfailPin → exec (.pfailNChange level slot) s = .next (s.at slot)) ∧
    (s.on = false → exec (.pfailTriggerLatch slot) s = .next s ∧ (level ≠ s.save.pfailPin → ∃ t : State,
      exec (.pfailNChange level slot) s = .next t ∧ t.save.pfailPin = level ∧ t.regs = s.regs ∧ t.save.latched = s.save.latched)) ∧
    (s.on = true →
      (s.save.pfailPin = true → ∃ t : State, exec (.pfailNChange false slot) s = .next t ∧ t.save.pfailPin = false ∧
        t.save.pfailFell = now ∧ t.save.latched = s.save.latched ∧
        { t with save := s.save, sys := s.sys, slot := s.slot, slotIncs := s.slotIncs, slotSets := s.slotSets } = s) ∧
      (s.save.pfailPin = false → s.flag Reg.TILE_SAVE_STAT_PFAIL = true → now < s.save.pfailFell + 1600 → ∃ t : State,
        exec (.pfailNChange true slot) s = .next t ∧ t.save.pfailPin = true ∧
        t.flag Reg.TILE_SAVE_STAT_PFAIL = true ∧ t.save.latched = s.save.latched ∧
        (s.flag Reg.TILE_SAVE_CTL_PFAIL_EN = false → t.regs = s.regs ∧ t.raised = s.raised) ∧
        (s.flag Reg.TILE_SAVE_CTL_PFAIL_EN = true →
          t.get Reg.TILE_SAVE_STAT_GLITCHES = min (s.get Reg.TILE_SAVE_STAT_GLITCHES + 1) 65535 ∧
          t.raised = s.raised ++ (if s.save.glitchPhrase = s.bar / 256 + 1 then [] else
            [⟨0x159, [d2 (min (s.get Reg.TILE_SAVE_STAT_GLITCHES + 1) 65535)], s.bar, []⟩]))) ∧
      (s.save.pfailPin = false → (s.flag Reg.TILE_SAVE_STAT_PFAIL = false ∨ s.save.pfailFell + 1600 ≤ now) → ∃ t : State,
        exec (.pfailNChange true slot) s = .next t ∧ t.save.pfailPin = true ∧ t.get Reg.TILE_SAVE_STAT_PFAIL = 1 ∧
        t.save.pfailHigh = s.bar ∧ t.save.latched = s.save.latched ++ (if due && first then [(1, false)] else [])) ∧
      (due = false → exec (.pfailTriggerLatch slot) s = .next (s.at slot)) ∧
      (due = true → ∃ t : State, exec (.pfailTriggerLatch slot) s = .next t ∧ t.get Reg.TILE_SAVE_STAT_PFAIL = 0 ∧
        t.save.latched = s.save.latched ++ (if first then [(1, false)] else []) ∧
        (first = true → t.save.pfailTaken = true ∧ (s.get (Reg.GUARD_OUT_OUT 0) = 0 → s.saveState ≠ saveCommitted →
          s.saveState ≠ saveFailed → t.get (Reg.GUARD_OUT_OUT 0) = 1 ∧ t.get (Reg.GUARD_OUT_HW 0) = 1))))) ∧
  (∀ (s : State) (mv : Nat), s.on = true →
    (s.get Reg.PACK_INPUT_UV_MV ≤ mv → exec (.inputUndervoltage mv) s = .next s) ∧
    (mv < s.get Reg.PACK_INPUT_UV_MV → ∃ t : State, exec (.inputUndervoltage mv) s = .next t ∧ t.save.inputLow = true ∧
      t.get Reg.PACK_INPUT_VIN_MV = min (mv / 10 * 10) 65535 ∧ (∃ e ∈ t.raised, e = ⟨0x1CB, [d2 mv], s.bar, []⟩) ∧
      t.save.latched = s.save.latched ++ (if s.flag Reg.TILE_SAVE_STAT_PFAIL then [(4, false)] else []))) ∧
  ∀ (p : Pkt) (s : State), saveNowOp.reaches p s = true →
    let out := (nandChannels.filter fun n => !(s.nchUp n)).length
    ((s.get Reg.SYS_STATE_STEP ≠ 15 ∨ s.get Reg.DECK_STAT_STATE ≠ 2 ∨ 2 < out) →
      exec (.saveNow p) s = .next (s.ended saveNowOp p stForbids)) ∧
    (s.get Reg.SYS_STATE_STEP = 15 → s.get Reg.DECK_STAT_STATE = 2 → out ≤ 2 → ∃ t : State,
      exec (.saveNow p) s = .next (t.ended saveNowOp p stOk (leBytes 8 (if s.saving then s.save.seq else s.nextKeySeq))) ∧
      t.save.latched = s.save.latched ++ [(3, p.expert && bitAt (p.u8 0) 0)] ∧ { t with save := s.save } = s)

/-- A save goes from its fence to the residual set, the map, the Keystone and the commit, or fails and returns (R234, R238, R239, R240, R241, R243, R245, R251, R253). -/
def Obligations.SaveStages : Prop :=
  ∀ s : State, s.running = true →
    (s.atDownbeat && s.fenceDue = false → exec .fenceInPlace s = .next s) ∧
    (s.atDownbeat = true → s.saveState = saveFencing → s.save.start < s.bar → s.fenceClear = true →
      (∀ c : Fin 8, s.flag (Reg.DCH_STAT_SELF_REFRESH c) = false) →
      (s.dirtyCount = 0 → s.save.dirtied = false → ∃ t : State, exec .fenceInPlace s = .next t ∧
        t.get Reg.TILE_SAVE_STAT_LAST_RESULT = 1 ∧ t.deck = s.deck ∧ t.tile = s.tile ∧ t.keystoneSeq = s.keystoneSeq ∧
        (s.saveCause ≠ 6 → t.saveState = saveCommitted)) ∧
      (s.dirtyCount ≠ 0 ∨ s.save.dirtied = true → ∃ t : State, exec .fenceInPlace s = .next t ∧
        t.saveState = (if s.tilesWith (fun c => decide (c ≤ 4)) = [] then saveClosing else saveSaving) ∧
        t.get Reg.SCORE_STAT_SAVE = 1 ∧ t.save.residual = s.tilesWith (fun c => decide (c ≤ 4)) ∧
        t.get Reg.TILE_SAVE_TOTAL_TILES = (s.tilesWith (fun c => decide (c ≤ 4))).length % 2 ^ Reg.TILE_SAVE_TOTAL_TILES.width)) ∧
    (∀ (c : Fin 8) (word entry : SecDed) (errs : List (Fin 1024 × LineRead)),
      (s.saveState ≠ saveSaving → exec (.saveTileCopy c ⟨word, entry, errs⟩) s = .next s) ∧
      ∀ (tile : Nat) (l : List Nat), s.saveState = saveSaving → s.residualOn c = tile :: l →
        (∀ f : Nat, let u := ((s.readState (tile / 16) word).readMap tile entry).dropLost
          u.saveState = saveSaving → u.save.residual.contains tile = true → u.frameOf tile = some f → u.jobLeft c .save f = false →
          ((u.readTile tile f).isZero = true → ∃ t : State, exec (.saveTileCopy c ⟨word, entry, []⟩) s = .next t ∧
            t.save.zeroed = u.save.zeroed ++ [tile] ∧ tile ∉ t.save.residual ∧ t.code tile = u.code tile) ∧
          ((u.readTile tile f).isZero = false → (u.addCopy .save u.bar (u.readTile tile f)).2.isSome = true →
            ∃ t : State, exec (.saveTileCopy c ⟨word, entry, []⟩) s = .next t ∧ tile ∉ t.save.residual ∧
              t.save.zeroed = u.save.zeroed ∧ t.code tile = u.code tile) ∧
          ((∃ e ∈ errs, u.poisoned f e.1 = false ∧ e.2.decode (u.x8 (f % 8)) = .uncorrectable) → ∃ t : State,
            exec (.saveTileCopy c ⟨word, entry, errs⟩) s = .next t ∧ tile ∉ t.save.residual ∧
            t.code tile = codeLost ∧ (tile, 1) ∈ t.save.lost ∧ ∃ e ∈ t.raised, e.src = 0x153)) ∧
        (∀ f : Nat, s.wordGood (tile / 16) = true → s.frameOf tile = some f → ∃ t : State,
          exec (.saveTileCopy c ⟨.clean, .uncorrectable, errs⟩) s = .next t ∧ tile ∉ t.save.residual ∧
          t.code tile = codeLost ∧ (tile, 3) ∈ t.save.lost ∧ ∃ e ∈ t.raised, e.src = 0x153) ∧
        ((s.regionOfTile tile).isSome = true → s.code tile ≠ codeLost → ∃ t : State,
          exec (.saveTileCopy c ⟨.uncorrectable, entry, errs⟩) s = .next t ∧ tile ∉ t.save.residual ∧
          t.code tile = codeLost ∧ (tile, 4) ∈ t.save.lost ∧ ∃ e ∈ t.raised, e.src = 0x149)) ∧
    (let done := s.saveState = saveClosing ∧ (s.kindsWritten fun k => k = .save || k = .map || k = .lostList) = true;
      (¬ done → exec .imageMapWritten s = .next s) ∧
      (done → ∃ t : State, exec .imageMapWritten s = .next t ∧ t.saveState = saveKeystone ∧
        ∃ w, t.deck.writing = some w ∧ w.refresh = false ∧ w.ks.seq = s.save.seq ∧ w.ks.map = s.imageMap)) ∧
    (∀ k : Keystone, s.keystoneOf s.save.seq = some k → s.saveState = saveKeystone → k.copies ≠ [] → ∃ t : State,
      exec .keystoneCommit s = .next t ∧ t.get Reg.TILE_SAVE_STAT_LAST_RESULT = 1 ∧ t.deck.loc = k.map ∧
      t.get Reg.DECK_KEYSTONE_SEQ_LO_SEQ = k.seq % 2 ^ 32 ∧ t.get Reg.DECK_KEYSTONE_SEQ_HI_SEQ = k.seq / 2 ^ 32 % 2 ^ 32 ∧
      t.save.dirtied = false ∧ t.save.parent = k.seq ∧ ∃ e ∈ t.raised, e.src = 0x154) ∧
    (s.atDownbeat = true → s.saveState = saveFailed → s.saveEnd = .resume → ∃ t : State, exec .saveFailReturn s = .next t ∧
      t.saveState = saveIdle ∧ t.save.residual = [] ∧ t.save.entry = some s.bar) ∧
    (s.atDownbeat = true → s.saveState = saveCommitted → s.saveEnd = .resume → ∃ t : State, exec .resumeInPlace s = .next t ∧
      t.saveState = saveIdle ∧ t.save.entry = some s.bar ∧ ∃ e ∈ t.raised, e.src = 0x157) ∧
    ((s.atDownbeat = false ∨ s.saveEnd ≠ .resume) → exec .saveFailReturn s = .next s ∧ exec .resumeInPlace s = .next s) ∧
    (∀ b : Nat, s.save.entry = some b →
      (∃ t : State, exec (.portFenceRelease false) s = .next t ∧ t.save.entry = some s.bar ∧ t.regs = s.regs) ∧
      ((s.atDownbeat = false ∨ s.bar ≤ b) → exec (.portFenceRelease true) s = .next s) ∧
      (s.atDownbeat = true → b < s.bar → ∃ t : State, exec (.portFenceRelease true) s = .next t ∧ t.save.entry = none ∧
        ∀ p : Fin 4, t.get (Reg.HPORT_STAT_LINK_STATE p) =
          if s.get (Reg.HPORT_STAT_LINK_STATE p) = 4 then 3 else s.get (Reg.HPORT_STAT_LINK_STATE p)))

/-- Touch fetches enter, complete or are late; background restore fills its tile; RESTORE_CONTROL steers it (R258, R260, R262, R263, R264, R265, R267). -/
def Obligations.RestoreFetches : Prop :=
  (∀ (s : State) (tile : Nat) (f : Fetch), s.running = true →
    (s.atDownbeat = false → exec .touchFetchEnter s = .next s ∧ exec (.touchFetchComplete tile) s = .next s) ∧
    (s.atDownbeat = true → s.touchWaiting = [f] → (∀ g ∈ s.touchQueue, g.tile ≠ f.tile) →
      (s.mayEnter f = true → ∃ t : State, exec .touchFetchEnter s = .next t ∧
        ∃ g ∈ t.tile.fetches, g.tile = f.tile ∧ g.entered = some s.bar) ∧
      (s.mayEnter f = false → ∃ t : State, exec .touchFetchEnter s = .next t ∧ t.tile = s.tile ∧
        t.get Reg.TILE_TOUCH_STAT_WAITING = 1)) ∧
    (s.atDownbeat = true → (s.touchQueue.find? fun g => g.tile = tile && g.need.isEmpty) = some f →
      (s.written f = false → f.queued = false → ∀ k : Nat, s.frameOf tile = some k → ∃ t : State,
        exec (.touchFetchComplete tile) s = .next t ∧ t.regs = s.regs ∧ t.dram.bytes = s.dram.bytes ∧
        ∃ g ∈ t.tile.fetches, g.tile = tile ∧ g.queued = true) ∧
      (s.written f = false → f.queued = true → exec (.touchFetchComplete tile) s = .next s) ∧
      (s.tile.waits.filter fun r => decide (r.tile = tile)) = [] →
      (∀ k : Nat, s.frameOf tile = some k → f.lost = false → s.written f = true →
        ∃ t : State, exec (.touchFetchComplete tile) s = .next t ∧ t.code tile = codeClean ∧
          (∀ g ∈ t.tile.fetches, g.tile ≠ tile) ∧
          t.get Reg.TILE_TOUCH_COUNT_FETCHES = min (s.get Reg.TILE_TOUCH_COUNT_FETCHES + 1) (2 ^ Reg.TILE_TOUCH_COUNT_FETCHES.width - 1)) ∧
      (f.lost = true → ∃ t : State, exec (.touchFetchComplete tile) s = .next t ∧ t.code tile = codeLost ∧
        (∀ g ∈ t.tile.fetches, g.tile ≠ tile) ∧ ∃ e ∈ t.raised, e.src = 0x15F)) ∧
    ((s.touchQueue.find? fun g => g.tile = tile && !g.long) = some f →
      let bars := s.bar - f.entered.getD s.bar
      (s.get Reg.TILE_TOUCH_BOUND_BARS ≠ 65535 → s.get Reg.TILE_TOUCH_BOUND_BARS < bars →
        ∃ t : State, exec (.touchFetchLong tile) s = .next t ∧ (∀ g ∈ t.tile.fetches, g.tile = tile → g.long = true) ∧
          t.regs = s.regs ∧ ∃ e ∈ t.raised, e.src = 0x15C) ∧
      ((s.get Reg.TILE_TOUCH_BOUND_BARS = 65535 ∨ bars ≤ s.get Reg.TILE_TOUCH_BOUND_BARS) →
        exec (.touchFetchLong tile) s = .next s)) ∧
    (s.bgRuns = false → exec (.backgroundRestoreTile tile) s = .next s) ∧
    ((s.tile.fetches.find? fun g => g.tile = tile && g.bg && g.need.isEmpty) = some f →
      (s.written f = false → exec (.backgroundRestoreTile tile) s = .next s) ∧
      ∀ k : Nat, s.bgRuns = true → s.frameOf tile = some k → f.lost = false → s.written f = true →
        (s.tile.waits.filter fun r => decide (r.tile = tile)) = [] →
        ∃ t : State, exec (.backgroundRestoreTile tile) s = .next t ∧ t.code tile = codeClean ∧
          (∀ g ∈ t.tile.fetches, g.tile ≠ tile) ∧
          t.get Reg.TILE_TOUCH_COUNT_FETCHES = s.get Reg.TILE_TOUCH_COUNT_FETCHES)) ∧
  ∀ (p : Pkt) (s : State), restoreControlOp.reaches p s = true →
    ((s.holds p.src .mgmt = false ∨ p.u8 0 = 0) → ∃ data : List Byte,
      exec (.restoreControl p) s = .next (s.ended restoreControlOp p stOk data)) ∧
    (s.holds p.src .mgmt = true →
      (p.u8 0 = 4 → p.expert = true → p.u8 2 ≤ 1 → ∃ (t : State) (data : List Byte),
        exec (.restoreControl p) s = .next (t.ended restoreControlOp p stOk data) ∧
        t.writes = s.writes ++ [(Reg.TILE_RESTORE_CTL_HOST_GATE, p.u8 2)] ∧ { t with writes := s.writes } = s) ∧
      (p.u8 0 = 4 → (p.expert = false ∨ 1 < p.u8 2) → exec (.restoreControl p) s = .next (s.ended restoreControlOp p stInvalid)) ∧
      (4 < p.u8 0 → exec (.restoreControl p) s = .next (s.ended restoreControlOp p stInvalid)) ∧
      (s.restoring = false → (p.u8 0 = 1 ∨ p.u8 0 = 2 ∨ p.u8 0 = 3) →
        exec (.restoreControl p) s = .next (s.ended restoreControlOp p stForbids)) ∧
      (s.restoring = true → (p.u8 0 = 1 ∨ p.u8 0 = 2) → ∃ (t : State) (data : List Byte),
        exec (.restoreControl p) s = .next (t.ended restoreControlOp p stOk data) ∧
        t.writes = s.writes ++ [(Reg.TILE_RESTORE_CTL_PAUSE, if p.u8 0 = 1 then 1 else 0)] ∧
        (∃ e ∈ t.raised, e.src = 0x161) ∧ { t with writes := s.writes, raised := s.raised } = s) ∧
      (s.restoring = true → p.u8 0 = 3 →
        ((s.region (p.u8 1)).active = false → exec (.restoreControl p) s = .next (s.ended restoreControlOp p stInvalid)) ∧
        ((s.region (p.u8 1)).active = true → ∃ (t : State) (data : List Byte),
          exec (.restoreControl p) s = .next (t.ended restoreControlOp p stOk data) ∧
          t.writes = s.writes ++ [(Reg.TILE_RESTORE_CTL_PRIO_EN, 1), (Reg.TILE_RESTORE_CTL_PRIO_REGION, p.u8 1)] ∧
          { t with writes := s.writes } = s)))

/-- A phrase integrates charge and grows U; an OCV correction, a record and a window end as the estimator says (R323, R324, R325, R326, R330, R331, R337). -/
def Obligations.EstimatorPhraseAndCorrections : Prop :=
  ∀ s : State, s.on = true →
    (∀ m : Meas, (s.bar % 256 ≠ 0 ∨ s.pack.phrase = s.bar) → exec (.estimatorPhrase m) s = .next s) ∧
    (∀ m : Meas, s.bar % 256 = 0 → s.pack.phrase ≠ s.bar → s.packState ≠ packAbsent → s.packState ≠ packShip → ∃ t : State,
      exec (.estimatorPhrase m) s = .next t ∧ t.pack.phrase = s.bar ∧ t.bar = s.bar ∧
      t.get Reg.PACK_CURRENT_MA = (m.ma % 2 ^ 32).toNat ∧
      t.flag Reg.PACK_STAT_AT_REST = decide (m.ma.natAbs < s.restMa) ∧
      t.pack.efc = s.pack.efc + (if m.ma < 0 ∧ s.designMah ≠ 0 then
        ceilDiv (m.ma.natAbs * 99840000000) (3600 * s.designMah) else 0) ∧
      (s.flag Reg.PACK_STAT_VALID = true → 0 < (s.designMah : ℚ) * s.fCyc / 10000 →
        (t.pack.soc : Int) = min (100 * (pct : Int)) (max 0 ((s.pack.soc : Int) +
          ⌊(m.ma : ℚ) * 99840000000 / (3600 * ((s.designMah : ℚ) * s.fCyc / 10000))⌋)) ∧
        t.pack.unc = min (100 * pct) (s.pack.unc + ceilDiv (s.par 0x5A 2 * 9984000) 86400)) ∧
      (s.flag Reg.PACK_STAT_VALID = false → t.pack.soc = s.pack.soc ∧ t.pack.unc = s.pack.unc) ∧
      t.save.inputLow = (s.save.inputLow && decide (m.vin < s.get Reg.PACK_INPUT_UV_MV))) ∧
    (∀ m : Meas, s.bar % 256 = 0 → s.pack.phrase ≠ s.bar → (s.packState = packAbsent ∨ s.packState = packShip) → ∃ t : State,
      exec (.estimatorPhrase m) s = .next t ∧ t.pack.phrase = s.bar ∧ t.pack.soc = s.pack.soc ∧ t.pack.unc = s.pack.unc ∧
      t.pack.efc = s.pack.efc ∧ (s.packState = packAbsent → t.get Reg.PACK_EAVAIL_JOULES = 0)) ∧
    ((s.pack.rest < 1800 ∨ (s.packState ≠ packEstimating ∧ s.packState ≠ packWindow)) → exec .ocvCorrection s = .next s) ∧
    (1800 ≤ s.pack.rest → (s.packState = packEstimating ∨ s.packState = packWindow) → ∃ t : State,
      exec .ocvCorrection s = .next t ∧ t.pack.soc = s.ocvSoc ∧ t.pack.unc = s.par 0x5C 2 * 10 ^ 10 ∧ t.pack.rest = 0 ∧
      t.get Reg.PACK_REST_SINCE_CORR = 0 ∧ t.pack.recordDue = true ∧ t.pack.window = none ∧ (∃ e ∈ t.raised, e.src = 0x1C3) ∧
      (s.pack.window.isSome = true → t.packState = packEstimating ∧ ∃ e ∈ t.raised, e.src = 0x1C5)) ∧
    ((s.pack.recordDue = false ∨ s.save.latched ≠ [] ∨ (1 ≤ s.saveState ∧ s.saveState ≤ 4)) →
      exec .estimatorRecordWrite s = .next s) ∧
    (s.pack.recordDue = true → s.save.latched = [] → (s.saveState = 0 ∨ 4 < s.saveState) → ∃ t : State,
      exec .estimatorRecordWrite s = .next t ∧ t.pack.recordPhrase = s.bar / 256 ∧
      (s.sect (sectorOf (estAt ((s.flash.estSeq + 1) % 2) (s.flash.estPos.getD ((s.flash.estSeq + 1) % 2) 0))) = 0 →
        t.flash.estSeq = s.flash.estSeq + 1 ∧ t.pack.recordDue = false)) ∧
    (s.pack.window = none → exec .restWindowTimeout s = .next s) ∧
    ∀ (b ma : Nat), s.pack.window = some (b, ma) →
      ((s.bar - b) * 39 < s.get Reg.PACK_REST_MAX_MIN * 600000000 → exec .restWindowTimeout s = .next s) ∧
      (s.get Reg.PACK_REST_MAX_MIN * 600000000 ≤ (s.bar - b) * 39 → ∃ t : State, exec .restWindowTimeout s = .next t ∧
        t.packState = packEstimating ∧ t.pack.window = none ∧ t.pack.soc = s.pack.soc ∧ ∃ e ∈ t.raised, e.src = 0x1C6)

/-- Insertion, settling and removal of the pack, its protection, and the disconnect of ship mode (R230, R332, R338, R339, R341, R376). -/
def Obligations.PackComesGoesAndIsProtected : Prop :=
  (∀ s : State, s.on = true →
    (s.packState ≠ packAbsent → s.packState ≠ packShip → ∃ t : State, exec .packRemoval s = .next t ∧
      t.packState = packAbsent ∧ t.get Reg.PACK_STAT_VALID = 0 ∧ t.get Reg.PACK_STAT_CHARGING = 0 ∧
      t.pack.window = none ∧ ∃ e ∈ t.raised, e.src = 0x1C0) ∧
    ((s.packState = packAbsent ∨ s.packState = packShip) → exec .packRemoval s = .next s) ∧
    (∀ e : Option (List Byte),
      (s.packState ≠ packAbsent → exec (.packInsertion e) s = .next s) ∧
      (s.packState = packAbsent → ∃ t : State, exec (.packInsertion e) s = .next t ∧ t.pack.eeprom = e ∧
        t.packState = (if (e.map fun b => eepromValid b && decide (s.eepromClash b ≠ 0)).getD false then packFault else packSettling) ∧
        t.get Reg.PACK_STAT_EEPROM_OK = bit ((e.map eepromValid).getD false) ∧ t.pack.settle = s.bar ∧
        t.get Reg.PACK_STAT_VALID = 0 ∧ t.get Reg.PACK_EAVAIL_JOULES = 0 ∧ t.flag Reg.PACK_STAT_CHG_INHIBIT = true ∧
        ∃ x ∈ t.raised, x.src = 0x1C1)) ∧
    (s.packState = packSettling →
      (s.bar < s.pack.settle + (if s.pack.short then 16 * 256 else 64 * 256) → exec .packSettled s = .next s) ∧
      (s.pack.settle + (if s.pack.short then 16 * 256 else 64 * 256) ≤ s.bar → ∃ t : State, exec .packSettled s = .next t ∧
        t.pack.soc = s.ocvSoc ∧ t.pack.unc = (if s.pack.short then s.par 0x5C 2 else s.par 0x5E 2) * 10 ^ 10 ∧
        t.packState = packEstimating ∧ t.get Reg.PACK_STAT_VALID = 1 ∧ t.pack.recordDue = true ∧
        ∃ e ∈ t.raised, e.src = 0x1C2)) ∧
    (∀ n : Fin 16, exec (.packPresentGlitch n) s = .next (s.raise 0x1CF [d1 n])) ∧
    (∀ (cond : Fin 4) (v : Nat),
      ((s.packState = packAbsent ∨ s.flag Reg.PACK_STAT_PROTECT_WARN = true) → exec (.packProtectWarn cond v) s = .next s) ∧
      ((s.packState = packAbsent ∨ s.pack.tripped = true) → exec (.packProtectTrip cond v) s = .next s)) ∧
    (s.packState ≠ packAbsent →
      (∀ (cond : Fin 4) (v : Nat), s.flag Reg.PACK_STAT_PROTECT_WARN = false → ∃ t : State,
        exec (.packProtectWarn cond v) s = .next t ∧ t.get Reg.PACK_STAT_PROTECT_WARN = 1 ∧
        t.save.latched = s.save.latched ++ [(8, false)] ∧ ∃ e ∈ t.raised, e.src = 0x1C8) ∧
      (∀ (cond : Fin 4) (v : Nat), s.pack.tripped = false → ∃ t : State,
        exec (.packProtectTrip cond v) s = .next t ∧ t.get (Reg.GUARD_OUT_OUT 4) = 1 ∧ t.get (Reg.GUARD_OUT_HW 4) = 1 ∧
        t.get Reg.PACK_EAVAIL_JOULES = 0 ∧ t.pack.tripped = true ∧ t.save.latched = s.save.latched ∧
        ∃ e ∈ t.raised, e.src = 0x1C9) ∧
      ∀ c : Fin 6, c.val < s.cells → s.pack.chargeFault = false → ∃ t : State,
        exec (.packChargeFault c) s = .next t ∧ t.pack.chargeFault = true ∧ t.flag Reg.PACK_STAT_CHG_INHIBIT = true ∧
        t.flag Reg.PACK_STAT_CHARGING = false)) ∧
  ∀ s : State, s.packState = packShip →
    (s.sys.off = true → ∃ t : State, exec .shipDisconnect s = .next t ∧ t.sys.dead = true ∧ t.get (Reg.GUARD_OUT_OUT 4) = 1) ∧
    (s.sys.off = false → exec .shipDisconnect s = .next s) ∧
    (∀ straps : Fin 64, (s.sys.dead = false ∨ s.get (Reg.GUARD_OUT_OUT 4) ≠ 1) → exec (.shipWake straps) s = .next s) ∧
    (s.sys.dead = true → s.get (Reg.GUARD_OUT_OUT 4) = 1 → ∀ straps : Fin 64,
      exec (.shipWake straps) s = .next (s.resetTo 2 0 straps))

/-- PACK_STATUS, PACK_PARAMS_SET, SHIP_MODE and REST_WINDOW answer as their tables say (R230, R321, R330, R341, R342, R476, R477). -/
def Obligations.PackPackets : Prop :=
  ∀ (p : Pkt) (s : State),
    (packStatusOp.reaches p s = true → exec (.packStatus p) s = .next (s.ended packStatusOp p stOk (s.words packWords))) ∧
    (packParamsSetOp.reaches p s = true →
      let new := if p.expert then p.params.take 104
        else patchBytes (s.pack.paramsNext.getD s.pack.params) 0x52 (sliceBytes p.params 0x52 6)
      (p.genOk (s.get Reg.PACK_GEN_GEN) = false → exec (.packParamsSet p) s = .next (s.ended packParamsSetOp p stStale)) ∧
      (p.genOk (s.get Reg.PACK_GEN_GEN) = true → packParamsOk new = false →
        exec (.packParamsSet p) s = .next (s.ended packParamsSetOp p stInvalid)) ∧
      (p.genOk (s.get Reg.PACK_GEN_GEN) = true → packParamsOk new = true → s.saving = true →
        exec (.packParamsSet p) s = .next (s.ended packParamsSetOp p stForbids)) ∧
      (p.genOk (s.get Reg.PACK_GEN_GEN) = true → packParamsOk new = true → s.saving = false →
        ∃ (t : State) (data : List Byte), exec (.packParamsSet p) s = .next (t.ended packParamsSetOp p stOk data) ∧
          t.pack.paramsNext = some new ∧ t.pack.params = s.pack.params ∧
          t.get Reg.PACK_GEN_GEN = (s.get Reg.PACK_GEN_GEN + 1) % 2 ^ 16)) ∧
    (shipModeOp.reaches p s = true →
      (p.genOk (s.get Reg.PACK_GEN_GEN) = false → exec (.shipMode p) s = .next (s.ended shipModeOp p stStale)) ∧
      (p.genOk (s.get Reg.PACK_GEN_GEN) = true →
        (s.saving = true ∨ s.restoring = true ∨ s.get Reg.SYS_STATE_STEP ≠ 15 ∨ s.packState = packAbsent) →
        exec (.shipMode p) s = .next (s.ended shipModeOp p stForbids)) ∧
      (p.genOk (s.get Reg.PACK_GEN_GEN) = true → s.saving = false → s.restoring = false → s.get Reg.SYS_STATE_STEP = 15 →
        s.packState ≠ packAbsent → ∃ t : State,
          exec (.shipMode p) s = .next (t.ended shipModeOp p stOk (leBytes 8 s.nextKeySeq)) ∧
          t.save.latched = s.save.latched ++ [(7, false)] ∧ t.pack.ship = true)) ∧
    (restWindowOp.reaches p s = true →
      ((s.flag Reg.PACK_CTL_REST_PERMIT = false ∨ (s.packState ≠ packEstimating ∧ s.packState ≠ packWindow) ∨
          s.flag Reg.TILE_SAVE_STAT_PFAIL = false ∨ s.saving = true ∨ s.restoring = true) →
        exec (.restWindow p) s = .next (s.ended restWindowOp p stForbids)) ∧
      (s.flag Reg.PACK_CTL_REST_PERMIT = true → (s.packState = packEstimating ∨ s.packState = packWindow) →
        s.flag Reg.TILE_SAVE_STAT_PFAIL = true → s.saving = false → s.restoring = false →
        ∃ (t : State) (data : List Byte), exec (.restWindow p) s = .next (t.ended restWindowOp p stOk data) ∧
          (p.u8 0 = 0 → s.pack.window = none → t.pack.windowNext = true) ∧
          (p.u8 0 = 0 → s.pack.window.isSome = true → t.pack = s.pack) ∧
          (p.u8 0 = 1 → t.pack.windowNext = false ∧ t.pack.window = none ∧
            (s.pack.window.isSome = true → t.packState = packEstimating)) ∧
          (p.expert = true → t.writes = s.writes ++
            [(Reg.PACK_CTL_REST_AUTO, p.u8 1 % 2), (Reg.PACK_CTL_AUTO_UNCERT, p.u16 2 % 2 ^ 16)])))

/-- A power-up starts, raises and judges its rails, retries or halts; a PG drop is chatter, a fault, or a lost rail (R348, R350, R351, R352, R353, R354, R355, R356, R358). -/
def Obligations.PowerUpSequence : Prop :=
  ∀ s : State, s.on = true →
    (s.seqState = seqWait → s.pwr.go = false →
      (s.cascade = false → s.get Reg.SEQ_STAT_STUCK = 0 → ∃ t : State, exec .pwrGoStart s = .next t ∧ t.pwr.go = true ∧
        t.get Reg.SEQ_STAT_START_SRC = 1 ∧ t.get Reg.SEQ_STAT_PWR_GO = 1) ∧
      ((s.cascade = true ∨ s.get Reg.SEQ_STAT_STUCK ≠ 0) → ∃ t : State, exec .pwrGoStart s = .next t ∧ t.pwr = s.pwr ∧
        t.get Reg.SEQ_STAT_PWR_GO = 1) ∧
      (s.cascade = true → ∃ t : State, exec .seqInStart s = .next t ∧ t.pwr.go = true ∧ t.get Reg.SEQ_STAT_START_SRC = 3 ∧
        t.get Reg.SEQ_STAT_SEQ_IN = 1) ∧
      (s.cascade = false → ∃ t : State, exec .seqInStart s = .next t ∧ t.pwr = s.pwr) ∧
      (s.get Reg.SEQ_TIMING_START_WAIT = 0 → exec .pwrGoStuckLow s = .next s) ∧
      (s.get Reg.SEQ_TIMING_START_WAIT ≠ 0 → s.pwr.waitBar + 64 * s.get Reg.SEQ_TIMING_START_WAIT ≤ s.bar →
        s.cascade = false → s.get Reg.SEQ_STAT_STUCK = 0 → ∃ t : State, exec .pwrGoStuckLow s = .next t ∧
        t.get Reg.SEQ_STAT_STUCK = 1 ∧ t.flag Reg.SEQ_STAT_CASCADE_NOW = s.flag Reg.SEQ_CTL_AUTO_CASCADE ∧
        ∃ e ∈ t.raised, e.src = 0x1EA)) ∧
    (s.seqState = seqUp → ∀ n : Fin 16,
      (s.pwr.fault = none → s.railUsed n = true → s.railEn n = false → s.pwr.tick0 ≤ s.bar →
        (s.tickNow < s.get (Reg.SEQ_RAIL_CFG_ON_DELAY n) → exec (.railEnable n) s = .next s) ∧
        (s.get (Reg.SEQ_RAIL_CFG_ON_DELAY n) ≤ s.tickNow → ∃ t : State, exec (.railEnable n) s = .next t ∧
          t.railEn n = true ∧ ∀ m : Fin 16, m ≠ n → t.railEn m = s.railEn m)) ∧
      (s.railEn n = true → s.railGood n = false → (s.rail n).low = none → ∀ linear : Bool,
        (s.bar < (s.rail n).from' + 64 * max 1 (s.get (Reg.SEQ_RAIL_CFG_STABLE n)) → exec (.railGood n linear) s = .next s) ∧
        ((s.rail n).from' + 64 * max 1 (s.get (Reg.SEQ_RAIL_CFG_STABLE n)) ≤ s.bar → ∃ t : State,
          exec (.railGood n linear) s = .next t ∧ t.railGood n = true ∧
          t.get (Reg.SEQ_RAIL_STAT_UP_TICK n) = min s.tickNow 8191 ∧
          t.seqState = if ∀ m ∈ rails, s.railUsed m = true → m = n.val ∨ s.railGood m = true then seqOn else seqUp)) ∧
      (s.pwr.fault = none → s.railUsed n = true → s.railGood n = false →
        (s.tickNow < s.get (Reg.SEQ_RAIL_CFG_ON_DELAY n) + s.get (Reg.SEQ_RAIL_DIS_PG_TIMEOUT n) →
          exec (.railPgTimeout n) s = .next s) ∧
        (s.get (Reg.SEQ_RAIL_CFG_ON_DELAY n) + s.get (Reg.SEQ_RAIL_DIS_PG_TIMEOUT n) ≤ s.tickNow → ∃ t : State,
          exec (.railPgTimeout n) s = .next t ∧ t.pwr.fault = some (n.val, 1) ∧ t.regs = s.regs ∧
          ∃ e ∈ t.raised, e.src = 0x1E2)) ∧
      (s.railEn n = true → (s.rail n).low = none → ∃ t : State, exec (.pgDrop n) s = .next t ∧
        (t.rail n).low = some s.bar ∧ t.pwr.fault = s.pwr.fault) ∧
      (s.railEn n = true → (s.rail n).low = none → bitAt (s.get Reg.SEQ_LIVE_PG) n = false → ∃ t : State,
        exec (.pgReturn n) s = .next t ∧ (t.rail n).from' = s.bar ∧ t.pwr.fault = s.pwr.fault) ∧
      ∀ b : Nat, (s.rail n).low = some b →
        (s.bar - b < s.pwr.glitch → ∃ t : State, exec (.pgReturn n) s = .next t ∧
          (t.rail n).low = none ∧ t.railGood n = s.railGood n ∧
          t.get (Reg.SEQ_RAIL_STAT_CHATTER n) = min (s.get (Reg.SEQ_RAIL_STAT_CHATTER n) + 1) 15 ∧
          (s.railGood n = false → (t.rail n).from' = s.bar) ∧
          (s.pwr.fault = none → t.pwr.fault = if s.get Reg.SEQ_TIMING_CHATTER_LIMIT < s.get (Reg.SEQ_RAIL_STAT_CHATTER n) + 1
            then some (n.val, 3) else none)) ∧
        (s.pwr.glitch ≤ s.bar - b →
          (∃ t : State, exec (.pgReturn n) s = .next t ∧ (t.rail n).low = none ∧ t.railGood n = false ∧
            (s.pwr.fault = none → t.pwr.fault = some (n.val, 2))) ∧
          ∃ t : State, exec (.pgGlitchExpire n) s = .next t ∧ t.railGood n = false ∧
            (s.pwr.fault = none → t.pwr.fault = some (n.val, 2)))) ∧
    (s.seqState = seqOn → ∀ (n : Fin 16) (b : Nat), (s.rail n).low = some b →
      (s.bar - b < s.pwr.glitch → ∃ t : State, exec (.pgReturn n) s = .next t ∧ (t.rail n).low = none ∧
        t.get (Reg.SEQ_RAIL_SENSE_DROPS n) = min (s.get (Reg.SEQ_RAIL_SENSE_DROPS n) + 1) 65535 ∧
        t.get (Reg.SEQ_RAIL_STAT_LOST n) = s.get (Reg.SEQ_RAIL_STAT_LOST n)) ∧
      (s.bar - b < s.pwr.glitch → exec (.pgGlitchExpire n) s = .next s) ∧
      (s.pwr.glitch ≤ s.bar - b → s.flag (Reg.SEQ_RAIL_STAT_LOST n) = false → ∀ i : Instr,
        i = .pgGlitchExpire n ∨ i = .pgReturn n → ∃ t : State,
        exec i s = .next t ∧ t.get (Reg.SEQ_RAIL_STAT_LOST n) = 1 ∧ (∃ e ∈ t.raised, e.src = 0x1E9) ∧
        ∀ c : Fin 8, bitAt (s.get (Reg.SEQ_RAIL_FEED_DCH n)) c = true → s.serving c = true →
          (t.ch c).failNext = some ((s.ch c).failNext.getD (4, s.bar)))) ∧
    (s.seqState = seqOff → s.pwr.go = false →
      ((s.bar - s.pwr.offBar) * 39 < s.pwr.minOff * 10000 → exec .powerUpRetry s = .next s) ∧
      (s.pwr.minOff * 10000 ≤ (s.bar - s.pwr.offBar) * 39 → ∃ t : State, exec .powerUpRetry s = .next t ∧
        (s.get Reg.SEQ_STAT_RETRIES < s.get Reg.SEQ_CTL_RETRY →
          t.pwr.go = true ∧ t.get Reg.SEQ_STAT_RETRIES = (s.get Reg.SEQ_STAT_RETRIES + 1) % 8) ∧
        (s.get Reg.SEQ_CTL_RETRY ≤ s.get Reg.SEQ_STAT_RETRIES → t.seqState = seqHalted ∧ t.pwr.go = false ∧
          ∃ e ∈ t.raised, e.src = 0x1EF)))

/-- A shut-down begins at a tick, releases and discharges each rail, completes, and the off state ends as R362 says (R355, R357, R359, R360, R361, R362, R376). -/
def Obligations.ShutDownReleasesTheRails : Prop :=
  (∀ s : State, s.on = true →
    ((s.save.shut = false ∨ s.bar % 64 ≠ 0 ∨ s.seqState = seqDown) → exec .shutdownBegin s = .next s) ∧
    (s.save.shut = true → s.bar % 64 = 0 → s.seqState ≠ seqDown → ∃ t : State, exec .shutdownBegin s = .next t ∧
      t.seqState = seqDown ∧ t.get Reg.SEQ_STAT_SEQ_OUT = 0 ∧ t.pwr.tick0 = s.bar ∧ t.save.shut = false ∧
      t.get (Reg.GUARD_OUT_OUT 1) = 0 ∧ t.get (Reg.GUARD_OUT_OUT 3) = 0 ∧ ∃ e ∈ t.raised, e.src = 0x1E6) ∧
    (∀ n : Fin 16, (s.seqState = seqDown ∨ s.seqState = seqReversing) → s.downTick n = some s.tickNow) ∧
    (∀ (n : Fin 16) (b : Nat), s.seqState = seqOn → s.pwr.hTick = some b → b ≤ s.bar → s.railsOfH.contains n.val = true →
      s.downTick n = some ((s.bar - b) / 64)) ∧
    (∀ (n : Fin 16) (k : Nat), s.downTick n = some k →
      (s.railEn n = true →
        (k < s.get (Reg.SEQ_RAIL_CFG_OFF_DELAY n) → exec (.railRelease n) s = .next s) ∧
        (s.get (Reg.SEQ_RAIL_CFG_OFF_DELAY n) ≤ k → ∃ t : State, exec (.railRelease n) s = .next t ∧
          t.railEn n = false ∧ t.railGood n = false ∧ (t.rail n).from' = s.bar ∧
          (∀ m : Fin 16, m ≠ n → t.railEn m = s.railEn m) ∧
          (s.flag (Reg.SEQ_RAIL_DIS_DIS_ALWAYS n) = true → bitAt (t.get Reg.SEQ_DIS_DIS) n = true))) ∧
      (s.railEn n = false → ∀ mv : Nat,
        (s.get (Reg.SEQ_RAIL_DIS_THRESH_MV n) ≤ mv → exec (.railDischarged n mv) s = .next s) ∧
        (mv < s.get (Reg.SEQ_RAIL_DIS_THRESH_MV n) → ∃ t : State, exec (.railDischarged n mv) s = .next t ∧
          (t.rail n).finished = true ∧ t.get (Reg.SEQ_RAIL_SENSE_MV n) = mv % 65536 ∧ bitAt (t.get Reg.SEQ_DIS_DIS) n = false ∧
          ((∀ m ∈ rails, s.railUsed m = true → s.railEn m = false ∧ (m = n.val ∨ (s.rail m).finished = true)) →
            (s.seqState = seqReversing → t.seqState = seqOff ∧ t.get Reg.SEQ_LAST_DOWN_TICKS = s.tickNow % 65536) ∧
            (s.seqState = seqDown → s.sys.drain = none → t.sys.drain = some s.bar ∧
              t.get Reg.SEQ_LAST_DOWN_TICKS = s.tickNow % 65536 ∧ ∃ e ∈ t.raised, e.src = 0x1E8))) ∧
        ((s.rail n).finished = false →
          (s.bar < (s.rail n).from' + 64 * max 1 (s.get (Reg.SEQ_RAIL_DIS_DIS_TIMEOUT n)) →
            exec (.railDischargeTimeout n mv) s = .next s) ∧
          ((s.rail n).from' + 64 * max 1 (s.get (Reg.SEQ_RAIL_DIS_DIS_TIMEOUT n)) ≤ s.bar → ∃ t : State,
            exec (.railDischargeTimeout n mv) s = .next t ∧ t.get (Reg.SEQ_RAIL_STAT_FORCED n) = 1 ∧
            (t.rail n).finished = true ∧ ∃ e ∈ t.raised, e.src = 0x1E7))))) ∧
  ∀ (s : State) (offMs highMs : Nat) (temp : Int), s.sys.off = true → s.sys.dead = false →
    let ok := decide (s.get Reg.SEQ_OFF_MIN_OFF_MS ≤ offMs) && s.save.pfailPin && decide (100 ≤ highMs)
      && (!(s.sys.offCauses.contains 8 || (s.sys.offCauses.contains 3 && !s.save.reset)) || s.sys.pfailRose)
      && (!(s.sys.offCauses.contains 5) || decide (temp < 95)) && !s.pack.ship
    exec (.offStateRestart offMs highMs temp) s = .next (if ok then s.resetTo (if s.save.reset then 3 else 1) offMs 0 else s)

/-- START, SEQ_TABLE_SET, SEQ_STATUS and MARGIN_SET answer as their tables say; margins step; the charger's fault counts (R329, R349, R364, R365, R366, R476, R477). -/
def Obligations.PowerPacketsAndMargins : Prop :=
  (∀ (p : Pkt) (s : State),
    (startOp.reaches p s = true → ∃ t : State,
      exec (.start p) s = .next (if s.seqState = seqNotStarted ∨ s.seqState = seqWait ∨ s.seqState = seqHalted
        then t.ended startOp p stOk (t.words [0xC8004]) else s.ended startOp p stForbids) ∧
      (s.seqState = seqNotStarted → t.pwr.startLatched = true ∧ t.regs = s.regs) ∧
      (s.seqState = seqWait → t.pwr.go = true ∧ t.get Reg.SEQ_STAT_START_SRC = 2) ∧
      (s.seqState = seqHalted → t.pwr.go = true ∧ t.get Reg.SEQ_STAT_START_SRC = 2 ∧ t.get Reg.SEQ_STAT_RETRIES = 0 ∧
        t.get (Reg.GUARD_OUT_OUT 1) = 1 ∧ t.get Reg.SYS_STATE_HALT = 0)) ∧
    (seqTableSetOp.reaches p s = true →
      (p.genOk (s.get Reg.SEQ_GEN_GEN) = false → exec (.seqTableSet p) s = .next (s.ended seqTableSetOp p stStale)) ∧
      (p.genOk (s.get Reg.SEQ_GEN_GEN) = true → (s.seqState = seqUp ∨ s.seqState = seqReversing ∨ s.seqState = seqDown) →
        exec (.seqTableSet p) s = .next (s.ended seqTableSetOp p stForbids)) ∧
      (p.genOk (s.get Reg.SEQ_GEN_GEN) = true → s.seqState ≠ seqUp → s.seqState ≠ seqReversing → s.seqState ≠ seqDown →
        let ok := timingOk (p.u32 4) && offOk (p.u32 8) &&
          (List.range (rails.filter (bitAt (p.u16 0xC))).length).all fun i =>
            railOk (p.u32 (0x10 + 16 * i + 0)) (p.u32 (0x10 + 16 * i + 4)) (p.u32 (0x10 + 16 * i + 12))
        (ok = false → exec (.seqTableSet p) s = .next (s.ended seqTableSetOp p stInvalid)) ∧
        (ok = true → ∃ (t : State) (data : List Byte),
          exec (.seqTableSet p) s = .next (t.ended seqTableSetOp p stOk data) ∧
          t.get Reg.SEQ_GEN_GEN = (s.get Reg.SEQ_GEN_GEN + 1) % 2 ^ 16 ∧ t.get Reg.SEQ_CTL_RAIL_EN = p.u32 0 % 2 ^ 16 ∧
          t.seqState = s.seqState ∧ ∃ e ∈ t.raised, e.src = 0x1EE))) ∧
    (seqStatusOp.reaches p s = true → exec (.seqStatus p) s = .next (s.ended seqStatusOp p stOk
      (s.words ((List.range 8).map (0xC8000 + 4 * ·) ++ rails.flatMap fun n => (List.range 6).map fun i => railAt n (4 * i))))) ∧
    (marginSetOp.reaches p s = true →
      let ns := rails.filter (bitAt (p.u16 0))
      let m := fun n => signed8 (if p.expert then p.u8 (4 + n) else p.u8 2)
      ((s.saving = true ∨ s.restoring = true ∨ s.seqState ≠ seqOn) →
        exec (.marginSet p) s = .next (s.ended marginSetOp p stForbids)) ∧
      (s.saving = false → s.restoring = false → s.seqState = seqOn →
        ((∃ n ∈ ns, m n < -10 ∨ 10 < m n ∨ s.marginable n = false) →
          exec (.marginSet p) s = .next (s.ended marginSetOp p stInvalid)) ∧
        ((∀ n ∈ ns, -10 ≤ m n ∧ m n ≤ 10 ∧ s.marginable n = true) →
          ((∃ n ∈ ns, (s.rail n).linear = false) → exec (.marginSet p) s = .next (s.ended marginSetOp p stUnsupported)) ∧
          ((∀ n ∈ ns, (s.rail n).linear = true) → ∃ (t : State) (data : List Byte),
            exec (.marginSet p) s = .next (t.ended marginSetOp p stOk data) ∧ t.regs = s.regs ∧
            ∀ n : Fin 16, (t.rail n).target = if n.val ∈ ns then m n.val else (s.rail n).target))))) ∧
  ∀ s : State, s.on = true →
    (∀ (n : Fin 16) (ack : Bool), (s.seqState ≠ seqOn ∨ s.bar % 64 ≠ 0 ∨ (s.rail n).stepBar = s.bar + 1) →
      exec (.marginStep n ack) s = .next s) ∧
    (∀ n : Fin 16, s.seqState = seqOn → s.bar % 64 = 0 → (s.rail n).stepBar ≠ s.bar + 1 →
      (s.margin5 n = (s.rail n).target → ∀ ack : Bool, exec (.marginStep n ack) s = .next s) ∧
      (s.margin5 n ≠ (s.rail n).target →
        (∃ t : State, exec (.marginStep n true) s = .next t ∧ t.get (Reg.SEQ_RAIL_STAT_MARGIN n) =
          ((if s.margin5 n < (s.rail n).target then s.margin5 n + 1 else s.margin5 n - 1) % 32).toNat ∧
          t.get (Reg.SEQ_RAIL_STAT_MARGIN_FAIL n) = 0 ∧ (t.rail n).stepBar = s.bar + 1) ∧
        ∃ t : State, exec (.marginStep n false) s = .next t ∧ t.get (Reg.SEQ_RAIL_STAT_MARGIN_FAIL n) = 1 ∧
          t.margin5 n = s.margin5 n ∧ (t.rail n).target = s.margin5 n ∧ ∃ e ∈ t.raised, e.src = 0x1EB)) ∧
    ∀ status : Nat, (s.get Reg.WARDEN_STAT_ACTIVE = 0 → exec (.pmbusAlert status) s = .next s) ∧
      (s.get Reg.WARDEN_STAT_ACTIVE ≠ 0 → ∃ t : State, exec (.pmbusAlert status) s = .next t ∧
        t.pack.chargerFault = chargerFault status ∧
        (chargerFault status = true → s.packState ≠ packAbsent →
          t.flag Reg.PACK_STAT_CHG_INHIBIT = true ∧ t.flag Reg.PACK_STAT_CHARGING = false))

/-- A guard latch takes the largest claim, obeys and is refreshed only by its holder, and lapses after four phrases (R230, R375, R376, R378, R379, R381, R382, R387). -/
def Obligations.LatchesKeepTheLargestClaim : Prop :=
  ∀ s : State, s.on = true →
    (∀ (w : Sys2Proof.WardenUnit) (n : Fin 5) (k : Fin 65536), let u := WardenUnit.num w
      (claimUnit k ≠ u ∨ (s.unit u).held = true →
        exec (.latchClaim w n k) s = .next (s.count (Reg.GUARD_LEASE_REFUSED n)) ∧
        exec (.latchRefresh w n k) s = .next (s.count (Reg.GUARD_LEASE_REFUSED n)) ∧
        ∀ out : Fin 65536, exec (.latchCommand w n k out) s = .next (s.count (Reg.GUARD_LEASE_REFUSED n))) ∧
      (claimUnit k = u → (s.unit u).held = false →
        (∃ t : State, exec (.latchClaim w n k) s = .next t ∧ t.regs = s.regs ∧
          t.warden.offers = s.warden.offers ++ [⟨n, k, s.bar⟩]) ∧
        (k.val = 0 ∨ s.claimOf n ≠ k →
          exec (.latchRefresh w n k) s = .next (s.count (Reg.GUARD_LEASE_REFUSED n)) ∧
          ∀ out : Fin 65536, exec (.latchCommand w n k out) s = .next (s.count (Reg.GUARD_LEASE_REFUSED n))) ∧
        (k.val ≠ 0 → s.claimOf n = k →
          (∃ t : State, exec (.latchRefresh w n k) s = .next t ∧
            t.get (Reg.GUARD_LEASE_COUNT n) = (s.get (Reg.GUARD_LEASE_COUNT n) + 1) % 65536 ∧
            t.get (Reg.GUARD_LEASE_MISSED n) = 0 ∧ n.val ∈ t.warden.refreshed) ∧
          ∀ out : Fin 65536,
            (s.saveRefuses n out = true →
              exec (.latchCommand w n k out) s = .next ((s.count (Reg.GUARD_LEASE_REFUSED n)).raise 0x02C [d1 n, d2 out])) ∧
            let holds := (n.val = 0 ∧ out.val % 16 = 0 ∧ s.get (Reg.GUARD_OUT_OUT 0) ≠ 0) ∨
              (n.val = 4 ∧ out.val % 2 = 0 ∧ s.pack.tripped = true)
            (s.saveRefuses n out = false → holds →
              exec (.latchCommand w n k out) s = .next (s.count (Reg.GUARD_LEASE_REFUSED n))) ∧
            (s.saveRefuses n out = false → ¬ holds → ∃ t : State, exec (.latchCommand w n k out) s = .next t ∧
              (n.val = 1 ∨ n.val = 3 ∨ n.val = 4 → t.get (Reg.GUARD_OUT_HW n) = 0 ∧ t.get (Reg.GUARD_OUT_OUT n) =
                if n.val = 1 then out.val % 4 else if n.val = 3 then out.val else out.val % 2) ∧
              (n.val = 0 → t.get (Reg.GUARD_OUT_OUT 0) =
                  (if s.get (Reg.GUARD_OUT_OUT 0) = 0 then out.val % 16 else s.get (Reg.GUARD_OUT_OUT 0)) ∧
                (s.get (Reg.GUARD_OUT_OUT 0) = 0 → t.get (Reg.GUARD_OUT_HW 0) = 0) ∧
                t.save.latched = s.save.latched ++
                  if [2, 3, 6, 7].contains (out.val % 16) then [(out.val % 16, false)] else []) ∧
              (n.val = 2 → out.val % 2 = 0 →
                (s.atDownbeat = true → t.get (Reg.GUARD_OUT_OUT 2) = 0 ∧ t.get (Reg.GUARD_OUT_HW 2) = 0 ∧
                  ∀ c : Fin 8, t.flag (Reg.DCH_STAT_SELF_REFRESH c) = false) ∧
                (s.atDownbeat = false → t.regs = s.regs ∧ t.seq.selfRefreshWait = false ∧
                  (t.seq.selfRefreshExit = true ↔ ∃ c ∈ channels, s.flag (Reg.DCH_STAT_SELF_REFRESH c) = true))) ∧
              (n.val = 2 → out.val % 2 = 1 →
                (s.anyDebt = false → s.atDownbeat = true → t.get (Reg.GUARD_OUT_OUT 2) = 1 ∧ t.get (Reg.GUARD_OUT_HW 2) = 0 ∧
                  ∀ c : Fin 8, s.serving c = true → t.get (Reg.DCH_STAT_SELF_REFRESH c) = 1) ∧
                ((s.anyDebt = true ∨ s.atDownbeat = false) → t.seq.selfRefreshWait = true ∧
                  t.get (Reg.GUARD_OUT_OUT 2) = s.get (Reg.GUARD_OUT_OUT 2))))))) ∧
    (∃ t : State, exec .claimResolution s = .next t ∧ t.get Reg.WARDEN_STAT_ACTIVE = t.commonHolder ∧
      ((s.bar % 256 ≠ 0 ∨ ∀ u : Fin 2, (s.unit u).booted = false) →
        t.warden.offers = s.warden.offers.filter (fun o => !(decide (o.bar < s.bar)))) ∧
      (s.bar % 256 = 0 → ∀ u : Fin 2, (s.unit u).booted = true → (t.unit u).booted = false ∧
        (t.latchesFree = true → (t.unit u).claiming = 1 ∧ ∀ n : Fin 5, (⟨n, (t.unit u).claim, s.bar⟩ : ClaimOffer) ∈ t.warden.offers) ∧
        (t.latchesFree = false → t.get (unitState u) = unitStandby)) ∧ ∀ n : Fin 5,
        let best := ((s.warden.offers.filter fun o => decide (o.bar < s.bar) && decide (o.latch = n.val)).map (·.claim)).foldl max
          (s.claimOf n)
        (best = s.claimOf n → t.claimOf n = s.claimOf n ∧ t.get (Reg.GUARD_HOLDER_PREV n) = s.get (Reg.GUARD_HOLDER_PREV n)) ∧
        (best ≠ s.claimOf n → t.claimOf n = best % 65536 ∧ t.get (Reg.GUARD_LEASE_COUNT n) = 0 ∧
          t.get (Reg.GUARD_LEASE_MISSED n) = 0 ∧
          (s.claimOf n ≠ 0 → t.get (Reg.GUARD_HOLDER_PREV n) = s.claimOf n % 65536))) ∧
    ((s.bar % 256 ≠ 0 ∨ s.warden.leaseAt = s.bar / 256 + 1) → exec .leaseCheck s = .next s) ∧
    (s.bar % 256 = 0 → s.warden.leaseAt ≠ s.bar / 256 + 1 → ∃ t : State, exec .leaseCheck s = .next t ∧
      t.warden.refreshed = [] ∧ t.get Reg.WARDEN_STAT_ACTIVE = t.commonHolder ∧ ∀ n : Fin 5,
        t.get (Reg.GUARD_OUT_OUT n) = s.get (Reg.GUARD_OUT_OUT n) ∧
        (s.claimOf n = 0 ∨ n.val ∈ s.warden.refreshed → t.claimOf n = s.claimOf n ∧
          t.get (Reg.GUARD_LEASE_MISSED n) = s.get (Reg.GUARD_LEASE_MISSED n)) ∧
        (s.claimOf n ≠ 0 → n.val ∉ s.warden.refreshed → s.get (Reg.GUARD_LEASE_MISSED n) < 3 →
          t.claimOf n = s.claimOf n ∧ t.get (Reg.GUARD_LEASE_MISSED n) = s.get (Reg.GUARD_LEASE_MISSED n) + 1) ∧
        (s.claimOf n ≠ 0 → n.val ∉ s.warden.refreshed → 3 ≤ s.get (Reg.GUARD_LEASE_MISSED n) →
          t.claimOf n = 0 ∧ t.get (Reg.GUARD_HOLDER_PREV n) = s.claimOf n % 65536 ∧ ∃ e ∈ t.raised, e.src = 0x022))

/-- A warden boots, tolls, judges its partner, reads back its claim and returns as the rules say (R374, R383, R384, R385, R386, R388, R392, R393, R502, R557). -/
def Obligations.WardensBootTollAndClaim : Prop :=
  ∀ s : State, s.on = true → ∀ w : Sys2Proof.WardenUnit, let u := WardenUnit.num w
    exec (.tollSend w) s = .next (if s.bar % 256 = 1 ∧ s.unitRuns u = true then s.send (.toll u (s.tollFrame u)) else s) ∧
    (s.unitRuns (1 - u) = true → ∀ frame : Nat,
      (s.tollGood u frame = true → (s.unit u).goodAt = s.bar / 256 + 1 → exec (.tollReceive w frame) s = .next s) ∧
      (s.tollGood u frame = true → (s.unit u).goodAt ≠ s.bar / 256 + 1 → ∃ t : State, exec (.tollReceive w frame) s = .next t ∧ (t.unit u).missed = 0 ∧
        (t.unit u).good = min 65535 ((s.unit u).good + 1) ∧ (t.unit u).goodAt = s.bar / 256 + 1 ∧
        (t.unit u).rxRun = bitsAt frame 16 16 ∧ (t.unit u).tollState = bitsAt frame 13 3) ∧
      (s.tollGood u frame = false → exec (.tollReceive w frame) s = exec (.tollMissed w) s)) ∧
    ((s.unitRuns (1 - u) = false ∨ (s.unit u).goodAt = s.bar / 256 + 1 ∨ (s.unit u).missedAt = s.bar / 256 + 1) →
      exec (.tollMissed w) s = .next s) ∧
    (s.unitRuns (1 - u) = true → (s.unit u).goodAt ≠ s.bar / 256 + 1 → (s.unit u).missedAt ≠ s.bar / 256 + 1 → ∃ t : State,
      exec (.tollMissed w) s = .next t ∧ (t.unit u).missedAt = s.bar / 256 + 1 ∧
      (t.unit u).missed = (s.unit u).missed + 1 ∧ (t.unit u).good = 0 ∧ t.get Reg.WARDEN_TOLL_GOOD_RUN = 0 ∧
      (3 ≤ (s.unit u).missed → (s.unit u).failedAt = 0 → t.get (unitTollOk u) = 0 ∧ (t.unit u).failedAt = s.bar / 256 + 1 ∧
        ((s.unit u).held = false → ∃ e ∈ t.raised, e.src = 0x023))) ∧
    (s.bar % 256 = 0 → (s.get (unitState u) = unitStandby ∨ s.get (unitState u) = unitActive) → (s.unit u).held = false →
      (s.unit (1 - u)).failedAt ≠ 0 → (s.unit (1 - u)).held = false →
      ((s.unit u).checkedAt = s.bar / 256 → (s.unit u).counts ≠ [] → (s.unit u).stopped = false →
        (s.holdsLatch (1 - u) = false → (s.unit u).silent = false → ∃ t : State, exec (.partnerCheck w) s = .next t ∧
          (t.unit u).silent = true ∧ t.warden.offers = s.warden.offers ∧ ∃ e ∈ t.raised, e.src = 0x025) ∧
        (s.holdsLatch (1 - u) = true → (s.unit u).counts ≠ s.latchCounts → ∃ t : State, exec (.partnerCheck w) s = .next t ∧
          t.get Reg.WARDEN_STAT_LINK_FAULT ≠ 0 ∧ t.warden.offers = s.warden.offers ∧ (t.unit u).counts = s.latchCounts) ∧
        (s.holdsLatch (1 - u) = true → (s.unit u).counts = s.latchCounts → ∃ t : State, exec (.partnerCheck w) s = .next t ∧
          (t.unit u).stopped = true ∧ ∃ e ∈ t.raised, e.src = 0x026)) ∧
      ((s.unit u).checkedAt ≠ s.bar / 256 + 1 → (s.unit u).stopped = true → s.latchesFree = true → ∃ t : State,
        exec (.partnerCheck w) s = .next t ∧ (t.unit u).claiming = 2 ∧
        t.warden.offers = s.warden.offers ++ latches.map fun n => (⟨n, (t.unit u).claim, s.bar⟩ : ClaimOffer))) ∧
    ((s.unit u).held = false → (s.get (unitState u) = unitStandby ∨ s.get (unitState u) = unitActive ∨
        (s.get (unitState u) = unitBooting ∧ (s.unit u).claiming ≠ 0)) →
      ((s.unit u).claim ≠ 0 → (∀ n : Fin 5, s.claimOf n = (s.unit u).claim) → ∃ t : State,
        exec (.claimReadback w) s = .next t ∧ t.get (unitState u) = unitActive ∧ (t.unit u).claiming = 0 ∧
        ((s.unit u).claiming ≠ 0 → ∃ e ∈ t.raised, e.src = 0x020)) ∧
      (∀ k : Nat, (s.unit u).claim < k → (∀ n : Fin 5, s.claimOf n = k) → ∃ t : State,
        exec (.claimReadback w) s = .next t ∧ t.get (unitState u) = unitStandby ∧ (t.unit u).claim = 0 ∧
        ∃ e ∈ t.raised, e.src = 0x021)) ∧
    ((s.unit u).held = false → ∃ t : State, exec (.watchdogReset w) s = .next t ∧ t.get (unitState u) = unitBooting ∧
      (∀ n : Fin 5, t.get (Reg.GUARD_OUT_OUT n) = s.get (Reg.GUARD_OUT_OUT n) ∧ t.claimOf n = s.claimOf n) ∧
      ∃ e ∈ t.raised, e.src = 0x02A) ∧
    (∀ r : Fin 5, (r.val = 0 ∨ s.get (unitState u) ≠ unitBooting ∨ (s.unit u).held = true ∨ (s.unit u).claiming ≠ 0 ∨
      (s.unit u).booted = true) → exec (.wardenBootDone w r) s = .next s) ∧
    (s.get (unitState u) = unitBooting → (s.unit u).held = false → (s.unit u).claiming = 0 → (s.unit u).booted = false →
      ∀ r : Fin 5, r.val ≠ 0 → ∃ t : State, exec (.wardenBootDone w r) s = .next t ∧ t.get (unitTest u) = r ∧
        (r.val = 1 → (t.unit u).pass = true ∧
          (s.bar % 256 ≠ 0 → (t.unit u).booted = true ∧ t.get (unitState u) = unitBooting ∧ t.warden.offers = s.warden.offers) ∧
          (s.bar % 256 = 0 → s.latchesFree = true → (t.unit u).claiming = 1 ∧
            t.warden.offers = s.warden.offers ++ latches.map fun n => (⟨n, (t.unit u).claim, s.bar⟩ : ClaimOffer)) ∧
          (s.bar % 256 = 0 → s.latchesFree = false → t.get (unitState u) = unitStandby ∧ t.warden.offers = s.warden.offers)) ∧
        (r.val ≠ 1 → t.get (unitState u) = unitFailed ∧ t.warden.offers = s.warden.offers ∧ ∃ e ∈ t.raised, e.src = 0x029)) ∧
    (s.bar < 65536 → exec .noWardenTimeout s = .next s) ∧
    (65536 ≤ s.bar → s.get Reg.SYS_STATE_STEP = 3 → s.flag Reg.SYS_STATE_HALT = false →
      s.get Reg.WARDEN_A_INFO_SELF_TEST ≠ 1 → s.get Reg.WARDEN_B_INFO_SELF_TEST ≠ 1 → ∃ t : State,
        exec .noWardenTimeout s = .next t ∧ t.get Reg.SYS_STATE_HALT = 1 ∧ t.get Reg.SYS_STATE_HALT_STEP = 3 ∧
        ∃ e ∈ t.raised, e.src = 0x030) ∧
    (s.get Reg.WARDEN_STAT_PREFERRED = u + 1 →
      (s.mayRevert u = false → exec .revertiveReturn s = .next s) ∧
      (s.mayRevert u = true → ∃ t : State, exec .revertiveReturn s = .next t ∧ (t.unit u).claiming = 3 ∧
        t.warden.offers = s.warden.offers ++ latches.map (fun n => (⟨n, (t.unit u).claim, s.bar⟩ : ClaimOffer)) ∧
        ∃ e ∈ t.raised, e.src = 0x027)) ∧
    ((s.bar % 256 ≠ 0 ∨ (s.unit 0).pass = false ∨ (s.unit 1).pass = false) → exec .minSvRaise s = .next s) ∧
    (s.bar % 256 = 0 → (s.unit 0).pass = true → (s.unit 1).pass = true → ∃ t : State, exec .minSvRaise s = .next t ∧
      t.get Reg.SEC_FW_MIN_SV = max (s.get Reg.SEC_FW_MIN_SV) (min 63 (min (s.unit 0).secVersion (s.unit 1).secVersion)))

/-- WARDEN_STATUS, WARDEN_HANDOVER and the firmware update packets answer as their tables say (R99, R393, R394, R395, R396, R476, R477). -/
def Obligations.WardenPackets : Prop :=
  (∀ (p : Pkt) (s : State),
    (wardenStatusOp.reaches p s = true →
      exec (.wardenStatus p) s = .next (s.ended wardenStatusOp p stOk (s.words wardenWords))) ∧
    (wardenHandoverOp.reaches p s = true →
      (p.genOk (s.get Reg.WARDEN_GEN_GEN) = false → exec (.wardenHandover p) s = .next (s.ended wardenHandoverOp p stStale)) ∧
      (p.genOk (s.get Reg.WARDEN_GEN_GEN) = true →
        (s.get Reg.WARDEN_STAT_ACTIVE = p.u8 0 + 1 →
          exec (.wardenHandover p) s = .next (s.ended wardenHandoverOp p stOk (s.words [0xD0000]))) ∧
        (s.get Reg.WARDEN_STAT_ACTIVE ≠ p.u8 0 + 1 →
          (s.get (unitState (p.u8 0)) ≠ unitStandby ∨ (s.unit (p.u8 0)).pass = false ∨ s.get Reg.WARDEN_TOLL_GOOD_RUN < 64 ∨
              s.unsettled = true →
            exec (.wardenHandover p) s = .next (s.ended wardenHandoverOp p stForbids)) ∧
          (s.get (unitState (p.u8 0)) = unitStandby → (s.unit (p.u8 0)).pass = true → 64 ≤ s.get Reg.WARDEN_TOLL_GOOD_RUN →
            s.unsettled = false → ∃ (t : State) (data : List Byte),
              exec (.wardenHandover p) s = .next (t.ended wardenHandoverOp p stOk data) ∧ t.warden.handover = some (p.u8 0) ∧
              t.regs = s.regs)))) ∧
    (fwUpdateBeginOp.reaches p s = true →
      let u := s.standby
      let other := s.warden.update.any fun x => decide (x.src ≠ p.src) || x.finish.isSome
      (p.genOk (s.get Reg.WARDEN_GEN_GEN) = false → exec (.fwUpdateBegin p) s = .next (s.ended fwUpdateBeginOp p stStale)) ∧
      (p.genOk (s.get Reg.WARDEN_GEN_GEN) = true →
        ((s.get (unitState u) ≠ unitStandby ∧ s.get (unitState u) ≠ unitUpdate) ∨ s.saving = true ∨ s.restoring = true ∨
            other = true → exec (.fwUpdateBegin p) s = .next (s.ended fwUpdateBeginOp p stForbids)) ∧
        ((s.get (unitState u) = unitStandby ∨ s.get (unitState u) = unitUpdate) → s.saving = false → s.restoring = false →
          other = false →
          ((p.u32 0 = 0 ∨ 0x800000 < p.u32 0) → exec (.fwUpdateBegin p) s = .next (s.ended fwUpdateBeginOp p stInvalid)) ∧
          (0 < p.u32 0 → p.u32 0 ≤ 0x800000 → ∃ (t : State) (data : List Byte),
            exec (.fwUpdateBegin p) s = .next (t.ended fwUpdateBeginOp p stOk data) ∧ t.get (unitState u) = unitUpdate ∧
            (t.unit u).held = true ∧ t.get Reg.WARDEN_FW_STATE = fwLoading ∧ t.get Reg.WARDEN_FW_BYTES = 0 ∧
            t.warden.update = some ⟨p.src, p.u32 0, [], s.bar, p.u32 4, none⟩ ∧ ∃ e ∈ t.raised, e.src = 0x02E)))) ∧
    (fwUpdateDataOp.reaches p s = true →
      (s.warden.update = none → exec (.fwUpdateData p) s = .next (s.ended fwUpdateDataOp p stForbids)) ∧
      ∀ x : FwUpdate, s.warden.update = some x →
        ((x.src ≠ p.src ∨ x.finish.isSome = true) → exec (.fwUpdateData p) s = .next (s.ended fwUpdateDataOp p stForbids)) ∧
        (x.src = p.src → x.finish = none →
          let n := p.params.length - 8
          ((x.length < p.u32 0 + n ∨ p.u32 0 % 16 ≠ 0 ∨ (n % 16 ≠ 0 ∧ p.u32 0 + n ≠ x.length)) →
            exec (.fwUpdateData p) s = .next (s.ended fwUpdateDataOp p stInvalid)) ∧
          (p.u32 0 + n ≤ x.length → p.u32 0 % 16 = 0 → (n % 16 = 0 ∨ p.u32 0 + n = x.length) → ∃ (t : State) (data : List Byte),
            exec (.fwUpdateData p) s = .next (t.ended fwUpdateDataOp p stOk data) ∧ ∃ y : FwUpdate, t.warden.update = some y ∧
              y.length = x.length ∧ y.since = s.bar ∧
              t.get Reg.WARDEN_FW_BYTES = min (16 * y.units.length) x.length % 2 ^ 24))) ∧
    (fwUpdateEndOp.reaches p s = true →
      (s.warden.update = none → exec (.fwUpdateEnd p) s = .next (s.ended fwUpdateEndOp p stForbids)) ∧
      (∀ x : FwUpdate, s.warden.update = some x → (x.src ≠ p.src ∨ x.finish.isSome = true) →
        exec (.fwUpdateEnd p) s = .next (s.ended fwUpdateEndOp p stForbids)) ∧
      ∀ x : FwUpdate, s.warden.update = some x → x.src = p.src → x.finish = none →
        (16 * x.units.length < x.length → exec (.fwUpdateEnd p) s = .next (s.ended fwUpdateEndOp p stInvalid)) ∧
        (x.length ≤ 16 * x.units.length →
          (s.imageBad s.standby = true → ∃ t : State, exec (.fwUpdateEnd p) s = .next (t.ended fwUpdateEndOp p stSignature) ∧
            t.get (unitState s.standby) = unitFailed ∧ t.warden.update = none ∧
            t.get Reg.WARDEN_GEN_GEN = (s.get Reg.WARDEN_GEN_GEN + 1) % 2 ^ 16 ∧ ∃ e ∈ t.raised, e.src = 0x02E) ∧
          (s.imageBad s.standby = false → ∃ t : State, exec (.fwUpdateEnd p) s = .next t ∧
            t.get (unitState s.standby) = unitBooting ∧ (t.unit s.standby).held = false ∧ t.cmd = s.cmd ∧ t.outs = s.outs ∧
            t.get Reg.WARDEN_FW_STATE = fwBooting)))) ∧
  ∀ (s : State) (x : FwUpdate), s.on = true → s.warden.update = some x →
    (x.finish = none →
      ((s.bar - x.since) * 39 < 100000000 → exec .fwUpdateTimeout s = .next s) ∧
      (100000000 ≤ (s.bar - x.since) * 39 → ∃ t : State, exec .fwUpdateTimeout s = .next t ∧ t.warden.update = none ∧
        t.get Reg.WARDEN_FW_STATE = fwIdle ∧ ∃ e ∈ t.raised, e.src = 0x02E)) ∧
    ∀ p : Pkt, x.finish = some p →
      (s.bar < x.since + 65536 → exec .fwUpdateBootTimeout s = .next s) ∧
      (x.since + 65536 ≤ s.bar → ∃ t : State, exec .fwUpdateBootTimeout s = .next (t.answer p stTimeout []) ∧
        t.warden.update = none ∧ t.get Reg.WARDEN_FW_STATE = fwFailed ∧
        t.get Reg.WARDEN_GEN_GEN = (s.get Reg.WARDEN_GEN_GEN + 1) % 2 ^ 16)

/-- The recorder commits, drains and clears; the event packets set the anchor, routes and masks (R361, R436, R442, R448, R449, R454, R457, R460, R461, R462, R476). -/
def Obligations.RecorderAndEventPackets : Prop :=
  (∀ s : State, s.on = true →
    (s.recorder.prog = none → exec .recorderRecordDone s = .next s) ∧
    (∀ (e : RecEntry) (supp : List (Nat × Nat)) (i : Nat), s.recorder.prog = some (e, supp) → s.recPlace = some i → ∃ t : State,
      exec .recorderRecordDone s = .next t ∧ t.get Reg.EVT_REC_STAT_NEXT = (i + 1) % 2 ^ 14 ∧
      t.flash.bytes = Store.setRange 0xFF#8 s.flash.bytes (recAt i) (recBytes e supp)) ∧
    (s.sys.drain = none → exec .recorderDrainEnd s = .next s) ∧
    (∀ b : Nat, s.sys.drain = some b →
      let idle := s.recorder.queue.isEmpty && s.recorder.prog.isNone && s.recorder.supp.isEmpty
      (s.bar < b + 4096 → idle = false → exec .recorderDrainEnd s = .next s) ∧
      ((b + 4096 ≤ s.bar ∨ idle = true) → ∃ t : State, exec .recorderDrainEnd s = .next t ∧ t.sys.off = true ∧
        t.sys.drain = none ∧ t.get Reg.SYS_RESET_CAUSE_OFF_CAUSE = s.saveCause % 2 ^ Reg.SYS_RESET_CAUSE_OFF_CAUSE.width)) ∧
    (∀ c : RecClear, s.recorder.clear = some c →
      (c.left ≠ 0 → exec .recorderClearDone s = .next s) ∧
      (c.left = 0 → s.recorder.prog = none → ∃ t : State, exec .recorderClearDone s = .next t ∧ t.recorder.clear = none ∧
        t.get Reg.EVT_REC_STAT_NEXT = 0 ∧ t.get Reg.EVT_GEN_GEN = (s.get Reg.EVT_GEN_GEN + 1) % 2 ^ 16 ∧
        ∃ e ∈ t.raised, e.src = 0x1F9)) ∧
    ((s.bar % 256 ≠ 0 ∨ s.cmd.fresh.any s.pendingSources.contains = false) → exec .spanIbiRequest s = .next s) ∧
    (s.bar % 256 = 0 → s.cmd.fresh.any s.pendingSources.contains = true → s.flag Reg.EVT_IBI_IBI_EN = true →
      s.get Reg.CMD_STAT_DYN_ADDR ≠ 0 → ∃ t : State, exec .spanIbiRequest s = .next t ∧
        t.outs = s.outs ++ [.ibi (ibiPayload s.pendingSources)] ∧ ibiPayload s.pendingSources ∈ t.cmd.ibis)) ∧
  ∀ (p : Pkt) (s : State),
    (setTimeAnchorOp.reaches p s = true →
      (999999999 < p.u32 8 → exec (.setTimeAnchor p) s = .next (s.ended setTimeAnchorOp p stInvalid)) ∧
      (p.u32 8 ≤ 999999999 → ∃ t : State, exec (.setTimeAnchor p) s = .next (t.ended setTimeAnchorOp p stOk) ∧
        t.get Reg.EVT_ANCHOR_LO_WALL = p.u32 0 ∧ t.get Reg.EVT_ANCHOR_HI_WALL = p.u32 4 ∧
        t.get Reg.EVT_ANCHOR_OPS_OPS = s.get Reg.OP_SECONDS_SECONDS % 2 ^ 32 ∧ ∃ e ∈ t.raised, e.src = 0x1FA)) ∧
    (recorderReadOp.reaches p s = true →
      (8191 < p.u16 0 → exec (.recorderRead p) s = .next (s.ended recorderReadOp p stInvalid)) ∧
      (p.u16 0 ≤ 8191 → exec (.recorderRead p) s = .next (s.ended recorderReadOp p stOk
        (s.words [0x10000, 0x10004] ++ leBytes 2 (p.u16 0) ++ leBytes 1 (min (p.u8 2) (8192 - p.u16 0)) ++ leBytes 1 0 ++
          (List.range (min (p.u8 2) (8192 - p.u16 0))).flatMap fun i =>
            if s.get Reg.EVT_REC_STAT_NEXT ≤ p.u16 0 + i then List.replicate 64 0xFF#8
            else s.flashRead (recAt (p.u16 0 + i)) 64)))) ∧
    (recorderClearOp.reaches p s = true →
      (p.genOk (s.get Reg.EVT_GEN_GEN) = false → exec (.recorderClear p) s = .next (s.ended recorderClearOp p stStale)) ∧
      (p.genOk (s.get Reg.EVT_GEN_GEN) = true →
        ((s.saving = true ∨ s.restoring = true ∨ s.warden.update.isSome = true) →
          exec (.recorderClear p) s = .next (s.ended recorderClearOp p stForbids)) ∧
        (s.saving = false → s.restoring = false → s.warden.update = none →
          (s.recorder.clear.isSome = true → exec (.recorderClear p) s = .next (s.ended recorderClearOp p stBusy)) ∧
          (s.recorder.clear = none → ∃ (t : State) (c : RecClear),
            exec (.recorderClear p) s = .next (t.ended recorderClearOp p stOk (leBytes 4 (s.get Reg.EVT_GEN_GEN))) ∧
            t.recorder.clear = some c ∧ c.left = 128 ∧ c.next = s.get Reg.EVT_REC_STAT_NEXT)))) ∧
    (evtRouteSetOp.reaches p s = true →
      (p.genOk (s.get Reg.EVT_GEN_GEN) = false → exec (.evtRouteSet p) s = .next (s.ended evtRouteSetOp p stStale)) ∧
      (p.genOk (s.get Reg.EVT_GEN_GEN) = true →
        ((0x200 < p.u16 0 + p.u16 2 ∨ ∃ i < p.u16 2, 128 ≤ leAt p.params (4 + i) 1) →
          exec (.evtRouteSet p) s = .next (s.ended evtRouteSetOp p stInvalid)) ∧
        (p.u16 0 + p.u16 2 ≤ 0x200 → (∀ i < p.u16 2, leAt p.params (4 + i) 1 < 128) → ∃ (t : State) (data : List Byte),
          exec (.evtRouteSet p) s = .next (t.ended evtRouteSetOp p stOk data) ∧
          t.get Reg.EVT_GEN_GEN = (s.get Reg.EVT_GEN_GEN + 1) % 2 ^ 16 ∧ ∀ n < 512, t.routeByte n =
            if p.u16 0 ≤ n ∧ n < p.u16 0 + p.u16 2
            then newRoute n (s.routeByte n) (leAt p.params (4 + (n - p.u16 0)) 1) p.expert else s.routeByte n))) ∧
    (evtMaskOp.reaches p s = true →
      (p.genOk (s.get Reg.EVT_GEN_GEN) = false → exec (.evtMask p) s = .next (s.ended evtMaskOp p stStale)) ∧
      (p.genOk (s.get Reg.EVT_GEN_GEN) = true →
        (p.expert = false → 0x200 ≤ p.u16 0 → exec (.evtMask p) s = .next (s.ended evtMaskOp p stInvalid)) ∧
        (p.expert = true ∨ p.u16 0 < 0x200 → ∃ (t : State) (data : List Byte),
          exec (.evtMask p) s = .next (t.ended evtMaskOp p stOk data) ∧
          t.get Reg.EVT_GEN_GEN = (s.get Reg.EVT_GEN_GEN + 1) % 2 ^ 16 ∧ t.masked 0x1FA = false ∧
          ∀ n < 512, n ≠ 0x1FA → t.masked n = if p.expert then bitAt (p.u32 (4 + 4 * (n / 32))) (n % 32)
            else if n = p.u16 0 then decide (p.u8 2 ≠ 0) else s.masked n)))

/-- OPTION_WRITE stages and checks an image, and FLASH_READ answers flash bytes (R422, R426, R427, R475, R476, R477). -/
def Obligations.OptionWriteAndFlashRead : Prop :=
  (∀ (p : Pkt) (s : State), optionWriteOp.reaches p s = true →
    let off := p.u16 0
    let data := p.params.drop 8
    let g := s.flash.stage.getD ⟨p.src, [], [], s.bar⟩
    let g' : OptStage := { g with
      bytes := Store.setRange 0#8 g.bytes off data
      units := Store.setRange false g.units (off / 16) (List.replicate (ceilDiv data.length 16) true)
      since := s.bar }
    let t := s.updFlash fun x => { x with stage := some g' }
    let seq := leAt g'.image 8 4
    (p.genOk (s.get Reg.FL_OPTION_SEQ_SEQ) = false → exec (.optionWrite p) s = .next (s.ended optionWriteOp p stStale)) ∧
    (p.genOk (s.get Reg.FL_OPTION_SEQ_SEQ) = true →
      ((g.src ≠ p.src ∨ s.flash.job.isSome = true) → exec (.optionWrite p) s = .next (s.ended optionWriteOp p stBusy)) ∧
      (g.src = p.src → s.flash.job = none →
        ((s.saving = true ∨ s.restoring = true ∨ s.warden.update.isSome = true) →
          exec (.optionWrite p) s = .next (s.ended optionWriteOp p stForbids)) ∧
        (s.saving = false → s.restoring = false → s.warden.update = none →
          ((off % 16 ≠ 0 ∨ 8192 < off + data.length ∨ (data.length % 16 ≠ 0 ∧ off + data.length ≠ 8192)) →
            exec (.optionWrite p) s = .next (s.ended optionWriteOp p stInvalid)) ∧
          (off % 16 = 0 → off + data.length ≤ 8192 → (data.length % 16 = 0 ∨ off + data.length = 8192) →
            (p.u8 2 % 2 = 0 → exec (.optionWrite p) s = .next (t.ended optionWriteOp p stOk (optReply 0xFF 0 seq))) ∧
            (p.u8 2 % 2 = 1 →
              ((g'.units.length < 512 ∨ optFormOk g'.image = false ∨ seq ≤ s.highestSeq) →
                exec (.optionWrite p) s = .next (t.ended optionWriteOp p stInvalid)) ∧
              (512 ≤ g'.units.length → optFormOk g'.image = true → s.highestSeq < seq →
                (s.optSigned g'.image = false → ∃ x : State,
                  exec (.optionWrite p) s = .next (x.ended optionWriteOp p stSignature) ∧ x.flash = t.flash) ∧
                (s.optSigned g'.image = true → (s.flash.erase.isSome = true ∨ s.flash.prog.isSome = true) → ∃ x : State,
                  exec (.optionWrite p) s = .next x ∧ x.cmd = s.cmd ∧ x.outs = s.outs ∧
                  x.flash.job = some ⟨Pkt.as p optionWriteOp.opcode, s.optTarget, 0⟩) ∧
                (s.optSigned g'.image = true → s.flash.erase = none → s.flash.prog = none →
                  let v := (t.updFlash fun y => { y with job := some ⟨Pkt.as p optionWriteOp.opcode, s.optTarget, 0⟩ }).startErase
                    ((4096 + 2 * s.optTarget) * 4096)
                  (v.flash.erase.isSome = true → exec (.optionWrite p) s = .next v) ∧
                  (v.flash.erase = none → ∃ x : State, exec (.optionWrite p) s = .next
                      (x.ended optionWriteOp p stForbids (optReply 0 (4096 + 2 * s.optTarget) 0)) ∧
                    x.flash.job = none ∧ x.flash.stage = none))))))))) ∧
  (∀ (p : Pkt) (s : State), flashReadOp.reaches p s = true →
    (p.u32 0 < 0x1000000 → s.holds p.src .expert = false → exec (.flashRead p) s =
      .next ((s.noPriv p.src).ended flashReadOp p stOk (List.replicate (28 + p.u16 4) 0#8))) ∧
    ((0x1000000 ≤ p.u32 0 ∨ s.holds p.src .expert = true) →
      let a := p.u32 0
      let bad := (List.range (p.u16 4 / 8)).filter fun i => Store.get false s.flash.ue (a + 8 * i)
      let len := (bad[10]?.map (8 * ·)).getD (p.u16 4)
      let ind := fun k => bit (s.sect k = 1)
      let flags := ind (sectorOf a) + 2 * (if sectorOf (a + p.u16 4 - 1) = sectorOf a then 0 else ind (sectorOf a + 1)) +
        4 * bit (decide (len < p.u16 4))
      ∃ t : State, exec (.flashRead p) s = .next (t.ended flashReadOp p stOk (leBytes 4 a ++ leBytes 2 len ++ leBytes 1 flags ++
          leBytes 1 (bad.take 10).length ++ ((List.range 10).flatMap fun i => leBytes 2 ((bad.take 10).getD i 0xFFFF)) ++
          s.flashRead a len)) ∧
        t.flash = s.flash ∧ (bad = [] → t = s) ∧
        (bad ≠ [] → t.get Reg.FL_STAT_READ_UE = 1 ∧ t.get Reg.FL_ECC_UE =
          min (s.get Reg.FL_ECC_UE + (bad.take 10).length) (2 ^ Reg.FL_ECC_UE.width - 1)))) ∧
  ∀ (s : State) (g : OptStage), s.on = true → s.flash.stage = some g → s.flash.job = none →
    ((s.bar - g.since) * 39 < 100000000 → exec .optionStagingTimeout s = .next s) ∧
    (100000000 ≤ (s.bar - g.since) * 39 → ∃ t : State, exec .optionStagingTimeout s = .next t ∧ t.flash.stage = none ∧
      t.flash.bytes = s.flash.bytes)

/-- Packets arrive by mailbox, private write and CCC; replies, IBIs and common command codes act as the span bus says (R442, R466, R467, R468, R469, R470, R474, R481, R568). -/
def Obligations.SpanBusAndMailboxes : Prop :=
  ∀ s : State, s.on = true →
    (∀ (port : Fin 4) (ld : Fin 16) (bs : List Byte) (late : Bool), let p := parsePkt (.hport port) bs s.bar
      (s.ldExists port ld = false → exec (.mailboxCommandPacket port ld bs late) s = .next s) ∧
      (s.ldExists port ld = true →
        ((bs.length < 20 ∨ 4096 < bs.length) →
          exec (.mailboxCommandPacket port ld bs late) s = .next (s.send (.mailbox port ld 0x16 []))) ∧
        (20 ≤ bs.length → bs.length ≤ 4096 →
          (s.judge .mailbox p bs = .good → ∃ t : State, exec (.mailboxCommandPacket port ld bs late) s = .next t ∧
            t.cmd.queue = s.cmd.queue ++ [⟨p, s.bar + (if late then 2 else 1), none⟩] ∧ t.regs = s.regs) ∧
          (lengthBad bs = true → ∃ t : State, exec (.mailboxCommandPacket port ld bs late) s = .next t ∧
            t.cmd.queue = s.cmd.queue ++ [⟨p, s.bar + (if late then 2 else 1), some (stInvalid, true)⟩] ∧
            t.get Reg.CMD_ERR_MALFORMED = min (s.get Reg.CMD_ERR_MALFORMED + 1) 255) ∧
          (lengthBad bs = false → crcBad bs = true → ∃ t : State, exec (.mailboxCommandPacket port ld bs late) s = .next t ∧
            t.cmd.queue = s.cmd.queue ++ [⟨p, s.bar + (if late then 2 else 1), some (stCrc, true)⟩] ∧
            t.get Reg.CMD_ERR_CRC = min (s.get Reg.CMD_ERR_CRC + 1) 255)))) ∧
    (s.get Reg.CMD_STAT_DYN_ADDR = 0 → (∀ (bs : List Byte) (late : Bool), exec (.spanPrivateWrite bs late) s = .next s) ∧
      exec .spanPrivateRead s = .next s ∧ exec .getpid s = .next s ∧ exec .setmwl s = .next s ∧ ∀ addr : Fin 128,
        exec (.setnewda addr) s = .next s ∧ ∃ t : State, exec (.entdaa addr) s = .next t ∧
          t.get Reg.CMD_STAT_DYN_ADDR = addr ∧
          t.outs = s.outs ++ [.span true (beBytes 6 s.provisionedId ++ beBytes 1 bcr ++ beBytes 1 dcr)]) ∧
    (s.get Reg.CMD_STAT_DYN_ADDR ≠ 0 →
      (∀ (bs : List Byte) (late : Bool), let p := parsePkt .span bs s.bar
        (8 ≤ s.get Reg.CMD_STAT_OUTSTANDING →
          exec (.spanPrivateWrite bs late) s = .next ((s.count Reg.CMD_ERR_NACKED).send (.span false []))) ∧
        (s.get Reg.CMD_STAT_OUTSTANDING < 8 → s.judge .write p bs = .good → ∃ t : State,
          exec (.spanPrivateWrite bs late) s = .next t ∧ t.outs = s.outs ++ [.span true []] ∧
          t.get Reg.CMD_STAT_OUTSTANDING = s.get Reg.CMD_STAT_OUTSTANDING + 1 ∧
          t.cmd.queue = s.cmd.queue ++ [⟨p, s.bar + (if late then 2 else 1), none⟩])) ∧
      (s.cmd.replies = [] → exec .spanPrivateRead s = .next (s.send (.span false []))) ∧
      (∀ (r : Reply) (l : List Reply), s.cmd.replies = r :: l → ∃ t : State, exec .spanPrivateRead s = .next t ∧
        t.outs = s.outs ++ [.span true r.bytes] ∧ t.cmd.replies = l ∧
        t.get Reg.CMD_STAT_OUTSTANDING = (s.get Reg.CMD_STAT_OUTSTANDING - 1) % 16) ∧
      (∀ addr : Fin 128, exec (.entdaa addr) s = .next s ∧ (addr.val ≠ 0 → ∃ t : State, exec (.setnewda addr) s = .next t ∧
        t.get Reg.CMD_STAT_DYN_ADDR = addr)) ∧
      exec .getpid s = .next (s.send (.span true (beBytes 6 s.provisionedId))) ∧
      exec .getbcr s = .next (s.send (.span true [0x06#8])) ∧ exec .getdcr s = .next (s.send (.span true [0x00#8])) ∧
      exec .getstatus s = .next (s.send (.span true (beBytes 2 (bit (!s.cmd.ibis.isEmpty))))) ∧
      exec .getmwl s = .next (s.send (.span true [0x10#8, 0x00#8])) ∧
      exec .getmrl s = .next (s.send (.span true [0x10#8, 0x00#8, 0x04#8])) ∧
      exec .setmwl s = .next (s.send (.span false [])) ∧ exec .setmrl s = .next (s.send (.span false [])) ∧
      (∀ (b : List Byte) (l : List (List Byte)), s.cmd.ibis = b :: l →
        exec (.ibiAccepted false) s = .next s ∧
        (s.flag Reg.EVT_IBI_IBI_EN = true → ∃ t : State, exec (.ibiAccepted true) s = .next t ∧ t.cmd.ibis = l ∧
          t.get Reg.EVT_IBI_SENT = min (s.get Reg.EVT_IBI_SENT + 1) (2 ^ Reg.EVT_IBI_SENT.width - 1) ∧
          t.cmd.fresh = if b.headD 0#8 = 0xA0#8 then [] else s.cmd.fresh))) ∧
    (∀ (bs : List Byte) (late : Bool), let p := parsePkt .span bs s.bar
      (8 ≤ s.get Reg.CMD_STAT_OUTSTANDING → exec (.vendorBroadcastCcc bs late) s = .next s) ∧
      (s.get Reg.CMD_STAT_OUTSTANDING < 8 → s.judge .ccc p bs = .good → ∃ t : State,
        exec (.vendorBroadcastCcc bs late) s = .next t ∧ t.outs = s.outs ∧
        t.cmd.queue = s.cmd.queue ++ [⟨p, s.bar + (if late then 2 else 1), none⟩])) ∧
    (∃ t : State, exec .replyUnreadTimeout s = .next t ∧
      t.cmd.replies = s.cmd.replies.filter (fun r => !(s.elapsed r.ready 1000000)) ∧
      t.get Reg.CMD_ERR_UNREAD = min (s.get Reg.CMD_ERR_UNREAD + (s.cmd.replies.filter fun r => s.elapsed r.ready 1000000).length) 255) ∧
    (∃ t : State, exec .rstdaa s = .next t ∧ t.get Reg.CMD_STAT_DYN_ADDR = 0 ∧ t.draws = s.draws + 1) ∧
    exec .setdasa s = .next (s.send (.span false [])) ∧
    exec .enec s = .next (s.set Reg.EVT_IBI_IBI_EN 1) ∧ exec .disec s = .next (s.set Reg.EVT_IBI_IBI_EN 0) ∧
    (∃ t : State, exec .enthdr0 s = .next t ∧ t.cmd.hdr = true ∧ t.regs = s.regs) ∧
    ∃ t : State, exec .hdrExitPattern s = .next t ∧ t.cmd.hdr = false ∧ t.regs = s.regs

/-- Every packet row does nothing without power and is BUSY, a no-op, UNSUPPORTED or INVALID_PARAM where it may not apply (R474, R475, R477, R481, R528, R537). -/
def Obligations.PacketsThatDoNotApply : Prop :=
  ∀ x ∈ ([(.wardenHandover, wardenHandoverOp), (.fwUpdateBegin, fwUpdateBeginOp), (.fwUpdateData, fwUpdateDataOp), (.fwUpdateEnd, fwUpdateEndOp), (.wardenStatus, wardenStatusOp), (.scoreLoadBegin, scoreLoadBeginOp), (.scoreLoadData, scoreLoadDataOp), (.scoreLoadEnd, scoreLoadEndOp), (.scoreArm, scoreArmOp), (.scoreQuery, scoreQueryOp), (.scrubSet, scrubSetOp), (.dchStatus, dchStatusOp), (.dchOffline, dchOfflineOp), (.dchOnline, dchOnlineOp), (.persistPolicySet, persistPolicySetOp), (.streamTune, streamTuneOp), (.persistStatus, persistStatusOp), (.saveNow, saveNowOp), (.restoreControl, restoreControlOp), (.echo, echoOp), (.identify, identifyOp), (.getStatus, getStatusOp), (.resetDevice, resetDeviceOp), (.setGroups, setGroupsOp), (.idleHint, idleHintOp), (.diagLoopback, diagLoopbackOp), (.nchRetire, nchRetireOp), (.deckFormat, deckFormatOp), (.imageList, imageListOp), (.deckStatus, deckStatusOp), (.regRead, regReadOp), (.regWrite, regWriteOp), (.optionWrite, optionWriteOp), (.flashRead, flashReadOp), (.restWindow, restWindowOp), (.shipMode, shipModeOp), (.packParamsSet, packParamsSetOp), (.packStatus, packStatusOp), (.secGetCert, secGetCertOp), (.secCryptoErase, secCryptoEraseOp), (.secKeyRotate, secKeyRotateOp), (.secEscrowSet, secEscrowSetOp), (.start, startOp), (.seqTableSet, seqTableSetOp), (.seqStatus, seqStatusOp), (.marginSet, marginSetOp), (.setTimeAnchor, setTimeAnchorOp), (.recorderRead, recorderReadOp), (.recorderClear, recorderClearOp), (.evtRouteSet, evtRouteSetOp), (.evtMask, evtMaskOp), (.regionAssign, regionAssignOp), (.regionRelease, regionReleaseOp), (.regionQuery, regionQueryOp), (.portConfig, portConfigOp), (.latencyTargetSet, latencyTargetSetOp)] : List ((Pkt → Instr) × PktOp)),
    ∀ (p : Pkt) (s : State),
      (s.on = false → exec (x.1 p) s = .next s) ∧
      (s.on = true →
        (s.get Reg.WARDEN_STAT_ACTIVE = 0 → exec (x.1 p) s = .next (s.ended x.2 p stBusy)) ∧
        (s.get Reg.WARDEN_STAT_ACTIVE ≠ 0 →
          (s.holds p.src (x.2.needs p.expert) = false → exec (x.1 p) s = .next ((s.noPriv p.src).ended x.2 p stOk
            (List.replicate (x.2.replyLen s (Pkt.as p x.2.opcode)) 0#8))) ∧
          (s.holds p.src (x.2.needs p.expert) = true →
            (p.isCast = true → x.2.cast = false → exec (x.1 p) s = .next (s.ended x.2 p stUnsupported)) ∧
            (p.isCast = false ∨ x.2.cast = true →
              (x.2.paramsOk p.expert p.params = false → exec (x.1 p) s = .next (s.ended x.2 p stInvalid)) ∧
              (x.2.paramsOk p.expert p.params = true → s.inH = false → s.stepUp < upStep x.2.opcode →
                exec (x.1 p) s = .next (s.ended x.2 p stForbids))))))

/-- ECHO, IDENTIFY, GET_STATUS, RESET_DEVICE, SET_GROUPS, IDLE_HINT, DIAG_LOOPBACK, REG_READ and REG_WRITE answer as laid out (R476, R477, R479, R480, R482, R492, R493, R522, R532). -/
def Obligations.SystemPackets : Prop :=
  (∀ (p : Pkt) (s : State),
    (echoOp.reaches p s = true → exec (.echo p) s = .next (s.ended echoOp p stOk p.params)) ∧
    (identifyOp.reaches p s = true → ∃ rest : List Byte, exec (.identify p) s = .next (s.ended identifyOp p stOk
      (s.wordsFor p.src [0x00000] ++ leBytes 1 (s.get Reg.CMD_STAT_SPAN_ID) ++ leBytes 1 (s.get Reg.CMD_STAT_STRAP_ID) ++
        leBytes 2 (s.get Reg.CMD_GROUPS_MASK) ++ s.ordering ++ rest))) ∧
    (getStatusOp.reaches p s = true → ∃ rest : List Byte, rest.length = 16 ∧ exec (.getStatus p) s =
      .next (s.ended getStatusOp p stOk (s.wordsFor p.src [0x00004, 0x0000C, 0x00008, 0x0004C, 0x00040, 0x00044, 0x00050,
        0x20004, 0x80000, 0x80100, 0x80120, 0xA0000, 0xC0000, 0xC8004, 0xD0000, 0x10000] ++ rest))) ∧
    (resetDeviceOp.reaches p s = true →
      (p.u8 0 ≠ 1 → p.u8 0 ≠ 2 → exec (.resetDevice p) s = .next (s.ended resetDeviceOp p stInvalid)) ∧
      ((p.u8 0 = 1 ∨ p.u8 0 = 2) →
        (s.saving = true → exec (.resetDevice p) s = .next (s.ended resetDeviceOp p stForbids)) ∧
        (s.saving = false → ∃ t : State, exec (.resetDevice p) s = .next (t.ended resetDeviceOp p stOk) ∧
          t.sys.resetReq = some (p.u8 0, ceilDiv (s.bar + 16) 256 * 256, srcNum p.src) ∧ t.regs = s.regs ∧
          ∃ e ∈ t.raised, e.src = 0x00D))) ∧
    (setGroupsOp.reaches p s = true → exec (.setGroups p) s =
      .next ((s.set Reg.CMD_GROUPS_MASK (p.u16 0)).ended setGroupsOp p stOk (leBytes 2 (p.u16 0) ++ leBytes 2 0))) ∧
    (idleHintOp.reaches p s = true → ∃ (t : State) (data : List Byte),
      exec (.idleHint p) s = .next (t.ended idleHintOp p stOk data) ∧ t.regs = s.regs ∧
      Store.get 0 t.sys.hints (hintIndex p.src) = (if p.u32 0 = 0 then 0 else s.bar + ceilDiv (p.u32 0 * 10) 39) ∧
      (∀ i : Nat, i ≠ hintIndex p.src → Store.get 0 t.sys.hints i = Store.get 0 s.sys.hints i) ∧
      ∃ e ∈ t.raised, e.src = 0x006) ∧
    (diagLoopbackOp.reaches p s = true → exec (.diagLoopback p) s =
      .next (s.ended diagLoopbackOp p stOk (leBytes 8 p.rxBar ++ leBytes 8 s.bar ++ p.params))) ∧
    (regReadOp.reaches p s = true → exec (.regRead p) s =
      .next ((s.readWords p.src (p.u32 0) (p.u16 4)).1.ended regReadOp p stOk (leBytes 4 (p.u32 0) ++ leBytes 2 (p.u16 4) ++
        leBytes 2 0 ++ wordsBytes (s.readWords p.src (p.u32 0) (p.u16 4)).2))) ∧
    (regWriteOp.reaches p s = true → exec (.regWrite p) s =
      .next (((List.range (p.u16 4)).foldl (fun x i => x.write p.src (p.u32 0 + 4 * i) 4 (p.u32 (8 + 4 * i))) s).ended regWriteOp
        p stOk (leBytes 2 (p.u16 4) ++ leBytes 2 0)))) ∧
  ∀ (s : State) (i : Fin 5), s.on = true →
    ((Store.get 0 s.sys.hints i = 0 ∨ s.bar < Store.get 0 s.sys.hints i) → exec (.idleHintExpire i) s = .next s) ∧
    (Store.get 0 s.sys.hints i ≠ 0 → Store.get 0 s.sys.hints i ≤ s.bar → ∃ t : State, exec (.idleHintExpire i) s = .next t ∧
      Store.get 0 t.sys.hints i = 0 ∧ t.regs = s.regs ∧
      t.sys.wakes = if i.val = 4 ∧ s.inH = true then s.sys.wakes ++ [2] else s.sys.wakes)

/-- SPDM answers by what was negotiated; the security packets set, rotate and erase keys as their tables say (R475, R505, R506, R507, R508, R514, R516, R517, R476). -/
def Obligations.KeysAndAttestation : Prop :=
  (∀ (s : State) (port : Fin 4) (ld : Fin 16), s.on = true → s.ldExists port ld = true →
    exec (.getVersion port ld) s = .next (s.send (.spdm port ld (.version [0x12, 0x13]))) ∧
    exec (.getCapabilities port ld) s = .next (s.send (.spdm port ld (.capabilities true true true))) ∧
    (∀ offers : Bool, ∃ t : State, exec (.negotiateAlgorithms port ld offers) s = .next t ∧
      t.negotiated port ld = offers ∧ t.outs = s.outs ++ [.spdm port ld (.algorithms offers)]) ∧
    exec (.getDigests port ld) s = .next (s.send (.spdm port ld (.digests 1 (Config.sha384 (s.chain 1))))) ∧
    (∀ (slot : Fin 8) (off len : Nat),
      (slot.val = 0 → s.negotiated port ld = true → exec (.getCertificate port ld slot off len) s =
        .next (s.send (.spdm port ld (.certificate (((s.chain 1).drop off).take len))))) ∧
      (slot.val ≠ 0 ∨ s.negotiated port ld = false →
        exec (.getCertificate port ld slot off len) s = .next (s.send (.spdm port ld .unsupported)) ∧
        exec (.challenge port ld slot) s = .next (s.send (.spdm port ld .unsupported))) ∧
      (slot.val = 0 → s.negotiated port ld = true → ∃ t : State, exec (.challenge port ld slot) s = .next t ∧
        t.outs = s.outs ++ [.spdm port ld (.challengeAuth (Config.signature s.sec.aliasRot s.draws))] ∧ t.draws = s.draws + 1)) ∧
    ∀ (i : Fin 256) (signed : Bool), let n := i.val
      ((7 < n ∧ n ≠ 255) ∨ (signed = true ∧ s.negotiated port ld = false) →
        exec (.getMeasurements port ld i signed) s = .next (s.send (.spdm port ld .unsupported))) ∧
      ((n ≤ 7 ∨ n = 255) →
        let blocks := (if n = 0 then [] else if n = 255 then [1, 2, 3, 4, 5, 6, 7] else [n]).map fun k => (k, s.measurement k)
        exec (.getMeasurements port ld i false) s = .next (s.send (.spdm port ld (.measurements blocks []))) ∧
        (s.negotiated port ld = true → ∃ t : State, exec (.getMeasurements port ld i true) s = .next t ∧
          t.outs = s.outs ++ [.spdm port ld (.measurements blocks (Config.signature s.sec.aliasRot s.draws))] ∧
          t.draws = s.draws + 1))) ∧
  ∀ (p : Pkt) (s : State),
    (secGetCertOp.reaches p s = true →
      (1 < p.u8 0 → exec (.secGetCert p) s = .next (s.ended secGetCertOp p stInvalid)) ∧
      (p.u8 0 ≤ 1 → exec (.secGetCert p) s = .next (s.ended secGetCertOp p stOk (leBytes 2 (s.chain (p.u8 0)).length ++
        leBytes 2 (p.u16 2) ++ ((s.chain (p.u8 0)).drop (p.u16 2)).take 4048)))) ∧
    (secCryptoEraseOp.reaches p s = true →
      (s.mayCommandKeys p.src = false → exec (.secCryptoErase p) s =
        .next ((s.noPriv p.src).ended secCryptoEraseOp p stOk (List.replicate 4 0#8))) ∧
      (s.mayCommandKeys p.src = true →
        (p.params.take 4 ≠ confirmErase → exec (.secCryptoErase p) s = .next (s.ended secCryptoEraseOp p stInvalid)) ∧
        (p.params.take 4 = confirmErase →
          (p.genOk (s.get Reg.SEC_GEN_GEN) = false →
            exec (.secCryptoErase p) s = .next (s.ended secCryptoEraseOp p stStale)) ∧
          (p.genOk (s.get Reg.SEC_GEN_GEN) = true →
            let no := s.eraseLock || s.tile.regions.any (·.active) || s.saving || s.restoring || decide (255 < s.nextEpoch)
            (no = true → exec (.secCryptoErase p) s = .next (s.ended secCryptoEraseOp p stForbids)) ∧
            (no = false → ∃ (t : State) (data : List Byte),
              exec (.secCryptoErase p) s = .next (t.ended secCryptoEraseOp p stOk data) ∧
              t.get Reg.SEC_STAT_EPOCH = s.nextEpoch % 2 ^ Reg.SEC_STAT_EPOCH.width ∧ t.save.mediaKey = 0 ∧
              t.get Reg.SEC_STAT_MK_SOURCE = 0 ∧ t.sec.erasing = true ∧ t.get Reg.DECK_STAT_STATE = 4 ∧
              t.get Reg.SEC_GEN_GEN = (s.get Reg.SEC_GEN_GEN + 1) % 2 ^ Reg.SEC_GEN_GEN.width ∧
              ∃ e ∈ t.raised, e.src = 0x1FE))))) ∧
    (secKeyRotateOp.reaches p s = true →
      (s.mayCommandKeys p.src = false → exec (.secKeyRotate p) s =
        .next ((s.noPriv p.src).ended secKeyRotateOp p stOk (List.replicate 4 0#8))) ∧
      (s.mayCommandKeys p.src = true →
        (p.genOk (s.get Reg.SEC_GEN_GEN) = false → exec (.secKeyRotate p) s = .next (s.ended secKeyRotateOp p stStale)) ∧
        (p.genOk (s.get Reg.SEC_GEN_GEN) = true →
          (1 < p.u8 0 → exec (.secKeyRotate p) s = .next (s.ended secKeyRotateOp p stInvalid)) ∧
          (p.u8 0 ≤ 1 →
            let no := s.saving || s.restoring || (decide (p.u8 0 = 1) && (decide (s.get Reg.DECK_STAT_STATE ≠ 2) ||
              s.flag Reg.SEC_STAT_ROTATE_PENDING || decide (s.get Reg.SEC_STAT_EPOCH = 255)))
            (no = true → exec (.secKeyRotate p) s = .next (s.ended secKeyRotateOp p stForbids)) ∧
            (no = false → ∃ (t : State) (data : List Byte),
              exec (.secKeyRotate p) s = .next (t.ended secKeyRotateOp p stOk data) ∧
              t.get Reg.SEC_GEN_GEN = (s.get Reg.SEC_GEN_GEN + 1) % 2 ^ Reg.SEC_GEN_GEN.width ∧
              (p.u8 0 = 0 → t.sec.aliasRot = s.sec.aliasRot + 1) ∧
              (p.u8 0 = 1 → t.get Reg.SEC_STAT_ROTATE_PENDING = 1 ∧ t.deck.refreshWanted = true) ∧
              ∃ e ∈ t.raised, e.src = 0x1FE))))) ∧
    (secEscrowSetOp.reaches p s = true →
      let key := sliceBytes p.params 4 97
      (s.mayCommandKeys p.src = false → exec (.secEscrowSet p) s =
        .next ((s.noPriv p.src).ended secEscrowSetOp p stOk (List.replicate 4 0#8))) ∧
      (s.mayCommandKeys p.src = true →
        (p.genOk (s.get Reg.SEC_GEN_GEN) = false → exec (.secEscrowSet p) s = .next (s.ended secEscrowSetOp p stStale)) ∧
        (p.genOk (s.get Reg.SEC_GEN_GEN) = true →
          ((1 < p.u8 0 ∨ (p.u8 0 = 0 ∧ keyOk key = false)) →
            exec (.secEscrowSet p) s = .next (s.ended secEscrowSetOp p stInvalid)) ∧
          (p.u8 0 = 0 → keyOk key = true →
            ((s.saving = true ∨ s.restoring = true) →
              exec (.secEscrowSet p) s = .next (s.ended secEscrowSetOp p stForbids)) ∧
            (s.saving = false → s.restoring = false →
              (s.escrowKey = some key → exec (.secEscrowSet p) s = .next (s.ended secEscrowSetOp p stOk s.secReply)) ∧
              (s.escrowKey ≠ some key → 24 ≤ s.sec.store.length →
                exec (.secEscrowSet p) s = .next (s.ended secEscrowSetOp p stForbids)) ∧
              (s.escrowKey ≠ some key → s.sec.store.length < 24 → ∃ (t : State) (data : List Byte),
                exec (.secEscrowSet p) s = .next (t.ended secEscrowSetOp p stOk data) ∧ t.escrowKey = some key ∧
                t.deck.refreshWanted = true ∧
                t.get Reg.SEC_GEN_GEN = (s.get Reg.SEC_GEN_GEN + 1) % 2 ^ Reg.SEC_GEN_GEN.width))) ∧
          (p.u8 0 = 1 → s.saving = false → s.restoring = false →
            (s.escrowKey = none → exec (.secEscrowSet p) s = .next (s.ended secEscrowSetOp p stOk s.secReply)) ∧
            (s.escrowKey.isSome = true → s.escrowLock = true →
              exec (.secEscrowSet p) s = .next (s.ended secEscrowSetOp p stForbids)) ∧
            (s.escrowKey.isSome = true → s.escrowLock = false → ∃ (t : State) (data : List Byte),
              exec (.secEscrowSet p) s = .next (t.ended secEscrowSetOp p stOk data) ∧ t.deck.refreshWanted = true ∧
              (∀ k ∈ t.sec.store, k.owner = false → s.escrowKey = some k.key → k.revoked = true) ∧
              t.get Reg.SEC_GEN_GEN = (s.get Reg.SEC_GEN_GEN + 1) % 2 ^ Reg.SEC_GEN_GEN.width)) ∧
          (p.u8 0 = 1 → (s.saving = true ∨ s.restoring = true) →
            exec (.secEscrowSet p) s = .next (s.ended secEscrowSetOp p stForbids)))))

/-- Power-on, power loss, SYS_RST_N, the package supplies, the clock and the temperature act as their rules say (R250, R521, R522, R523, R524, R548, R550, R556, R562, R563, R326). -/
def Obligations.ResetsAndPowerLoss : Prop :=
  (∀ (s : State) (straps : Fin 64),
    exec (.coldPowerOn straps) s = .next (if s.sys.dead = true ∧ ¬ (s.packState = packShip ∧
      s.get (Reg.GUARD_OUT_OUT 4) = 1) then s.resetTo 0 0 straps else s) ∧
    (∃ t : State, exec .powerLoss s = .next t ∧ t.sys.dead = true ∧ t.on = false ∧ t.regs = s.regs ∧ t.flash = s.flash) ∧
    (∃ t : State, exec .sysRstNRelease s = .next (if s.sys.rstHeld = true ∧ s.sys.dead = false then t.resetTo 4 0 0 else t) ∧
      t.sys.rstLow = false ∧ t.sys.rstWaits = false ∧ t.regs = s.regs)) ∧
  (∀ (s : State) (kind off straps : Nat), let t := s.resetTo kind off straps
    t.bar = 0 ∧ t.get Reg.SYS_STATE_STEP = 1 ∧ t.get Reg.SYS_RESET_CAUSE_KIND = kind % 16 ∧ t.pending = s.pending ∧
    t.dram.bytes = [] ∧ t.tile = State.reset.tile ∧ t.deck.header = s.deck.header ∧ t.deck.wear = s.deck.wear ∧
    t.get Reg.CMD_STAT_DYN_ADDR = 0 ∧ t.get Reg.EVT_IBI_IBI_EN = 1 ∧
    (kind = 0 ∨ kind = 2 → t.get Reg.CMD_STAT_STRAP_ID = straps % 64) ∧
    (kind ≠ 0 → kind ≠ 2 → t.get Reg.OP_SECONDS_SECONDS = s.get Reg.OP_SECONDS_SECONDS % 2 ^ 32)) ∧
  ∀ s : State, s.on = true →
    (∀ slot : Fin 6240,
      (s.pinWaits = true → ∃ t : State, exec (.sysRstNAssert slot) s = .next t ∧
        t.sys.rstWaits = true ∧ t.sys.rstHeld = s.sys.rstHeld ∧ t.regs = s.regs) ∧
      (s.pinWaits = false → ∃ t : State, exec (.sysRstNAssert slot) s = .next t ∧
        t.sys.rstHeld = true ∧ t.on = false ∧ t.get Reg.SEQ_LIVE_EN = 0 ∧ t.get Reg.SEQ_DIS_DIS = 0xFFFF)) ∧
    ((s.get Reg.SYS_STATE_STEP ≠ 1 ∨ s.flag Reg.SYS_STATE_HALT = true) → exec .pkgPgTimeout s = .next s) ∧
    (s.get Reg.SYS_STATE_STEP = 1 → s.flag Reg.SYS_STATE_HALT = false → ∃ t : State, exec .pkgPgTimeout s = .next t ∧
      t.sys.pkgTries = s.sys.pkgTries + 1 ∧ (t.sys.pkgHeld = true ↔ (s.sys.pkgTries + 1) % 3 = 0) ∧ t.regs = s.regs) ∧
    (∃ t : State, exec .supplyUndervoltage s = .next t ∧ t.sys.off = true ∧ t.get Reg.SYS_RESET_CAUSE_OFF_CAUSE = 0 ∧
      t.sys.offCauses = [1] ∧ t.save.latched = s.save.latched) ∧
    (∃ t : State, exec .thermalCutoff s = .next t ∧ t.sys.off = true ∧ t.get Reg.SYS_RESET_CAUSE_OFF_CAUSE = 5 ∧
      t.sys.offCauses = [5] ∧ t.save.latched = s.save.latched) ∧
    (s.get Reg.SYS_STATE_STEP = 1 → s.flag Reg.SYS_STATE_HALT = false → ∃ t : State, exec .crystalFault s = .next t ∧
      t.get Reg.SYS_STATE_HALT = 1 ∧ t.get Reg.SYS_STATE_HALT_STEP = 1 ∧ ∃ e ∈ t.raised, e.src = 0x003) ∧
    (s.get Reg.SYS_STATE_STEP ≠ 1 → s.sys.clockFault = false → ∃ t : State, exec .crystalFault s = .next t ∧
      t.sys.clockFault = true ∧ t.get Reg.SCORE_STAT_VOID_MASK = 255 ∧ ∃ e ∈ t.raised, e.src = 0x00E) ∧
    (∀ (l : List Int) (x : Int), l.max? = some x → ∃ t : State, exec (.dieTempRead l) s = .next t ∧
      t.get Reg.SYS_STAT_DIE_TEMP_C = (x % 256).toNat ∧ t.sys.dieAt = s.bar / 256 + 1 ∧
      t.sys.hotPhrases = (if x < 112 then 0 else if s.sys.dieAt = s.bar / 256 + 1 then s.sys.hotPhrases else s.sys.hotPhrases + 1) ∧
      (100 ≤ x → s.sys.dieWarn = false → t.sys.dieWarn = true ∧ ∃ e ∈ t.raised, e.src = 0x00A) ∧
      (x ≤ 95 → t.sys.dieWarn = false) ∧ (95 < x → s.sys.dieWarn = true → t.sys.dieWarn = true)) ∧
    (s.sys.hotPhrases < 4 → exec .thermalTrip s = .next s) ∧
    (4 ≤ s.sys.hotPhrases → ∃ t : State, exec .thermalTrip s = .next t ∧ t.sys.hotPhrases = 0 ∧
      t.save.latched = s.save.latched ++ [(5, false)] ∧ ∃ e ∈ t.raised, e.src = 0x00B) ∧
    (s.sys.resetReq = none → exec .resetDeviceExecute s = .next s) ∧
    (∀ k b src : Nat, s.sys.resetReq = some (k, b, src) →
      (s.bar % 256 ≠ 0 ∨ s.bar < b → exec .resetDeviceExecute s = .next s) ∧
      (s.bar % 256 = 0 → b ≤ s.bar → ∃ t : State, exec .resetDeviceExecute s = .next t ∧ t.sys.resetReq = none ∧
        (k = 1 → t.save.reset = true ∧
          (s.sys.tilesSet = true → s.inH = false → t.save.latched = s.save.latched ++ [(3, true)]) ∧
          ((s.sys.tilesSet = false ∨ s.inH = true) → t.save.shut = true ∧ t.save.latched = s.save.latched)) ∧
        (k ≠ 1 → (s.unit 0).held = false → (s.unit 1).held = false → t.get Reg.WARDEN_STAT_A_STATE = unitBooting ∧
          t.get Reg.WARDEN_STAT_B_STATE = unitBooting ∧ t.save = s.save))) ∧
    (s.get Reg.SYS_STATE_STEP ≤ 2 → exec .operatingSecond s = .next s) ∧
    (2 < s.get Reg.SYS_STATE_STEP → ∃ t : State, exec .operatingSecond s = .next t ∧
      t.get Reg.OP_SECONDS_SECONDS = (s.get Reg.OP_SECONDS_SECONDS + 1) % 2 ^ 32 ∧
      t.pack.rest = if s.flag Reg.PACK_STAT_AT_REST then s.pack.rest + 1 else s.pack.rest)

/-- A start-up step ends into the next, and power states are chosen, left and woken as the rules say (R123, R388, R524, R525, R526, R529, R530, R533, R534, R535). -/
def Obligations.StartUpStepsAndPowerStates : Prop :=
  ∀ s : State, s.on = true →
    (∀ r : StepReport, (s.stepMay = false → exec (.startupStepDone r) s = .next s) ∧
      (s.stepMay = true →
        (s.get Reg.SYS_STATE_STEP = 1 → ∃ t : State, exec (.startupStepDone r) s = .next t ∧ t.get Reg.SYS_STATE_STEP = 2 ∧
          t.flag Reg.TILE_SAVE_STAT_PFAIL = s.save.pfailPin ∧ ∃ e ∈ t.raised, e.src = 0x001) ∧
        (s.get Reg.SYS_STATE_STEP = 2 → ∃ t : State, exec (.startupStepDone r) s = .next t ∧ t.get Reg.SYS_STATE_STEP = 3 ∧
          t.get Reg.WARDEN_STAT_A_STATE = unitBooting ∧ t.get Reg.WARDEN_STAT_B_STATE = unitBooting) ∧
        (s.get Reg.SYS_STATE_STEP = 3 → ∃ t : State, exec (.startupStepDone r) s = .next t ∧
          (s.flag Reg.FL_OPTION_DEFAULTS = true → t.get Reg.SYS_STATE_STEP = 3 ∧ t.get Reg.SYS_STATE_HALT = 1 ∧
            t.get Reg.SYS_STATE_HALT_STEP = 2) ∧
          (s.flag Reg.FL_OPTION_DEFAULTS = false →
            ((bootVerify s.cardCfg s.bootGraph).isSome = true → t.get Reg.SYS_STATE_STEP = 3 ∧ t.get Reg.SYS_STATE_HALT = 1 ∧
              t.get Reg.SYS_STATE_HALT_STEP = 3 ∧ ∃ e ∈ t.raised, e.src = 0x058) ∧
            (bootVerify s.cardCfg s.bootGraph = none → t.get Reg.SYS_STATE_STEP = 4 ∧ t.seqState = seqWait ∧
              t.get (Reg.GUARD_OUT_OUT 1) = 1 ∧ ∃ e ∈ t.raised, e.src = 0x001))) ∧
        (s.get Reg.SYS_STATE_STEP = 4 → ∃ t : State, exec (.startupStepDone r) s = .next t ∧ t.get Reg.SYS_STATE_STEP = 5 ∧
          (∀ c : Fin 8, bitAt s.card.dchMask c = true → t.chState c = if s.chState c ≤ chInService then chTraining else s.chState c) ∧
          ∃ e ∈ t.raised, e.src = 0x001) ∧
        (s.get Reg.SYS_STATE_STEP = 5 → ∃ t : State, exec (.startupStepDone r) s = .next t ∧
          (∀ c : Fin 8, bitAt s.card.dchMask c = true → t.chState c = if s.chState c = chTraining then chInService else s.chState c) ∧
          (channels.any t.serving = true → t.get Reg.SYS_STATE_STEP = 6 ∧ t.get Reg.SCORE_STAT_BOOT = 1 ∧
            ∃ e ∈ t.raised, e.src = 0x057) ∧
          (channels.any t.serving = false → t.get Reg.SYS_STATE_STEP = 5 ∧ t.get Reg.SYS_STATE_HALT = 1 ∧
            t.get Reg.SYS_STATE_HALT_STEP = 5)) ∧
        (s.get Reg.SYS_STATE_STEP = 7 → s.sys.tilesSet = true → ∃ t : State, exec (.startupStepDone r) s = .next t ∧
          t.get Reg.SYS_STATE_STEP = 8 ∧ (∀ p : Fin 4, t.get (Reg.HPORT_STAT_LINK_STATE p) =
            if s.get (Reg.HPORT_STAT_LINK_STATE p) ≤ 1 then bit (t.mayTrain p) else s.get (Reg.HPORT_STAT_LINK_STATE p)) ∧
          ∃ e ∈ t.raised, e.src = 0x001) ∧
        (s.get Reg.SYS_STATE_STEP = 8 → ∃ t : State, exec (.startupStepDone r) s = .next t ∧ t.get Reg.SYS_STATE_STEP = 15 ∧
          (∀ p : Fin 4, t.get (Reg.HPORT_STAT_LINK_STATE p) ≠ 4) ∧ t.sys.hExit = none ∧ ∃ e ∈ t.raised, e.src = 0x001))) ∧
    ((s.bar % 256 ≠ 0 ∨ s.atDownbeat = false ∨ s.sys.chosenAt = s.bar + 1 ∨ s.get Reg.SYS_STATE_STEP ≠ 15 ∨ s.inH = true) →
      exec .powerStateSelect s = .next s) ∧
    (s.bar % 256 = 0 → s.atDownbeat = true → s.sys.chosenAt ≠ s.bar + 1 → s.get Reg.SYS_STATE_STEP = 15 → s.inH = false →
      let x := s.set Reg.SYS_PWR_STATE_T_KNOWN_MS (satW 16 (s.tKnown / 1000))
      let c := if x.save.wake = true ∧ x.working = false then (1, 2) else x.choosePower
      ∃ t : State, exec .powerStateSelect s = .next t ∧ t.sys.chosenAt = s.bar + 1 ∧
        (c.1 ≠ 4 → t.get Reg.SYS_PWR_STATE_STATE = c.1 % 8 ∧ t.get Reg.SYS_PWR_STATE_LIMIT = c.2 % 16) ∧
        (c.1 = 4 → t.get Reg.SYS_PWR_STATE_LIMIT = 0 ∧ t.get Reg.SYS_PWR_STATE_STATE = s.get Reg.SYS_PWR_STATE_STATE ∧
          (s.save.latched = [] → t.save.latched = [(6, false)]))) ∧
    (∀ us : Nat, let st := s.get Reg.SYS_PWR_STATE_STATE
      let up := s.working || s.save.wake || (decide (2 ≤ st) && decide (s.tKnown * 10 ≤ exitLatency st))
      ((st = 0 ∨ 3 < st ∨ up = false) → exec (.powerStateWake us) s = .next s) ∧
      (1 ≤ st → st ≤ 3 → up = true → ∃ t : State, exec (.powerStateWake us) s = .next t ∧
        t.get Reg.SYS_PWR_STATE_STATE = 0 ∧ t.sys.idle = 0 ∧ (∃ e ∈ t.raised, e.src = 0x005) ∧ t.seq.selfRefreshWait = false ∧
        (s.atDownbeat = true → ∀ c : Fin 8, t.flag (Reg.DCH_STAT_SELF_REFRESH c) = false) ∧
        (s.atDownbeat = false → (t.seq.selfRefreshExit = true ↔ ∃ c ∈ channels, s.flag (Reg.DCH_STAT_SELF_REFRESH c) = true)) ∧
        (exitLatency st < us * 10 → ∃ e ∈ t.raised, e.src = 0x009))) ∧
    ∀ cause : Fin 6,
      ((s.get Reg.SYS_PWR_STATE_STATE ≠ 4 ∨ s.sys.hExit.isSome = true ∨ s.save.shut = true ∨ s.exitCause cause = false) →
        exec (.hibernateExit cause) s = .next s) ∧
      (s.get Reg.SYS_PWR_STATE_STATE = 4 → s.sys.hExit = none → s.save.shut = false → s.exitCause cause = true → ∃ t : State,
        exec (.hibernateExit cause) s = .next t ∧ t.sys.hExit = some (cause.val, s.bar) ∧ t.get Reg.SYS_STATE_STEP = 5 ∧
        ∀ c : Fin 8, bitAt s.card.dchMask c = true → t.chState c = if s.chState c ≤ chInService then chTraining else s.chState c)

/-- A step runs the command at the front of the queue on the state whose queue is the rest; an empty queue idles (R20, R466, R469). -/
def Obligations.StepRunsTheFront : Prop :=
  ∀ s : State, (∀ (c : Instr) (rest : List Instr), s.pending = c :: rest → step s = exec c { s with pending := rest }) ∧
    (s.pending = [] → step s = .next s)

/-- After a cold power-on every field with a numeric Reset column holds it, live fields read zero, and the stores are canonical (R15, R456, R464, R525). -/
def Obligations.ResetValues : Prop :=
  (∀ r ∈ regTable, ∀ i < r.count, ∀ d ∈ r.fields, (r.base + i * r.stride) * 32 + d.lo ≠ 0x10000 * 32 + 28 →
    (r.base + i * r.stride) * 32 + d.lo ≠ 0x100A8 * 32 →
    match d.reset with
    | .num v => State.reset.get ⟨r.base + i * r.stride, d.lo, d.width⟩ = v
    | .live => State.reset.get ⟨r.base + i * r.stride, d.lo, d.width⟩ = 0
    | _ => True) ∧
  State.reset.get ⟨0x10000, 28, 1⟩ = 1 ∧ State.reset.get ⟨0x100A8, 0, 32⟩ = 0x1000 ∧ State.reset.get Reg.SYS_STATE_STEP = 1 ∧ State.reset.bar = 0 ∧
  State.reset.pending = [] ∧ State.reset.outs = [] ∧ State.reset.canonical = true

/-- A well-formed packet laid out as R471 says is read back as itself, and arrives at its mailbox without a fault of form (R6, R7, R471, R474). -/
def Obligations.PacketsSurviveTheWire : Prop :=
  ∀ p : Pkt, wfPkt p = true →
    p.encode.length = 20 + p.params.length ∧ leAt p.encode 0 1 = 1 ∧ leAt p.encode 7 1 = 0 ∧ leAt p.encode 0xE 2 = 0 ∧
    lengthBad p.encode = false ∧ crcBad p.encode = false ∧
    (∀ bar : Nat, parsePkt p.src p.encode bar = { p with rxBar := bar }) ∧
    ∀ (s : State) (port : Fin 4) (ld : Fin 16) (late : Bool), s.on = true → s.ldExists port ld = true →
      s.get Reg.WARDEN_STAT_ACTIVE ≠ 0 → (findOp p.opcode).isSome = true → ∃ t : State,
        exec (.mailboxCommandPacket port ld p.encode late) s = .next t ∧
        t.cmd.queue = s.cmd.queue ++
          [⟨{ p with src := .hport port, rxBar := s.bar }, s.bar + (if late then 2 else 1), none⟩] ∧
        t.regs = s.regs

/-- The address mapping of R117 puts every line of every frame in the card at a place of its own (R117, R118). -/
def Obligations.LinesHaveOnePlace : Prop :=
  ∀ (fpr rows ranks f i : Nat), (fpr = 4 ∨ fpr = 8) → (rows = 65536 ∨ rows = 98304 ∨ rows = 131072 ∨ rows = 262144) →
    f < 8 * (ranks * fpr * rows) → i < 1024 →
    let x := mapLine fpr rows f i
    x.channel < 8 ∧ x.rank < ranks ∧ x.sub < 2 ∧ x.bankGroup < 8 ∧ x.bank < 4 ∧ x.row < rows ∧ x.column < fpr * 256 ∧
    x.column % 16 = 0 ∧ ∀ f' i' : Nat, i' < 1024 → mapLine fpr rows f' i' = x → f' = f ∧ i' = i
end

