-- ==== Sys2Proof/Laws/Store.lean ====
section
/-! SUPPORT. The laws of the sparse stores: a read after a write, and every operation keeps the canonical form. -/

namespace Sys2Proof.Machine

variable {α : Type}

/-- The place just set holds what was put there. -/
theorem setAt_self (n : Nat) (d : α) (l : List α) {i : Nat} (x : α) (h : i < n) : (setAt n d l i x).getD i d = x := by
  simp [setAt, List.getD_eq_getElem?_getD, List.getElem?_map, List.getElem?_range h]

/-- Setting a place leaves every other one alone. -/
theorem setAt_ne (n : Nat) (d : α) (l : List α) {i j : Nat} (x : α) (hj : j < n) (h : j ≠ i) :
    (setAt n d l i x).getD j d = l.getD j d := by
  simp [setAt, List.getD_eq_getElem?_getD, List.getElem?_map, List.getElem?_range hj, h]

theorem Store.get_erase_self (d : α) (m : List (Nat × α)) (k : Nat) : Store.get d (Store.erase m k) k = d := by
  induction m with
  | nil => rfl
  | cons e m ih =>
    by_cases h : e.1 = k
    · simpa [Store.erase, h] using ih
    · simpa [Store.erase, Store.get, h] using ih

theorem Store.get_erase_ne (d : α) (m : List (Nat × α)) {k j : Nat} (hj : j ≠ k) :
    Store.get d (Store.erase m k) j = Store.get d m j := by
  induction m with
  | nil => rfl
  | cons e m ih =>
    by_cases h : e.1 = k
    · have : e.1 ≠ j := fun he => hj (he.symm.trans h)
      simpa [Store.erase, Store.get, h, this, Ne.symm hj] using ih
    · by_cases hk : e.1 = j
      · simp [Store.erase, Store.get, hk, hj]
      · simpa [Store.erase, Store.get, h, hk] using ih

theorem Store.get_insert_self (d v : α) (m : List (Nat × α)) (k : Nat) (hm : ∀ e ∈ m, e.1 ≠ k) :
    Store.get d (Store.insert k v m) k = v := by
  induction m with
  | nil => simp [Store.insert, Store.get]
  | cons e m ih =>
    have he : e.1 ≠ k := hm e (by simp)
    by_cases h : k < e.1
    · simp [Store.insert, h, Store.get]
    · simp [Store.insert, h, Store.get, he, ih fun x hx => hm x (by simp [hx])]

theorem Store.get_insert_ne (d v : α) (m : List (Nat × α)) {k j : Nat} (hj : j ≠ k) :
    Store.get d (Store.insert k v m) j = Store.get d m j := by
  induction m with
  | nil => simp [Store.insert, Store.get, Ne.symm hj]
  | cons e m ih =>
    by_cases h : k < e.1
    · simp [Store.insert, h, Store.get, Ne.symm hj]
    · by_cases hk : e.1 = j
      · subst hk
        simp [Store.insert, h, Store.get]
      · simp [Store.insert, h, Store.get, hk, ih]

theorem Store.erase_ne (m : List (Nat × α)) (k : Nat) : ∀ e ∈ Store.erase m k, e.1 ≠ k := by
  intro e he
  simpa using (List.mem_filter.mp he).2

/-- A read of the key just written gives what was written. -/
theorem Store.get_set_self [DecidableEq α] (d v : α) (m : List (Nat × α)) (k : Nat) :
    Store.get d (Store.set d m k v) k = v := by
  unfold Store.set
  split
  · next h => rw [Store.get_erase_self, h]
  · exact Store.get_insert_self d v _ k (Store.erase_ne m k)

/-- A write leaves every other key alone. -/
theorem Store.get_set_ne [DecidableEq α] (d v : α) (m : List (Nat × α)) {k j : Nat} (hj : j ≠ k) :
    Store.get d (Store.set d m k v) j = Store.get d m j := by
  unfold Store.set
  split
  · exact Store.get_erase_ne d m hj
  · rw [Store.get_insert_ne d v _ hj, Store.get_erase_ne d m hj]

/-- The canonical form, as two statements. -/
theorem Store.wf_iff [DecidableEq α] (d : α) (m : List (Nat × α)) :
    Store.wf d m = true ↔ (m.Pairwise fun a b => a.1 < b.1) ∧ ∀ e ∈ m, e.2 ≠ d := by
  simp [Store.wf]

theorem Store.insert_pairwise (k : Nat) (v : α) (m : List (Nat × α)) (hm : m.Pairwise fun a b => a.1 < b.1)
    (hk : ∀ e ∈ m, e.1 ≠ k) : (Store.insert k v m).Pairwise fun a b => a.1 < b.1 := by
  induction m with
  | nil => simp [Store.insert]
  | cons e m ih =>
    have hem := List.pairwise_cons.mp hm
    by_cases h : k < e.1
    · simp only [Store.insert, h, if_true, List.pairwise_cons]
      refine ⟨fun a ha => ?_, hem.1, hem.2⟩
      rcases List.mem_cons.mp ha with rfl | ha
      · exact h
      · exact Nat.lt_trans h (hem.1 a ha)
    · have hne : e.1 ≠ k := hk e (by simp)
      simp only [Store.insert, h, if_false, List.pairwise_cons]
      refine ⟨fun a ha => ?_, ih hem.2 fun x hx => hk x (by simp [hx])⟩
      have hins : ∀ l : List (Nat × α), ∀ a ∈ Store.insert k v l, a = (k, v) ∨ a ∈ l := by
        intro l
        induction l with
        | nil => simp [Store.insert]
        | cons x l il =>
          intro a ha
          by_cases hx : k < x.1
          · simpa [Store.insert, hx] using ha
          · simp only [Store.insert, hx, if_false, List.mem_cons] at ha
            rcases ha with rfl | ha
            · simp
            · rcases il a ha with h' | h' <;> simp [h']
      rcases hins m a ha with rfl | ha
      · exact Nat.lt_of_le_of_ne (Nat.le_of_not_lt h) hne
      · exact hem.1 a ha

/-- A write keeps the canonical form. -/
theorem Store.set_wf [DecidableEq α] (d v : α) (m : List (Nat × α)) (k : Nat) (hm : Store.wf d m = true) :
    Store.wf d (Store.set d m k v) = true := by
  rw [Store.wf_iff] at hm ⊢
  have he : (Store.erase m k).Pairwise fun a b => a.1 < b.1 := hm.1.filter _
  have hd : ∀ e ∈ Store.erase m k, e.2 ≠ d := fun e h => hm.2 e (List.mem_filter.mp h).1
  unfold Store.set
  split
  · exact ⟨he, hd⟩
  · next hv =>
    refine ⟨Store.insert_pairwise k v _ he (Store.erase_ne m k), ?_⟩
    have hins : ∀ l : List (Nat × α), (∀ e ∈ l, e.2 ≠ d) → ∀ e ∈ Store.insert k v l, e.2 ≠ d := by
      intro l
      induction l with
      | nil => simpa [Store.insert] using hv
      | cons x l il =>
        intro hl e hx
        by_cases hx' : k < x.1
        · simp only [Store.insert, hx', if_true, List.mem_cons] at hx
          rcases hx with rfl | hx
          · exact hv
          · exact hl e (by simpa using hx)
        · simp only [Store.insert, hx', if_false, List.mem_cons] at hx
          rcases hx with rfl | hx
          · exact hl e (by simp)
          · exact il (fun a ha => hl a (by simp [ha])) e hx
    exact hins _ hd

/-- A write of a byte string keeps the canonical form. -/
theorem Store.setRange_wf [DecidableEq α] (d : α) (m : List (Nat × α)) (k : Nat) (vs : List α)
    (hm : Store.wf d m = true) : Store.wf d (Store.setRange d m k vs) = true := by
  induction vs generalizing m k with
  | nil => simpa [Store.setRange] using hm
  | cons v vs ih => exact ih _ _ (Store.set_wf d v m k hm)

/-- Clearing a range keeps the canonical form. -/
theorem Store.clearRange_wf [DecidableEq α] (d : α) (m : List (Nat × α)) (lo hi : Nat) (hm : Store.wf d m = true) :
    Store.wf d (Store.clearRange m lo hi) = true := by
  rw [Store.wf_iff] at hm ⊢
  exact ⟨hm.1.filter _, fun e h => hm.2 e (List.mem_filter.mp h).1⟩

end Sys2Proof.Machine
end

