-- ==== Sys2Proof/Laws/State.lean ====
section
/-! SUPPORT. What each update of the state changes and leaves alone, one lemma per field; and the register file: a read after a
write of a field. -/

namespace Sys2Proof.Machine

variable (s : State)

/-! ### updSys -/

@[simp] theorem State.updSys_pending (f : SysState → SysState) : (s.updSys f).pending = s.pending := rfl
@[simp] theorem State.updSys_regs (f : SysState → SysState) : (s.updSys f).regs = s.regs := rfl
@[simp] theorem State.updSys_shadows (f : SysState → SysState) : (s.updSys f).shadows = s.shadows := rfl
@[simp] theorem State.updSys_bar (f : SysState → SysState) : (s.updSys f).bar = s.bar := rfl
@[simp] theorem State.updSys_slot (f : SysState → SysState) : (s.updSys f).slot = s.slot := rfl
@[simp] theorem State.updSys_slotIncs (f : SysState → SysState) : (s.updSys f).slotIncs = s.slotIncs := rfl
@[simp] theorem State.updSys_slotSets (f : SysState → SysState) : (s.updSys f).slotSets = s.slotSets := rfl
@[simp] theorem State.updSys_writes (f : SysState → SysState) : (s.updSys f).writes = s.writes := rfl
@[simp] theorem State.updSys_raised (f : SysState → SysState) : (s.updSys f).raised = s.raised := rfl
@[simp] theorem State.updSys_draws (f : SysState → SysState) : (s.updSys f).draws = s.draws := rfl
@[simp] theorem State.updSys_outs (f : SysState → SysState) : (s.updSys f).outs = s.outs := rfl
@[simp] theorem State.updSys_opt (f : SysState → SysState) : (s.updSys f).opt = s.opt := rfl
@[simp] theorem State.updSys_cmd (f : SysState → SysState) : (s.updSys f).cmd = s.cmd := rfl
@[simp] theorem State.updSys_seq (f : SysState → SysState) : (s.updSys f).seq = s.seq := rfl
@[simp] theorem State.updSys_dram (f : SysState → SysState) : (s.updSys f).dram = s.dram := rfl
@[simp] theorem State.updSys_tile (f : SysState → SysState) : (s.updSys f).tile = s.tile := rfl
@[simp] theorem State.updSys_save (f : SysState → SysState) : (s.updSys f).save = s.save := rfl
@[simp] theorem State.updSys_cxl (f : SysState → SysState) : (s.updSys f).cxl = s.cxl := rfl
@[simp] theorem State.updSys_deck (f : SysState → SysState) : (s.updSys f).deck = s.deck := rfl
@[simp] theorem State.updSys_card (f : SysState → SysState) : (s.updSys f).card = s.card := rfl
@[simp] theorem State.updSys_flash (f : SysState → SysState) : (s.updSys f).flash = s.flash := rfl
@[simp] theorem State.updSys_pack (f : SysState → SysState) : (s.updSys f).pack = s.pack := rfl
@[simp] theorem State.updSys_pwr (f : SysState → SysState) : (s.updSys f).pwr = s.pwr := rfl
@[simp] theorem State.updSys_warden (f : SysState → SysState) : (s.updSys f).warden = s.warden := rfl
@[simp] theorem State.updSys_recorder (f : SysState → SysState) : (s.updSys f).recorder = s.recorder := rfl
@[simp] theorem State.updSys_sec (f : SysState → SysState) : (s.updSys f).sec = s.sec := rfl
@[simp] theorem State.updSys_ch (f : SysState → SysState) (k : Nat) : (s.updSys f).ch k = s.ch k := rfl
@[simp] theorem State.updSys_portState (f : SysState → SysState) (k : Nat) : (s.updSys f).portState k = s.portState k := rfl
@[simp] theorem State.updSys_nch (f : SysState → SysState) (k : Nat) : (s.updSys f).nch k = s.nch k := rfl
@[simp] theorem State.updSys_region (f : SysState → SysState) (k : Nat) : (s.updSys f).region k = s.region k := rfl
@[simp] theorem State.updSys_code (f : SysState → SysState) (k : Nat) : (s.updSys f).code k = s.code k := rfl
@[simp] theorem State.updSys_frameOf (f : SysState → SysState) (k : Nat) : (s.updSys f).frameOf k = s.frameOf k := rfl
@[simp] theorem State.updSys_recOf (f : SysState → SysState) (k : Nat) : (s.updSys f).recOf k = s.recOf k := rfl
@[simp] theorem State.updSys_get (f : SysState → SysState) (g : Field) : (s.updSys f).get g = s.get g := rfl
@[simp] theorem State.updSys_self (f : SysState → SysState) : (s.updSys f).sys = f s.sys := rfl

/-! ### updTile -/

@[simp] theorem State.updTile_pending (f : TileState → TileState) : (s.updTile f).pending = s.pending := rfl
@[simp] theorem State.updTile_regs (f : TileState → TileState) : (s.updTile f).regs = s.regs := rfl
@[simp] theorem State.updTile_shadows (f : TileState → TileState) : (s.updTile f).shadows = s.shadows := rfl
@[simp] theorem State.updTile_bar (f : TileState → TileState) : (s.updTile f).bar = s.bar := rfl
@[simp] theorem State.updTile_slot (f : TileState → TileState) : (s.updTile f).slot = s.slot := rfl
@[simp] theorem State.updTile_slotIncs (f : TileState → TileState) : (s.updTile f).slotIncs = s.slotIncs := rfl
@[simp] theorem State.updTile_slotSets (f : TileState → TileState) : (s.updTile f).slotSets = s.slotSets := rfl
@[simp] theorem State.updTile_writes (f : TileState → TileState) : (s.updTile f).writes = s.writes := rfl
@[simp] theorem State.updTile_raised (f : TileState → TileState) : (s.updTile f).raised = s.raised := rfl
@[simp] theorem State.updTile_draws (f : TileState → TileState) : (s.updTile f).draws = s.draws := rfl
@[simp] theorem State.updTile_outs (f : TileState → TileState) : (s.updTile f).outs = s.outs := rfl
@[simp] theorem State.updTile_opt (f : TileState → TileState) : (s.updTile f).opt = s.opt := rfl
@[simp] theorem State.updTile_cmd (f : TileState → TileState) : (s.updTile f).cmd = s.cmd := rfl
@[simp] theorem State.updTile_seq (f : TileState → TileState) : (s.updTile f).seq = s.seq := rfl
@[simp] theorem State.updTile_dram (f : TileState → TileState) : (s.updTile f).dram = s.dram := rfl
@[simp] theorem State.updTile_save (f : TileState → TileState) : (s.updTile f).save = s.save := rfl
@[simp] theorem State.updTile_cxl (f : TileState → TileState) : (s.updTile f).cxl = s.cxl := rfl
@[simp] theorem State.updTile_deck (f : TileState → TileState) : (s.updTile f).deck = s.deck := rfl
@[simp] theorem State.updTile_card (f : TileState → TileState) : (s.updTile f).card = s.card := rfl
@[simp] theorem State.updTile_flash (f : TileState → TileState) : (s.updTile f).flash = s.flash := rfl
@[simp] theorem State.updTile_pack (f : TileState → TileState) : (s.updTile f).pack = s.pack := rfl
@[simp] theorem State.updTile_pwr (f : TileState → TileState) : (s.updTile f).pwr = s.pwr := rfl
@[simp] theorem State.updTile_warden (f : TileState → TileState) : (s.updTile f).warden = s.warden := rfl
@[simp] theorem State.updTile_recorder (f : TileState → TileState) : (s.updTile f).recorder = s.recorder := rfl
@[simp] theorem State.updTile_sec (f : TileState → TileState) : (s.updTile f).sec = s.sec := rfl
@[simp] theorem State.updTile_sys (f : TileState → TileState) : (s.updTile f).sys = s.sys := rfl
@[simp] theorem State.updTile_ch (f : TileState → TileState) (k : Nat) : (s.updTile f).ch k = s.ch k := rfl
@[simp] theorem State.updTile_portState (f : TileState → TileState) (k : Nat) : (s.updTile f).portState k = s.portState k := rfl
@[simp] theorem State.updTile_nch (f : TileState → TileState) (k : Nat) : (s.updTile f).nch k = s.nch k := rfl
@[simp] theorem State.updTile_recOf (f : TileState → TileState) (k : Nat) : (s.updTile f).recOf k = s.recOf k := rfl
@[simp] theorem State.updTile_get (f : TileState → TileState) (g : Field) : (s.updTile f).get g = s.get g := rfl
@[simp] theorem State.updTile_self (f : TileState → TileState) : (s.updTile f).tile = f s.tile := rfl

/-! ### updSave -/

@[simp] theorem State.updSave_pending (f : SaveState → SaveState) : (s.updSave f).pending = s.pending := rfl
@[simp] theorem State.updSave_regs (f : SaveState → SaveState) : (s.updSave f).regs = s.regs := rfl
@[simp] theorem State.updSave_shadows (f : SaveState → SaveState) : (s.updSave f).shadows = s.shadows := rfl
@[simp] theorem State.updSave_bar (f : SaveState → SaveState) : (s.updSave f).bar = s.bar := rfl
@[simp] theorem State.updSave_slot (f : SaveState → SaveState) : (s.updSave f).slot = s.slot := rfl
@[simp] theorem State.updSave_slotIncs (f : SaveState → SaveState) : (s.updSave f).slotIncs = s.slotIncs := rfl
@[simp] theorem State.updSave_slotSets (f : SaveState → SaveState) : (s.updSave f).slotSets = s.slotSets := rfl
@[simp] theorem State.updSave_writes (f : SaveState → SaveState) : (s.updSave f).writes = s.writes := rfl
@[simp] theorem State.updSave_raised (f : SaveState → SaveState) : (s.updSave f).raised = s.raised := rfl
@[simp] theorem State.updSave_draws (f : SaveState → SaveState) : (s.updSave f).draws = s.draws := rfl
@[simp] theorem State.updSave_outs (f : SaveState → SaveState) : (s.updSave f).outs = s.outs := rfl
@[simp] theorem State.updSave_opt (f : SaveState → SaveState) : (s.updSave f).opt = s.opt := rfl
@[simp] theorem State.updSave_cmd (f : SaveState → SaveState) : (s.updSave f).cmd = s.cmd := rfl
@[simp] theorem State.updSave_seq (f : SaveState → SaveState) : (s.updSave f).seq = s.seq := rfl
@[simp] theorem State.updSave_dram (f : SaveState → SaveState) : (s.updSave f).dram = s.dram := rfl
@[simp] theorem State.updSave_tile (f : SaveState → SaveState) : (s.updSave f).tile = s.tile := rfl
@[simp] theorem State.updSave_cxl (f : SaveState → SaveState) : (s.updSave f).cxl = s.cxl := rfl
@[simp] theorem State.updSave_deck (f : SaveState → SaveState) : (s.updSave f).deck = s.deck := rfl
@[simp] theorem State.updSave_card (f : SaveState → SaveState) : (s.updSave f).card = s.card := rfl
@[simp] theorem State.updSave_flash (f : SaveState → SaveState) : (s.updSave f).flash = s.flash := rfl
@[simp] theorem State.updSave_pack (f : SaveState → SaveState) : (s.updSave f).pack = s.pack := rfl
@[simp] theorem State.updSave_pwr (f : SaveState → SaveState) : (s.updSave f).pwr = s.pwr := rfl
@[simp] theorem State.updSave_warden (f : SaveState → SaveState) : (s.updSave f).warden = s.warden := rfl
@[simp] theorem State.updSave_recorder (f : SaveState → SaveState) : (s.updSave f).recorder = s.recorder := rfl
@[simp] theorem State.updSave_sec (f : SaveState → SaveState) : (s.updSave f).sec = s.sec := rfl
@[simp] theorem State.updSave_sys (f : SaveState → SaveState) : (s.updSave f).sys = s.sys := rfl
@[simp] theorem State.updSave_ch (f : SaveState → SaveState) (k : Nat) : (s.updSave f).ch k = s.ch k := rfl
@[simp] theorem State.updSave_portState (f : SaveState → SaveState) (k : Nat) : (s.updSave f).portState k = s.portState k := rfl
@[simp] theorem State.updSave_nch (f : SaveState → SaveState) (k : Nat) : (s.updSave f).nch k = s.nch k := rfl
@[simp] theorem State.updSave_region (f : SaveState → SaveState) (k : Nat) : (s.updSave f).region k = s.region k := rfl
@[simp] theorem State.updSave_code (f : SaveState → SaveState) (k : Nat) : (s.updSave f).code k = s.code k := rfl
@[simp] theorem State.updSave_frameOf (f : SaveState → SaveState) (k : Nat) : (s.updSave f).frameOf k = s.frameOf k := rfl
@[simp] theorem State.updSave_recOf (f : SaveState → SaveState) (k : Nat) : (s.updSave f).recOf k = s.recOf k := rfl
@[simp] theorem State.updSave_get (f : SaveState → SaveState) (g : Field) : (s.updSave f).get g = s.get g := rfl
@[simp] theorem State.updSave_self (f : SaveState → SaveState) : (s.updSave f).save = f s.save := rfl

/-! ### updDeck -/

@[simp] theorem State.updDeck_pending (f : DeckState → DeckState) : (s.updDeck f).pending = s.pending := rfl
@[simp] theorem State.updDeck_regs (f : DeckState → DeckState) : (s.updDeck f).regs = s.regs := rfl
@[simp] theorem State.updDeck_shadows (f : DeckState → DeckState) : (s.updDeck f).shadows = s.shadows := rfl
@[simp] theorem State.updDeck_bar (f : DeckState → DeckState) : (s.updDeck f).bar = s.bar := rfl
@[simp] theorem State.updDeck_slot (f : DeckState → DeckState) : (s.updDeck f).slot = s.slot := rfl
@[simp] theorem State.updDeck_slotIncs (f : DeckState → DeckState) : (s.updDeck f).slotIncs = s.slotIncs := rfl
@[simp] theorem State.updDeck_slotSets (f : DeckState → DeckState) : (s.updDeck f).slotSets = s.slotSets := rfl
@[simp] theorem State.updDeck_writes (f : DeckState → DeckState) : (s.updDeck f).writes = s.writes := rfl
@[simp] theorem State.updDeck_raised (f : DeckState → DeckState) : (s.updDeck f).raised = s.raised := rfl
@[simp] theorem State.updDeck_draws (f : DeckState → DeckState) : (s.updDeck f).draws = s.draws := rfl
@[simp] theorem State.updDeck_outs (f : DeckState → DeckState) : (s.updDeck f).outs = s.outs := rfl
@[simp] theorem State.updDeck_opt (f : DeckState → DeckState) : (s.updDeck f).opt = s.opt := rfl
@[simp] theorem State.updDeck_cmd (f : DeckState → DeckState) : (s.updDeck f).cmd = s.cmd := rfl
@[simp] theorem State.updDeck_seq (f : DeckState → DeckState) : (s.updDeck f).seq = s.seq := rfl
@[simp] theorem State.updDeck_dram (f : DeckState → DeckState) : (s.updDeck f).dram = s.dram := rfl
@[simp] theorem State.updDeck_tile (f : DeckState → DeckState) : (s.updDeck f).tile = s.tile := rfl
@[simp] theorem State.updDeck_save (f : DeckState → DeckState) : (s.updDeck f).save = s.save := rfl
@[simp] theorem State.updDeck_cxl (f : DeckState → DeckState) : (s.updDeck f).cxl = s.cxl := rfl
@[simp] theorem State.updDeck_card (f : DeckState → DeckState) : (s.updDeck f).card = s.card := rfl
@[simp] theorem State.updDeck_flash (f : DeckState → DeckState) : (s.updDeck f).flash = s.flash := rfl
@[simp] theorem State.updDeck_pack (f : DeckState → DeckState) : (s.updDeck f).pack = s.pack := rfl
@[simp] theorem State.updDeck_pwr (f : DeckState → DeckState) : (s.updDeck f).pwr = s.pwr := rfl
@[simp] theorem State.updDeck_warden (f : DeckState → DeckState) : (s.updDeck f).warden = s.warden := rfl
@[simp] theorem State.updDeck_recorder (f : DeckState → DeckState) : (s.updDeck f).recorder = s.recorder := rfl
@[simp] theorem State.updDeck_sec (f : DeckState → DeckState) : (s.updDeck f).sec = s.sec := rfl
@[simp] theorem State.updDeck_sys (f : DeckState → DeckState) : (s.updDeck f).sys = s.sys := rfl
@[simp] theorem State.updDeck_ch (f : DeckState → DeckState) (k : Nat) : (s.updDeck f).ch k = s.ch k := rfl
@[simp] theorem State.updDeck_portState (f : DeckState → DeckState) (k : Nat) : (s.updDeck f).portState k = s.portState k := rfl
@[simp] theorem State.updDeck_region (f : DeckState → DeckState) (k : Nat) : (s.updDeck f).region k = s.region k := rfl
@[simp] theorem State.updDeck_code (f : DeckState → DeckState) (k : Nat) : (s.updDeck f).code k = s.code k := rfl
@[simp] theorem State.updDeck_frameOf (f : DeckState → DeckState) (k : Nat) : (s.updDeck f).frameOf k = s.frameOf k := rfl
@[simp] theorem State.updDeck_get (f : DeckState → DeckState) (g : Field) : (s.updDeck f).get g = s.get g := rfl
@[simp] theorem State.updDeck_self (f : DeckState → DeckState) : (s.updDeck f).deck = f s.deck := rfl

/-! ### updCxl -/

@[simp] theorem State.updCxl_pending (f : CxlState → CxlState) : (s.updCxl f).pending = s.pending := rfl
@[simp] theorem State.updCxl_regs (f : CxlState → CxlState) : (s.updCxl f).regs = s.regs := rfl
@[simp] theorem State.updCxl_shadows (f : CxlState → CxlState) : (s.updCxl f).shadows = s.shadows := rfl
@[simp] theorem State.updCxl_bar (f : CxlState → CxlState) : (s.updCxl f).bar = s.bar := rfl
@[simp] theorem State.updCxl_slot (f : CxlState → CxlState) : (s.updCxl f).slot = s.slot := rfl
@[simp] theorem State.updCxl_slotIncs (f : CxlState → CxlState) : (s.updCxl f).slotIncs = s.slotIncs := rfl
@[simp] theorem State.updCxl_slotSets (f : CxlState → CxlState) : (s.updCxl f).slotSets = s.slotSets := rfl
@[simp] theorem State.updCxl_writes (f : CxlState → CxlState) : (s.updCxl f).writes = s.writes := rfl
@[simp] theorem State.updCxl_raised (f : CxlState → CxlState) : (s.updCxl f).raised = s.raised := rfl
@[simp] theorem State.updCxl_draws (f : CxlState → CxlState) : (s.updCxl f).draws = s.draws := rfl
@[simp] theorem State.updCxl_outs (f : CxlState → CxlState) : (s.updCxl f).outs = s.outs := rfl
@[simp] theorem State.updCxl_opt (f : CxlState → CxlState) : (s.updCxl f).opt = s.opt := rfl
@[simp] theorem State.updCxl_cmd (f : CxlState → CxlState) : (s.updCxl f).cmd = s.cmd := rfl
@[simp] theorem State.updCxl_seq (f : CxlState → CxlState) : (s.updCxl f).seq = s.seq := rfl
@[simp] theorem State.updCxl_dram (f : CxlState → CxlState) : (s.updCxl f).dram = s.dram := rfl
@[simp] theorem State.updCxl_tile (f : CxlState → CxlState) : (s.updCxl f).tile = s.tile := rfl
@[simp] theorem State.updCxl_save (f : CxlState → CxlState) : (s.updCxl f).save = s.save := rfl
@[simp] theorem State.updCxl_deck (f : CxlState → CxlState) : (s.updCxl f).deck = s.deck := rfl
@[simp] theorem State.updCxl_card (f : CxlState → CxlState) : (s.updCxl f).card = s.card := rfl
@[simp] theorem State.updCxl_flash (f : CxlState → CxlState) : (s.updCxl f).flash = s.flash := rfl
@[simp] theorem State.updCxl_pack (f : CxlState → CxlState) : (s.updCxl f).pack = s.pack := rfl
@[simp] theorem State.updCxl_pwr (f : CxlState → CxlState) : (s.updCxl f).pwr = s.pwr := rfl
@[simp] theorem State.updCxl_warden (f : CxlState → CxlState) : (s.updCxl f).warden = s.warden := rfl
@[simp] theorem State.updCxl_recorder (f : CxlState → CxlState) : (s.updCxl f).recorder = s.recorder := rfl
@[simp] theorem State.updCxl_sec (f : CxlState → CxlState) : (s.updCxl f).sec = s.sec := rfl
@[simp] theorem State.updCxl_sys (f : CxlState → CxlState) : (s.updCxl f).sys = s.sys := rfl
@[simp] theorem State.updCxl_ch (f : CxlState → CxlState) (k : Nat) : (s.updCxl f).ch k = s.ch k := rfl
@[simp] theorem State.updCxl_nch (f : CxlState → CxlState) (k : Nat) : (s.updCxl f).nch k = s.nch k := rfl
@[simp] theorem State.updCxl_region (f : CxlState → CxlState) (k : Nat) : (s.updCxl f).region k = s.region k := rfl
@[simp] theorem State.updCxl_code (f : CxlState → CxlState) (k : Nat) : (s.updCxl f).code k = s.code k := rfl
@[simp] theorem State.updCxl_frameOf (f : CxlState → CxlState) (k : Nat) : (s.updCxl f).frameOf k = s.frameOf k := rfl
@[simp] theorem State.updCxl_recOf (f : CxlState → CxlState) (k : Nat) : (s.updCxl f).recOf k = s.recOf k := rfl
@[simp] theorem State.updCxl_get (f : CxlState → CxlState) (g : Field) : (s.updCxl f).get g = s.get g := rfl
@[simp] theorem State.updCxl_self (f : CxlState → CxlState) : (s.updCxl f).cxl = f s.cxl := rfl

/-! ### updRec -/

@[simp] theorem State.updRec_pending (f : RecState → RecState) : (s.updRec f).pending = s.pending := rfl
@[simp] theorem State.updRec_regs (f : RecState → RecState) : (s.updRec f).regs = s.regs := rfl
@[simp] theorem State.updRec_shadows (f : RecState → RecState) : (s.updRec f).shadows = s.shadows := rfl
@[simp] theorem State.updRec_bar (f : RecState → RecState) : (s.updRec f).bar = s.bar := rfl
@[simp] theorem State.updRec_slot (f : RecState → RecState) : (s.updRec f).slot = s.slot := rfl
@[simp] theorem State.updRec_slotIncs (f : RecState → RecState) : (s.updRec f).slotIncs = s.slotIncs := rfl
@[simp] theorem State.updRec_slotSets (f : RecState → RecState) : (s.updRec f).slotSets = s.slotSets := rfl
@[simp] theorem State.updRec_writes (f : RecState → RecState) : (s.updRec f).writes = s.writes := rfl
@[simp] theorem State.updRec_raised (f : RecState → RecState) : (s.updRec f).raised = s.raised := rfl
@[simp] theorem State.updRec_draws (f : RecState → RecState) : (s.updRec f).draws = s.draws := rfl
@[simp] theorem State.updRec_outs (f : RecState → RecState) : (s.updRec f).outs = s.outs := rfl
@[simp] theorem State.updRec_opt (f : RecState → RecState) : (s.updRec f).opt = s.opt := rfl
@[simp] theorem State.updRec_cmd (f : RecState → RecState) : (s.updRec f).cmd = s.cmd := rfl
@[simp] theorem State.updRec_seq (f : RecState → RecState) : (s.updRec f).seq = s.seq := rfl
@[simp] theorem State.updRec_dram (f : RecState → RecState) : (s.updRec f).dram = s.dram := rfl
@[simp] theorem State.updRec_tile (f : RecState → RecState) : (s.updRec f).tile = s.tile := rfl
@[simp] theorem State.updRec_save (f : RecState → RecState) : (s.updRec f).save = s.save := rfl
@[simp] theorem State.updRec_cxl (f : RecState → RecState) : (s.updRec f).cxl = s.cxl := rfl
@[simp] theorem State.updRec_deck (f : RecState → RecState) : (s.updRec f).deck = s.deck := rfl
@[simp] theorem State.updRec_card (f : RecState → RecState) : (s.updRec f).card = s.card := rfl
@[simp] theorem State.updRec_flash (f : RecState → RecState) : (s.updRec f).flash = s.flash := rfl
@[simp] theorem State.updRec_pack (f : RecState → RecState) : (s.updRec f).pack = s.pack := rfl
@[simp] theorem State.updRec_pwr (f : RecState → RecState) : (s.updRec f).pwr = s.pwr := rfl
@[simp] theorem State.updRec_warden (f : RecState → RecState) : (s.updRec f).warden = s.warden := rfl
@[simp] theorem State.updRec_sec (f : RecState → RecState) : (s.updRec f).sec = s.sec := rfl
@[simp] theorem State.updRec_sys (f : RecState → RecState) : (s.updRec f).sys = s.sys := rfl
@[simp] theorem State.updRec_ch (f : RecState → RecState) (k : Nat) : (s.updRec f).ch k = s.ch k := rfl
@[simp] theorem State.updRec_portState (f : RecState → RecState) (k : Nat) : (s.updRec f).portState k = s.portState k := rfl
@[simp] theorem State.updRec_nch (f : RecState → RecState) (k : Nat) : (s.updRec f).nch k = s.nch k := rfl
@[simp] theorem State.updRec_region (f : RecState → RecState) (k : Nat) : (s.updRec f).region k = s.region k := rfl
@[simp] theorem State.updRec_code (f : RecState → RecState) (k : Nat) : (s.updRec f).code k = s.code k := rfl
@[simp] theorem State.updRec_frameOf (f : RecState → RecState) (k : Nat) : (s.updRec f).frameOf k = s.frameOf k := rfl
@[simp] theorem State.updRec_recOf (f : RecState → RecState) (k : Nat) : (s.updRec f).recOf k = s.recOf k := rfl
@[simp] theorem State.updRec_get (f : RecState → RecState) (g : Field) : (s.updRec f).get g = s.get g := rfl
@[simp] theorem State.updRec_self (f : RecState → RecState) : (s.updRec f).recorder = f s.recorder := rfl

/-! ### updFlash -/

@[simp] theorem State.updFlash_pending (f : FlashState → FlashState) : (s.updFlash f).pending = s.pending := rfl
@[simp] theorem State.updFlash_regs (f : FlashState → FlashState) : (s.updFlash f).regs = s.regs := rfl
@[simp] theorem State.updFlash_shadows (f : FlashState → FlashState) : (s.updFlash f).shadows = s.shadows := rfl
@[simp] theorem State.updFlash_bar (f : FlashState → FlashState) : (s.updFlash f).bar = s.bar := rfl
@[simp] theorem State.updFlash_slot (f : FlashState → FlashState) : (s.updFlash f).slot = s.slot := rfl
@[simp] theorem State.updFlash_slotIncs (f : FlashState → FlashState) : (s.updFlash f).slotIncs = s.slotIncs := rfl
@[simp] theorem State.updFlash_slotSets (f : FlashState → FlashState) : (s.updFlash f).slotSets = s.slotSets := rfl
@[simp] theorem State.updFlash_writes (f : FlashState → FlashState) : (s.updFlash f).writes = s.writes := rfl
@[simp] theorem State.updFlash_raised (f : FlashState → FlashState) : (s.updFlash f).raised = s.raised := rfl
@[simp] theorem State.updFlash_draws (f : FlashState → FlashState) : (s.updFlash f).draws = s.draws := rfl
@[simp] theorem State.updFlash_outs (f : FlashState → FlashState) : (s.updFlash f).outs = s.outs := rfl
@[simp] theorem State.updFlash_opt (f : FlashState → FlashState) : (s.updFlash f).opt = s.opt := rfl
@[simp] theorem State.updFlash_cmd (f : FlashState → FlashState) : (s.updFlash f).cmd = s.cmd := rfl
@[simp] theorem State.updFlash_seq (f : FlashState → FlashState) : (s.updFlash f).seq = s.seq := rfl
@[simp] theorem State.updFlash_dram (f : FlashState → FlashState) : (s.updFlash f).dram = s.dram := rfl
@[simp] theorem State.updFlash_tile (f : FlashState → FlashState) : (s.updFlash f).tile = s.tile := rfl
@[simp] theorem State.updFlash_save (f : FlashState → FlashState) : (s.updFlash f).save = s.save := rfl
@[simp] theorem State.updFlash_cxl (f : FlashState → FlashState) : (s.updFlash f).cxl = s.cxl := rfl
@[simp] theorem State.updFlash_deck (f : FlashState → FlashState) : (s.updFlash f).deck = s.deck := rfl
@[simp] theorem State.updFlash_card (f : FlashState → FlashState) : (s.updFlash f).card = s.card := rfl
@[simp] theorem State.updFlash_pack (f : FlashState → FlashState) : (s.updFlash f).pack = s.pack := rfl
@[simp] theorem State.updFlash_pwr (f : FlashState → FlashState) : (s.updFlash f).pwr = s.pwr := rfl
@[simp] theorem State.updFlash_warden (f : FlashState → FlashState) : (s.updFlash f).warden = s.warden := rfl
@[simp] theorem State.updFlash_recorder (f : FlashState → FlashState) : (s.updFlash f).recorder = s.recorder := rfl
@[simp] theorem State.updFlash_sec (f : FlashState → FlashState) : (s.updFlash f).sec = s.sec := rfl
@[simp] theorem State.updFlash_sys (f : FlashState → FlashState) : (s.updFlash f).sys = s.sys := rfl
@[simp] theorem State.updFlash_ch (f : FlashState → FlashState) (k : Nat) : (s.updFlash f).ch k = s.ch k := rfl
@[simp] theorem State.updFlash_portState (f : FlashState → FlashState) (k : Nat) : (s.updFlash f).portState k = s.portState k := rfl
@[simp] theorem State.updFlash_nch (f : FlashState → FlashState) (k : Nat) : (s.updFlash f).nch k = s.nch k := rfl
@[simp] theorem State.updFlash_region (f : FlashState → FlashState) (k : Nat) : (s.updFlash f).region k = s.region k := rfl
@[simp] theorem State.updFlash_code (f : FlashState → FlashState) (k : Nat) : (s.updFlash f).code k = s.code k := rfl
@[simp] theorem State.updFlash_frameOf (f : FlashState → FlashState) (k : Nat) : (s.updFlash f).frameOf k = s.frameOf k := rfl
@[simp] theorem State.updFlash_recOf (f : FlashState → FlashState) (k : Nat) : (s.updFlash f).recOf k = s.recOf k := rfl
@[simp] theorem State.updFlash_get (f : FlashState → FlashState) (g : Field) : (s.updFlash f).get g = s.get g := rfl
@[simp] theorem State.updFlash_self (f : FlashState → FlashState) : (s.updFlash f).flash = f s.flash := rfl

/-! ### updSec -/

@[simp] theorem State.updSec_pending (f : SecState → SecState) : (s.updSec f).pending = s.pending := rfl
@[simp] theorem State.updSec_regs (f : SecState → SecState) : (s.updSec f).regs = s.regs := rfl
@[simp] theorem State.updSec_shadows (f : SecState → SecState) : (s.updSec f).shadows = s.shadows := rfl
@[simp] theorem State.updSec_bar (f : SecState → SecState) : (s.updSec f).bar = s.bar := rfl
@[simp] theorem State.updSec_slot (f : SecState → SecState) : (s.updSec f).slot = s.slot := rfl
@[simp] theorem State.updSec_slotIncs (f : SecState → SecState) : (s.updSec f).slotIncs = s.slotIncs := rfl
@[simp] theorem State.updSec_slotSets (f : SecState → SecState) : (s.updSec f).slotSets = s.slotSets := rfl
@[simp] theorem State.updSec_writes (f : SecState → SecState) : (s.updSec f).writes = s.writes := rfl
@[simp] theorem State.updSec_raised (f : SecState → SecState) : (s.updSec f).raised = s.raised := rfl
@[simp] theorem State.updSec_draws (f : SecState → SecState) : (s.updSec f).draws = s.draws := rfl
@[simp] theorem State.updSec_outs (f : SecState → SecState) : (s.updSec f).outs = s.outs := rfl
@[simp] theorem State.updSec_opt (f : SecState → SecState) : (s.updSec f).opt = s.opt := rfl
@[simp] theorem State.updSec_cmd (f : SecState → SecState) : (s.updSec f).cmd = s.cmd := rfl
@[simp] theorem State.updSec_seq (f : SecState → SecState) : (s.updSec f).seq = s.seq := rfl
@[simp] theorem State.updSec_dram (f : SecState → SecState) : (s.updSec f).dram = s.dram := rfl
@[simp] theorem State.updSec_tile (f : SecState → SecState) : (s.updSec f).tile = s.tile := rfl
@[simp] theorem State.updSec_save (f : SecState → SecState) : (s.updSec f).save = s.save := rfl
@[simp] theorem State.updSec_cxl (f : SecState → SecState) : (s.updSec f).cxl = s.cxl := rfl
@[simp] theorem State.updSec_deck (f : SecState → SecState) : (s.updSec f).deck = s.deck := rfl
@[simp] theorem State.updSec_card (f : SecState → SecState) : (s.updSec f).card = s.card := rfl
@[simp] theorem State.updSec_flash (f : SecState → SecState) : (s.updSec f).flash = s.flash := rfl
@[simp] theorem State.updSec_pack (f : SecState → SecState) : (s.updSec f).pack = s.pack := rfl
@[simp] theorem State.updSec_pwr (f : SecState → SecState) : (s.updSec f).pwr = s.pwr := rfl
@[simp] theorem State.updSec_warden (f : SecState → SecState) : (s.updSec f).warden = s.warden := rfl
@[simp] theorem State.updSec_recorder (f : SecState → SecState) : (s.updSec f).recorder = s.recorder := rfl
@[simp] theorem State.updSec_sys (f : SecState → SecState) : (s.updSec f).sys = s.sys := rfl
@[simp] theorem State.updSec_ch (f : SecState → SecState) (k : Nat) : (s.updSec f).ch k = s.ch k := rfl
@[simp] theorem State.updSec_portState (f : SecState → SecState) (k : Nat) : (s.updSec f).portState k = s.portState k := rfl
@[simp] theorem State.updSec_nch (f : SecState → SecState) (k : Nat) : (s.updSec f).nch k = s.nch k := rfl
@[simp] theorem State.updSec_region (f : SecState → SecState) (k : Nat) : (s.updSec f).region k = s.region k := rfl
@[simp] theorem State.updSec_code (f : SecState → SecState) (k : Nat) : (s.updSec f).code k = s.code k := rfl
@[simp] theorem State.updSec_frameOf (f : SecState → SecState) (k : Nat) : (s.updSec f).frameOf k = s.frameOf k := rfl
@[simp] theorem State.updSec_recOf (f : SecState → SecState) (k : Nat) : (s.updSec f).recOf k = s.recOf k := rfl
@[simp] theorem State.updSec_get (f : SecState → SecState) (g : Field) : (s.updSec f).get g = s.get g := rfl
@[simp] theorem State.updSec_self (f : SecState → SecState) : (s.updSec f).sec = f s.sec := rfl

/-! ### updPack -/

@[simp] theorem State.updPack_pending (f : PackState → PackState) : (s.updPack f).pending = s.pending := rfl
@[simp] theorem State.updPack_regs (f : PackState → PackState) : (s.updPack f).regs = s.regs := rfl
@[simp] theorem State.updPack_shadows (f : PackState → PackState) : (s.updPack f).shadows = s.shadows := rfl
@[simp] theorem State.updPack_bar (f : PackState → PackState) : (s.updPack f).bar = s.bar := rfl
@[simp] theorem State.updPack_slot (f : PackState → PackState) : (s.updPack f).slot = s.slot := rfl
@[simp] theorem State.updPack_slotIncs (f : PackState → PackState) : (s.updPack f).slotIncs = s.slotIncs := rfl
@[simp] theorem State.updPack_slotSets (f : PackState → PackState) : (s.updPack f).slotSets = s.slotSets := rfl
@[simp] theorem State.updPack_writes (f : PackState → PackState) : (s.updPack f).writes = s.writes := rfl
@[simp] theorem State.updPack_raised (f : PackState → PackState) : (s.updPack f).raised = s.raised := rfl
@[simp] theorem State.updPack_draws (f : PackState → PackState) : (s.updPack f).draws = s.draws := rfl
@[simp] theorem State.updPack_outs (f : PackState → PackState) : (s.updPack f).outs = s.outs := rfl
@[simp] theorem State.updPack_opt (f : PackState → PackState) : (s.updPack f).opt = s.opt := rfl
@[simp] theorem State.updPack_cmd (f : PackState → PackState) : (s.updPack f).cmd = s.cmd := rfl
@[simp] theorem State.updPack_seq (f : PackState → PackState) : (s.updPack f).seq = s.seq := rfl
@[simp] theorem State.updPack_dram (f : PackState → PackState) : (s.updPack f).dram = s.dram := rfl
@[simp] theorem State.updPack_tile (f : PackState → PackState) : (s.updPack f).tile = s.tile := rfl
@[simp] theorem State.updPack_save (f : PackState → PackState) : (s.updPack f).save = s.save := rfl
@[simp] theorem State.updPack_cxl (f : PackState → PackState) : (s.updPack f).cxl = s.cxl := rfl
@[simp] theorem State.updPack_deck (f : PackState → PackState) : (s.updPack f).deck = s.deck := rfl
@[simp] theorem State.updPack_card (f : PackState → PackState) : (s.updPack f).card = s.card := rfl
@[simp] theorem State.updPack_flash (f : PackState → PackState) : (s.updPack f).flash = s.flash := rfl
@[simp] theorem State.updPack_pwr (f : PackState → PackState) : (s.updPack f).pwr = s.pwr := rfl
@[simp] theorem State.updPack_warden (f : PackState → PackState) : (s.updPack f).warden = s.warden := rfl
@[simp] theorem State.updPack_recorder (f : PackState → PackState) : (s.updPack f).recorder = s.recorder := rfl
@[simp] theorem State.updPack_sec (f : PackState → PackState) : (s.updPack f).sec = s.sec := rfl
@[simp] theorem State.updPack_sys (f : PackState → PackState) : (s.updPack f).sys = s.sys := rfl
@[simp] theorem State.updPack_ch (f : PackState → PackState) (k : Nat) : (s.updPack f).ch k = s.ch k := rfl
@[simp] theorem State.updPack_portState (f : PackState → PackState) (k : Nat) : (s.updPack f).portState k = s.portState k := rfl
@[simp] theorem State.updPack_nch (f : PackState → PackState) (k : Nat) : (s.updPack f).nch k = s.nch k := rfl
@[simp] theorem State.updPack_region (f : PackState → PackState) (k : Nat) : (s.updPack f).region k = s.region k := rfl
@[simp] theorem State.updPack_code (f : PackState → PackState) (k : Nat) : (s.updPack f).code k = s.code k := rfl
@[simp] theorem State.updPack_frameOf (f : PackState → PackState) (k : Nat) : (s.updPack f).frameOf k = s.frameOf k := rfl
@[simp] theorem State.updPack_recOf (f : PackState → PackState) (k : Nat) : (s.updPack f).recOf k = s.recOf k := rfl
@[simp] theorem State.updPack_get (f : PackState → PackState) (g : Field) : (s.updPack f).get g = s.get g := rfl
@[simp] theorem State.updPack_self (f : PackState → PackState) : (s.updPack f).pack = f s.pack := rfl

/-! ### updCmd -/

@[simp] theorem State.updCmd_pending (f : CmdState → CmdState) : (s.updCmd f).pending = s.pending := rfl
@[simp] theorem State.updCmd_regs (f : CmdState → CmdState) : (s.updCmd f).regs = s.regs := rfl
@[simp] theorem State.updCmd_shadows (f : CmdState → CmdState) : (s.updCmd f).shadows = s.shadows := rfl
@[simp] theorem State.updCmd_bar (f : CmdState → CmdState) : (s.updCmd f).bar = s.bar := rfl
@[simp] theorem State.updCmd_slot (f : CmdState → CmdState) : (s.updCmd f).slot = s.slot := rfl
@[simp] theorem State.updCmd_slotIncs (f : CmdState → CmdState) : (s.updCmd f).slotIncs = s.slotIncs := rfl
@[simp] theorem State.updCmd_slotSets (f : CmdState → CmdState) : (s.updCmd f).slotSets = s.slotSets := rfl
@[simp] theorem State.updCmd_writes (f : CmdState → CmdState) : (s.updCmd f).writes = s.writes := rfl
@[simp] theorem State.updCmd_raised (f : CmdState → CmdState) : (s.updCmd f).raised = s.raised := rfl
@[simp] theorem State.updCmd_draws (f : CmdState → CmdState) : (s.updCmd f).draws = s.draws := rfl
@[simp] theorem State.updCmd_outs (f : CmdState → CmdState) : (s.updCmd f).outs = s.outs := rfl
@[simp] theorem State.updCmd_opt (f : CmdState → CmdState) : (s.updCmd f).opt = s.opt := rfl
@[simp] theorem State.updCmd_seq (f : CmdState → CmdState) : (s.updCmd f).seq = s.seq := rfl
@[simp] theorem State.updCmd_dram (f : CmdState → CmdState) : (s.updCmd f).dram = s.dram := rfl
@[simp] theorem State.updCmd_tile (f : CmdState → CmdState) : (s.updCmd f).tile = s.tile := rfl
@[simp] theorem State.updCmd_save (f : CmdState → CmdState) : (s.updCmd f).save = s.save := rfl
@[simp] theorem State.updCmd_cxl (f : CmdState → CmdState) : (s.updCmd f).cxl = s.cxl := rfl
@[simp] theorem State.updCmd_deck (f : CmdState → CmdState) : (s.updCmd f).deck = s.deck := rfl
@[simp] theorem State.updCmd_card (f : CmdState → CmdState) : (s.updCmd f).card = s.card := rfl
@[simp] theorem State.updCmd_flash (f : CmdState → CmdState) : (s.updCmd f).flash = s.flash := rfl
@[simp] theorem State.updCmd_pack (f : CmdState → CmdState) : (s.updCmd f).pack = s.pack := rfl
@[simp] theorem State.updCmd_pwr (f : CmdState → CmdState) : (s.updCmd f).pwr = s.pwr := rfl
@[simp] theorem State.updCmd_warden (f : CmdState → CmdState) : (s.updCmd f).warden = s.warden := rfl
@[simp] theorem State.updCmd_recorder (f : CmdState → CmdState) : (s.updCmd f).recorder = s.recorder := rfl
@[simp] theorem State.updCmd_sec (f : CmdState → CmdState) : (s.updCmd f).sec = s.sec := rfl
@[simp] theorem State.updCmd_sys (f : CmdState → CmdState) : (s.updCmd f).sys = s.sys := rfl
@[simp] theorem State.updCmd_ch (f : CmdState → CmdState) (k : Nat) : (s.updCmd f).ch k = s.ch k := rfl
@[simp] theorem State.updCmd_portState (f : CmdState → CmdState) (k : Nat) : (s.updCmd f).portState k = s.portState k := rfl
@[simp] theorem State.updCmd_nch (f : CmdState → CmdState) (k : Nat) : (s.updCmd f).nch k = s.nch k := rfl
@[simp] theorem State.updCmd_region (f : CmdState → CmdState) (k : Nat) : (s.updCmd f).region k = s.region k := rfl
@[simp] theorem State.updCmd_code (f : CmdState → CmdState) (k : Nat) : (s.updCmd f).code k = s.code k := rfl
@[simp] theorem State.updCmd_frameOf (f : CmdState → CmdState) (k : Nat) : (s.updCmd f).frameOf k = s.frameOf k := rfl
@[simp] theorem State.updCmd_recOf (f : CmdState → CmdState) (k : Nat) : (s.updCmd f).recOf k = s.recOf k := rfl
@[simp] theorem State.updCmd_get (f : CmdState → CmdState) (g : Field) : (s.updCmd f).get g = s.get g := rfl
@[simp] theorem State.updCmd_self (f : CmdState → CmdState) : (s.updCmd f).cmd = f s.cmd := rfl

/-! ### updPwr -/

@[simp] theorem State.updPwr_pending (f : SeqPwr → SeqPwr) : (s.updPwr f).pending = s.pending := rfl
@[simp] theorem State.updPwr_regs (f : SeqPwr → SeqPwr) : (s.updPwr f).regs = s.regs := rfl
@[simp] theorem State.updPwr_shadows (f : SeqPwr → SeqPwr) : (s.updPwr f).shadows = s.shadows := rfl
@[simp] theorem State.updPwr_bar (f : SeqPwr → SeqPwr) : (s.updPwr f).bar = s.bar := rfl
@[simp] theorem State.updPwr_slot (f : SeqPwr → SeqPwr) : (s.updPwr f).slot = s.slot := rfl
@[simp] theorem State.updPwr_slotIncs (f : SeqPwr → SeqPwr) : (s.updPwr f).slotIncs = s.slotIncs := rfl
@[simp] theorem State.updPwr_slotSets (f : SeqPwr → SeqPwr) : (s.updPwr f).slotSets = s.slotSets := rfl
@[simp] theorem State.updPwr_writes (f : SeqPwr → SeqPwr) : (s.updPwr f).writes = s.writes := rfl
@[simp] theorem State.updPwr_raised (f : SeqPwr → SeqPwr) : (s.updPwr f).raised = s.raised := rfl
@[simp] theorem State.updPwr_draws (f : SeqPwr → SeqPwr) : (s.updPwr f).draws = s.draws := rfl
@[simp] theorem State.updPwr_outs (f : SeqPwr → SeqPwr) : (s.updPwr f).outs = s.outs := rfl
@[simp] theorem State.updPwr_opt (f : SeqPwr → SeqPwr) : (s.updPwr f).opt = s.opt := rfl
@[simp] theorem State.updPwr_cmd (f : SeqPwr → SeqPwr) : (s.updPwr f).cmd = s.cmd := rfl
@[simp] theorem State.updPwr_seq (f : SeqPwr → SeqPwr) : (s.updPwr f).seq = s.seq := rfl
@[simp] theorem State.updPwr_dram (f : SeqPwr → SeqPwr) : (s.updPwr f).dram = s.dram := rfl
@[simp] theorem State.updPwr_tile (f : SeqPwr → SeqPwr) : (s.updPwr f).tile = s.tile := rfl
@[simp] theorem State.updPwr_save (f : SeqPwr → SeqPwr) : (s.updPwr f).save = s.save := rfl
@[simp] theorem State.updPwr_cxl (f : SeqPwr → SeqPwr) : (s.updPwr f).cxl = s.cxl := rfl
@[simp] theorem State.updPwr_deck (f : SeqPwr → SeqPwr) : (s.updPwr f).deck = s.deck := rfl
@[simp] theorem State.updPwr_card (f : SeqPwr → SeqPwr) : (s.updPwr f).card = s.card := rfl
@[simp] theorem State.updPwr_flash (f : SeqPwr → SeqPwr) : (s.updPwr f).flash = s.flash := rfl
@[simp] theorem State.updPwr_pack (f : SeqPwr → SeqPwr) : (s.updPwr f).pack = s.pack := rfl
@[simp] theorem State.updPwr_warden (f : SeqPwr → SeqPwr) : (s.updPwr f).warden = s.warden := rfl
@[simp] theorem State.updPwr_recorder (f : SeqPwr → SeqPwr) : (s.updPwr f).recorder = s.recorder := rfl
@[simp] theorem State.updPwr_sec (f : SeqPwr → SeqPwr) : (s.updPwr f).sec = s.sec := rfl
@[simp] theorem State.updPwr_sys (f : SeqPwr → SeqPwr) : (s.updPwr f).sys = s.sys := rfl
@[simp] theorem State.updPwr_ch (f : SeqPwr → SeqPwr) (k : Nat) : (s.updPwr f).ch k = s.ch k := rfl
@[simp] theorem State.updPwr_portState (f : SeqPwr → SeqPwr) (k : Nat) : (s.updPwr f).portState k = s.portState k := rfl
@[simp] theorem State.updPwr_nch (f : SeqPwr → SeqPwr) (k : Nat) : (s.updPwr f).nch k = s.nch k := rfl
@[simp] theorem State.updPwr_region (f : SeqPwr → SeqPwr) (k : Nat) : (s.updPwr f).region k = s.region k := rfl
@[simp] theorem State.updPwr_code (f : SeqPwr → SeqPwr) (k : Nat) : (s.updPwr f).code k = s.code k := rfl
@[simp] theorem State.updPwr_frameOf (f : SeqPwr → SeqPwr) (k : Nat) : (s.updPwr f).frameOf k = s.frameOf k := rfl
@[simp] theorem State.updPwr_recOf (f : SeqPwr → SeqPwr) (k : Nat) : (s.updPwr f).recOf k = s.recOf k := rfl
@[simp] theorem State.updPwr_get (f : SeqPwr → SeqPwr) (g : Field) : (s.updPwr f).get g = s.get g := rfl
@[simp] theorem State.updPwr_self (f : SeqPwr → SeqPwr) : (s.updPwr f).pwr = f s.pwr := rfl

/-! ### updSeq -/

@[simp] theorem State.updSeq_pending (f : SeqState → SeqState) : (s.updSeq f).pending = s.pending := rfl
@[simp] theorem State.updSeq_regs (f : SeqState → SeqState) : (s.updSeq f).regs = s.regs := rfl
@[simp] theorem State.updSeq_shadows (f : SeqState → SeqState) : (s.updSeq f).shadows = s.shadows := rfl
@[simp] theorem State.updSeq_bar (f : SeqState → SeqState) : (s.updSeq f).bar = s.bar := rfl
@[simp] theorem State.updSeq_slot (f : SeqState → SeqState) : (s.updSeq f).slot = s.slot := rfl
@[simp] theorem State.updSeq_slotIncs (f : SeqState → SeqState) : (s.updSeq f).slotIncs = s.slotIncs := rfl
@[simp] theorem State.updSeq_slotSets (f : SeqState → SeqState) : (s.updSeq f).slotSets = s.slotSets := rfl
@[simp] theorem State.updSeq_writes (f : SeqState → SeqState) : (s.updSeq f).writes = s.writes := rfl
@[simp] theorem State.updSeq_raised (f : SeqState → SeqState) : (s.updSeq f).raised = s.raised := rfl
@[simp] theorem State.updSeq_draws (f : SeqState → SeqState) : (s.updSeq f).draws = s.draws := rfl
@[simp] theorem State.updSeq_outs (f : SeqState → SeqState) : (s.updSeq f).outs = s.outs := rfl
@[simp] theorem State.updSeq_opt (f : SeqState → SeqState) : (s.updSeq f).opt = s.opt := rfl
@[simp] theorem State.updSeq_cmd (f : SeqState → SeqState) : (s.updSeq f).cmd = s.cmd := rfl
@[simp] theorem State.updSeq_dram (f : SeqState → SeqState) : (s.updSeq f).dram = s.dram := rfl
@[simp] theorem State.updSeq_tile (f : SeqState → SeqState) : (s.updSeq f).tile = s.tile := rfl
@[simp] theorem State.updSeq_save (f : SeqState → SeqState) : (s.updSeq f).save = s.save := rfl
@[simp] theorem State.updSeq_cxl (f : SeqState → SeqState) : (s.updSeq f).cxl = s.cxl := rfl
@[simp] theorem State.updSeq_deck (f : SeqState → SeqState) : (s.updSeq f).deck = s.deck := rfl
@[simp] theorem State.updSeq_card (f : SeqState → SeqState) : (s.updSeq f).card = s.card := rfl
@[simp] theorem State.updSeq_flash (f : SeqState → SeqState) : (s.updSeq f).flash = s.flash := rfl
@[simp] theorem State.updSeq_pack (f : SeqState → SeqState) : (s.updSeq f).pack = s.pack := rfl
@[simp] theorem State.updSeq_pwr (f : SeqState → SeqState) : (s.updSeq f).pwr = s.pwr := rfl
@[simp] theorem State.updSeq_warden (f : SeqState → SeqState) : (s.updSeq f).warden = s.warden := rfl
@[simp] theorem State.updSeq_recorder (f : SeqState → SeqState) : (s.updSeq f).recorder = s.recorder := rfl
@[simp] theorem State.updSeq_sec (f : SeqState → SeqState) : (s.updSeq f).sec = s.sec := rfl
@[simp] theorem State.updSeq_sys (f : SeqState → SeqState) : (s.updSeq f).sys = s.sys := rfl
@[simp] theorem State.updSeq_ch (f : SeqState → SeqState) (k : Nat) : (s.updSeq f).ch k = s.ch k := rfl
@[simp] theorem State.updSeq_portState (f : SeqState → SeqState) (k : Nat) : (s.updSeq f).portState k = s.portState k := rfl
@[simp] theorem State.updSeq_nch (f : SeqState → SeqState) (k : Nat) : (s.updSeq f).nch k = s.nch k := rfl
@[simp] theorem State.updSeq_region (f : SeqState → SeqState) (k : Nat) : (s.updSeq f).region k = s.region k := rfl
@[simp] theorem State.updSeq_code (f : SeqState → SeqState) (k : Nat) : (s.updSeq f).code k = s.code k := rfl
@[simp] theorem State.updSeq_frameOf (f : SeqState → SeqState) (k : Nat) : (s.updSeq f).frameOf k = s.frameOf k := rfl
@[simp] theorem State.updSeq_recOf (f : SeqState → SeqState) (k : Nat) : (s.updSeq f).recOf k = s.recOf k := rfl
@[simp] theorem State.updSeq_get (f : SeqState → SeqState) (g : Field) : (s.updSeq f).get g = s.get g := rfl
@[simp] theorem State.updSeq_self (f : SeqState → SeqState) : (s.updSeq f).seq = f s.seq := rfl

/-! ### updWarden -/

@[simp] theorem State.updWarden_pending (f : WardenState → WardenState) : (s.updWarden f).pending = s.pending := rfl
@[simp] theorem State.updWarden_regs (f : WardenState → WardenState) : (s.updWarden f).regs = s.regs := rfl
@[simp] theorem State.updWarden_shadows (f : WardenState → WardenState) : (s.updWarden f).shadows = s.shadows := rfl
@[simp] theorem State.updWarden_bar (f : WardenState → WardenState) : (s.updWarden f).bar = s.bar := rfl
@[simp] theorem State.updWarden_slot (f : WardenState → WardenState) : (s.updWarden f).slot = s.slot := rfl
@[simp] theorem State.updWarden_slotIncs (f : WardenState → WardenState) : (s.updWarden f).slotIncs = s.slotIncs := rfl
@[simp] theorem State.updWarden_slotSets (f : WardenState → WardenState) : (s.updWarden f).slotSets = s.slotSets := rfl
@[simp] theorem State.updWarden_writes (f : WardenState → WardenState) : (s.updWarden f).writes = s.writes := rfl
@[simp] theorem State.updWarden_raised (f : WardenState → WardenState) : (s.updWarden f).raised = s.raised := rfl
@[simp] theorem State.updWarden_draws (f : WardenState → WardenState) : (s.updWarden f).draws = s.draws := rfl
@[simp] theorem State.updWarden_outs (f : WardenState → WardenState) : (s.updWarden f).outs = s.outs := rfl
@[simp] theorem State.updWarden_opt (f : WardenState → WardenState) : (s.updWarden f).opt = s.opt := rfl
@[simp] theorem State.updWarden_cmd (f : WardenState → WardenState) : (s.updWarden f).cmd = s.cmd := rfl
@[simp] theorem State.updWarden_seq (f : WardenState → WardenState) : (s.updWarden f).seq = s.seq := rfl
@[simp] theorem State.updWarden_dram (f : WardenState → WardenState) : (s.updWarden f).dram = s.dram := rfl
@[simp] theorem State.updWarden_tile (f : WardenState → WardenState) : (s.updWarden f).tile = s.tile := rfl
@[simp] theorem State.updWarden_save (f : WardenState → WardenState) : (s.updWarden f).save = s.save := rfl
@[simp] theorem State.updWarden_cxl (f : WardenState → WardenState) : (s.updWarden f).cxl = s.cxl := rfl
@[simp] theorem State.updWarden_deck (f : WardenState → WardenState) : (s.updWarden f).deck = s.deck := rfl
@[simp] theorem State.updWarden_card (f : WardenState → WardenState) : (s.updWarden f).card = s.card := rfl
@[simp] theorem State.updWarden_flash (f : WardenState → WardenState) : (s.updWarden f).flash = s.flash := rfl
@[simp] theorem State.updWarden_pack (f : WardenState → WardenState) : (s.updWarden f).pack = s.pack := rfl
@[simp] theorem State.updWarden_pwr (f : WardenState → WardenState) : (s.updWarden f).pwr = s.pwr := rfl
@[simp] theorem State.updWarden_recorder (f : WardenState → WardenState) : (s.updWarden f).recorder = s.recorder := rfl
@[simp] theorem State.updWarden_sec (f : WardenState → WardenState) : (s.updWarden f).sec = s.sec := rfl
@[simp] theorem State.updWarden_sys (f : WardenState → WardenState) : (s.updWarden f).sys = s.sys := rfl
@[simp] theorem State.updWarden_ch (f : WardenState → WardenState) (k : Nat) : (s.updWarden f).ch k = s.ch k := rfl
@[simp] theorem State.updWarden_portState (f : WardenState → WardenState) (k : Nat) : (s.updWarden f).portState k = s.portState k := rfl
@[simp] theorem State.updWarden_nch (f : WardenState → WardenState) (k : Nat) : (s.updWarden f).nch k = s.nch k := rfl
@[simp] theorem State.updWarden_region (f : WardenState → WardenState) (k : Nat) : (s.updWarden f).region k = s.region k := rfl
@[simp] theorem State.updWarden_code (f : WardenState → WardenState) (k : Nat) : (s.updWarden f).code k = s.code k := rfl
@[simp] theorem State.updWarden_frameOf (f : WardenState → WardenState) (k : Nat) : (s.updWarden f).frameOf k = s.frameOf k := rfl
@[simp] theorem State.updWarden_recOf (f : WardenState → WardenState) (k : Nat) : (s.updWarden f).recOf k = s.recOf k := rfl
@[simp] theorem State.updWarden_get (f : WardenState → WardenState) (g : Field) : (s.updWarden f).get g = s.get g := rfl
@[simp] theorem State.updWarden_self (f : WardenState → WardenState) : (s.updWarden f).warden = f s.warden := rfl

/-! ### Register fields -/

@[simp] theorem State.set_pending (f : Field) (v : Nat) : (s.set f v).pending = s.pending := rfl
@[simp] theorem State.set_shadows (f : Field) (v : Nat) : (s.set f v).shadows = s.shadows := rfl
@[simp] theorem State.set_bar (f : Field) (v : Nat) : (s.set f v).bar = s.bar := rfl
@[simp] theorem State.set_slot (f : Field) (v : Nat) : (s.set f v).slot = s.slot := rfl
@[simp] theorem State.set_slotIncs (f : Field) (v : Nat) : (s.set f v).slotIncs = s.slotIncs := rfl
@[simp] theorem State.set_slotSets (f : Field) (v : Nat) : (s.set f v).slotSets = s.slotSets := rfl
@[simp] theorem State.set_writes (f : Field) (v : Nat) : (s.set f v).writes = s.writes := rfl
@[simp] theorem State.set_raised (f : Field) (v : Nat) : (s.set f v).raised = s.raised := rfl
@[simp] theorem State.set_draws (f : Field) (v : Nat) : (s.set f v).draws = s.draws := rfl
@[simp] theorem State.set_outs (f : Field) (v : Nat) : (s.set f v).outs = s.outs := rfl
@[simp] theorem State.set_opt (f : Field) (v : Nat) : (s.set f v).opt = s.opt := rfl
@[simp] theorem State.set_cmd (f : Field) (v : Nat) : (s.set f v).cmd = s.cmd := rfl
@[simp] theorem State.set_seq (f : Field) (v : Nat) : (s.set f v).seq = s.seq := rfl
@[simp] theorem State.set_dram (f : Field) (v : Nat) : (s.set f v).dram = s.dram := rfl
@[simp] theorem State.set_tile (f : Field) (v : Nat) : (s.set f v).tile = s.tile := rfl
@[simp] theorem State.set_save (f : Field) (v : Nat) : (s.set f v).save = s.save := rfl
@[simp] theorem State.set_cxl (f : Field) (v : Nat) : (s.set f v).cxl = s.cxl := rfl
@[simp] theorem State.set_deck (f : Field) (v : Nat) : (s.set f v).deck = s.deck := rfl
@[simp] theorem State.set_card (f : Field) (v : Nat) : (s.set f v).card = s.card := rfl
@[simp] theorem State.set_flash (f : Field) (v : Nat) : (s.set f v).flash = s.flash := rfl
@[simp] theorem State.set_pack (f : Field) (v : Nat) : (s.set f v).pack = s.pack := rfl
@[simp] theorem State.set_pwr (f : Field) (v : Nat) : (s.set f v).pwr = s.pwr := rfl
@[simp] theorem State.set_warden (f : Field) (v : Nat) : (s.set f v).warden = s.warden := rfl
@[simp] theorem State.set_recorder (f : Field) (v : Nat) : (s.set f v).recorder = s.recorder := rfl
@[simp] theorem State.set_sec (f : Field) (v : Nat) : (s.set f v).sec = s.sec := rfl
@[simp] theorem State.set_sys (f : Field) (v : Nat) : (s.set f v).sys = s.sys := rfl
@[simp] theorem State.set_ch (f : Field) (v : Nat) (k : Nat) : (s.set f v).ch k = s.ch k := rfl
@[simp] theorem State.set_portState (f : Field) (v : Nat) (k : Nat) : (s.set f v).portState k = s.portState k := rfl
@[simp] theorem State.set_nch (f : Field) (v : Nat) (k : Nat) : (s.set f v).nch k = s.nch k := rfl
@[simp] theorem State.set_region (f : Field) (v : Nat) (k : Nat) : (s.set f v).region k = s.region k := rfl
@[simp] theorem State.set_code (f : Field) (v : Nat) (k : Nat) : (s.set f v).code k = s.code k := rfl
@[simp] theorem State.set_frameOf (f : Field) (v : Nat) (k : Nat) : (s.set f v).frameOf k = s.frameOf k := rfl
@[simp] theorem State.set_recOf (f : Field) (v : Nat) (k : Nat) : (s.set f v).recOf k = s.recOf k := rfl

@[simp] theorem State.setB_pending (f : Field) (b : Bool) : (s.setB f b).pending = s.pending := rfl
@[simp] theorem State.setB_shadows (f : Field) (b : Bool) : (s.setB f b).shadows = s.shadows := rfl
@[simp] theorem State.setB_bar (f : Field) (b : Bool) : (s.setB f b).bar = s.bar := rfl
@[simp] theorem State.setB_slot (f : Field) (b : Bool) : (s.setB f b).slot = s.slot := rfl
@[simp] theorem State.setB_slotIncs (f : Field) (b : Bool) : (s.setB f b).slotIncs = s.slotIncs := rfl
@[simp] theorem State.setB_slotSets (f : Field) (b : Bool) : (s.setB f b).slotSets = s.slotSets := rfl
@[simp] theorem State.setB_writes (f : Field) (b : Bool) : (s.setB f b).writes = s.writes := rfl
@[simp] theorem State.setB_raised (f : Field) (b : Bool) : (s.setB f b).raised = s.raised := rfl
@[simp] theorem State.setB_draws (f : Field) (b : Bool) : (s.setB f b).draws = s.draws := rfl
@[simp] theorem State.setB_outs (f : Field) (b : Bool) : (s.setB f b).outs = s.outs := rfl
@[simp] theorem State.setB_opt (f : Field) (b : Bool) : (s.setB f b).opt = s.opt := rfl
@[simp] theorem State.setB_cmd (f : Field) (b : Bool) : (s.setB f b).cmd = s.cmd := rfl
@[simp] theorem State.setB_seq (f : Field) (b : Bool) : (s.setB f b).seq = s.seq := rfl
@[simp] theorem State.setB_dram (f : Field) (b : Bool) : (s.setB f b).dram = s.dram := rfl
@[simp] theorem State.setB_tile (f : Field) (b : Bool) : (s.setB f b).tile = s.tile := rfl
@[simp] theorem State.setB_save (f : Field) (b : Bool) : (s.setB f b).save = s.save := rfl
@[simp] theorem State.setB_cxl (f : Field) (b : Bool) : (s.setB f b).cxl = s.cxl := rfl
@[simp] theorem State.setB_deck (f : Field) (b : Bool) : (s.setB f b).deck = s.deck := rfl
@[simp] theorem State.setB_card (f : Field) (b : Bool) : (s.setB f b).card = s.card := rfl
@[simp] theorem State.setB_flash (f : Field) (b : Bool) : (s.setB f b).flash = s.flash := rfl
@[simp] theorem State.setB_pack (f : Field) (b : Bool) : (s.setB f b).pack = s.pack := rfl
@[simp] theorem State.setB_pwr (f : Field) (b : Bool) : (s.setB f b).pwr = s.pwr := rfl
@[simp] theorem State.setB_warden (f : Field) (b : Bool) : (s.setB f b).warden = s.warden := rfl
@[simp] theorem State.setB_recorder (f : Field) (b : Bool) : (s.setB f b).recorder = s.recorder := rfl
@[simp] theorem State.setB_sec (f : Field) (b : Bool) : (s.setB f b).sec = s.sec := rfl
@[simp] theorem State.setB_sys (f : Field) (b : Bool) : (s.setB f b).sys = s.sys := rfl
@[simp] theorem State.setB_ch (f : Field) (b : Bool) (k : Nat) : (s.setB f b).ch k = s.ch k := rfl
@[simp] theorem State.setB_portState (f : Field) (b : Bool) (k : Nat) : (s.setB f b).portState k = s.portState k := rfl
@[simp] theorem State.setB_nch (f : Field) (b : Bool) (k : Nat) : (s.setB f b).nch k = s.nch k := rfl
@[simp] theorem State.setB_region (f : Field) (b : Bool) (k : Nat) : (s.setB f b).region k = s.region k := rfl
@[simp] theorem State.setB_code (f : Field) (b : Bool) (k : Nat) : (s.setB f b).code k = s.code k := rfl
@[simp] theorem State.setB_frameOf (f : Field) (b : Bool) (k : Nat) : (s.setB f b).frameOf k = s.frameOf k := rfl
@[simp] theorem State.setB_recOf (f : Field) (b : Bool) (k : Nat) : (s.setB f b).recOf k = s.recOf k := rfl

@[simp] theorem State.bump_pending (f : Field) (n : Nat) : (s.bump f n).pending = s.pending := rfl
@[simp] theorem State.bump_shadows (f : Field) (n : Nat) : (s.bump f n).shadows = s.shadows := rfl
@[simp] theorem State.bump_bar (f : Field) (n : Nat) : (s.bump f n).bar = s.bar := rfl
@[simp] theorem State.bump_slot (f : Field) (n : Nat) : (s.bump f n).slot = s.slot := rfl
@[simp] theorem State.bump_slotIncs (f : Field) (n : Nat) : (s.bump f n).slotIncs = s.slotIncs := rfl
@[simp] theorem State.bump_slotSets (f : Field) (n : Nat) : (s.bump f n).slotSets = s.slotSets := rfl
@[simp] theorem State.bump_writes (f : Field) (n : Nat) : (s.bump f n).writes = s.writes := rfl
@[simp] theorem State.bump_raised (f : Field) (n : Nat) : (s.bump f n).raised = s.raised := rfl
@[simp] theorem State.bump_draws (f : Field) (n : Nat) : (s.bump f n).draws = s.draws := rfl
@[simp] theorem State.bump_outs (f : Field) (n : Nat) : (s.bump f n).outs = s.outs := rfl
@[simp] theorem State.bump_opt (f : Field) (n : Nat) : (s.bump f n).opt = s.opt := rfl
@[simp] theorem State.bump_cmd (f : Field) (n : Nat) : (s.bump f n).cmd = s.cmd := rfl
@[simp] theorem State.bump_seq (f : Field) (n : Nat) : (s.bump f n).seq = s.seq := rfl
@[simp] theorem State.bump_dram (f : Field) (n : Nat) : (s.bump f n).dram = s.dram := rfl
@[simp] theorem State.bump_tile (f : Field) (n : Nat) : (s.bump f n).tile = s.tile := rfl
@[simp] theorem State.bump_save (f : Field) (n : Nat) : (s.bump f n).save = s.save := rfl
@[simp] theorem State.bump_cxl (f : Field) (n : Nat) : (s.bump f n).cxl = s.cxl := rfl
@[simp] theorem State.bump_deck (f : Field) (n : Nat) : (s.bump f n).deck = s.deck := rfl
@[simp] theorem State.bump_card (f : Field) (n : Nat) : (s.bump f n).card = s.card := rfl
@[simp] theorem State.bump_flash (f : Field) (n : Nat) : (s.bump f n).flash = s.flash := rfl
@[simp] theorem State.bump_pack (f : Field) (n : Nat) : (s.bump f n).pack = s.pack := rfl
@[simp] theorem State.bump_pwr (f : Field) (n : Nat) : (s.bump f n).pwr = s.pwr := rfl
@[simp] theorem State.bump_warden (f : Field) (n : Nat) : (s.bump f n).warden = s.warden := rfl
@[simp] theorem State.bump_recorder (f : Field) (n : Nat) : (s.bump f n).recorder = s.recorder := rfl
@[simp] theorem State.bump_sec (f : Field) (n : Nat) : (s.bump f n).sec = s.sec := rfl
@[simp] theorem State.bump_sys (f : Field) (n : Nat) : (s.bump f n).sys = s.sys := rfl
@[simp] theorem State.bump_ch (f : Field) (n : Nat) (k : Nat) : (s.bump f n).ch k = s.ch k := rfl
@[simp] theorem State.bump_portState (f : Field) (n : Nat) (k : Nat) : (s.bump f n).portState k = s.portState k := rfl
@[simp] theorem State.bump_nch (f : Field) (n : Nat) (k : Nat) : (s.bump f n).nch k = s.nch k := rfl
@[simp] theorem State.bump_region (f : Field) (n : Nat) (k : Nat) : (s.bump f n).region k = s.region k := rfl
@[simp] theorem State.bump_code (f : Field) (n : Nat) (k : Nat) : (s.bump f n).code k = s.code k := rfl
@[simp] theorem State.bump_frameOf (f : Field) (n : Nat) (k : Nat) : (s.bump f n).frameOf k = s.frameOf k := rfl
@[simp] theorem State.bump_recOf (f : Field) (n : Nat) (k : Nat) : (s.bump f n).recOf k = s.recOf k := rfl

@[simp] theorem State.count_pending (f : Field) (n : Nat) : (s.count f n).pending = s.pending := rfl
@[simp] theorem State.count_shadows (f : Field) (n : Nat) : (s.count f n).shadows = s.shadows := rfl
@[simp] theorem State.count_bar (f : Field) (n : Nat) : (s.count f n).bar = s.bar := rfl
@[simp] theorem State.count_slot (f : Field) (n : Nat) : (s.count f n).slot = s.slot := rfl
@[simp] theorem State.count_slotSets (f : Field) (n : Nat) : (s.count f n).slotSets = s.slotSets := rfl
@[simp] theorem State.count_writes (f : Field) (n : Nat) : (s.count f n).writes = s.writes := rfl
@[simp] theorem State.count_raised (f : Field) (n : Nat) : (s.count f n).raised = s.raised := rfl
@[simp] theorem State.count_draws (f : Field) (n : Nat) : (s.count f n).draws = s.draws := rfl
@[simp] theorem State.count_outs (f : Field) (n : Nat) : (s.count f n).outs = s.outs := rfl
@[simp] theorem State.count_opt (f : Field) (n : Nat) : (s.count f n).opt = s.opt := rfl
@[simp] theorem State.count_cmd (f : Field) (n : Nat) : (s.count f n).cmd = s.cmd := rfl
@[simp] theorem State.count_seq (f : Field) (n : Nat) : (s.count f n).seq = s.seq := rfl
@[simp] theorem State.count_dram (f : Field) (n : Nat) : (s.count f n).dram = s.dram := rfl
@[simp] theorem State.count_tile (f : Field) (n : Nat) : (s.count f n).tile = s.tile := rfl
@[simp] theorem State.count_save (f : Field) (n : Nat) : (s.count f n).save = s.save := rfl
@[simp] theorem State.count_cxl (f : Field) (n : Nat) : (s.count f n).cxl = s.cxl := rfl
@[simp] theorem State.count_deck (f : Field) (n : Nat) : (s.count f n).deck = s.deck := rfl
@[simp] theorem State.count_card (f : Field) (n : Nat) : (s.count f n).card = s.card := rfl
@[simp] theorem State.count_flash (f : Field) (n : Nat) : (s.count f n).flash = s.flash := rfl
@[simp] theorem State.count_pack (f : Field) (n : Nat) : (s.count f n).pack = s.pack := rfl
@[simp] theorem State.count_pwr (f : Field) (n : Nat) : (s.count f n).pwr = s.pwr := rfl
@[simp] theorem State.count_warden (f : Field) (n : Nat) : (s.count f n).warden = s.warden := rfl
@[simp] theorem State.count_recorder (f : Field) (n : Nat) : (s.count f n).recorder = s.recorder := rfl
@[simp] theorem State.count_sec (f : Field) (n : Nat) : (s.count f n).sec = s.sec := rfl
@[simp] theorem State.count_sys (f : Field) (n : Nat) : (s.count f n).sys = s.sys := rfl
@[simp] theorem State.count_ch (f : Field) (n : Nat) (k : Nat) : (s.count f n).ch k = s.ch k := rfl
@[simp] theorem State.count_portState (f : Field) (n : Nat) (k : Nat) : (s.count f n).portState k = s.portState k := rfl
@[simp] theorem State.count_nch (f : Field) (n : Nat) (k : Nat) : (s.count f n).nch k = s.nch k := rfl
@[simp] theorem State.count_region (f : Field) (n : Nat) (k : Nat) : (s.count f n).region k = s.region k := rfl
@[simp] theorem State.count_code (f : Field) (n : Nat) (k : Nat) : (s.count f n).code k = s.code k := rfl
@[simp] theorem State.count_frameOf (f : Field) (n : Nat) (k : Nat) : (s.count f n).frameOf k = s.frameOf k := rfl
@[simp] theorem State.count_recOf (f : Field) (n : Nat) (k : Nat) : (s.count f n).recOf k = s.recOf k := rfl

@[simp] theorem State.peak_pending (f : Field) (v : Nat) : (s.peak f v).pending = s.pending := rfl
@[simp] theorem State.peak_shadows (f : Field) (v : Nat) : (s.peak f v).shadows = s.shadows := rfl
@[simp] theorem State.peak_bar (f : Field) (v : Nat) : (s.peak f v).bar = s.bar := rfl
@[simp] theorem State.peak_slot (f : Field) (v : Nat) : (s.peak f v).slot = s.slot := rfl
@[simp] theorem State.peak_slotSets (f : Field) (v : Nat) : (s.peak f v).slotSets = s.slotSets := rfl
@[simp] theorem State.peak_writes (f : Field) (v : Nat) : (s.peak f v).writes = s.writes := rfl
@[simp] theorem State.peak_raised (f : Field) (v : Nat) : (s.peak f v).raised = s.raised := rfl
@[simp] theorem State.peak_draws (f : Field) (v : Nat) : (s.peak f v).draws = s.draws := rfl
@[simp] theorem State.peak_outs (f : Field) (v : Nat) : (s.peak f v).outs = s.outs := rfl
@[simp] theorem State.peak_opt (f : Field) (v : Nat) : (s.peak f v).opt = s.opt := rfl
@[simp] theorem State.peak_cmd (f : Field) (v : Nat) : (s.peak f v).cmd = s.cmd := rfl
@[simp] theorem State.peak_seq (f : Field) (v : Nat) : (s.peak f v).seq = s.seq := rfl
@[simp] theorem State.peak_dram (f : Field) (v : Nat) : (s.peak f v).dram = s.dram := rfl
@[simp] theorem State.peak_tile (f : Field) (v : Nat) : (s.peak f v).tile = s.tile := rfl
@[simp] theorem State.peak_save (f : Field) (v : Nat) : (s.peak f v).save = s.save := rfl
@[simp] theorem State.peak_cxl (f : Field) (v : Nat) : (s.peak f v).cxl = s.cxl := rfl
@[simp] theorem State.peak_deck (f : Field) (v : Nat) : (s.peak f v).deck = s.deck := rfl
@[simp] theorem State.peak_card (f : Field) (v : Nat) : (s.peak f v).card = s.card := rfl
@[simp] theorem State.peak_flash (f : Field) (v : Nat) : (s.peak f v).flash = s.flash := rfl
@[simp] theorem State.peak_pack (f : Field) (v : Nat) : (s.peak f v).pack = s.pack := rfl
@[simp] theorem State.peak_pwr (f : Field) (v : Nat) : (s.peak f v).pwr = s.pwr := rfl
@[simp] theorem State.peak_warden (f : Field) (v : Nat) : (s.peak f v).warden = s.warden := rfl
@[simp] theorem State.peak_recorder (f : Field) (v : Nat) : (s.peak f v).recorder = s.recorder := rfl
@[simp] theorem State.peak_sec (f : Field) (v : Nat) : (s.peak f v).sec = s.sec := rfl
@[simp] theorem State.peak_sys (f : Field) (v : Nat) : (s.peak f v).sys = s.sys := rfl
@[simp] theorem State.peak_ch (f : Field) (v : Nat) (k : Nat) : (s.peak f v).ch k = s.ch k := rfl
@[simp] theorem State.peak_portState (f : Field) (v : Nat) (k : Nat) : (s.peak f v).portState k = s.portState k := rfl
@[simp] theorem State.peak_nch (f : Field) (v : Nat) (k : Nat) : (s.peak f v).nch k = s.nch k := rfl
@[simp] theorem State.peak_region (f : Field) (v : Nat) (k : Nat) : (s.peak f v).region k = s.region k := rfl
@[simp] theorem State.peak_code (f : Field) (v : Nat) (k : Nat) : (s.peak f v).code k = s.code k := rfl
@[simp] theorem State.peak_frameOf (f : Field) (v : Nat) (k : Nat) : (s.peak f v).frameOf k = s.frameOf k := rfl
@[simp] theorem State.peak_recOf (f : Field) (v : Nat) (k : Nat) : (s.peak f v).recOf k = s.recOf k := rfl

@[simp] theorem State.drop_pending (f : Field) (n : Nat) : (s.drop f n).pending = s.pending := rfl
@[simp] theorem State.drop_shadows (f : Field) (n : Nat) : (s.drop f n).shadows = s.shadows := rfl
@[simp] theorem State.drop_bar (f : Field) (n : Nat) : (s.drop f n).bar = s.bar := rfl
@[simp] theorem State.drop_slot (f : Field) (n : Nat) : (s.drop f n).slot = s.slot := rfl
@[simp] theorem State.drop_slotIncs (f : Field) (n : Nat) : (s.drop f n).slotIncs = s.slotIncs := rfl
@[simp] theorem State.drop_slotSets (f : Field) (n : Nat) : (s.drop f n).slotSets = s.slotSets := rfl
@[simp] theorem State.drop_writes (f : Field) (n : Nat) : (s.drop f n).writes = s.writes := rfl
@[simp] theorem State.drop_raised (f : Field) (n : Nat) : (s.drop f n).raised = s.raised := rfl
@[simp] theorem State.drop_draws (f : Field) (n : Nat) : (s.drop f n).draws = s.draws := rfl
@[simp] theorem State.drop_outs (f : Field) (n : Nat) : (s.drop f n).outs = s.outs := rfl
@[simp] theorem State.drop_opt (f : Field) (n : Nat) : (s.drop f n).opt = s.opt := rfl
@[simp] theorem State.drop_cmd (f : Field) (n : Nat) : (s.drop f n).cmd = s.cmd := rfl
@[simp] theorem State.drop_seq (f : Field) (n : Nat) : (s.drop f n).seq = s.seq := rfl
@[simp] theorem State.drop_dram (f : Field) (n : Nat) : (s.drop f n).dram = s.dram := rfl
@[simp] theorem State.drop_tile (f : Field) (n : Nat) : (s.drop f n).tile = s.tile := rfl
@[simp] theorem State.drop_save (f : Field) (n : Nat) : (s.drop f n).save = s.save := rfl
@[simp] theorem State.drop_cxl (f : Field) (n : Nat) : (s.drop f n).cxl = s.cxl := rfl
@[simp] theorem State.drop_deck (f : Field) (n : Nat) : (s.drop f n).deck = s.deck := rfl
@[simp] theorem State.drop_card (f : Field) (n : Nat) : (s.drop f n).card = s.card := rfl
@[simp] theorem State.drop_flash (f : Field) (n : Nat) : (s.drop f n).flash = s.flash := rfl
@[simp] theorem State.drop_pack (f : Field) (n : Nat) : (s.drop f n).pack = s.pack := rfl
@[simp] theorem State.drop_pwr (f : Field) (n : Nat) : (s.drop f n).pwr = s.pwr := rfl
@[simp] theorem State.drop_warden (f : Field) (n : Nat) : (s.drop f n).warden = s.warden := rfl
@[simp] theorem State.drop_recorder (f : Field) (n : Nat) : (s.drop f n).recorder = s.recorder := rfl
@[simp] theorem State.drop_sec (f : Field) (n : Nat) : (s.drop f n).sec = s.sec := rfl
@[simp] theorem State.drop_sys (f : Field) (n : Nat) : (s.drop f n).sys = s.sys := rfl
@[simp] theorem State.drop_ch (f : Field) (n : Nat) (k : Nat) : (s.drop f n).ch k = s.ch k := rfl
@[simp] theorem State.drop_portState (f : Field) (n : Nat) (k : Nat) : (s.drop f n).portState k = s.portState k := rfl
@[simp] theorem State.drop_nch (f : Field) (n : Nat) (k : Nat) : (s.drop f n).nch k = s.nch k := rfl
@[simp] theorem State.drop_region (f : Field) (n : Nat) (k : Nat) : (s.drop f n).region k = s.region k := rfl
@[simp] theorem State.drop_code (f : Field) (n : Nat) (k : Nat) : (s.drop f n).code k = s.code k := rfl
@[simp] theorem State.drop_frameOf (f : Field) (n : Nat) (k : Nat) : (s.drop f n).frameOf k = s.frameOf k := rfl
@[simp] theorem State.drop_recOf (f : Field) (n : Nat) (k : Nat) : (s.drop f n).recOf k = s.recOf k := rfl

@[simp] theorem State.setBit_pending (f : Field) (n : Nat) (b : Bool) : (s.setBit f n b).pending = s.pending := rfl
@[simp] theorem State.setBit_shadows (f : Field) (n : Nat) (b : Bool) : (s.setBit f n b).shadows = s.shadows := rfl
@[simp] theorem State.setBit_bar (f : Field) (n : Nat) (b : Bool) : (s.setBit f n b).bar = s.bar := rfl
@[simp] theorem State.setBit_slot (f : Field) (n : Nat) (b : Bool) : (s.setBit f n b).slot = s.slot := rfl
@[simp] theorem State.setBit_slotIncs (f : Field) (n : Nat) (b : Bool) : (s.setBit f n b).slotIncs = s.slotIncs := rfl
@[simp] theorem State.setBit_slotSets (f : Field) (n : Nat) (b : Bool) : (s.setBit f n b).slotSets = s.slotSets := rfl
@[simp] theorem State.setBit_writes (f : Field) (n : Nat) (b : Bool) : (s.setBit f n b).writes = s.writes := rfl
@[simp] theorem State.setBit_raised (f : Field) (n : Nat) (b : Bool) : (s.setBit f n b).raised = s.raised := rfl
@[simp] theorem State.setBit_draws (f : Field) (n : Nat) (b : Bool) : (s.setBit f n b).draws = s.draws := rfl
@[simp] theorem State.setBit_outs (f : Field) (n : Nat) (b : Bool) : (s.setBit f n b).outs = s.outs := rfl
@[simp] theorem State.setBit_opt (f : Field) (n : Nat) (b : Bool) : (s.setBit f n b).opt = s.opt := rfl
@[simp] theorem State.setBit_cmd (f : Field) (n : Nat) (b : Bool) : (s.setBit f n b).cmd = s.cmd := rfl
@[simp] theorem State.setBit_seq (f : Field) (n : Nat) (b : Bool) : (s.setBit f n b).seq = s.seq := rfl
@[simp] theorem State.setBit_dram (f : Field) (n : Nat) (b : Bool) : (s.setBit f n b).dram = s.dram := rfl
@[simp] theorem State.setBit_tile (f : Field) (n : Nat) (b : Bool) : (s.setBit f n b).tile = s.tile := rfl
@[simp] theorem State.setBit_save (f : Field) (n : Nat) (b : Bool) : (s.setBit f n b).save = s.save := rfl
@[simp] theorem State.setBit_cxl (f : Field) (n : Nat) (b : Bool) : (s.setBit f n b).cxl = s.cxl := rfl
@[simp] theorem State.setBit_deck (f : Field) (n : Nat) (b : Bool) : (s.setBit f n b).deck = s.deck := rfl
@[simp] theorem State.setBit_card (f : Field) (n : Nat) (b : Bool) : (s.setBit f n b).card = s.card := rfl
@[simp] theorem State.setBit_flash (f : Field) (n : Nat) (b : Bool) : (s.setBit f n b).flash = s.flash := rfl
@[simp] theorem State.setBit_pack (f : Field) (n : Nat) (b : Bool) : (s.setBit f n b).pack = s.pack := rfl
@[simp] theorem State.setBit_pwr (f : Field) (n : Nat) (b : Bool) : (s.setBit f n b).pwr = s.pwr := rfl
@[simp] theorem State.setBit_warden (f : Field) (n : Nat) (b : Bool) : (s.setBit f n b).warden = s.warden := rfl
@[simp] theorem State.setBit_recorder (f : Field) (n : Nat) (b : Bool) : (s.setBit f n b).recorder = s.recorder := rfl
@[simp] theorem State.setBit_sec (f : Field) (n : Nat) (b : Bool) : (s.setBit f n b).sec = s.sec := rfl
@[simp] theorem State.setBit_sys (f : Field) (n : Nat) (b : Bool) : (s.setBit f n b).sys = s.sys := rfl
@[simp] theorem State.setBit_ch (f : Field) (n : Nat) (b : Bool) (k : Nat) : (s.setBit f n b).ch k = s.ch k := rfl
@[simp] theorem State.setBit_portState (f : Field) (n : Nat) (b : Bool) (k : Nat) : (s.setBit f n b).portState k = s.portState k := rfl
@[simp] theorem State.setBit_nch (f : Field) (n : Nat) (b : Bool) (k : Nat) : (s.setBit f n b).nch k = s.nch k := rfl
@[simp] theorem State.setBit_region (f : Field) (n : Nat) (b : Bool) (k : Nat) : (s.setBit f n b).region k = s.region k := rfl
@[simp] theorem State.setBit_code (f : Field) (n : Nat) (b : Bool) (k : Nat) : (s.setBit f n b).code k = s.code k := rfl
@[simp] theorem State.setBit_frameOf (f : Field) (n : Nat) (b : Bool) (k : Nat) : (s.setBit f n b).frameOf k = s.frameOf k := rfl
@[simp] theorem State.setBit_recOf (f : Field) (n : Nat) (b : Bool) (k : Nat) : (s.setBit f n b).recOf k = s.recOf k := rfl

@[simp] theorem State.latch_pending (f : Field) (b : Nat) : (s.latch f b).pending = s.pending := rfl
@[simp] theorem State.latch_shadows (f : Field) (b : Nat) : (s.latch f b).shadows = s.shadows := rfl
@[simp] theorem State.latch_bar (f : Field) (b : Nat) : (s.latch f b).bar = s.bar := rfl
@[simp] theorem State.latch_slot (f : Field) (b : Nat) : (s.latch f b).slot = s.slot := rfl
@[simp] theorem State.latch_slotIncs (f : Field) (b : Nat) : (s.latch f b).slotIncs = s.slotIncs := rfl
@[simp] theorem State.latch_writes (f : Field) (b : Nat) : (s.latch f b).writes = s.writes := rfl
@[simp] theorem State.latch_raised (f : Field) (b : Nat) : (s.latch f b).raised = s.raised := rfl
@[simp] theorem State.latch_draws (f : Field) (b : Nat) : (s.latch f b).draws = s.draws := rfl
@[simp] theorem State.latch_outs (f : Field) (b : Nat) : (s.latch f b).outs = s.outs := rfl
@[simp] theorem State.latch_opt (f : Field) (b : Nat) : (s.latch f b).opt = s.opt := rfl
@[simp] theorem State.latch_cmd (f : Field) (b : Nat) : (s.latch f b).cmd = s.cmd := rfl
@[simp] theorem State.latch_seq (f : Field) (b : Nat) : (s.latch f b).seq = s.seq := rfl
@[simp] theorem State.latch_dram (f : Field) (b : Nat) : (s.latch f b).dram = s.dram := rfl
@[simp] theorem State.latch_tile (f : Field) (b : Nat) : (s.latch f b).tile = s.tile := rfl
@[simp] theorem State.latch_save (f : Field) (b : Nat) : (s.latch f b).save = s.save := rfl
@[simp] theorem State.latch_cxl (f : Field) (b : Nat) : (s.latch f b).cxl = s.cxl := rfl
@[simp] theorem State.latch_deck (f : Field) (b : Nat) : (s.latch f b).deck = s.deck := rfl
@[simp] theorem State.latch_card (f : Field) (b : Nat) : (s.latch f b).card = s.card := rfl
@[simp] theorem State.latch_flash (f : Field) (b : Nat) : (s.latch f b).flash = s.flash := rfl
@[simp] theorem State.latch_pack (f : Field) (b : Nat) : (s.latch f b).pack = s.pack := rfl
@[simp] theorem State.latch_pwr (f : Field) (b : Nat) : (s.latch f b).pwr = s.pwr := rfl
@[simp] theorem State.latch_warden (f : Field) (b : Nat) : (s.latch f b).warden = s.warden := rfl
@[simp] theorem State.latch_recorder (f : Field) (b : Nat) : (s.latch f b).recorder = s.recorder := rfl
@[simp] theorem State.latch_sec (f : Field) (b : Nat) : (s.latch f b).sec = s.sec := rfl
@[simp] theorem State.latch_sys (f : Field) (b : Nat) : (s.latch f b).sys = s.sys := rfl
@[simp] theorem State.latch_ch (f : Field) (b : Nat) (k : Nat) : (s.latch f b).ch k = s.ch k := rfl
@[simp] theorem State.latch_portState (f : Field) (b : Nat) (k : Nat) : (s.latch f b).portState k = s.portState k := rfl
@[simp] theorem State.latch_nch (f : Field) (b : Nat) (k : Nat) : (s.latch f b).nch k = s.nch k := rfl
@[simp] theorem State.latch_region (f : Field) (b : Nat) (k : Nat) : (s.latch f b).region k = s.region k := rfl
@[simp] theorem State.latch_code (f : Field) (b : Nat) (k : Nat) : (s.latch f b).code k = s.code k := rfl
@[simp] theorem State.latch_frameOf (f : Field) (b : Nat) (k : Nat) : (s.latch f b).frameOf k = s.frameOf k := rfl
@[simp] theorem State.latch_recOf (f : Field) (b : Nat) (k : Nat) : (s.latch f b).recOf k = s.recOf k := rfl

@[simp] theorem State.setRisen_pending (f : Field) (e : Nat × Nat) : (s.setRisen f e).pending = s.pending := rfl
@[simp] theorem State.setRisen_shadows (f : Field) (e : Nat × Nat) : (s.setRisen f e).shadows = s.shadows := rfl
@[simp] theorem State.setRisen_bar (f : Field) (e : Nat × Nat) : (s.setRisen f e).bar = s.bar := rfl
@[simp] theorem State.setRisen_slot (f : Field) (e : Nat × Nat) : (s.setRisen f e).slot = s.slot := rfl
@[simp] theorem State.setRisen_slotSets (f : Field) (e : Nat × Nat) : (s.setRisen f e).slotSets = s.slotSets := rfl
@[simp] theorem State.setRisen_writes (f : Field) (e : Nat × Nat) : (s.setRisen f e).writes = s.writes := rfl
@[simp] theorem State.setRisen_raised (f : Field) (e : Nat × Nat) : (s.setRisen f e).raised = s.raised := rfl
@[simp] theorem State.setRisen_draws (f : Field) (e : Nat × Nat) : (s.setRisen f e).draws = s.draws := rfl
@[simp] theorem State.setRisen_outs (f : Field) (e : Nat × Nat) : (s.setRisen f e).outs = s.outs := rfl
@[simp] theorem State.setRisen_opt (f : Field) (e : Nat × Nat) : (s.setRisen f e).opt = s.opt := rfl
@[simp] theorem State.setRisen_cmd (f : Field) (e : Nat × Nat) : (s.setRisen f e).cmd = s.cmd := rfl
@[simp] theorem State.setRisen_seq (f : Field) (e : Nat × Nat) : (s.setRisen f e).seq = s.seq := rfl
@[simp] theorem State.setRisen_dram (f : Field) (e : Nat × Nat) : (s.setRisen f e).dram = s.dram := rfl
@[simp] theorem State.setRisen_tile (f : Field) (e : Nat × Nat) : (s.setRisen f e).tile = s.tile := rfl
@[simp] theorem State.setRisen_save (f : Field) (e : Nat × Nat) : (s.setRisen f e).save = s.save := rfl
@[simp] theorem State.setRisen_cxl (f : Field) (e : Nat × Nat) : (s.setRisen f e).cxl = s.cxl := rfl
@[simp] theorem State.setRisen_deck (f : Field) (e : Nat × Nat) : (s.setRisen f e).deck = s.deck := rfl
@[simp] theorem State.setRisen_card (f : Field) (e : Nat × Nat) : (s.setRisen f e).card = s.card := rfl
@[simp] theorem State.setRisen_flash (f : Field) (e : Nat × Nat) : (s.setRisen f e).flash = s.flash := rfl
@[simp] theorem State.setRisen_pack (f : Field) (e : Nat × Nat) : (s.setRisen f e).pack = s.pack := rfl
@[simp] theorem State.setRisen_pwr (f : Field) (e : Nat × Nat) : (s.setRisen f e).pwr = s.pwr := rfl
@[simp] theorem State.setRisen_warden (f : Field) (e : Nat × Nat) : (s.setRisen f e).warden = s.warden := rfl
@[simp] theorem State.setRisen_recorder (f : Field) (e : Nat × Nat) : (s.setRisen f e).recorder = s.recorder := rfl
@[simp] theorem State.setRisen_sec (f : Field) (e : Nat × Nat) : (s.setRisen f e).sec = s.sec := rfl
@[simp] theorem State.setRisen_sys (f : Field) (e : Nat × Nat) : (s.setRisen f e).sys = s.sys := rfl
@[simp] theorem State.setRisen_ch (f : Field) (e : Nat × Nat) (k : Nat) : (s.setRisen f e).ch k = s.ch k := rfl
@[simp] theorem State.setRisen_portState (f : Field) (e : Nat × Nat) (k : Nat) : (s.setRisen f e).portState k = s.portState k := rfl
@[simp] theorem State.setRisen_nch (f : Field) (e : Nat × Nat) (k : Nat) : (s.setRisen f e).nch k = s.nch k := rfl
@[simp] theorem State.setRisen_region (f : Field) (e : Nat × Nat) (k : Nat) : (s.setRisen f e).region k = s.region k := rfl
@[simp] theorem State.setRisen_code (f : Field) (e : Nat × Nat) (k : Nat) : (s.setRisen f e).code k = s.code k := rfl
@[simp] theorem State.setRisen_frameOf (f : Field) (e : Nat × Nat) (k : Nat) : (s.setRisen f e).frameOf k = s.frameOf k := rfl
@[simp] theorem State.setRisen_recOf (f : Field) (e : Nat × Nat) (k : Nat) : (s.setRisen f e).recOf k = s.recOf k := rfl
@[simp] theorem State.setRisen_regs (f : Field) (e : Nat × Nat) : (s.setRisen f e).regs = s.regs := rfl
@[simp] theorem State.setRisen_get (f : Field) (e : Nat × Nat) (g : Field) : (s.setRisen f e).get g = s.get g := rfl

/-! ### The slot a command names (R10) -/

@[simp] theorem State.at_pending (k : Nat) : (s.at k).pending = s.pending := by unfold State.at; split <;> rfl
@[simp] theorem State.at_shadows (k : Nat) : (s.at k).shadows = s.shadows := by unfold State.at; split <;> rfl
@[simp] theorem State.at_bar (k : Nat) : (s.at k).bar = s.bar := by unfold State.at; split <;> rfl
@[simp] theorem State.at_writes (k : Nat) : (s.at k).writes = s.writes := by unfold State.at; split <;> rfl
@[simp] theorem State.at_raised (k : Nat) : (s.at k).raised = s.raised := by unfold State.at; split <;> rfl
@[simp] theorem State.at_draws (k : Nat) : (s.at k).draws = s.draws := by unfold State.at; split <;> rfl
@[simp] theorem State.at_outs (k : Nat) : (s.at k).outs = s.outs := by unfold State.at; split <;> rfl
@[simp] theorem State.at_opt (k : Nat) : (s.at k).opt = s.opt := by unfold State.at; split <;> rfl
@[simp] theorem State.at_cmd (k : Nat) : (s.at k).cmd = s.cmd := by unfold State.at; split <;> rfl
@[simp] theorem State.at_seq (k : Nat) : (s.at k).seq = s.seq := by unfold State.at; split <;> rfl
@[simp] theorem State.at_dram (k : Nat) : (s.at k).dram = s.dram := by unfold State.at; split <;> rfl
@[simp] theorem State.at_tile (k : Nat) : (s.at k).tile = s.tile := by unfold State.at; split <;> rfl
@[simp] theorem State.at_save (k : Nat) : (s.at k).save = s.save := by unfold State.at; split <;> rfl
@[simp] theorem State.at_cxl (k : Nat) : (s.at k).cxl = s.cxl := by unfold State.at; split <;> rfl
@[simp] theorem State.at_deck (k : Nat) : (s.at k).deck = s.deck := by unfold State.at; split <;> rfl
@[simp] theorem State.at_card (k : Nat) : (s.at k).card = s.card := by unfold State.at; split <;> rfl
@[simp] theorem State.at_flash (k : Nat) : (s.at k).flash = s.flash := by unfold State.at; split <;> rfl
@[simp] theorem State.at_pack (k : Nat) : (s.at k).pack = s.pack := by unfold State.at; split <;> rfl
@[simp] theorem State.at_pwr (k : Nat) : (s.at k).pwr = s.pwr := by unfold State.at; split <;> rfl
@[simp] theorem State.at_warden (k : Nat) : (s.at k).warden = s.warden := by unfold State.at; split <;> rfl
@[simp] theorem State.at_recorder (k : Nat) : (s.at k).recorder = s.recorder := by unfold State.at; split <;> rfl
@[simp] theorem State.at_sec (k : Nat) : (s.at k).sec = s.sec := by unfold State.at; split <;> rfl
@[simp] theorem State.at_sys (k : Nat) : (s.at k).sys = s.sys := by unfold State.at; split <;> rfl
@[simp] theorem State.at_ch (k n : Nat) : (s.at k).ch n = s.ch n := by unfold State.at; split <;> rfl
@[simp] theorem State.at_portState (k n : Nat) : (s.at k).portState n = s.portState n := by unfold State.at; split <;> rfl
@[simp] theorem State.at_nch (k n : Nat) : (s.at k).nch n = s.nch n := by unfold State.at; split <;> rfl
@[simp] theorem State.at_region (k n : Nat) : (s.at k).region n = s.region n := by unfold State.at; split <;> rfl
@[simp] theorem State.at_code (k n : Nat) : (s.at k).code n = s.code n := by unfold State.at; split <;> rfl
@[simp] theorem State.at_frameOf (k n : Nat) : (s.at k).frameOf n = s.frameOf n := by unfold State.at; split <;> rfl
@[simp] theorem State.at_recOf (k n : Nat) : (s.at k).recOf n = s.recOf n := by unfold State.at; split <;> rfl
@[simp] theorem State.at_regs (k : Nat) : (s.at k).regs = s.regs := by unfold State.at; split <;> rfl
@[simp] theorem State.at_get (k : Nat) (g : Field) : (s.at k).get g = s.get g := by unfold State.at; split <;> rfl
@[simp] theorem State.at_slot (k : Nat) : (s.at k).slot = k := by unfold State.at; split <;> simp_all

/-- Moving to another slot forgets what the last one added and set; staying in it changes nothing. -/
theorem State.at_slotIncs (k : Nat) : (s.at k).slotIncs = if s.slot = k then s.slotIncs else [] := by
  unfold State.at; split <;> rfl

theorem State.at_slotSets (k : Nat) : (s.at k).slotSets = if s.slot = k then s.slotSets else [] := by
  unfold State.at; split <;> rfl

@[simp] theorem State.at_self : s.at s.slot = s := by simp [State.at]

/-! ### Events, answers and waiting writes -/

@[simp] theorem State.raise_pending (n : Nat) (d : List DField) (c : List CxlRec) : (s.raise n d c).pending = s.pending := rfl
@[simp] theorem State.raise_regs (n : Nat) (d : List DField) (c : List CxlRec) : (s.raise n d c).regs = s.regs := rfl
@[simp] theorem State.raise_shadows (n : Nat) (d : List DField) (c : List CxlRec) : (s.raise n d c).shadows = s.shadows := rfl
@[simp] theorem State.raise_bar (n : Nat) (d : List DField) (c : List CxlRec) : (s.raise n d c).bar = s.bar := rfl
@[simp] theorem State.raise_slot (n : Nat) (d : List DField) (c : List CxlRec) : (s.raise n d c).slot = s.slot := rfl
@[simp] theorem State.raise_slotIncs (n : Nat) (d : List DField) (c : List CxlRec) : (s.raise n d c).slotIncs = s.slotIncs := rfl
@[simp] theorem State.raise_slotSets (n : Nat) (d : List DField) (c : List CxlRec) : (s.raise n d c).slotSets = s.slotSets := rfl
@[simp] theorem State.raise_writes (n : Nat) (d : List DField) (c : List CxlRec) : (s.raise n d c).writes = s.writes := rfl
@[simp] theorem State.raise_draws (n : Nat) (d : List DField) (c : List CxlRec) : (s.raise n d c).draws = s.draws := rfl
@[simp] theorem State.raise_outs (n : Nat) (d : List DField) (c : List CxlRec) : (s.raise n d c).outs = s.outs := rfl
@[simp] theorem State.raise_opt (n : Nat) (d : List DField) (c : List CxlRec) : (s.raise n d c).opt = s.opt := rfl
@[simp] theorem State.raise_cmd (n : Nat) (d : List DField) (c : List CxlRec) : (s.raise n d c).cmd = s.cmd := rfl
@[simp] theorem State.raise_seq (n : Nat) (d : List DField) (c : List CxlRec) : (s.raise n d c).seq = s.seq := rfl
@[simp] theorem State.raise_dram (n : Nat) (d : List DField) (c : List CxlRec) : (s.raise n d c).dram = s.dram := rfl
@[simp] theorem State.raise_tile (n : Nat) (d : List DField) (c : List CxlRec) : (s.raise n d c).tile = s.tile := rfl
@[simp] theorem State.raise_save (n : Nat) (d : List DField) (c : List CxlRec) : (s.raise n d c).save = s.save := rfl
@[simp] theorem State.raise_cxl (n : Nat) (d : List DField) (c : List CxlRec) : (s.raise n d c).cxl = s.cxl := rfl
@[simp] theorem State.raise_deck (n : Nat) (d : List DField) (c : List CxlRec) : (s.raise n d c).deck = s.deck := rfl
@[simp] theorem State.raise_card (n : Nat) (d : List DField) (c : List CxlRec) : (s.raise n d c).card = s.card := rfl
@[simp] theorem State.raise_flash (n : Nat) (d : List DField) (c : List CxlRec) : (s.raise n d c).flash = s.flash := rfl
@[simp] theorem State.raise_pack (n : Nat) (d : List DField) (c : List CxlRec) : (s.raise n d c).pack = s.pack := rfl
@[simp] theorem State.raise_pwr (n : Nat) (d : List DField) (c : List CxlRec) : (s.raise n d c).pwr = s.pwr := rfl
@[simp] theorem State.raise_warden (n : Nat) (d : List DField) (c : List CxlRec) : (s.raise n d c).warden = s.warden := rfl
@[simp] theorem State.raise_recorder (n : Nat) (d : List DField) (c : List CxlRec) : (s.raise n d c).recorder = s.recorder := rfl
@[simp] theorem State.raise_sec (n : Nat) (d : List DField) (c : List CxlRec) : (s.raise n d c).sec = s.sec := rfl
@[simp] theorem State.raise_sys (n : Nat) (d : List DField) (c : List CxlRec) : (s.raise n d c).sys = s.sys := rfl
@[simp] theorem State.raise_ch (n : Nat) (d : List DField) (c : List CxlRec) (k : Nat) : (s.raise n d c).ch k = s.ch k := rfl
@[simp] theorem State.raise_portState (n : Nat) (d : List DField) (c : List CxlRec) (k : Nat) : (s.raise n d c).portState k = s.portState k := rfl
@[simp] theorem State.raise_nch (n : Nat) (d : List DField) (c : List CxlRec) (k : Nat) : (s.raise n d c).nch k = s.nch k := rfl
@[simp] theorem State.raise_region (n : Nat) (d : List DField) (c : List CxlRec) (k : Nat) : (s.raise n d c).region k = s.region k := rfl
@[simp] theorem State.raise_code (n : Nat) (d : List DField) (c : List CxlRec) (k : Nat) : (s.raise n d c).code k = s.code k := rfl
@[simp] theorem State.raise_frameOf (n : Nat) (d : List DField) (c : List CxlRec) (k : Nat) : (s.raise n d c).frameOf k = s.frameOf k := rfl
@[simp] theorem State.raise_recOf (n : Nat) (d : List DField) (c : List CxlRec) (k : Nat) : (s.raise n d c).recOf k = s.recOf k := rfl
@[simp] theorem State.raise_get (n : Nat) (d : List DField) (c : List CxlRec) (g : Field) : (s.raise n d c).get g = s.get g := rfl
@[simp] theorem State.raise_raised (n : Nat) (d : List DField) (c : List CxlRec) :
    (s.raise n d c).raised = s.raised ++ [⟨n, d, s.bar, c⟩] := rfl

@[simp] theorem State.send_pending (a : Out) : (s.send a).pending = s.pending := rfl
@[simp] theorem State.send_regs (a : Out) : (s.send a).regs = s.regs := rfl
@[simp] theorem State.send_shadows (a : Out) : (s.send a).shadows = s.shadows := rfl
@[simp] theorem State.send_bar (a : Out) : (s.send a).bar = s.bar := rfl
@[simp] theorem State.send_slot (a : Out) : (s.send a).slot = s.slot := rfl
@[simp] theorem State.send_slotIncs (a : Out) : (s.send a).slotIncs = s.slotIncs := rfl
@[simp] theorem State.send_slotSets (a : Out) : (s.send a).slotSets = s.slotSets := rfl
@[simp] theorem State.send_writes (a : Out) : (s.send a).writes = s.writes := rfl
@[simp] theorem State.send_raised (a : Out) : (s.send a).raised = s.raised := rfl
@[simp] theorem State.send_draws (a : Out) : (s.send a).draws = s.draws := rfl
@[simp] theorem State.send_opt (a : Out) : (s.send a).opt = s.opt := rfl
@[simp] theorem State.send_cmd (a : Out) : (s.send a).cmd = s.cmd := rfl
@[simp] theorem State.send_seq (a : Out) : (s.send a).seq = s.seq := rfl
@[simp] theorem State.send_dram (a : Out) : (s.send a).dram = s.dram := rfl
@[simp] theorem State.send_tile (a : Out) : (s.send a).tile = s.tile := rfl
@[simp] theorem State.send_save (a : Out) : (s.send a).save = s.save := rfl
@[simp] theorem State.send_cxl (a : Out) : (s.send a).cxl = s.cxl := rfl
@[simp] theorem State.send_deck (a : Out) : (s.send a).deck = s.deck := rfl
@[simp] theorem State.send_card (a : Out) : (s.send a).card = s.card := rfl
@[simp] theorem State.send_flash (a : Out) : (s.send a).flash = s.flash := rfl
@[simp] theorem State.send_pack (a : Out) : (s.send a).pack = s.pack := rfl
@[simp] theorem State.send_pwr (a : Out) : (s.send a).pwr = s.pwr := rfl
@[simp] theorem State.send_warden (a : Out) : (s.send a).warden = s.warden := rfl
@[simp] theorem State.send_recorder (a : Out) : (s.send a).recorder = s.recorder := rfl
@[simp] theorem State.send_sec (a : Out) : (s.send a).sec = s.sec := rfl
@[simp] theorem State.send_sys (a : Out) : (s.send a).sys = s.sys := rfl
@[simp] theorem State.send_ch (a : Out) (k : Nat) : (s.send a).ch k = s.ch k := rfl
@[simp] theorem State.send_portState (a : Out) (k : Nat) : (s.send a).portState k = s.portState k := rfl
@[simp] theorem State.send_nch (a : Out) (k : Nat) : (s.send a).nch k = s.nch k := rfl
@[simp] theorem State.send_region (a : Out) (k : Nat) : (s.send a).region k = s.region k := rfl
@[simp] theorem State.send_code (a : Out) (k : Nat) : (s.send a).code k = s.code k := rfl
@[simp] theorem State.send_frameOf (a : Out) (k : Nat) : (s.send a).frameOf k = s.frameOf k := rfl
@[simp] theorem State.send_recOf (a : Out) (k : Nat) : (s.send a).recOf k = s.recOf k := rfl
@[simp] theorem State.send_get (a : Out) (g : Field) : (s.send a).get g = s.get g := rfl
@[simp] theorem State.send_outs (a : Out) : (s.send a).outs = s.outs ++ [a] := rfl

@[simp] theorem State.later_pending (f : Field) (v : Nat) : (s.later f v).pending = s.pending := rfl
@[simp] theorem State.later_regs (f : Field) (v : Nat) : (s.later f v).regs = s.regs := rfl
@[simp] theorem State.later_shadows (f : Field) (v : Nat) : (s.later f v).shadows = s.shadows := rfl
@[simp] theorem State.later_bar (f : Field) (v : Nat) : (s.later f v).bar = s.bar := rfl
@[simp] theorem State.later_slot (f : Field) (v : Nat) : (s.later f v).slot = s.slot := rfl
@[simp] theorem State.later_slotIncs (f : Field) (v : Nat) : (s.later f v).slotIncs = s.slotIncs := rfl
@[simp] theorem State.later_slotSets (f : Field) (v : Nat) : (s.later f v).slotSets = s.slotSets := rfl
@[simp] theorem State.later_raised (f : Field) (v : Nat) : (s.later f v).raised = s.raised := rfl
@[simp] theorem State.later_draws (f : Field) (v : Nat) : (s.later f v).draws = s.draws := rfl
@[simp] theorem State.later_outs (f : Field) (v : Nat) : (s.later f v).outs = s.outs := rfl
@[simp] theorem State.later_opt (f : Field) (v : Nat) : (s.later f v).opt = s.opt := rfl
@[simp] theorem State.later_cmd (f : Field) (v : Nat) : (s.later f v).cmd = s.cmd := rfl
@[simp] theorem State.later_seq (f : Field) (v : Nat) : (s.later f v).seq = s.seq := rfl
@[simp] theorem State.later_dram (f : Field) (v : Nat) : (s.later f v).dram = s.dram := rfl
@[simp] theorem State.later_tile (f : Field) (v : Nat) : (s.later f v).tile = s.tile := rfl
@[simp] theorem State.later_save (f : Field) (v : Nat) : (s.later f v).save = s.save := rfl
@[simp] theorem State.later_cxl (f : Field) (v : Nat) : (s.later f v).cxl = s.cxl := rfl
@[simp] theorem State.later_deck (f : Field) (v : Nat) : (s.later f v).deck = s.deck := rfl
@[simp] theorem State.later_card (f : Field) (v : Nat) : (s.later f v).card = s.card := rfl
@[simp] theorem State.later_flash (f : Field) (v : Nat) : (s.later f v).flash = s.flash := rfl
@[simp] theorem State.later_pack (f : Field) (v : Nat) : (s.later f v).pack = s.pack := rfl
@[simp] theorem State.later_pwr (f : Field) (v : Nat) : (s.later f v).pwr = s.pwr := rfl
@[simp] theorem State.later_warden (f : Field) (v : Nat) : (s.later f v).warden = s.warden := rfl
@[simp] theorem State.later_recorder (f : Field) (v : Nat) : (s.later f v).recorder = s.recorder := rfl
@[simp] theorem State.later_sec (f : Field) (v : Nat) : (s.later f v).sec = s.sec := rfl
@[simp] theorem State.later_sys (f : Field) (v : Nat) : (s.later f v).sys = s.sys := rfl
@[simp] theorem State.later_ch (f : Field) (v : Nat) (k : Nat) : (s.later f v).ch k = s.ch k := rfl
@[simp] theorem State.later_portState (f : Field) (v : Nat) (k : Nat) : (s.later f v).portState k = s.portState k := rfl
@[simp] theorem State.later_nch (f : Field) (v : Nat) (k : Nat) : (s.later f v).nch k = s.nch k := rfl
@[simp] theorem State.later_region (f : Field) (v : Nat) (k : Nat) : (s.later f v).region k = s.region k := rfl
@[simp] theorem State.later_code (f : Field) (v : Nat) (k : Nat) : (s.later f v).code k = s.code k := rfl
@[simp] theorem State.later_frameOf (f : Field) (v : Nat) (k : Nat) : (s.later f v).frameOf k = s.frameOf k := rfl
@[simp] theorem State.later_recOf (f : Field) (v : Nat) (k : Nat) : (s.later f v).recOf k = s.recOf k := rfl
@[simp] theorem State.later_get (f : Field) (v : Nat) (g : Field) : (s.later f v).get g = s.get g := rfl

@[simp] theorem State.updCh_pending (c : Nat) (f : DramCh → DramCh) : (s.updCh c f).pending = s.pending := rfl
@[simp] theorem State.updCh_regs (c : Nat) (f : DramCh → DramCh) : (s.updCh c f).regs = s.regs := rfl
@[simp] theorem State.updCh_shadows (c : Nat) (f : DramCh → DramCh) : (s.updCh c f).shadows = s.shadows := rfl
@[simp] theorem State.updCh_bar (c : Nat) (f : DramCh → DramCh) : (s.updCh c f).bar = s.bar := rfl
@[simp] theorem State.updCh_slot (c : Nat) (f : DramCh → DramCh) : (s.updCh c f).slot = s.slot := rfl
@[simp] theorem State.updCh_slotIncs (c : Nat) (f : DramCh → DramCh) : (s.updCh c f).slotIncs = s.slotIncs := rfl
@[simp] theorem State.updCh_slotSets (c : Nat) (f : DramCh → DramCh) : (s.updCh c f).slotSets = s.slotSets := rfl
@[simp] theorem State.updCh_writes (c : Nat) (f : DramCh → DramCh) : (s.updCh c f).writes = s.writes := rfl
@[simp] theorem State.updCh_raised (c : Nat) (f : DramCh → DramCh) : (s.updCh c f).raised = s.raised := rfl
@[simp] theorem State.updCh_draws (c : Nat) (f : DramCh → DramCh) : (s.updCh c f).draws = s.draws := rfl
@[simp] theorem State.updCh_outs (c : Nat) (f : DramCh → DramCh) : (s.updCh c f).outs = s.outs := rfl
@[simp] theorem State.updCh_opt (c : Nat) (f : DramCh → DramCh) : (s.updCh c f).opt = s.opt := rfl
@[simp] theorem State.updCh_cmd (c : Nat) (f : DramCh → DramCh) : (s.updCh c f).cmd = s.cmd := rfl
@[simp] theorem State.updCh_seq (c : Nat) (f : DramCh → DramCh) : (s.updCh c f).seq = s.seq := rfl
@[simp] theorem State.updCh_tile (c : Nat) (f : DramCh → DramCh) : (s.updCh c f).tile = s.tile := rfl
@[simp] theorem State.updCh_save (c : Nat) (f : DramCh → DramCh) : (s.updCh c f).save = s.save := rfl
@[simp] theorem State.updCh_cxl (c : Nat) (f : DramCh → DramCh) : (s.updCh c f).cxl = s.cxl := rfl
@[simp] theorem State.updCh_deck (c : Nat) (f : DramCh → DramCh) : (s.updCh c f).deck = s.deck := rfl
@[simp] theorem State.updCh_card (c : Nat) (f : DramCh → DramCh) : (s.updCh c f).card = s.card := rfl
@[simp] theorem State.updCh_flash (c : Nat) (f : DramCh → DramCh) : (s.updCh c f).flash = s.flash := rfl
@[simp] theorem State.updCh_pack (c : Nat) (f : DramCh → DramCh) : (s.updCh c f).pack = s.pack := rfl
@[simp] theorem State.updCh_pwr (c : Nat) (f : DramCh → DramCh) : (s.updCh c f).pwr = s.pwr := rfl
@[simp] theorem State.updCh_warden (c : Nat) (f : DramCh → DramCh) : (s.updCh c f).warden = s.warden := rfl
@[simp] theorem State.updCh_recorder (c : Nat) (f : DramCh → DramCh) : (s.updCh c f).recorder = s.recorder := rfl
@[simp] theorem State.updCh_sec (c : Nat) (f : DramCh → DramCh) : (s.updCh c f).sec = s.sec := rfl
@[simp] theorem State.updCh_sys (c : Nat) (f : DramCh → DramCh) : (s.updCh c f).sys = s.sys := rfl
@[simp] theorem State.updCh_portState (c : Nat) (f : DramCh → DramCh) (k : Nat) : (s.updCh c f).portState k = s.portState k := rfl
@[simp] theorem State.updCh_nch (c : Nat) (f : DramCh → DramCh) (k : Nat) : (s.updCh c f).nch k = s.nch k := rfl
@[simp] theorem State.updCh_region (c : Nat) (f : DramCh → DramCh) (k : Nat) : (s.updCh c f).region k = s.region k := rfl
@[simp] theorem State.updCh_code (c : Nat) (f : DramCh → DramCh) (k : Nat) : (s.updCh c f).code k = s.code k := rfl
@[simp] theorem State.updCh_frameOf (c : Nat) (f : DramCh → DramCh) (k : Nat) : (s.updCh c f).frameOf k = s.frameOf k := rfl
@[simp] theorem State.updCh_recOf (c : Nat) (f : DramCh → DramCh) (k : Nat) : (s.updCh c f).recOf k = s.recOf k := rfl
@[simp] theorem State.updCh_get (c : Nat) (f : DramCh → DramCh) (g : Field) : (s.updCh c f).get g = s.get g := rfl

@[simp] theorem State.updPort_pending (p : Nat) (f : PortState → PortState) : (s.updPort p f).pending = s.pending := rfl
@[simp] theorem State.updPort_regs (p : Nat) (f : PortState → PortState) : (s.updPort p f).regs = s.regs := rfl
@[simp] theorem State.updPort_shadows (p : Nat) (f : PortState → PortState) : (s.updPort p f).shadows = s.shadows := rfl
@[simp] theorem State.updPort_bar (p : Nat) (f : PortState → PortState) : (s.updPort p f).bar = s.bar := rfl
@[simp] theorem State.updPort_slot (p : Nat) (f : PortState → PortState) : (s.updPort p f).slot = s.slot := rfl
@[simp] theorem State.updPort_slotIncs (p : Nat) (f : PortState → PortState) : (s.updPort p f).slotIncs = s.slotIncs := rfl
@[simp] theorem State.updPort_slotSets (p : Nat) (f : PortState → PortState) : (s.updPort p f).slotSets = s.slotSets := rfl
@[simp] theorem State.updPort_writes (p : Nat) (f : PortState → PortState) : (s.updPort p f).writes = s.writes := rfl
@[simp] theorem State.updPort_raised (p : Nat) (f : PortState → PortState) : (s.updPort p f).raised = s.raised := rfl
@[simp] theorem State.updPort_draws (p : Nat) (f : PortState → PortState) : (s.updPort p f).draws = s.draws := rfl
@[simp] theorem State.updPort_outs (p : Nat) (f : PortState → PortState) : (s.updPort p f).outs = s.outs := rfl
@[simp] theorem State.updPort_opt (p : Nat) (f : PortState → PortState) : (s.updPort p f).opt = s.opt := rfl
@[simp] theorem State.updPort_cmd (p : Nat) (f : PortState → PortState) : (s.updPort p f).cmd = s.cmd := rfl
@[simp] theorem State.updPort_seq (p : Nat) (f : PortState → PortState) : (s.updPort p f).seq = s.seq := rfl
@[simp] theorem State.updPort_dram (p : Nat) (f : PortState → PortState) : (s.updPort p f).dram = s.dram := rfl
@[simp] theorem State.updPort_tile (p : Nat) (f : PortState → PortState) : (s.updPort p f).tile = s.tile := rfl
@[simp] theorem State.updPort_save (p : Nat) (f : PortState → PortState) : (s.updPort p f).save = s.save := rfl
@[simp] theorem State.updPort_deck (p : Nat) (f : PortState → PortState) : (s.updPort p f).deck = s.deck := rfl
@[simp] theorem State.updPort_card (p : Nat) (f : PortState → PortState) : (s.updPort p f).card = s.card := rfl
@[simp] theorem State.updPort_flash (p : Nat) (f : PortState → PortState) : (s.updPort p f).flash = s.flash := rfl
@[simp] theorem State.updPort_pack (p : Nat) (f : PortState → PortState) : (s.updPort p f).pack = s.pack := rfl
@[simp] theorem State.updPort_pwr (p : Nat) (f : PortState → PortState) : (s.updPort p f).pwr = s.pwr := rfl
@[simp] theorem State.updPort_warden (p : Nat) (f : PortState → PortState) : (s.updPort p f).warden = s.warden := rfl
@[simp] theorem State.updPort_recorder (p : Nat) (f : PortState → PortState) : (s.updPort p f).recorder = s.recorder := rfl
@[simp] theorem State.updPort_sec (p : Nat) (f : PortState → PortState) : (s.updPort p f).sec = s.sec := rfl
@[simp] theorem State.updPort_sys (p : Nat) (f : PortState → PortState) : (s.updPort p f).sys = s.sys := rfl
@[simp] theorem State.updPort_ch (p : Nat) (f : PortState → PortState) (k : Nat) : (s.updPort p f).ch k = s.ch k := rfl
@[simp] theorem State.updPort_nch (p : Nat) (f : PortState → PortState) (k : Nat) : (s.updPort p f).nch k = s.nch k := rfl
@[simp] theorem State.updPort_region (p : Nat) (f : PortState → PortState) (k : Nat) : (s.updPort p f).region k = s.region k := rfl
@[simp] theorem State.updPort_code (p : Nat) (f : PortState → PortState) (k : Nat) : (s.updPort p f).code k = s.code k := rfl
@[simp] theorem State.updPort_frameOf (p : Nat) (f : PortState → PortState) (k : Nat) : (s.updPort p f).frameOf k = s.frameOf k := rfl
@[simp] theorem State.updPort_recOf (p : Nat) (f : PortState → PortState) (k : Nat) : (s.updPort p f).recOf k = s.recOf k := rfl
@[simp] theorem State.updPort_get (p : Nat) (f : PortState → PortState) (g : Field) : (s.updPort p f).get g = s.get g := rfl

@[simp] theorem State.updNch_pending (n : Nat) (f : NandCh → NandCh) : (s.updNch n f).pending = s.pending := rfl
@[simp] theorem State.updNch_regs (n : Nat) (f : NandCh → NandCh) : (s.updNch n f).regs = s.regs := rfl
@[simp] theorem State.updNch_shadows (n : Nat) (f : NandCh → NandCh) : (s.updNch n f).shadows = s.shadows := rfl
@[simp] theorem State.updNch_bar (n : Nat) (f : NandCh → NandCh) : (s.updNch n f).bar = s.bar := rfl
@[simp] theorem State.updNch_slot (n : Nat) (f : NandCh → NandCh) : (s.updNch n f).slot = s.slot := rfl
@[simp] theorem State.updNch_slotIncs (n : Nat) (f : NandCh → NandCh) : (s.updNch n f).slotIncs = s.slotIncs := rfl
@[simp] theorem State.updNch_slotSets (n : Nat) (f : NandCh → NandCh) : (s.updNch n f).slotSets = s.slotSets := rfl
@[simp] theorem State.updNch_writes (n : Nat) (f : NandCh → NandCh) : (s.updNch n f).writes = s.writes := rfl
@[simp] theorem State.updNch_raised (n : Nat) (f : NandCh → NandCh) : (s.updNch n f).raised = s.raised := rfl
@[simp] theorem State.updNch_draws (n : Nat) (f : NandCh → NandCh) : (s.updNch n f).draws = s.draws := rfl
@[simp] theorem State.updNch_outs (n : Nat) (f : NandCh → NandCh) : (s.updNch n f).outs = s.outs := rfl
@[simp] theorem State.updNch_opt (n : Nat) (f : NandCh → NandCh) : (s.updNch n f).opt = s.opt := rfl
@[simp] theorem State.updNch_cmd (n : Nat) (f : NandCh → NandCh) : (s.updNch n f).cmd = s.cmd := rfl
@[simp] theorem State.updNch_seq (n : Nat) (f : NandCh → NandCh) : (s.updNch n f).seq = s.seq := rfl
@[simp] theorem State.updNch_dram (n : Nat) (f : NandCh → NandCh) : (s.updNch n f).dram = s.dram := rfl
@[simp] theorem State.updNch_tile (n : Nat) (f : NandCh → NandCh) : (s.updNch n f).tile = s.tile := rfl
@[simp] theorem State.updNch_save (n : Nat) (f : NandCh → NandCh) : (s.updNch n f).save = s.save := rfl
@[simp] theorem State.updNch_cxl (n : Nat) (f : NandCh → NandCh) : (s.updNch n f).cxl = s.cxl := rfl
@[simp] theorem State.updNch_card (n : Nat) (f : NandCh → NandCh) : (s.updNch n f).card = s.card := rfl
@[simp] theorem State.updNch_flash (n : Nat) (f : NandCh → NandCh) : (s.updNch n f).flash = s.flash := rfl
@[simp] theorem State.updNch_pack (n : Nat) (f : NandCh → NandCh) : (s.updNch n f).pack = s.pack := rfl
@[simp] theorem State.updNch_pwr (n : Nat) (f : NandCh → NandCh) : (s.updNch n f).pwr = s.pwr := rfl
@[simp] theorem State.updNch_warden (n : Nat) (f : NandCh → NandCh) : (s.updNch n f).warden = s.warden := rfl
@[simp] theorem State.updNch_recorder (n : Nat) (f : NandCh → NandCh) : (s.updNch n f).recorder = s.recorder := rfl
@[simp] theorem State.updNch_sec (n : Nat) (f : NandCh → NandCh) : (s.updNch n f).sec = s.sec := rfl
@[simp] theorem State.updNch_sys (n : Nat) (f : NandCh → NandCh) : (s.updNch n f).sys = s.sys := rfl
@[simp] theorem State.updNch_ch (n : Nat) (f : NandCh → NandCh) (k : Nat) : (s.updNch n f).ch k = s.ch k := rfl
@[simp] theorem State.updNch_portState (n : Nat) (f : NandCh → NandCh) (k : Nat) : (s.updNch n f).portState k = s.portState k := rfl
@[simp] theorem State.updNch_region (n : Nat) (f : NandCh → NandCh) (k : Nat) : (s.updNch n f).region k = s.region k := rfl
@[simp] theorem State.updNch_code (n : Nat) (f : NandCh → NandCh) (k : Nat) : (s.updNch n f).code k = s.code k := rfl
@[simp] theorem State.updNch_frameOf (n : Nat) (f : NandCh → NandCh) (k : Nat) : (s.updNch n f).frameOf k = s.frameOf k := rfl
@[simp] theorem State.updNch_get (n : Nat) (f : NandCh → NandCh) (g : Field) : (s.updNch n f).get g = s.get g := rfl

@[simp] theorem State.setRegion_pending (r : Nat) (x : Region) : (s.setRegion r x).pending = s.pending := rfl
@[simp] theorem State.setRegion_regs (r : Nat) (x : Region) : (s.setRegion r x).regs = s.regs := rfl
@[simp] theorem State.setRegion_shadows (r : Nat) (x : Region) : (s.setRegion r x).shadows = s.shadows := rfl
@[simp] theorem State.setRegion_bar (r : Nat) (x : Region) : (s.setRegion r x).bar = s.bar := rfl
@[simp] theorem State.setRegion_slot (r : Nat) (x : Region) : (s.setRegion r x).slot = s.slot := rfl
@[simp] theorem State.setRegion_slotIncs (r : Nat) (x : Region) : (s.setRegion r x).slotIncs = s.slotIncs := rfl
@[simp] theorem State.setRegion_slotSets (r : Nat) (x : Region) : (s.setRegion r x).slotSets = s.slotSets := rfl
@[simp] theorem State.setRegion_writes (r : Nat) (x : Region) : (s.setRegion r x).writes = s.writes := rfl
@[simp] theorem State.setRegion_raised (r : Nat) (x : Region) : (s.setRegion r x).raised = s.raised := rfl
@[simp] theorem State.setRegion_draws (r : Nat) (x : Region) : (s.setRegion r x).draws = s.draws := rfl
@[simp] theorem State.setRegion_outs (r : Nat) (x : Region) : (s.setRegion r x).outs = s.outs := rfl
@[simp] theorem State.setRegion_opt (r : Nat) (x : Region) : (s.setRegion r x).opt = s.opt := rfl
@[simp] theorem State.setRegion_cmd (r : Nat) (x : Region) : (s.setRegion r x).cmd = s.cmd := rfl
@[simp] theorem State.setRegion_seq (r : Nat) (x : Region) : (s.setRegion r x).seq = s.seq := rfl
@[simp] theorem State.setRegion_dram (r : Nat) (x : Region) : (s.setRegion r x).dram = s.dram := rfl
@[simp] theorem State.setRegion_save (r : Nat) (x : Region) : (s.setRegion r x).save = s.save := rfl
@[simp] theorem State.setRegion_cxl (r : Nat) (x : Region) : (s.setRegion r x).cxl = s.cxl := rfl
@[simp] theorem State.setRegion_deck (r : Nat) (x : Region) : (s.setRegion r x).deck = s.deck := rfl
@[simp] theorem State.setRegion_card (r : Nat) (x : Region) : (s.setRegion r x).card = s.card := rfl
@[simp] theorem State.setRegion_flash (r : Nat) (x : Region) : (s.setRegion r x).flash = s.flash := rfl
@[simp] theorem State.setRegion_pack (r : Nat) (x : Region) : (s.setRegion r x).pack = s.pack := rfl
@[simp] theorem State.setRegion_pwr (r : Nat) (x : Region) : (s.setRegion r x).pwr = s.pwr := rfl
@[simp] theorem State.setRegion_warden (r : Nat) (x : Region) : (s.setRegion r x).warden = s.warden := rfl
@[simp] theorem State.setRegion_recorder (r : Nat) (x : Region) : (s.setRegion r x).recorder = s.recorder := rfl
@[simp] theorem State.setRegion_sec (r : Nat) (x : Region) : (s.setRegion r x).sec = s.sec := rfl
@[simp] theorem State.setRegion_sys (r : Nat) (x : Region) : (s.setRegion r x).sys = s.sys := rfl
@[simp] theorem State.setRegion_ch (r : Nat) (x : Region) (k : Nat) : (s.setRegion r x).ch k = s.ch k := rfl
@[simp] theorem State.setRegion_portState (r : Nat) (x : Region) (k : Nat) : (s.setRegion r x).portState k = s.portState k := rfl
@[simp] theorem State.setRegion_nch (r : Nat) (x : Region) (k : Nat) : (s.setRegion r x).nch k = s.nch k := rfl
@[simp] theorem State.setRegion_recOf (r : Nat) (x : Region) (k : Nat) : (s.setRegion r x).recOf k = s.recOf k := rfl
@[simp] theorem State.setRegion_get (r : Nat) (x : Region) (g : Field) : (s.setRegion r x).get g = s.get g := rfl

@[simp] theorem State.setPoison_pending (f i : Nat) (b : Bool) : (s.setPoison f i b).pending = s.pending := rfl
@[simp] theorem State.setPoison_regs (f i : Nat) (b : Bool) : (s.setPoison f i b).regs = s.regs := rfl
@[simp] theorem State.setPoison_shadows (f i : Nat) (b : Bool) : (s.setPoison f i b).shadows = s.shadows := rfl
@[simp] theorem State.setPoison_bar (f i : Nat) (b : Bool) : (s.setPoison f i b).bar = s.bar := rfl
@[simp] theorem State.setPoison_slot (f i : Nat) (b : Bool) : (s.setPoison f i b).slot = s.slot := rfl
@[simp] theorem State.setPoison_slotIncs (f i : Nat) (b : Bool) : (s.setPoison f i b).slotIncs = s.slotIncs := rfl
@[simp] theorem State.setPoison_slotSets (f i : Nat) (b : Bool) : (s.setPoison f i b).slotSets = s.slotSets := rfl
@[simp] theorem State.setPoison_writes (f i : Nat) (b : Bool) : (s.setPoison f i b).writes = s.writes := rfl
@[simp] theorem State.setPoison_raised (f i : Nat) (b : Bool) : (s.setPoison f i b).raised = s.raised := rfl
@[simp] theorem State.setPoison_draws (f i : Nat) (b : Bool) : (s.setPoison f i b).draws = s.draws := rfl
@[simp] theorem State.setPoison_outs (f i : Nat) (b : Bool) : (s.setPoison f i b).outs = s.outs := rfl
@[simp] theorem State.setPoison_opt (f i : Nat) (b : Bool) : (s.setPoison f i b).opt = s.opt := rfl
@[simp] theorem State.setPoison_cmd (f i : Nat) (b : Bool) : (s.setPoison f i b).cmd = s.cmd := rfl
@[simp] theorem State.setPoison_seq (f i : Nat) (b : Bool) : (s.setPoison f i b).seq = s.seq := rfl
@[simp] theorem State.setPoison_tile (f i : Nat) (b : Bool) : (s.setPoison f i b).tile = s.tile := rfl
@[simp] theorem State.setPoison_save (f i : Nat) (b : Bool) : (s.setPoison f i b).save = s.save := rfl
@[simp] theorem State.setPoison_cxl (f i : Nat) (b : Bool) : (s.setPoison f i b).cxl = s.cxl := rfl
@[simp] theorem State.setPoison_deck (f i : Nat) (b : Bool) : (s.setPoison f i b).deck = s.deck := rfl
@[simp] theorem State.setPoison_card (f i : Nat) (b : Bool) : (s.setPoison f i b).card = s.card := rfl
@[simp] theorem State.setPoison_flash (f i : Nat) (b : Bool) : (s.setPoison f i b).flash = s.flash := rfl
@[simp] theorem State.setPoison_pack (f i : Nat) (b : Bool) : (s.setPoison f i b).pack = s.pack := rfl
@[simp] theorem State.setPoison_pwr (f i : Nat) (b : Bool) : (s.setPoison f i b).pwr = s.pwr := rfl
@[simp] theorem State.setPoison_warden (f i : Nat) (b : Bool) : (s.setPoison f i b).warden = s.warden := rfl
@[simp] theorem State.setPoison_recorder (f i : Nat) (b : Bool) : (s.setPoison f i b).recorder = s.recorder := rfl
@[simp] theorem State.setPoison_sec (f i : Nat) (b : Bool) : (s.setPoison f i b).sec = s.sec := rfl
@[simp] theorem State.setPoison_sys (f i : Nat) (b : Bool) : (s.setPoison f i b).sys = s.sys := rfl
@[simp] theorem State.setPoison_portState (f i : Nat) (b : Bool) (k : Nat) : (s.setPoison f i b).portState k = s.portState k := rfl
@[simp] theorem State.setPoison_nch (f i : Nat) (b : Bool) (k : Nat) : (s.setPoison f i b).nch k = s.nch k := rfl
@[simp] theorem State.setPoison_region (f i : Nat) (b : Bool) (k : Nat) : (s.setPoison f i b).region k = s.region k := rfl
@[simp] theorem State.setPoison_code (f i : Nat) (b : Bool) (k : Nat) : (s.setPoison f i b).code k = s.code k := rfl
@[simp] theorem State.setPoison_frameOf (f i : Nat) (b : Bool) (k : Nat) : (s.setPoison f i b).frameOf k = s.frameOf k := rfl
@[simp] theorem State.setPoison_recOf (f i : Nat) (b : Bool) (k : Nat) : (s.setPoison f i b).recOf k = s.recOf k := rfl
@[simp] theorem State.setPoison_get (f i : Nat) (b : Bool) (g : Field) : (s.setPoison f i b).get g = s.get g := rfl

@[simp] theorem State.writeFrame_pending (f i : Nat) (b : List Byte) : (s.writeFrame f i b).pending = s.pending := rfl
@[simp] theorem State.writeFrame_regs (f i : Nat) (b : List Byte) : (s.writeFrame f i b).regs = s.regs := rfl
@[simp] theorem State.writeFrame_shadows (f i : Nat) (b : List Byte) : (s.writeFrame f i b).shadows = s.shadows := rfl
@[simp] theorem State.writeFrame_bar (f i : Nat) (b : List Byte) : (s.writeFrame f i b).bar = s.bar := rfl
@[simp] theorem State.writeFrame_slot (f i : Nat) (b : List Byte) : (s.writeFrame f i b).slot = s.slot := rfl
@[simp] theorem State.writeFrame_slotIncs (f i : Nat) (b : List Byte) : (s.writeFrame f i b).slotIncs = s.slotIncs := rfl
@[simp] theorem State.writeFrame_slotSets (f i : Nat) (b : List Byte) : (s.writeFrame f i b).slotSets = s.slotSets := rfl
@[simp] theorem State.writeFrame_writes (f i : Nat) (b : List Byte) : (s.writeFrame f i b).writes = s.writes := rfl
@[simp] theorem State.writeFrame_raised (f i : Nat) (b : List Byte) : (s.writeFrame f i b).raised = s.raised := rfl
@[simp] theorem State.writeFrame_draws (f i : Nat) (b : List Byte) : (s.writeFrame f i b).draws = s.draws := rfl
@[simp] theorem State.writeFrame_outs (f i : Nat) (b : List Byte) : (s.writeFrame f i b).outs = s.outs := rfl
@[simp] theorem State.writeFrame_opt (f i : Nat) (b : List Byte) : (s.writeFrame f i b).opt = s.opt := rfl
@[simp] theorem State.writeFrame_cmd (f i : Nat) (b : List Byte) : (s.writeFrame f i b).cmd = s.cmd := rfl
@[simp] theorem State.writeFrame_seq (f i : Nat) (b : List Byte) : (s.writeFrame f i b).seq = s.seq := rfl
@[simp] theorem State.writeFrame_tile (f i : Nat) (b : List Byte) : (s.writeFrame f i b).tile = s.tile := rfl
@[simp] theorem State.writeFrame_save (f i : Nat) (b : List Byte) : (s.writeFrame f i b).save = s.save := rfl
@[simp] theorem State.writeFrame_cxl (f i : Nat) (b : List Byte) : (s.writeFrame f i b).cxl = s.cxl := rfl
@[simp] theorem State.writeFrame_deck (f i : Nat) (b : List Byte) : (s.writeFrame f i b).deck = s.deck := rfl
@[simp] theorem State.writeFrame_card (f i : Nat) (b : List Byte) : (s.writeFrame f i b).card = s.card := rfl
@[simp] theorem State.writeFrame_flash (f i : Nat) (b : List Byte) : (s.writeFrame f i b).flash = s.flash := rfl
@[simp] theorem State.writeFrame_pack (f i : Nat) (b : List Byte) : (s.writeFrame f i b).pack = s.pack := rfl
@[simp] theorem State.writeFrame_pwr (f i : Nat) (b : List Byte) : (s.writeFrame f i b).pwr = s.pwr := rfl
@[simp] theorem State.writeFrame_warden (f i : Nat) (b : List Byte) : (s.writeFrame f i b).warden = s.warden := rfl
@[simp] theorem State.writeFrame_recorder (f i : Nat) (b : List Byte) : (s.writeFrame f i b).recorder = s.recorder := rfl
@[simp] theorem State.writeFrame_sec (f i : Nat) (b : List Byte) : (s.writeFrame f i b).sec = s.sec := rfl
@[simp] theorem State.writeFrame_sys (f i : Nat) (b : List Byte) : (s.writeFrame f i b).sys = s.sys := rfl
@[simp] theorem State.writeFrame_portState (f i : Nat) (b : List Byte) (k : Nat) : (s.writeFrame f i b).portState k = s.portState k := rfl
@[simp] theorem State.writeFrame_nch (f i : Nat) (b : List Byte) (k : Nat) : (s.writeFrame f i b).nch k = s.nch k := rfl
@[simp] theorem State.writeFrame_region (f i : Nat) (b : List Byte) (k : Nat) : (s.writeFrame f i b).region k = s.region k := rfl
@[simp] theorem State.writeFrame_code (f i : Nat) (b : List Byte) (k : Nat) : (s.writeFrame f i b).code k = s.code k := rfl
@[simp] theorem State.writeFrame_frameOf (f i : Nat) (b : List Byte) (k : Nat) : (s.writeFrame f i b).frameOf k = s.frameOf k := rfl
@[simp] theorem State.writeFrame_recOf (f i : Nat) (b : List Byte) (k : Nat) : (s.writeFrame f i b).recOf k = s.recOf k := rfl
@[simp] theorem State.writeFrame_get (f i : Nat) (b : List Byte) (g : Field) : (s.writeFrame f i b).get g = s.get g := rfl

/-! ### Channels, ports and regions -/

/-- A DRAM channel after its own update. -/
theorem State.ch_updCh_self {c : Nat} (f : DramCh → DramCh) (h : c < 8) : (s.updCh c f).ch c = f (s.ch c) :=
  setAt_self 8 DramCh.init _ _ h

/-- An update of one DRAM channel leaves the others alone. -/
theorem State.ch_updCh_ne {c d : Nat} (f : DramCh → DramCh) (hd : d < 8) (h : d ≠ c) : (s.updCh c f).ch d = s.ch d :=
  setAt_ne 8 DramCh.init _ _ hd h

/-- A NAND channel after its own update. -/
theorem State.nch_updNch_self {n : Nat} (f : NandCh → NandCh) (h : n < 16) : (s.updNch n f).nch n = f (s.nch n) :=
  setAt_self 16 NandCh.init _ _ h

/-- An update of one NAND channel leaves the others alone. -/
theorem State.nch_updNch_ne {n m : Nat} (f : NandCh → NandCh) (hm : m < 16) (h : m ≠ n) : (s.updNch n f).nch m = s.nch m :=
  setAt_ne 16 NandCh.init _ _ hm h

/-- A port after its own update. -/
theorem State.portState_updPort_self {p : Nat} (f : PortState → PortState) (h : p < 4) :
    (s.updPort p f).portState p = f (s.portState p) :=
  setAt_self 4 PortState.init _ _ h

/-- A region after it is set. -/
theorem State.region_setRegion_self {r : Nat} (x : Region) (h : r < 64) : (s.setRegion r x).region r = x :=
  setAt_self 64 Region.free _ _ h

/-- Setting one region leaves the others alone. -/
theorem State.region_setRegion_ne {r k : Nat} (x : Region) (hk : k < 64) (h : k ≠ r) : (s.setRegion r x).region k = s.region k :=
  setAt_ne 64 Region.free _ _ hk h


/-! ### The register file -/

/-- A read of the field just set gives the value, cut to the field's width. -/
@[simp] theorem State.get_set_self (f : Field) (v : Nat) : (s.set f v).get f = v % 2 ^ f.width :=
  Store.get_set_self 0 _ _ _

/-- Setting a field leaves every field of another key alone. -/
theorem State.get_set_ne {f g : Field} (v : Nat) (h : g.key ≠ f.key) : (s.set f v).get g = s.get g :=
  Store.get_set_ne 0 _ _ h

/-- A read of any field after one is set. -/
theorem State.get_set (f g : Field) (v : Nat) : (s.set f v).get g = if g.key = f.key then v % 2 ^ f.width else s.get g := by
  by_cases h : g.key = f.key
  · unfold State.get State.set
    simp [h, Store.get_set_self]
  · rw [if_neg h, State.get_set_ne s v h]

/-- A counter after it rose: its old value and the amount, saturated (R10). -/
theorem State.get_count_self (f : Field) (n : Nat) : (s.count f n).get f = satW f.width (s.get f + n) % 2 ^ f.width :=
  State.get_set_self s f _

/-- A counter that rises leaves every other field alone. -/
theorem State.get_count_ne {f g : Field} (n : Nat) (h : g.key ≠ f.key) : (s.count f n).get g = s.get g := State.get_set_ne s _ h

/-- What a counter held at the start of the slot, and what the slot added to it, after it rose by some amount (R10). -/
theorem State.risen_count (f : Field) {n : Nat} (h : n ≠ 0) : (s.count f n).risen f = ((s.risen f).1, (s.risen f).2 + n) := by
  unfold State.count State.setRisen State.risen
  simp [Store.get_set_self]
  intro _ h'
  exact absurd h' h

/-- A W1C field after hardware set bits of it. -/
theorem State.get_latch_self (f : Field) (b : Nat) : (s.latch f b).get f = Nat.lor (s.get f) b % 2 ^ f.width :=
  State.get_set_self s f _

/-- Setting bits of one W1C field leaves every other field alone. -/
theorem State.get_latch_ne {f g : Field} (b : Nat) (h : g.key ≠ f.key) : (s.latch f b).get g = s.get g := State.get_set_ne s _ h

/-- A field's key tells its address and lowest bit. -/
theorem Field.key_inj {f g : Field} (hf : f.lo < 32) (hg : g.lo < 32) (h : f.key = g.key) : f.addr = g.addr ∧ f.lo = g.lo := by
  unfold Field.key at h
  omega

/-- Setting a field keeps the register store's canonical form. -/
theorem State.set_regs_wf (f : Field) (v : Nat) (h : Store.wf 0 s.regs = true) : Store.wf 0 (s.set f v).regs = true :=
  Store.set_wf 0 _ _ _ h

/-! ### Accesses that are refused, and temperature reads -/

/-- A refused access changes no field but BAD_ACCESS (R11). -/
theorem State.get_badAccess_ne (src : Src) (a : Nat) {g : Field} (h : g.key ≠ Reg.SYS_STAT_BAD_ACCESS.key) :
    (s.badAccess src a).get g = s.get g := by
  unfold State.badAccess
  dsimp only
  split <;> exact State.get_set_ne s _ h

/-- An access without privilege changes no field but its port's CMD_NOPRIV (R14). -/
theorem State.get_noPriv_ne (src : Src) {g : Field} (h : ∀ n, src = .hport n → g.key ≠ (Reg.CMD_NOPRIV_COUNT n).key) :
    (s.noPriv src).get g = s.get g := by
  cases src with
  | hport n => exact State.get_set_ne s _ (h n rfl)
  | _ => rfl

/-- Whether a channel is hot is judged over registers alone. -/
@[simp] theorem State.updHot_dram (c : Nat) : (s.updHot c).dram = s.dram := by
  unfold State.updHot
  dsimp only
  split <;> rfl

@[simp] theorem State.updHot_ch (c d : Nat) : (s.updHot c).ch d = s.ch d := by
  unfold State.ch
  rw [State.updHot_dram]

/-- A temperature read notes its time and touches nothing else of its channel. -/
theorem State.ch_tempRead {c : Nat} (l : List TempReading) (h : c < 8) :
    (s.tempRead c l).ch c = s.ch c ∨ (s.tempRead c l).ch c = { s.ch c with tempSlot := s.now, stale := false } := by
  unfold State.tempRead
  split
  · exact .inl rfl
  · refine .inr ?_
    dsimp only
    rw [State.updHot_ch, State.ch_updCh_self _ _ h]
    rfl

/-! ### Power -/

/-- A command of a block that has power acts. -/
theorem State.powered_of_on {x : Answer} (h : s.on = true) : s.powered x = x := by
  unfold State.powered
  rw [if_pos h]

/-- Without power a command does nothing. -/
theorem State.powered_of_off {x : Answer} (h : s.on = false) : s.powered x = .next s := by
  unfold State.powered
  simp [h]

/-- Every command that waits for power answers a next state if its effect does. -/
theorem State.powered_next {x : Answer} (h : ∃ t, x = .next t) : ∃ t, s.powered x = .next t := by
  unfold State.powered
  split
  · exact h
  · exact ⟨s, rfl⟩

/-- The canonical form holds of every store of the state after reset. -/
theorem State.reset_regs_wf : Store.wf 0 State.reset.regs = true := by decide

end Sys2Proof.Machine
end

