-- ==== Sys2Proof/Laws/Packets.lean ====
section
/-! SUPPORT. What a command packet does where it reaches its application, and where it is turned away. -/

namespace Sys2Proof.Machine

/-- Where a packet reaches its application, the row applies it. -/
theorem PktOp.command_of_reaches {o : PktOp} {p : Pkt} {s : State} (h : o.reaches p s = true) :
    o.command p s = (o.run (Pkt.as p o.opcode) s).finish (Pkt.as p o.opcode) := by
  simp only [PktOp.reaches, Bool.and_eq_true, decide_eq_true_eq, Bool.or_eq_true, Bool.not_eq_true', ne_eq] at h
  obtain ⟨⟨⟨⟨⟨⟨h1, h2⟩, h3⟩, h4⟩, h5⟩, h6⟩, h7⟩ := h
  have e3 : s.holds (Pkt.as p o.opcode).src (o.needs (Pkt.as p o.opcode).expert) = true := h3
  have e4 : ((Pkt.as p o.opcode).isCast && !o.cast) = false := by
    rcases h4 with h | h
    · have : (Pkt.as p o.opcode).isCast = false := h
      simp [this]
    · simp [h]
  have e5 : o.paramsOk (Pkt.as p o.opcode).expert (Pkt.as p o.opcode).params = true := h5
  have e7 : ¬ s.stepUp < upStep (Pkt.as p o.opcode).opcode := Nat.not_lt.mpr h7
  unfold PktOp.command
  rw [show ({ p with opcode := o.opcode } : Pkt) = Pkt.as p o.opcode from rfl]
  simp only [h1, Bool.not_true, Bool.false_eq_true, if_false, h2]
  unfold PktOp.apply
  simp only [e3, e4, e5, h6, e7, decide_false, Bool.not_true, Bool.false_eq_true, if_false]

/-- An application that succeeds ends in its answer. -/
theorem OpResult.finish_ok (s : State) (p : Pkt) (data : List Byte) : (OpResult.ok s data).finish p = s.answer p stOk data := rfl

/-- A refused application changes nothing but what its answer leaves. -/
theorem OpResult.finish_refuse {s : State} {p : Pkt} {st : Nat} (h : st ≠ stLater) :
    (OpResult.refuse s st).finish p = s.answer p st [] := by
  unfold OpResult.finish OpResult.refuse
  rw [if_neg h]

/-- Where the engines run, a command of theirs acts. -/
theorem State.engines_of_running {s : State} {x : Answer} (h : s.running = true) : s.engines x = x := if_pos h

/-- A machine whose engines run has power. -/
theorem State.on_of_running {s : State} (h : s.running = true) : s.on = true := by
  unfold State.running at h
  exact (Bool.and_eq_true _ _ ▸ h).1

@[simp] theorem Pkt.as_params (p : Pkt) (n : Nat) : (Pkt.as p n).params = p.params := rfl
@[simp] theorem Pkt.as_src (p : Pkt) (n : Nat) : (Pkt.as p n).src = p.src := rfl
@[simp] theorem Pkt.as_expert (p : Pkt) (n : Nat) : (Pkt.as p n).expert = p.expert := rfl
@[simp] theorem Pkt.as_u8 (p : Pkt) (n o : Nat) : (Pkt.as p n).u8 o = p.u8 o := rfl
@[simp] theorem Pkt.as_u16 (p : Pkt) (n o : Nat) : (Pkt.as p n).u16 o = p.u16 o := rfl
@[simp] theorem Pkt.as_u32 (p : Pkt) (n o : Nat) : (Pkt.as p n).u32 o = p.u32 o := rfl
@[simp] theorem Pkt.as_u64 (p : Pkt) (n o : Nat) : (Pkt.as p n).u64 o = p.u64 o := rfl
@[simp] theorem Pkt.as_genOk (p : Pkt) (n g : Nat) : (Pkt.as p n).genOk g = p.genOk g := rfl
@[simp] theorem Pkt.as_isCast (p : Pkt) (n : Nat) : (Pkt.as p n).isCast = p.isCast := rfl
@[simp] theorem Pkt.as_replies (p : Pkt) (n : Nat) : (Pkt.as p n).replies = p.replies := rfl

end Sys2Proof.Machine
end

