-- ==== Sys2Proof/Machine/NandFormat.lean ====
section
/-! DEFINITION. The bytes that the on-NAND formats give the records the Deck holds (spec/08_deck.md R279, R282, R297 to R305;
notes/assumptions/30.md). No command shows a raw page, so no step uses them: they say what a third-party reader finds. -/

namespace Sys2Proof.Machine

/-! ### Parity (R282) -/

/-- Times 2 over GF(2^8) with polynomial 0x11D. -/
def gfTwice (a : Byte) : Byte := if a.msb then (a <<< 1) ^^^ 0x1D#8 else a <<< 1

/-- Byte by byte, shorter lists being continued with zeros. -/
def xorBytes : List Byte → List Byte → List Byte
  | [], b => b
  | a, [] => a
  | x :: a, y :: b => (x ^^^ y) :: xorBytes a b

/-- P of the data shares in position order: their sum. -/
def parityP (shares : List (List Byte)) : List Byte := shares.foldr xorBytes []

/-- Q: the sum of 2^i times share i. -/
def parityQ (shares : List (List Byte)) : List Byte := shares.foldr (fun d q => xorBytes d (q.map gfTwice)) []

/-! ### The scrambler (R279) -/

/-- The seed of a plane page. -/
def scrambleSeed (physical page plane : Nat) : Nat :=
  let s := Nat.xor ((physical * 512 + page) * 4 + plane) 0x2A5A5A % 2 ^ 23
  if s = 0 then 1 else s

/-- One bit of the register: the bit put out, and the register after it. -/
def scrambleBit (s : Nat) : Bool × Nat :=
  let b := bitAt s 22 != bitAt s 17
  (b, s * 2 % 2 ^ 23 + bit b)

/-- Eight bits, the first the most significant. -/
def scrambleByte (s : Nat) : Nat × Nat :=
  (List.range 8).foldl (fun x _ => (x.1 * 2 + bit (scrambleBit x.2).1, (scrambleBit x.2).2)) (0, s)

/-- The bytes of a plane page, data then spare, scrambled (or, scrambled again, restored). -/
def scramble : Nat → List Byte → List Byte
  | _, [] => []
  | s, b :: l => (b ^^^ BitVec.ofNat 8 (scrambleByte s).1) :: scramble (scrambleByte s).2 l

/-! ### Tile records and the lost-tile list (R300, R302) -/

def tileRecNat : TileRec → Nat
  | .zero => 0
  | .lost => 2 * 2 ^ 61
  | .data die sb page pos seg => 2 ^ 61 + die * 2 ^ 58 + sb * 2 ^ 45 + page * 2 ^ 36 + pos * 2 ^ 32 + seg % 2 ^ 24 * 2 ^ 8

/-- The record that pads the last map share: KIND 7. -/
def padRecNat : Nat := 7 * 2 ^ 61

/-- What a record says; of the segment its low 24 bits. -/
def tileRecOf (v : Nat) : Option TileRec :=
  match v / 2 ^ 61 with
  | 0 => some .zero
  | 1 => some (.data (bitsAt v 58 3) (bitsAt v 45 13) (bitsAt v 36 9) (bitsAt v 32 4) (bitsAt v 8 24))
  | 2 => some .lost
  | _ => none

/-- An entry of the lost-tile list: tile and cause. -/
def lostEntryNat (tile cause : Nat) : Nat := tile * 2 ^ 32 + cause * 2 ^ 24

/-- The records of an image tile map, without padding: regions in ascending number, tiles in ascending number (R301). -/
def Keystone.mapRecords (k : Keystone) : List TileRec :=
  (k.regions.filter (·.active)).flatMap fun x => x.tiles.map fun t => Store.get .zero k.map t

/-- The bytes of map share `i`. -/
def Keystone.mapShare (k : Keystone) (i : Nat) : List Byte :=
  let r := ((k.mapRecords.drop (8192 * i)).take 8192).map tileRecNat
  (r ++ List.replicate (8192 - r.length) padRecNat).flatMap (leBytes 8)

/-- The bytes of lost-list share `i`. -/
def Keystone.lostShare (k : Keystone) (i : Nat) : List Byte :=
  let b := ((k.lost.drop (8192 * i)).take 8192).flatMap fun e => leBytes 8 (lostEntryNat e.1 e.2)
  b ++ List.replicate (65536 - b.length) 0xFF#8

/-! ### The header area of a share (R279, R299) -/

/-- The segment header of the share of a copy: `patch` where it stands in a patch page. -/
def segHeader (x : Stripe) (pos : Nat) (c : Copy) (patch : Bool) (deckId : List Byte) (baseSeq : Nat) : List Byte :=
  let body := [0x4E#8, 0x53#8, 0x45#8, 0x47#8] ++ leBytes 1 x.kind.code ++ leBytes 1 pos
    ++ leBytes 1 (bit (!c.poison.isEmpty) + 2 * bit patch) ++ leBytes 1 0 ++ leBytes 2 x.out ++ leBytes 2 x.page
    ++ leBytes 4 x.seg ++ leBytes 8 c.seq ++ leBytes 4 c.tile ++ leBytes 4 0 ++ sliceBytes deckId 0 16 ++ leBytes 8 baseSeq
    ++ leBytes 4 0
  body ++ leBytes 4 (crc32c body)

/-- The poison map: one bit per line of the tile. -/
def poisonMap (lines : List Nat) : List Byte :=
  (List.range 128).map fun i => BitVec.ofNat 8 ((List.range 8).map fun j => 2 ^ j * bit (lines.contains (8 * i + j))).sum

/-- The 256-byte header area of a share. -/
def headerArea (x : Stripe) (pos : Nat) (c : Copy) (patch : Bool) (deckId : List Byte) (baseSeq : Nat) : List Byte :=
  segHeader x pos c patch deckId baseSeq ++ poisonMap c.poison ++ List.replicate 64 0#8

/-! ### Deck header and bad-block table (R297, R298) -/

/-- The Deck header of a channel; `sys` holds the physical numbers of its four system superblocks. -/
def deckHeader (chan dies : Nat) (deckId device : List Byte) (seconds nchMask sbPerDie logical rated : Nat) (sys : List Nat) :
    List Byte :=
  let body := [0x4E#8, 0x44#8, 0x43#8, 0x4B#8] ++ leBytes 2 1 ++ leBytes 1 chan ++ leBytes 1 dies ++ sliceBytes deckId 0 16
    ++ sliceBytes device 0 48 ++ leBytes 4 seconds ++ leBytes 2 nchMask ++ leBytes 2 0 ++ leBytes 2 512 ++ leBytes 2 16
    ++ leBytes 2 sbPerDie ++ leBytes 2 logical ++ leBytes 4 rated ++ leBytes 1 1 ++ leBytes 1 1 ++ leBytes 1 1 ++ leBytes 1 0
    ++ ((List.range 4).flatMap fun i => leBytes 2 (sys.getD i 0)) ++ List.replicate 404 0#8
  body ++ leBytes 4 (crc32c body)

/-- REMAP of a channel: the physical superblock of each logical one, die by die; 0xFFFF where its band is withdrawn. -/
def State.remapTable (s : State) (n : Nat) : List Nat :=
  (List.range s.card.nandDies).flatMap fun d => (List.range s.logicalSb).map fun i =>
    if s.band (s.bandOf d (4 + i)) = .withdrawn then 0xFFFF else s.physical n d (4 + i)

/-- The class of a physical superblock: 0 good, 1 spare, 2 retired, 3 system. -/
def State.sbClass (s : State) (n d phys : Nat) : Nat :=
  if d = 0 && decide (phys < 4) then 3
  else if (List.range s.logicalSb).any fun i => s.physical n d (4 + i) = phys then 0
  else if (List.range (Store.get 0 s.deck.sparesUsed (n * 8 + d))).any (fun i => s.sparePhysical d i = phys)
      || (decide (4 ≤ phys) && decide (phys < 4 + s.logicalSb)) then 2
  else 1

/-- The bad-block table of a channel. -/
def State.badBlockTable (s : State) (n version : Nat) : List Byte :=
  let wear := (List.range s.card.nandDies).flatMap fun d => (List.range s.card.sbPerDie).map fun p =>
    s.sbClass n d p * 2 ^ 30 + Store.get 0 s.deck.wear (sbKey n d p) % 2 ^ 30
  let body := [0x4E#8, 0x42#8, 0x42#8, 0x54#8] ++ leBytes 4 version ++ leBytes 1 n ++ leBytes 1 s.card.nandDies
    ++ leBytes 2 s.card.sbPerDie ++ leBytes 2 s.logicalSb ++ leBytes 2 0 ++ (s.remapTable n).flatMap (leBytes 2)
    ++ wear.flatMap (leBytes 4)
  body ++ leBytes 4 (crc32c body)

/-! ### The Keystone (R303 to R305) -/

/-- A region entry of a Keystone (R304): MAP_FIRST is the index of the region's first record. -/
def keystoneRegion (regions : List Region) (r : Nat) : List Byte :=
  let x := regions.getD r .free
  let first := (((regions.take r).filter (·.active)).map fun y => 16384 * y.size).sum
  leBytes 1 (bit x.active) ++ leBytes 1 x.port ++ leBytes 1 x.ld ++ leBytes 1 0 ++ leBytes 2 x.base ++ leBytes 2 x.size
    ++ leBytes 4 x.tileBase ++ leBytes 2 x.gen ++ leBytes 2 0 ++ leBytes 4 (if x.active then first else 0) ++ leBytes 12 0

/-- Where a MAP or LOST_LIST share of a Keystone lies, as a tile record of KIND 1. -/
def State.shareLocation (s : State) (kind : SegKind) (seq i : Nat) : TileRec :=
  (s.deck.stripes.findSome? fun x =>
    if x.kind = kind then (x.shares.find? fun e => e.2.tile = i && e.2.seq = seq).map fun e =>
      TileRec.data x.die x.sb x.page e.1 x.seg
    else none).getD .zero

/-- BODY_LENGTH: fixed part, the two directories, digest and signature. -/
def Keystone.bodyLength (mapShares lostShares : Nat) : Nat := (0xA00 + 8 * mapShares + 8 * lostShares + 144 + 15) / 16 * 16

/-- The body up to its DIGEST. -/
def State.keystoneHead (s : State) (k : Keystone) (copy : Nat) : List Byte :=
  let recs := k.mapRecords
  let count := fun (p : TileRec → Bool) => (recs.filter p).length
  let maps := ceilDiv recs.length 8192
  let losts := ceilDiv k.lost.length 8192
  let digest := fun (b : List Byte) => sliceBytes (Config.sha384 b) 0 48
  let data : TileRec → Bool := fun r => match r with
    | .data _ _ _ _ _ => true
    | _ => false
  let b := [0x4E#8, 0x4B#8, 0x45#8, 0x59#8] ++ leBytes 2 1 ++ leBytes 1 k.cause ++ leBytes 1 copy
    ++ leBytes 4 (Keystone.bodyLength maps losts) ++ leBytes 4 0 ++ leBytes 8 k.seq ++ leBytes 8 k.parent
    ++ sliceBytes k.deckId 0 16 ++ sliceBytes k.device 0 48 ++ leBytes 4 k.opSeconds ++ leBytes 4 (k.pwrCycles % 2 ^ 24)
    ++ leBytes 8 k.bar ++ leBytes 4 recs.length ++ leBytes 4 (count data) ++ leBytes 4 (count (· = .zero))
    ++ leBytes 4 (count (· = .lost)) ++ leBytes 2 maps ++ leBytes 2 losts ++ leBytes 2 k.out ++ leBytes 10 0
    ++ digest (recs.flatMap fun r => leBytes 8 (tileRecNat r))
    ++ digest (k.lost.flatMap fun e => leBytes 8 (lostEntryNat e.1 e.2))
    ++ sliceBytes k.keyRef.bytes 0 64 ++ List.replicate 208 0#8
    ++ ((List.range 64).flatMap (keystoneRegion k.regions))
    ++ ((List.range maps).flatMap fun i => leBytes 8 (tileRecNat (s.shareLocation .map k.seq i)))
    ++ ((List.range losts).flatMap fun i => leBytes 8 (tileRecNat (s.shareLocation .lostList k.seq i)))
  b ++ List.replicate (Keystone.bodyLength maps losts - 144 - b.length) 0#8

/-- DIGEST of a Keystone copy. -/
def State.keystoneDigest (s : State) (k : Keystone) (copy : Nat) : List Byte :=
  sliceBytes (Config.sha384 (s.keystoneHead k copy)) 0 48

/-- A Keystone body with the identity key's signature, 96 bytes (R499, R303). -/
def State.keystoneBody (s : State) (k : Keystone) (copy : Nat) (signature : List Byte) : List Byte :=
  s.keystoneHead k copy ++ s.keystoneDigest k copy ++ sliceBytes signature 0 96

/-- ASCII "COMMITKS". -/
def commitWord : List Byte := [0x43#8, 0x4F#8, 0x4D#8, 0x4D#8, 0x49#8, 0x54#8, 0x4B#8, 0x53#8]

/-- The commit page of a Keystone copy (R305). -/
def State.commitPage (s : State) (k : Keystone) (copy : Nat) : List Byte :=
  [0x4E#8, 0x43#8, 0x4D#8, 0x54#8] ++ leBytes 4 0 ++ leBytes 8 k.seq ++ s.keystoneDigest k copy
    ++ List.replicate 65464 0#8 ++ commitWord

end Sys2Proof.Machine
end

