-- ==== Sys2Proof/Tests/Slice0.lean ====
section
/-! SUPPORT. The model's own tests: for each check of WellFormed.lean a command it refuses; values the spec states; and, for
each statement with hypotheses, states and operands that meet the hypotheses of each of its clauses. -/

namespace Sys2Proof.Tests

set_option Elab.async false

open Sys2Proof Sys2Proof.Machine

/-! ### Small states and packets -/

/-- The block in service with one warden active. -/
def up : State := (State.reset.set Reg.WARDEN_STAT_ACTIVE 1).set Reg.SYS_STATE_STEP 15

/-- `n` zero bytes. -/
def zs (n : Nat) : List Byte := List.replicate n 0#8

/-- A packet over the span bus with these parameters. -/
def pk (params : List Byte) (flags : Nat := 0) (gen : Nat := 0) : Pkt := ⟨.span, 0, flags, 0, 0, gen, params, 0⟩

/-- The registers set one after the other. -/
def sets (s : State) (l : List (Field × Nat)) : State := l.foldl (fun s e => s.set e.1 e.2) s

/-! ### Commands that are not well formed -/

theorem test_refuses_opcode : (Instr.echo { pk [] with opcode := 0x10000 }).wellFormed = false := by decide
theorem test_refuses_flags : (Instr.echo { pk [] with flags := 16 }).wellFormed = false := by decide
theorem test_refuses_tag : (Instr.echo { pk [] with tag := 0x10000 }).wellFormed = false := by decide
theorem test_refuses_dest : (Instr.echo { pk [] with dest := 0x100 }).wellFormed = false := by decide
theorem test_refuses_gen : (Instr.echo { pk [] with gen := 0x100000000 }).wellFormed = false := by decide
theorem test_refuses_params : (Instr.echo (pk (zs 4061))).wellFormed = false := by decide +kernel
theorem test_refuses_line :
    (Instr.hostWriteRequest ⟨0, 0, 0, 0, 0, .clean, .clean⟩ (zs 63) (List.replicate 64 true)).wellFormed = false ∧
    (Instr.hostWriteRequest ⟨0, 0, 0, 0, 0, .clean, .clean⟩ (zs 64) (List.replicate 65 true)).wellFormed = false ∧
    (Instr.clearPoison 0 0 0 (zs 65)).wellFormed = false := by decide
theorem test_refuses_cells :
    (Instr.estimatorPhrase ⟨0, List.replicate 7 0, none, none, 0⟩).wellFormed = false ∧
    (Instr.estimatorPhrase ⟨0, [0x10000], none, none, 0⟩).wellFormed = false ∧
    (Instr.estimatorPhrase ⟨0, [], none, none, 0x10000⟩).wellFormed = false := by decide
theorem test_refuses_register_value : (Instr.registerWrite ⟨.span, 0⟩ 0 4 (2 ^ 64)).wellFormed = false ∧
    (Instr.scoreVariantReqWrite .span (2 ^ 32)).wellFormed = false ∧
    (Instr.seqTableRegisterWrite .span 0xC8000 (2 ^ 32)).wellFormed = false := by decide
theorem test_refuses_flash_address : (Instr.eraseSector (.warden .a) (2 ^ 32)).wellFormed = false ∧
    (Instr.programWord (.warden .a) 0 (2 ^ 64)).wellFormed = false ∧
    (Instr.flashUnlock (.warden .a) (2 ^ 32)).wellFormed = false := by decide
theorem test_refuses_status : (Instr.pmbusAlert 0x10000).wellFormed = false := by decide
theorem test_refuses_frame : (Instr.tollReceive .a (2 ^ 64)).wellFormed = false := by decide
theorem test_refuses_certificate_range : (Instr.getCertificate 0 0 0 0x10000 0).wellFormed = false ∧
    (Instr.getCertificate 0 0 0 0 0x10000).wellFormed = false := by decide
theorem test_refuses_step_report :
    (Instr.startupStepDone ⟨0, ⟨0, [], none, none, 0⟩, false, none, true, false, List.replicate 15 true⟩).wellFormed = false := by
  decide

/-! ### Values the spec states -/

/-- R7: the CRC-32C of the ASCII digits 1 to 9. -/
theorem test_crc32c_check : crc32c [0x31#8, 0x32#8, 0x33#8, 0x34#8, 0x35#8, 0x36#8, 0x37#8, 0x38#8, 0x39#8] = 0xE3069283 := by
  decide +kernel

/-- R117, worked case: line 777 of frame 5,000,011 on the reference card. -/
theorem test_line_of_frame : mapLine 8 262144 5000011 777 = ⟨3, 0, 1, 4, 0, 78125, 448⟩ := by decide +kernel

/-- R8, worked case: the blocks of DCH 3, HPORT 2 and NCH 12. -/
theorem test_block_addresses : (Reg.DCH_STAT_STATE 3).addr = 0x4C000 ∧ (Reg.HPORT_STAT_LINK_STATE 2).addr = 0x68000 ∧
    (Reg.NCH_STAT_STATE 12).addr = 0xBC000 := by decide

/-- R2, R82: tRFC of 24, 32 and 64 Gb devices in quads (410 ns and 590 ns). -/
theorem test_refresh_run : trfcQuads 1 = 164 ∧ trfcQuads 2 = 164 ∧ trfcQuads 3 = 236 := by decide

/-- R213, worked cases: 22,400 and 21,000 MB/s with a window of 10 s and 128 credits. -/
theorem test_time_budget : budgetTime 22400 10000 128 = 3281122 ∧ budgetTime 21000 10000 128 = 3076043 := by decide +kernel

/-- R213, worked case: the energy-limited budget at 22,400 MB/s and 140 W, by E. -/
theorem test_energy_budget : budgetEnergy 22400 67931 140 128 = 33554432 ∧ budgetEnergy 22400 1306 140 128 = 3051629 ∧
    budgetEnergy 22400 746 140 128 = 1684442 ∧ budgetEnergy 22400 298 140 128 = 590692 ∧
    budgetEnergy 22400 74 140 128 = 43817 := by decide +kernel

/-- The reference pack at `soc` and `unc` hundredths of a percent and `efc` cycles, at 25 degrees. -/
def refPack (soc unc efc : Nat) : State :=
  (({ State.reset with pack := { State.reset.pack with
        params := defaultPack, soc := soc * 10 ^ 10, unc := unc * 10 ^ 10, efc := efc * cycleUnit } } : State).set
    Reg.PACK_TEMP_NTC_0_C 25).set Reg.PACK_TEMP_NTC_1_C 25

/-- R327, worked case: E of the young pack, and of the aged pack after 0, 59.5, 60.0, 60.4 and 60.6 days and after its rest. -/
theorem test_energy_of_pack : (refPack 7980 200 0).energy = 67931 ∧ (refPack 9800 200 4020).energy = 67931 ∧
    (refPack 9800 9125 4020).energy = 1306 ∧ (refPack 9800 9200 4020).energy = 746 ∧ (refPack 9800 9260 4020).energy = 298 ∧
    (refPack 9800 9290 4020).energy = 74 ∧ (refPack 9750 200 4020).energy = 67557 := by decide +kernel

/-- R326, worked case: 3,385 mV is 97.50 %. -/
theorem test_ocv : (sets (refPack 9800 200 4020) ((List.range 4).map fun c => (Reg.PACK_CELL_MV c, 3385))).ocvSoc = 9750 * 10 ^ 10 := by
  decide +kernel

/-- R377, worked case: the first claims of Warden A of rank 2 and Warden B of rank 1, and B's second. -/
theorem test_claim_numbers : claimNumber 2 1 0 = 0x8002 ∧ claimNumber 1 1 1 = 0x4003 ∧ claimNumber 1 2 1 = 0x4005 := by decide

/-- R471, worked case: the span manager's PERSIST_POLICY_SET, header and parameters. -/
theorem test_packet_bytes : (({ pk [1#8, 0#8, 2#8, 0#8, 0x40#8, 0x1F#8, 0#8, 0#8] with
      opcode := 0x0401, flags := 8, tag := 0x0123, dest := 3, gen := 0xFFFFFFFF } : Pkt).encode).take 24 =
    [0x01#8, 0x08#8, 0x01#8, 0x04#8, 0x23#8, 0x01#8, 0x03#8, 0x00#8, 0xFF#8, 0xFF#8, 0xFF#8, 0xFF#8, 0x08#8, 0x00#8, 0x00#8, 0x00#8,
      0x01#8, 0x00#8, 0x02#8, 0x00#8, 0x40#8, 0x1F#8, 0x00#8, 0x00#8] := by decide +kernel

/-- R478, worked case: what that packet leaves in the record of packets without a reply, and in the policy. -/
theorem test_packet_record :
    let t := persistPolicySetOp.command ({ pk [1#8, 0#8, 2#8, 0#8, 0x40#8, 0x1F#8, 0#8, 0#8] with
      flags := 8, tag := 0x0123, dest := 3, gen := 0xFFFFFFFF } : Pkt) (up.set Reg.TILE_GEN_GEN 5)
    t.word 0xD0208 = 0x01230401 ∧ t.word 0xD020C = 0x00000308 ∧ t.get Reg.TILE_GEN_GEN = 6 ∧
    t.get Reg.TILE_POLICY_FLOOR_GIB = 2 ∧ t.get Reg.TILE_POLICY_WINDOW_MS = 8000 := by decide +kernel

/-- R417, worked case: entry 9 of J1 lies at flash 0x0100_5140. -/
theorem test_journal_entry : entryAt 1 9 = 0x1005140 := by decide

/-- R15: right after a cold power-on, SYS_ID and SYS_STATE read their Reset columns. -/
theorem test_reset_words : State.reset.get Reg.SYS_STATE_STEP = 1 ∧ State.reset.get Reg.FL_STAT_LOCKED = 1 ∧
    State.reset.bar = 0 ∧ State.reset.pending = [] := by decide +kernel

/-- R9: a 1 clears a W1C bit at once; R11: a halfword write of the same register is ignored and counted. -/
theorem test_w1c : (((up.set Reg.FL_STAT_IGNORED 1).write .span 0xE0010 4 (2 ^ 28)).get Reg.FL_STAT_IGNORED) = 0 ∧
    ((up.set Reg.FL_STAT_IGNORED 1).write .span 0xE0010 2 (2 ^ 28)).get Reg.SYS_STAT_BAD_ACCESS = 1 := by decide +kernel

/-! ### States and operands that meet the hypotheses of the statements: registers, flash, the bar -/

/-- The block playing the boot score of the reference card, every channel in service. -/
def playing : State :=
  sets { up with seq := { up.seq with play := bootBare ⟨3, 2, 0xFF, 8, 0xFFFF⟩ 32 32 } }
    ([(Reg.DCH_STAT_RANKS 0, 2), (Reg.DCH_STAT_DENSITY 0, 3)] ++ channels.map fun c => (Reg.DCH_STAT_STATE c, chInService))

/-- A state after so many bars. -/
def atBar (s : State) (b : Nat) : State := { s with bar := b }

/-- Port 2 granted host privilege. -/
def granted : State := { up with opt := Store.set 0#8 up.opt 0x1E 1#8 }

/-- The last register word of a block a port without grants may neither read nor write, and one it may after a grant. -/
theorem witness_AccessWithoutPrivilege : up.on = true ∧ up.holds (.hport 3) (writePriv 0xFFFFC) = false ∧
    up.holds (.hport 0) (readNeeds (.hport 0) 0) = false ∧ granted.holds (.hport 2) (readNeeds (.hport 2) 0x6C000) = false ∧
    granted.holds (.hport 2) (readNeeds (.hport 2) 0x68000) = true := by decide +kernel

theorem witness_AccessOutOfForm : up.on = true ∧ up.holds .span (writePriv 0x20000) = true ∧ (3 < 4 ∨ 0x20000 % 4 ≠ 0) ∧
    (8 < 4 ∨ 0x20001 % 4 ≠ 0) ∧ up.holds .span (readNeeds .span 0x3) = true ∧ 3 / 4 ≠ (3 + 2 - 1) / 4 := by decide +kernel

theorem witness_RegisterReads : (up.on = true ∧ up.holds .span (readNeeds .span 0x40) = true ∧ 0x40 / 4 = (0x40 + 4 - 1) / 4 ∧
      up.hidden .span 0x40 = false ∧ up.frozen 0x40 = false ∧ ¬ (wideLow.contains (0x40 - 4) = true ∧ 4 ≤ 0x40) ∧
      wideLow.contains 0x40 = true) ∧
    (up.holds .span (readNeeds .span 0x44) = true ∧ 0x47 / 4 = (0x47 + 1 - 1) / 4 ∧ up.hidden .span 0x44 = false ∧
      wideLow.contains (0x44 - 4) = true ∧ 4 ≤ 0x44) ∧
    (∃ d ∈ fieldsAt 0x10040, d.access = .rc ∧ ∀ c : Fin 8, (⟨0x10040, d.lo, d.width⟩ : Field) ≠ Reg.DCH_REF_DEBT_MAX c ∧
      (⟨0x10040, d.lo, d.width⟩ : Field) ≠ Reg.DCH_TEMP_PEAK_C c) ∧
    (granted.hidden (.hport 2) 0x10040 = true ∧ granted.holds (.hport 2) (readNeeds (.hport 2) 0x10040) = true) ∧ 5 ≠ up.slot := by
  decide +kernel

theorem witness_RegisterWriteWaitsForDownbeat : up.on = true ∧ up.holds .span (writePriv 0x80028) = true ∧ 0x80028 % 4 = 0 ∧
    4 < 8 ∧ up.frozen 0x80028 = false ∧ guardReg 0x80028 = false ∧ flashSteps.contains 0x80028 = false ∧ (0x80028 ≠ 0x20008) ∧
    ¬ (0x10400 ≤ 0x80028 ∧ 0x80028 < 0x10600) ∧ ¬ (0x10080 ≤ 0x80028 ∧ 0x80028 < 0x100C0) ∧ tableReg 0x80028 = false ∧
    ¬ (0x60000 ≤ 0x80028 ∧ 0x80028 < 0x70000 ∧ 0x80028 % 0x4000 = 4) ∧ ldReg 0x80028 = false ∧
    rangeOk 0x80028 (1000 * 65536 + 256 + 1) = true ∧ rangeOk 0x80028 0 = false ∧
    (up.set Reg.SYS_PWR_STATE_STATE 4).frozen 0x80028 = true := by decide +kernel

theorem witness_GuardedRegisterWrites : playing.on = true ∧ playing.holds .span .expert = true ∧ playing.frozen 0x20008 = false ∧
    (playing.seq.play.tab (0x100 / 256 % 8)).isSome = true ∧ (playing.seq.play.tab (0x700 / 256 % 8)).isSome = false ∧
    (playing.set Reg.SYS_PWR_STATE_STATE 4).holds .span .expert = true ∧ (playing.set Reg.SYS_PWR_STATE_STATE 4).frozen 0x20008 = true := by decide +kernel

/-- A port with one LD of 2,048 GiB and a region in it. -/
def oneRegion : State :=
  (sets up [(Reg.HPORT_CFG_ENABLE 0, 1), (Reg.HPORT_CFG_LD_COUNT 0, 1), (Reg.HPORT_LD_LD_SIZE 0 0, 2048)]).setRegion 0
    ⟨true, 0, 0, 0, 2048, 0, 1⟩

theorem witness_TableAndPortRegisterWrites : up.on = true ∧ up.holds .span .mgmt = true ∧ 2049 < 2 ^ 32 ∧
    (2048 < 2049 % 4096) ∧
    (∃ x ∈ oneRegion.tile.regions, x.active = true ∧ x.port = 0 ∧ x.ld = 0 ∧
      2047 % 4096 < oneRegion.get (Reg.HPORT_LD_LD_SIZE 0 0) ∧ 2047 % 4096 < x.base + x.size) ∧
    ¬ (2048 < 2048 % 4096 ∨ ∃ x ∈ oneRegion.tile.regions, x.active = true ∧ x.port = 0 ∧ x.ld = 0 ∧
      2048 % 4096 < oneRegion.get (Reg.HPORT_LD_LD_SIZE 0 0) ∧ 2048 % 4096 < x.base + x.size) ∧
    (16 < max 1 (0x3E000000 / 2 ^ 25 % 32)) ∧
    ¬ (16 < 1 + ((ports.filter (· ≠ 0)).map fun q => max 1 (up.comingWord (0x60004 + 0x4000 * q) / 2 ^ 25 % 32)).sum ∨
      ∃ x ∈ up.tile.regions, x.active = true ∧ x.port = 0 ∧ up.ldExists 0 x.ld = true ∧ 1 ≤ x.ld) ∧
    (∃ j < 4, 128 ≤ 0x80000000 / 256 ^ j % 256) ∧ (∀ j < 4, 0x7F7F7F7F / 256 ^ j % 256 < 128) ∧
    up.holds .span .expert = true ∧ tableReg 0xC8000 = true ∧ (up.set Reg.SEQ_STAT_STATE 2).tableMay = false ∧ up.tableMay = true ∧
    ¬ (1 ≤ 0x10 / 256 % 256 ∧ 1 ≤ 0x10 / 16 % 16) ∧ (1 ≤ 0x110 / 256 % 256 ∧ 1 ≤ 0x110 / 16 % 16) ∧
    ¬ (100 ≤ 0 / 65536 % 65536) ∧ (100 ≤ 0x640000 / 65536 % 65536 ∧ 0x640000 / 65536 % 65536 ≤ 60000) ∧
    ((∃ k < 4, 0xC8100 = railAt 0 (4 * k)) ∧ ¬ (0xFF % 256 < up.comingWord (railAt 0 4) / 16 % 256) ∧
      (0 % 256 < 0x10 / 16 % 256 ∧ up.comingWord (railAt 0 12) % 65536 = 0)) := by
  decide +kernel

/-- The flash unlocked by Warden A. -/
def unlocked : State := up.updFlash fun x => { x with step := 2 }

theorem witness_FlashUnlockSequence : up.on = true ∧ up.holds (.hport 3) .expert = false ∧
    (up.holds (.warden .b) .expert = true ∧ up.isActive (.warden .b) = false) ∧
    up.isActive (.warden .a) = true ∧ up.flash.prog = none ∧ up.flash.step = 0 ∧
    (up.updFlash fun x => { x with step := 1 }).flash.step = 1 ∧ (up.updFlash fun x => { x with step := 1 }).flash.prog = none ∧
    ¬ (up.flash.step = 0 ∧ 0x3C5A = 0xA5C3) ∧ ¬ (up.flash.step = 1 ∧ 0x3C5A = 0x3C5A) := by decide +kernel

theorem witness_ProgramWordRunsOrIsIgnored : (unlocked.on = true ∧ unlocked.isActive (.warden .a) = true ∧ unlocked.flash.step = 2 ∧
      unlocked.flag Reg.FL_STAT_BUSY = false ∧ unlocked.flash.prog = none ∧ 0x13FFFF8 < flashSize ∧ 0x13FFFF8 % 8 = 0) ∧
    unlocked.ignoreCause 0x13FFFF8 = none ∧ unlocked.ignoreCause 0 = some 4 ∧
    ((unlocked.setSect 5119 1).sect (0x13FFFF8 / 4096) = 1 ∧ (unlocked.setSect 5119 2).sect (0x13FFFF8 / 4096) = 2 ∧
      (unlocked.setSect 5119 3).sect (0x13FFFF8 / 4096) = 3 ∧ unlocked.sect (0x13FFFF8 / 4096) = 0) ∧
    (0x7FFFF8 < 0x800000 ∧ unlocked.get Reg.WARDEN_STAT_A_STATE ≠ 4) ∧
    (0x800000 ≤ 0x800000 ∧ 0x800000 < 0x1000000 ∧ unlocked.get Reg.WARDEN_STAT_B_STATE ≠ 4) ∧
    (unlocked.bankOpen 0x1000000 = true ∧
      Store.get 0xFF#8 (unlocked.flashPut 0x1000000 [0#8]).flash.bytes (0x1000000 + 0) ≠ 0xFF#8) ∧
    (∀ i < 8, Store.get 0xFF#8 unlocked.flash.bytes (0x1000000 + i) = 0xFF#8) := by decide +kernel

theorem witness_ProgramWordEnds :
    let s := up.updFlash fun x => { x with prog := some (0x1008000, 5) }
    s.on = true ∧ s.flash.prog = some (0x1008000, 5) ∧ s.flash.job = none ∧ s.recorder.clear = none ∧ s.flash.erase = none := by
  decide +kernel

/-- An erase of a sector after so many pulses, of a limit of 50. -/
def erasing (n p : Nat) : State := unlocked.updFlash fun x => { x with erase := some (n, p) }

theorem witness_FlashErasesAndChecks : ((erasing 5119 48).on = true ∧ (erasing 5119 48).flash.erase = some (5119, 48) ∧
      (erasing 5119 48).flag Reg.FL_STAT_SUSPENDED = false ∧ (erasing 5119 48).flash.job = none ∧
      (erasing 5119 48).recorder.clear = none ∧ 48 + 1 < (erasing 5119 48).get Reg.FL_LAST_ERASE_PULSES_LIMIT ∧
      (erasing 5119 49).get Reg.FL_LAST_ERASE_PULSES_LIMIT ≤ 49 + 1 ∧ 5119 < 5120 ∧ 49 < 2 ^ 15) ∧
    (up.holds (.hport 3) .expert = false ∧ up.holds .span .expert = true ∧ up.isActive .span = false ∧ up.flash.step ≠ 2) ∧
    (unlocked.bankOpen 0 = false ∧ unlocked.bankOpen 0x1000000 = true ∧ unlocked.journal = none) ∧
    (unlocked.isActive (.warden .a) = true ∧ unlocked.flash.step = 2 ∧ 0x1000000 < flashSize ∧ unlocked.flash.prog = none ∧
      unlocked.flag Reg.FL_STAT_BUSY = false ∧ unlocked.flash.erase = none ∧
      (unlocked.journalErase (sectorOf 0x1000000)).isSome = true) ∧
    (erasing 4096 0).flash.erase = some (sectorOf 0x1000000, 0) ∧ (erasing 4096 0).isActive (.warden .a) = true ∧
    ((erasing 4096 0).set Reg.FL_STAT_SUSPENDED 1).flag Reg.FL_STAT_SUSPENDED = true ∧
    (erasing 4096 0).flag Reg.FL_STAT_BUSY = false ∧ (erasing 4096 0).flash.fenced = false ∧ (erasing 4096 0).saving = false := by
  decide +kernel

theorem witness_FlashBankReads : up.on = true ∧ up.flash.prog = none ∧ up.flash.erase = none := by decide +kernel

/-- A save whose shut-down has drained: its closing bar turns the device off. -/
theorem witness_DownbeatInOrder : up.on = true ∧ up.get Reg.SYS_STATE_STEP ≠ 1 ∧
    up.closeBar.fenceStep.pinAfterSave.on = true ∧
    (up.updSys fun x => { x with rstWaits := true, rstLow := true }).on = true ∧
    (up.updSys fun x => { x with rstWaits := true, rstLow := true }).closeBar.fenceStep.pinAfterSave.on = false := by
  decide +kernel

/-! ### The score, the DRAM channels, hosts and regions -/

/-- A host request of port 0 waiting on channel 0. -/
def aReq : HostReq where
  port := 0
  ld := 0
  tag := 7
  write := false
  tile := 0
  frame := 0
  line := 0
  stamp := 0
  enters := 0
  data := []
  mask := []
  bypassed := 0
  urgency := 0
  exceeded := false
  result := []
  poison := false

/-- `playing` with some change of channel 0. -/
def chan0 (f : DramCh → DramCh) : State := playing.updCh 0 f

/-- In service, with debt on channel 0. -/
def indebted : State := playing.set (Reg.DCH_REF_DEBT_DEBT 0) 1

theorem witness_VariantsSwitchAndCool :
    (let s := (playing.set Reg.SCORE_VARIANT_REQ_PENDING 1).set Reg.SCORE_VARIANT_REQ 1;
      s.running = true ∧ s.atDownbeat = true ∧ s.flag Reg.SCORE_VARIANT_REQ_PENDING = true ∧ s.anyDebt = false ∧ s.saving = false ∧
        s.wanted ≠ s.active ∧ (playing.set Reg.SCORE_VARIANT_REQ_PENDING 1).wanted = playing.active) ∧
    indebted.running = true ∧ indebted.anyDebt = true ∧ (playing.set Reg.TILE_SAVE_STAT_STATE 1).saving = true ∧
    ({ playing with slot := 1 } : State).atDownbeat = false ∧
    (let s := atBar (playing.set Reg.SCORE_STAT_HOT 1) 256;
      s.running = true ∧ s.atDownbeat = true ∧ s.flag Reg.SCORE_STAT_HOT = true ∧ s.phraseStart = true ∧ s.seq.hotJudged ≠ s.bar ∧
        (∃ c ∈ channels, s.serving c = true ∧ s.reportsCool c = false)) ∧
    (let s := sets (atBar playing 256) ([(Reg.SCORE_STAT_HOT, 1), (Reg.SCORE_CTL_HOT_DWELL, 1),
        (Reg.SCORE_CTL_HOT_HYST, 2)] ++ channels.flatMap fun c => [(Reg.DCH_TEMP_VALID c, 1), (Reg.DCH_TEMP_TEMP_C c, 83)]);
      s.running = true ∧ s.atDownbeat = true ∧ s.flag Reg.SCORE_STAT_HOT = true ∧ s.phraseStart = true ∧ s.seq.hotJudged ≠ s.bar ∧
        (∀ c ∈ channels, s.serving c = true → s.reportsCool c = true) ∧
        max 1 (s.get Reg.SCORE_CTL_HOT_DWELL) ≤ s.seq.hotTally + 1 ∧ s.flag Reg.SCORE_CTL_FORCE_HOT = false ∧
        s.sys.clockFault = false ∧ s.saving = false ∧ (s.set Reg.TILE_SAVE_STAT_STATE 3).saving = true ∧
        s.wanted = s.active ∧ (s.set Reg.SCORE_VARIANT_REQ 2).wanted ≠ s.active ∧ (s.set (Reg.DCH_REF_DEBT_DEBT 7) 1).anyDebt = true ∧
        s.seq.hotTally + 1 < max 1 ((s.set Reg.SCORE_CTL_HOT_DWELL 2).get Reg.SCORE_CTL_HOT_DWELL)) := by decide +kernel

/-- The request reaches its target of 100 ns, 160 slots, at slot 160. -/
theorem witness_QueueClocks :
    let s := (chan0 fun x => { x with reqs := [aReq] }).set (Reg.HPORT_LAT_TARGET_READ_NS 0) 100;
    s.running = true ∧ s.findReq 0 7 = some (0, aReq) ∧ s.targetSlots 0 false = 160 ∧ s.findReq 0 8 = none ∧
      aReq.exceeded = false ∧ 160 ≤ s.bar * 6240 + 160 - aReq.stamp ∧ s.bar * 6240 + 159 - aReq.stamp < 160 ∧
      ({ playing with tile := { playing.tile with waits := [aReq] } } : State).findReq 0 7 = some (0, aReq) := by decide +kernel

/-- A read whose wrong symbols lie on device 3. -/
def aLine : LineRead := ⟨[⟨0, 6⟩, ⟨1, 7⟩], false, .uncorrectable, []⟩

theorem witness_DramReadsReturn :
    let s := chan0 fun x => { x with issued := [aReq], tasks := [.marker { frame := 8, line := 1023 }] };
    s.running = true ∧ (s.ch 0).issued = [aReq] ∧ (s.portState 0).dropBefore ≤ aReq.stamp ∧ aReq.poison = false ∧
      (s.ch 1).issued = [] ∧ (s.ch 1).tasks = [] ∧
      (s.ch 0).tasks.findSome? (fun k => match k with | .marker x => some x | _ => none) = some { frame := 8, line := 1023 } ∧
      aLine.other = false ∧ aLine.wrong.filter (SymErr.exists false) ≠ [] ∧
      withinCode false (aLine.wrong.filter (SymErr.exists false)) = true ∧ (∀ a ∈ aLine.wrong, a.device = 3) ∧
      ({ aLine with wrong := [] } : LineRead).wrong.filter (SymErr.exists true) = [] := by decide +kernel

/-- In the power state `n` of R29. -/
def inPower (n : Nat) : State := playing.set Reg.SYS_PWR_STATE_STATE n

theorem witness_DramBackgroundWork : up.on = true ∧ playing.get Reg.WARDEN_STAT_ACTIVE ≠ 0 ∧ playing.dozing = false ∧
    (inPower 2).on = true ∧ (inPower 2).dozing = true ∧ (inPower 2).running = true ∧ (inPower 2).saving = false ∧
    (inPower 2).atDownbeat = true ∧ (inPower 2).anyDebt = false ∧ ((inPower 2).set (Reg.DCH_REF_DEBT_DEBT 0) 1).anyDebt = true ∧
    ({ inPower 2 with slot := 6239 } : State).atDownbeat = false ∧
    (playing.set (Reg.DCH_STAT_SELF_REFRESH 7) 1).flag (Reg.DCH_STAT_SELF_REFRESH 7) = true ∧ playing.maintains 7 = true ∧
    (playing.ch 7).zqBar + 32768 ≤ (atBar playing 32768).bar ∧ (playing.ch 7).dqsBar + 4096 ≤ (atBar playing 4096).bar ∧
    (atBar playing 64).bar % 64 = 0 ∧ (playing.ch 0).seedNew = none ∧ (playing.ch 0).recordDue = false ∧
    ((chan0 fun x => { x with seedNew := some ⟨[], 25, 9⟩ }).ch 0).seedNew ≠ none ∧ playing.saving = false ∧
    playing.get Reg.SYS_STATE_STEP = 15 ∧
    (let z := (chan0 fun x => { x with tasks := [.writeback { frame := 0, line := 5, zero := true }] });
      (z.ch 0).tasks.findSome? (fun k => match k with | .writeback x => some x | _ => none) =
        some { frame := 0, line := 5, zero := true }) ∧ (playing.ch 0).tasks = [] := by decide +kernel

/-- A training that succeeded with a margin of 12, after a first reading of 25 degrees. -/
def aTraining : TrainOutcome := ⟨[], ⟨0, 0, 25, false⟩, [], true, true, true, 0, 20, 12, 0, []⟩

theorem witness_DramTraining :
    (playing.chState 0 ≠ chTraining ∧ ¬ (playing.chState 0 = chReturning ∧ (playing.ch 0).trained = false)) ∧
    (let s := playing.set (Reg.DCH_STAT_STATE 0) chTraining;
      s.running = true ∧ s.chState 0 = chTraining ∧ aTraining.spdOk = true ∧ aTraining.fullPass = true ∧
        false = (s.tempRead 0 (aTraining.temp :: aTraining.temps)).seedValid 0 aTraining.spd ∧
        (s.ch 0).pendingRows = []) ∧
    ({ aTraining with spdOk := false } : TrainOutcome).spdOk = false ∧
    ({ aTraining with fullPass := false } : TrainOutcome).fullPass = false ∧
    (let new := (playing.rowFrames ⟨0, 0, 0, 0, 0⟩).filter fun g => !((playing.ch 0).retired.contains g);
      (playing.ch 0).retired.length + new.length ≤ 1024 ∧
        1024 < ((chan0 fun x => { x with retired := List.replicate 1024 5000 }).ch 0).retired.length + new.length) := by
  decide +kernel

/-- Channel 0 in training, with a training record whose identity is `id`. -/
def seeded (id : List Byte) : State :=
  (chan0 fun x => { x with slots := [some ⟨1, id, [0, 3, 2, 0], some ⟨[], 25, 0⟩, [], [], 0, true, true⟩, none] }).set
    (Reg.DCH_STAT_STATE 0) chTraining

/-- Its record is the card's own, of the same module and configuration, at 25 degrees: it meets R124. -/
theorem witness_DramTraining_seeded : (seeded Config.identityKey).running = true ∧
    (seeded Config.identityKey).chState 0 = chTraining ∧
    true = ((seeded Config.identityKey).tempRead 0 (aTraining.temp :: aTraining.temps)).seedValid 0 aTraining.spd := by
  refine ⟨by decide +kernel, by decide +kernel, ?_⟩
  have h : (((seeded Config.identityKey).tempRead 0 (aTraining.temp :: aTraining.temps)).ch 0).newestSlot =
      some (0, ⟨1, Config.identityKey, [0, 3, 2, 0], some ⟨[], 25, 0⟩, [], [], 0, true, true⟩) := by
    rcases State.ch_tempRead (seeded Config.identityKey) (aTraining.temp :: aTraining.temps) (by decide : 0 < 8) with e | e <;>
      rw [e] <;> rfl
  have r : (let s := (seeded Config.identityKey).tempRead 0 (aTraining.temp :: aTraining.temps);
      (aTraining.spd = [] ∧ s.cardConfig 0 = [0, 3, 2, 0] ∧ (s.tempC 0 - 25).natAbs ≤ 25 ∧ s.get Reg.OP_SECONDS_SECONDS < 31536000)) := by
    decide +kernel
  obtain ⟨r1, r2, r3, r4⟩ := r
  unfold State.seedValid
  rw [h]
  simp only [r1, r2]
  simpa using ⟨r3, r4⟩

/-- A patrol read issued on channel 0. -/
def patrolling : State := chan0 fun x => { x with tasks := [.patrol] }

theorem witness_PatrolWalksTheLines : playing.running = true ∧ playing.hasTask 0 .patrol = false ∧ patrolling.hasTask 0 .patrol = true ∧
    (patrolling.ch 0).patrolPlace ((patrolling.ch 0).patrolPlace 0 + 1) < patrolling.framesPerChannel * 1024 ∧
    (let s := patrolling.updCh 0 fun x => { x with patrolLine := 4294967295 };
      s.hasTask 0 .patrol = true ∧ (s.ch 0).patrolPlace (s.ch 0).patrolLine = 4294967295 ∧
        s.framesPerChannel * 1024 ≤ (s.ch 0).patrolPlace (4294967295 + 1)) ∧
    (patrolling.setPoison 0 0 true).poisoned (8 * 0 + 0) 0 = true ∧
    (let s := (patrolling.setFrame 3 (some 0)).setCode 3 codeClean;
      s.poisoned (8 * (0 / 1024) + 0) (0 % 1024) = false ∧ s.tileOfFrame 0 = some 3 ∧ s.code 3 = codeClean ∧
        ({ aLine with other := true } : LineRead).decode (s.x8 0) = .uncorrectable ∧ aLine.decode (s.x8 0) = .corrected 3) ∧
    (patrolling.tileOfFrame 0 = none ∧ patrolling.inPool 0 = true) := by
  decide +kernel

/-- Channel 0 in some state of R142, with tile 3 in frame 0. -/
def leaving (st code : Nat) : State := ((playing.setFrame 3 (some 0)).setCode 3 code).set (Reg.DCH_STAT_STATE 0) st

theorem witness_ChannelsLeaveAndReturn :
    (let s := leaving chRelocating codeZero;
      s.running = true ∧ s.chState 0 = chRelocating ∧ (s.ch 0).copying = none ∧ s.relocNext 0 = some 3 ∧ s.nextFrame = some 1 ∧
        s.code 3 = codeZero ∧ s.atDownbeat = true ∧ s.mappedFrames 0 ≠ []) ∧
    ((leaving chRelocating codeClean).relocNext 0 = some 3 ∧ (leaving chRelocating codeClean).code 3 ≠ codeZero) ∧
    (let s := (leaving chRelocating codeClean).updCh 0 fun x => { x with copying := some ⟨3, 1, 1024, []⟩ };
      s.chState 0 = chRelocating ∧ s.atDownbeat = true ∧ (s.ch 0).copying = some ⟨3, 1, 1024, []⟩ ∧
        (⟨3, 1, 1023, []⟩ : Reloc).readAt < 1024) ∧
    (let s := (leaving chRelocating codeClean).setFrame 3 none;
      s.chState 0 = chRelocating ∧ s.mappedFrames 0 = [] ∧ s.debt 0 = 0) ∧
    (let s := (leaving chReturning codeClean).updCh 0 fun x => { x with trained := true };
      s.chState 0 = chReturning ∧ (s.ch 0).trained = true ∧ s.jobOf 0 .zero = none ∧ s.debt 0 = 0) ∧
    (let s := atBar (chan0 fun x => { x with failNext := some (7, 0) }) 1;
      (s.ch 0).failNext = some (7, 0) ∧ 7 < 8 ∧ s.serving 0 = true ∧ s.atDownbeat = true ∧ 0 < s.bar) := by decide +kernel

theorem witness_DramPackets : scrubSetOp.reaches (pk [255#8, 1#8, 0#8, 0#8]) playing = true ∧
    dchStatusOp.reaches (pk [255#8, 0#8, 0#8, 0#8]) playing = true ∧ dchOfflineOp.reaches (pk [7#8, 0#8, 0#8, 0#8]) playing = true ∧
    (pk [7#8, 0#8, 0#8, 0#8]).genOk (playing.get (Reg.DCH_GEN_GEN 7)) = true ∧
    (pk [7#8, 0#8, 0#8, 0#8] 0 1).genOk (playing.get (Reg.DCH_GEN_GEN 7)) = false ∧
    (∃ d ∈ channels, (leaving chOffline codeClean).chState d ≠ chInService) ∧
    (∀ d ∈ channels, playing.chState d = chInService ∧ (playing.ch d).leaving = false) ∧
    playing.saving = false ∧ playing.restoring = false ∧ playing.debt 7 = 0 ∧ indebted.debt 0 ≠ 0 ∧
    ((playing.setFrame 3 (some 7)).mappedFrames 7).length ≤ ((channels.filter (· ≠ 7)).map playing.freeFrames).sum ∧
    dchOnlineOp.reaches (pk [0#8, 0#8, 0#8, 0#8]) (leaving chOffline codeClean) = true ∧
    (leaving chOffline codeClean).chState 0 = chOffline ∧
    dchOnlineOp.reaches (pk [0#8, 0#8, 0#8, 0#8] 1) (leaving chFailed codeClean) = true ∧
    (pk [0#8, 0#8, 0#8, 0#8] 1).expert = true ∧ (leaving chFailed codeClean).chState 0 = chFailed := by decide +kernel

theorem witness_QuadPlaysItsOwner : playing.running = true ∧ playing.playing.isSome = true ∧
    (leaving chTraining codeClean).chState 0 < chInService ∧
    (playing.set (Reg.DCH_STAT_SELF_REFRESH 7) 1).flag (Reg.DCH_STAT_SELF_REFRESH 7) = true ∧
    chInService ≤ playing.chState 7 ∧ playing.flag (Reg.DCH_STAT_SELF_REFRESH 7) = false ∧
    (playing.playing.map fun tab => (playing.playRuns tab 7).any fun x => decide (x.start ≤ 235) &&
      decide (235 < x.start + trfcQuads playing.seq.play.density)) = some true := by decide +kernel

/-- A load in some state, by the span bus, of an image of so many bytes. -/
def loading (st bytes : Nat) : State :=
  (sets up [(Reg.SCORE_LOAD_STAT_STATE, st)]).updSeq fun q => { q with staged := { Staged.empty with img := ⟨[], bytes⟩ } }

theorem witness_ScoreLoads :
    (scoreLoadBeginOp.reaches (pk (leBytes 4 8388608 ++ zs 12) 1) up = true ∧
      ¬ ((up.loadState = loadLoading ∨ up.loadState = loadVerifying) ∧ up.get Reg.SCORE_LOAD_STAT_SOURCE ≠ srcNum .span) ∧
      up.loadState ≠ loadArmPending ∧ (pk (leBytes 4 8388608 ++ zs 12) 1).u32 0 ≤ 8388608 ∧
      (pk (leBytes 4 8388608 ++ zs 12) 1).u32 0 % 16 = 0) ∧
    (let s := loading loadLoading 32;
      let p := pk (leBytes 4 16 ++ zs 20) 1;
      scoreLoadDataOp.reaches p s = true ∧ s.loadState = loadLoading ∧ s.get Reg.SCORE_LOAD_STAT_SOURCE = srcNum p.src ∧
        p.u32 0 + (p.params.length - 8) ≤ s.seq.staged.img.length ∧ p.u32 0 % 16 = 0 ∧ (p.params.length - 8) % 16 = 0) ∧
    (let s := loading loadLoading 0;
      scoreLoadEndOp.reaches (pk [] 1) s = true ∧ s.loadState = loadLoading ∧ s.get Reg.SCORE_LOAD_STAT_SOURCE = 0 ∧
        s.seq.staged.img.length ≤ 16 * s.seq.staged.units.length) ∧
    (let s := loading loadVerifying 0;
      s.on = true ∧ s.loadState = loadVerifying ∧ s.get Reg.WARDEN_STAT_ACTIVE ≠ 0 ∧
        (match s.seq.staged.img.verify s.verifyCtx with | .error _ => true | .ok _ => false) = true) ∧
    (scoreArmOp.reaches (pk (zs 4) 1) up = true ∧ up.loadState ≠ loadVerified) ∧
    (let s := loading loadVerified 0;
      scoreArmOp.reaches (pk (leBytes 4 9) 1) s = true ∧ s.loadState = loadVerified ∧ (pk (leBytes 4 9) 1).u32 0 ≠ s.seq.staged.id ∧
        (pk (zs 4) 1 1).genOk s.seq.staged.rev = false ∧ (pk (zs 4) 1).u32 0 = s.seq.staged.id ∧
        (pk (zs 4) 1).genOk s.seq.staged.rev = true ∧ s.saving = false ∧ (s.set Reg.TILE_SAVE_STAT_STATE 1).saving = true) ∧
    (let s := atBar (loading loadLoading 0) 2564103;
      s.on = true ∧ s.loadState = loadLoading ∧ s.elapsed s.seq.staged.since 10000000 = true) ∧
    scoreQueryOp.reaches (pk []) up = true := by decide +kernel

theorem witness_ArmedScoreStartsToPlay :
    let s := atBar ((playing.updSeq fun q => { q with staged := { Staged.empty with score := some q.play } }).set
      Reg.SCORE_LOAD_STAT_STATE loadArmPending) 1;
    s.running = true ∧ s.atDownbeat = true ∧ s.seq.staged.score = some playing.seq.play ∧ s.loadState = loadArmPending ∧
      s.anyDebt = false ∧ s.saving = false ∧ s.seq.armAt < s.bar ∧ (s.set (Reg.DCH_REF_DEBT_DEBT 7) 1).anyDebt = true ∧
      playing.seq.play.tab (s.get Reg.SCORE_VARIANT_REQ) ≠ none ∧
      playing.seq.play.tab ((s.set Reg.SCORE_VARIANT_REQ 7).get Reg.SCORE_VARIANT_REQ) = none := by decide +kernel

/-- A CXL.mem port with one LD of 1 GiB, a region over it, and tile 16,383, its last, with a code, in frame 0. -/
def hosted (code : Nat) : State :=
  (((sets playing [(Reg.HPORT_STAT_LINK_STATE 0, 3), (Reg.HPORT_STAT_LD_COUNT 0, 1), (Reg.HPORT_LD_LD_SIZE 0 0, 1)]).setRegion 0
    ⟨true, 0, 0, 0, 1, 0, 1⟩).setCode 16383 code).setFrame 16383 (some 0)

/-- The host maps that LD at its own addresses, one way. -/
def mapped (code : Nat) : State := (hosted code).updPort 0 fun x => { x with decoders := [(0, some ⟨0, 2 ^ 31, 1, 256⟩)] }

/-- An access to a line of the port; line 16,777,215 is the LD's last, 16,777,216 the first beyond it, and 33,554,432 the first that the
decoder does not map. -/
def anAccess (line : Nat) : HostAccess := ⟨0, 0, 7, line, 6239, .clean, .clean⟩

theorem witness_HostReads :
    (playing.on = true ∧ playing.get (Reg.HPORT_STAT_LINK_STATE 0) < 3) ∧
    (((mapped codeClean).updPort 0 fun x => { x with owed := (32, 32) }).heldCredits 0 false = 0) ∧
    (let s := (mapped codeClean).set Reg.SYS_PWR_STATE_STATE 4;
      s.on = true ∧ s.inH = true ∧ 3 ≤ s.get (Reg.HPORT_STAT_LINK_STATE 0) ∧ s.heldCredits 0 false ≠ 0) ∧
    ((mapped codeClean).carries (anAccess 33554432) false = true ∧ (mapped codeClean).dpaFor 0 0 (33554432 * 64) = none ∧
      (mapped codeClean).dpaFor 0 0 (16777216 * 64) = some (16777216 * 64) ∧
      (mapped codeClean).ownedRegion 0 0 (16777216 * 64) = none) ∧
    ((mapped codeClean).carries (anAccess 16777215) false = true ∧
      (mapped codeClean).dpaFor 0 0 (16777215 * 64) = some (16777215 * 64) ∧
      (mapped codeClean).ownedRegion 0 0 (16777215 * 64) = some 0 ∧
      16383 = (mapped codeClean).tileAt 0 (16777215 * 64) ∧ (mapped codeClean).wordGood (16383 / 16) = true ∧
      (mapped codeClean).code 16383 ≠ codeLost ∧ (mapped codeClean).code 16383 ≠ codeAbsent ∧
      (mapped codeClean).isHomeless 16383 = false ∧ (mapped codeClean).frameOf 16383 = some 0) ∧
    ((mapped codeLost).code 16383 = codeLost ∧ (mapped codeLost).wordGood (16383 / 16) = true) ∧
    ((mapped codeAbsent).code 16383 = codeAbsent ∧ (mapped codeAbsent).isHomeless 16383 = false) ∧
    (mapped 6).wordGood (16383 / 16) = false ∧
    ((mapped codeClean).setHomeless 16383 true).isHomeless 16383 = true := by decide +kernel

/-- The dirty budget at so many tiles, with persistence assured. -/
def budgeted (s : State) (n : Nat) : State := sets s [(Reg.TILE_STAT_ASSURED, 1), (Reg.TILE_DMAX_TILES, n)]

/-- A write held since slot 0. -/
def aHeld : HeldWrite := ⟨{ aReq with write := true, tile := 16383, data := zs 64, mask := List.replicate 64 true }, false⟩

/-- A state with that write held. -/
def holding (s : State) : State := s.updTile fun x => { x with held := [aHeld] }

theorem witness_HostWrites :
    ((mapped codeClean).set Reg.TILE_SAVE_STAT_STATE 2).fencedOut = true ∧ (mapped codeClean).fencedOut = false ∧
    ((mapped codeClean).carries (anAccess 16777216) true = true ∧
      (mapped codeClean).dpaFor 0 0 (16777216 * 64) = some (16777216 * 64) ∧
      (mapped codeClean).ownedRegion 0 0 (16777216 * 64) = none) ∧
    ((mapped codeLost).carries (anAccess 16777215) true = true ∧
      (mapped codeLost).dpaFor 0 0 (16777215 * 64) = some (16777215 * 64) ∧
      (mapped codeLost).ownedRegion 0 0 (16777215 * 64) = some 0 ∧ (mapped codeLost).code 16383 = codeLost) ∧
    (let s := budgeted (mapped codeClean) 0;
      s.carries (anAccess 16777215) true = true ∧ inD (s.code 16383) = false ∧ s.admitsNew = false ∧ s.frameOf 16383 = some 0 ∧
        s.isHomeless 16383 = false ∧ s.code 16383 ≠ codeLost ∧ s.code 16383 ≠ codeAbsent ∧ s.wordGood (16383 / 16) = true) ∧
    ((budgeted (mapped codeClean) 1).admitsNew = true) ∧ inD ((mapped codeFlight).code 16383) = true ∧
    ((mapped codeAbsent).admitsNew = true ∧ (budgeted (mapped codeAbsent) 0).admitsNew = false) ∧
    (let s := holding (mapped codeClean);
      s.running = true ∧ s.oldestHeld = some aHeld.req ∧ (budgeted s 0).admits = false ∧ (budgeted s 1).admits = true ∧
        (mapped codeClean).oldestHeld = none) := by decide +kernel

/-- A port enabled, its link in a state. -/
def linked (st : Nat) : State := sets playing [(Reg.HPORT_CFG_ENABLE 0, 1), (Reg.HPORT_STAT_LINK_STATE 0, st)]

theorem witness_LinksAndDecoders : (linked 1).on = true ∧ (linked 1).portsUp = true ∧ (linked 1).flag (Reg.HPORT_CFG_ENABLE 0) = true ∧
    ((linked 1).seq.play.port 0).present = true ∧ playing.mayTrain 0 = false ∧
    (((linked 1).updPort 0 fun x => { x with relink := some (2, 1) }).portState 0).relink = some (2, 1) ∧
    (linked 1).get (Reg.HPORT_STAT_LINK_STATE 0) ≤ 1 ∧ 2 ≤ (linked 2).get (Reg.HPORT_STAT_LINK_STATE 0) ∧
    (linked 2).get (Reg.HPORT_STAT_RATE 0) = 0 ∧ (linked 2).get (Reg.HPORT_STAT_RATE 0) ≠ 2 ∧
    (linked 1).get (Reg.HPORT_STAT_LINK_STATE 0) ≠ 0 ∧ (linked 0).get (Reg.HPORT_STAT_LINK_STATE 0) = 0 ∧
    memLink 1 1 = true ∧ memLink 0 2 = false ∧
    (hosted codeClean).decoderCommits 0 0 ⟨0, 2 ^ 30, 16, 16384⟩ = true ∧
    (hosted codeClean).decoderCommits 0 0 ⟨0, 2 ^ 30, 1, 256⟩ = true ∧
    Store.get none ((hosted codeClean).portState 0).decoders 1 = none ∧
    (hosted codeClean).decoderCommits 0 0 ⟨0, 2 ^ 30, 3, 16384⟩ = false := by decide +kernel

/-- REGION_ASSIGN of region 63 to LD 0 of port 0 at 1 GiB, of 1 GiB. -/
def anAssign : Pkt := pk [63#8, 0#8, 0#8, 0#8, 1#8, 0#8, 1#8, 0#8]

theorem witness_RegionsAreAssignedAndReleased :
    (let s := (hosted codeClean).set (Reg.HPORT_LD_LD_SIZE 0 0) 2;
      regionAssignOp.reaches (pk (63#8 :: zs 7)) s = true ∧ (pk (63#8 :: zs 7)).u16 6 = 0 ∧
        regionAssignOp.reaches anAssign s = true ∧ 1 ≤ anAssign.u16 6 ∧ anAssign.u16 6 ≤ 2048 ∧ anAssign.genOk (s.region 63).gen = true ∧ s.saving = false ∧
        s.ldExists 0 0 = true ∧ anAssign.u16 4 + anAssign.u16 6 ≤ s.get (Reg.HPORT_LD_LD_SIZE 0 0) ∧
        s.rangeTaken 63 0 0 (anAssign.u16 4) (anAssign.u16 6) = false ∧ (s.region 63).active = false ∧
        s.freeRun (anAssign.u16 6) = some 16384 ∧ 16384 * anAssign.u16 6 ≤ s.poolFrames ∧
        (s.set Reg.TILE_SAVE_STAT_STATE 6).saving = true) ∧
    (let p := pk (zs 4) 0 1;
      regionReleaseOp.reaches p (hosted codeClean) = true ∧ (hosted codeClean).holds p.src .mgmt = true ∧
        p.genOk ((hosted codeClean).region (p.u8 0)).gen = true ∧ ((hosted codeClean).region (p.u8 0)).active = true ∧
        ((hosted codeClean).region (p.u8 0)).hasTile 16383 = true ∧ (pk (zs 4)).genOk ((hosted codeClean).region 0).gen = false) ∧
    regionQueryOp.reaches (pk [63#8, 1#8, 0#8, 0#8]) up = true ∧
    (let s := atBar (playing.updTile fun x => { x with releasing := [⟨8, 0, 0, 0⟩, ⟨16, 0, 0, 1⟩] }) 1;
      s.running = true ∧ s.frameInUse 8 = false ∧ s.outOfService (8 % 8) = false ∧ (⟨8, 0, 0, 0⟩ : FrameOrigin).bar < s.bar ∧
        s.bar ≤ (⟨16, 0, 0, 1⟩ : FrameOrigin).bar) ∧
    (let s : State := { playing with dram := { playing.dram with zeroQueue := [7, 15] } };
      (s.dram.zeroQueue.filter fun f => decide (f % 8 = 7)) = 7 :: [15] ∧ s.jobLeft 7 .zero 7 = false ∧
        (s.updCh 7 fun x => { x with work := ⟨[⟨.zero, some 7, 64⟩], []⟩ }).jobLeft 7 .zero 7 = true) := by
  decide +kernel

theorem witness_PortPackets :
    (let p := pk (zs 4 ++ leBytes 4 0x02000000 ++ zs 32) 1;
      portConfigOp.reaches p up = true ∧ p.genOk (up.get (Reg.HPORT_GEN_GEN 0)) = true ∧ p.expert = true ∧
        up.countBad 0 (countOf (p.u32 4)) = false ∧ up.cutsRegion 0 (presents (p.u32 4)) (fun l => p.u16 (8 + 2 * l)) = false ∧
        (∀ l, l < 16 → p.u16 (8 + 2 * l) ≤ 2048) ∧
        oneRegion.cutsRegion 0 (presents (p.u32 4)) (fun l => p.u16 (8 + 2 * l)) = true ∧ oneRegion.countBad 0 (countOf (p.u32 4)) = false) ∧
    (let p := pk (zs 4 ++ leBytes 4 0x3E000000 ++ zs 32) 1;
      portConfigOp.reaches p up = true ∧ up.countBad 0 (countOf (p.u32 4)) = true) ∧
    (let p := pk (zs 8);
      portConfigOp.reaches p up = true ∧ p.expert = false ∧ up.countBad 0 (countOf (up.word (cfgWord 0))) = false ∧
        (∀ x ∈ up.tile.regions, x.active = false) ∧ p.genOk 1 = false) ∧
    latencyTargetSetOp.reaches (pk (3#8 :: zs 7)) up = true := by decide +kernel

theorem witness_PersistentFlush : (linked 2).on = true ∧ (linked 2).get (Reg.HPORT_STAT_LINK_STATE 0) < 3 ∧
    3 ≤ (hosted codeClean).get (Reg.HPORT_STAT_LINK_STATE 0) ∧ (hosted codeClean).ldExists 0 0 = true ∧
    (hosted codeClean).ldExists 0 1 = false ∧
    ((hosted codeClean).set (Reg.HPORT_STAT_GPF_MODE 0) 1).flag (Reg.HPORT_STAT_GPF_MODE 0) = true ∧
    (hosted codeClean).flag (Reg.HPORT_STAT_GPF_MODE 0) = false ∧ (hosted codeClean).assured = false ∧
    (budgeted playing 0).assured = true ∧
    (let s := (linked 3).updPort 0 fun x => { x with gpf := [⟨0, true, 0⟩] };
      (s.portState 0).gpf = ⟨0, true, 0⟩ :: [] ∧ s.gpfReady 0 ⟨0, true, 0⟩ = false ∧
        (s.set Reg.TILE_SAVE_STAT_STATE 2).gpfReady 0 ⟨0, true, 0⟩ = true) := by decide +kernel

/-- PRIV[0] of the option image in force grants management and expert privilege. -/
def grantedAll (s : State) : State := { s with opt := [(0x1C, 7#8)] }

theorem witness_CxlMailboxCommands : (hosted codeClean).on = true ∧ (hosted codeClean).ldExists 0 15 = false ∧
    (hosted codeClean).ldExists 0 0 = true ∧ (hosted codeClean).prsPlace = some 0 ∧
    (hosted codeClean).holds (.hport 0) .expert = false ∧ (grantedAll (hosted codeClean)).holds (.hport 0) .expert = true ∧
    (grantedAll (hosted codeClean)).lineOfDpa 0 0 (2 ^ 30 - 1) = some (0, 1023) ∧ (zs 64).length = 64 ∧
    (hosted codeClean).tileOfFrame 0 = some 16383 := by decide +kernel

/-- A stream copy of tile 16,383. -/
def aFlight (copy : Option Copy) (seg : Option Nat) : StreamCopy := ⟨16383, 0, 0, false, copy, seg⟩
def aCopy : Copy := ⟨16383, 0, 0, [(0, 1#8)], []⟩

/-- The stream with the copy under way. -/
def streaming (copy : Option Copy) (seg : Option Nat) : State :=
  (hosted codeFlight).updTile fun x => { x with flights := [aFlight copy seg] }

theorem witness_CoolingAndSelection :
    (let s := atBar (playing.set Reg.TILE_COOL_EPOCH_PHRASES 64) 16384;
      s.running = true ∧ s.atDownbeat = true ∧ s.bar % (256 * max 1 (s.get Reg.TILE_COOL_EPOCH_PHRASES)) = 0 ∧ s.tile.epochAt ≠ s.bar ∧
        s.saving = false ∧ s.tile.sweepStopped = false ∧ s.tile.sweep = none) ∧
    (let s := (hosted codeHot).updTile fun x => { x with sweep := some 1023, sweepNext := true };
      s.running = true ∧ s.tile.sweepStopped = false ∧ s.tile.sweep = some 1023 ∧ s.wordGood 1023 = true ∧ s.code 16383 = codeHot ∧
        s.lastWord ≤ 1023 ∧ 1022 < s.lastWord ∧ s.tile.sweepNext = true ∧ (hosted 6).wordGood 1023 = false) ∧
    (let s := hosted codeCold;
      s.running = true ∧ s.serving 0 = true ∧ s.saving = false ∧ s.rateAllows = true ∧ s.scanNext 0 = some 16383 ∧
        s.wordGood (16383 / 16) = true ∧ s.frameOf 16383 = some 0 ∧ s.scanNext 1 = none) ∧
    (let s := streaming none none;
      s.running = true ∧ (s.tile.flights.find? fun x => x.tile = 16383 && x.copy.isNone) = some (aFlight none none) ∧
        s.jobLeft (0 % 8) .stream 0 = false ∧ s.flies (aFlight none none) = true ∧
        (s.readTile 16383 0).isZero = true ∧ ((s.writeFrame 0 65535 [1#8]).readTile 16383 0).isZero = false ∧
        s.poisoned 0 1023 = false ∧ ({ aLine with other := true } : LineRead).decode (s.x8 0) = .uncorrectable) := by decide +kernel

/-- Segment 5 of some kind, with the Deck in service over 16 channels. -/
def withSegment (s : State) (kind : SegKind) (closed : Bool) : State :=
  s.updDeck fun d => { d with segs := [⟨5, kind, 0, [], closed⟩] }

/-- The Deck in service, band 0 erased. -/
def deckUp (s : State) : State :=
  (sets s ((Reg.DECK_STAT_STATE, 2) :: nandChannels.map fun n => (Reg.NCH_STAT_STATE n, 1))).updDeck fun d =>
    { d with bands := [(0, .erased)] }

/-- T_hold of the boot score is 941 bars with 16 NAND channels in service: a write held since slot 0 is held long in bar 942. -/
theorem witness_HostWrites_held_long : let s := atBar (deckUp (holding (mapped codeClean))) 942;
    (s.tile.held.find? fun k => k.req.port = 0 && k.req.tag = 7 && (s.at 6239).heldLong k) = some aHeld := by decide +kernel

theorem witness_StreamSegments :
    (let s := deckUp (streaming (some aCopy) none);
      s.running = true ∧ (s.tile.flights.find? fun x => x.tile = 16383 && x.copy.isSome && x.seg.isNone) =
        some (aFlight (some aCopy) none) ∧ (aFlight (some aCopy) none).copy = some aCopy ∧
        (s.deck.segs.find? fun g => g.kind = .stream && !g.closed) = none ∧
        (s.addCopy .stream 0 { aCopy with seq := s.nextSeq }).2.isSome = true) ∧
    ((withSegment playing .stream false).deck.segs.find? fun x => x.kind = .stream && !x.closed) = some ⟨5, .stream, 0, [], false⟩ ∧
    (let s := withSegment (streaming (some aCopy) (some 5)) .stream true;
      s.running = true ∧ (s.deck.segs.find? fun x => x.num = 5 && x.closed && (x.kind = .stream || x.kind = .gc)) =
        some ⟨5, .stream, 0, [], true⟩ ∧ s.segWritten 5 = true ∧ s.code 16383 = codeFlight ∧
        s.flies (aFlight (some aCopy) (some 5)) = true ∧ s.segLate ⟨5, .stream, 0, [], true⟩ = false) ∧
    (let s := atBar ((withSegment (streaming (some aCopy) (some 5)) .stream true).updDeck fun d =>
        { d with stripes := [⟨0, 4, 0, .stream, 5, 0, [], true, [3], [], []⟩] }) 256;
      s.segWritten 5 = false ∧ s.segLate ⟨5, .stream, 0, [], true⟩ = true) := by
  decide +kernel

theorem witness_BudgetAndPersistence :
    ((atBar playing 256).running = true ∧ (atBar playing 256).phraseStart = true ∧ (atBar playing 256).tile.tokenPhrase ≠ 256 ∧
      (atBar playing 255).phraseStart = false ∧ playing.tile.recompute = false ∧ playing.assured = false ∧
      playing.tile.assuredRun < 64 ∧ 64 ≤ (playing.updTile fun x => { x with assuredRun := 64 }).tile.assuredRun ∧
      (budgeted playing 1).assured = true) ∧
    (let p := pk [1#8, 0#8, 64#8, 0#8, 0x60#8, 0xEA#8, 0#8, 0#8];
      persistPolicySetOp.reaches p up = true ∧ p.genOk (up.get Reg.TILE_GEN_GEN) = true ∧ up.saving = false ∧ up.restoring = false ∧
        policyOk p = true ∧ policyOk (pk (zs 8)) = false ∧ persistPolicySetOp.reaches (pk (zs 8)) up = true ∧
        (up.set Reg.TILE_SAVE_STAT_STATE 1).saving = true ∧ p.genOk 1 = false) ∧
    (let p := pk [240#8, 1#8, 255#8, 0#8, 0xFF#8, 0x0F#8, 0#8, 0#8] 1;
      streamTuneOp.reaches p up = true ∧ p.genOk (up.get Reg.TILE_GEN_GEN) = true ∧ p.expert = true ∧ tuneOk p = true ∧
        tuneOk (pk (zs 8)) = false ∧ streamTuneOp.reaches (pk (zs 8)) up = true) ∧
    persistStatusOp.reaches (pk []) up = true := by decide +kernel

theorem witness_EngineOverruns :
    (let s := (deckUp playing).updNch 15 fun x => { x with ops := [⟨7, .ring 0, 0⟩] };
      s.running = true ∧ ((s.nch 15).ops.find? fun x => x.die = 7) = some ⟨7, .ring 0, 0⟩ ∧ s.nchUp 15 = true) ∧
    playing.atDownbeat = true ∧ ((chan0 fun x => { x with restBars := 256 }).ch 0).restBars < 257 ∧
    (let s := chan0 fun x => { x with restBars := 257 };
      257 ≤ (s.ch 0).restBars ∧ s.serving 0 = true) ∧
    (let s := (deckUp playing).updNch 15 fun x => { x with restBars := 257 };
      257 ≤ (s.nch 15).restBars ∧ s.nchUp 15 = true) ∧
    (let s := chan0 fun x => { x with overruns := [1, 9] };
      s.get Reg.SCORE_OVERRUN_COUNT + (s.ch 0).overruns.length < 256 ∧ (s.ch 0).overruns ≠ [] ∧ (s.ch 0).restBars < 256) ∧
    (let s := chan0 fun x => { x with tasks := [.maint .temp] };
      s.hasTask 0 (.maint .temp) = true ∧ playing.hasTask 0 (.maint .temp) = false ∧ hottest [] = none ∧
        hottest [⟨0, 0, 127, false⟩] = some ⟨0, 0, 127, false⟩) ∧
    (let s := atBar playing 256;
      chInService ≤ s.chState 0 ∧ s.flag (Reg.DCH_STAT_SELF_REFRESH 0) = false ∧ (s.ch 0).stale = false ∧
        (s.ch 0).tempSlot + 256 * 6240 ≤ s.bar * 6240 + 0 ∧ s.serving 0 = true) := by decide +kernel

/-! ### The Deck, saves, restores and the pack -/

/-- Every write-enable gate open, in bar `b` of the engine cycle: PROGRAM in bar 0, ERASE in bar 8, READ in bar 16. -/
def gated (b : Nat) : State := atBar ((deckUp (hosted codeAbsent)).set (Reg.GUARD_OUT_OUT 3) 0xFFFF) b

/-- A full stripe of tile 16,383 on die 7, superblock 4, with its share of channel 0 still to program or not. -/
def aStripe (todo : List Nat) : Stripe := ⟨7, 4, 0, .stream, 5, 0, [(0, aCopy)], true, todo, [], []⟩

/-- The location of tile 16,383 on that stripe. -/
def located (s : State) (todo : List Nat) : State :=
  s.updDeck fun d => { d with stripes := [aStripe todo], loc := [(16383, .data 7 4 0 0 5)] }

/-- A touch fetch of tile 16,383. -/
def aFetch (need : List Nat) (lost bg : Bool) : Fetch := ⟨16383, 0, some 0, need, false, lost, bg, false, false, false⟩

/-- A state with that fetch. -/
def fetching (s : State) (need : List Nat) (lost bg : Bool) : State :=
  s.updTile fun x => { x with fetches := [aFetch need lost bg] }

/-- An operation on die 7 of channel 0. -/
def operating (s : State) (k : NandWork) : State := s.updNch 0 fun x => { x with ops := [⟨7, k, 0⟩] }

theorem witness_DeckOperations : (gated 0).on = true ∧ playing.gateOpen 15 = false ∧
    (let u := ((located (gated 0) [0]).at 3120).placeWaiting;
      u.gateOpen 0 = true ∧ u.windowFor 0 .program = some 1 ∧
        u.pickDie 0 1 (u.programWork 0) = some (7, .share 7 4 0 0 none)) ∧
    ((located (gated 0) [0]).at 3119).placeWaiting.windowFor 0 .program = none ∧
    (let s := (fetching (located (gated 16) []) [0] false false).at 3119;
      let u := (s.bgTake 0 (s.freeIn 0 0)).gcTake;
      s.windowFor 0 .read = some 0 ∧ u.readWork 0 (u.freeIn 0 0) = some (7, .fetch 16383 0) ∧
        (s.at 3120).windowFor 0 .read = none) ∧
    (gated 8).anyAbsent = true ∧
    (let s := atBar ((deckUp (hosted codeClean)).set (Reg.GUARD_OUT_OUT 3) 1) 8;
      s.gateOpen 0 = true ∧ s.anyAbsent = false ∧ s.windowFor 0 .erase = some 0 ∧
        (s.pickDie 0 0 fun d => s.ringWork 0 d <|> (s.eraseWork 0 d).map NandWork.band) = some (0, .band 8)) ∧
    ((operating (gated 0) (.share 7 4 0 0 none)).opOn 0 7).map (·.work) = some (.share 7 4 0 0 none) ∧
    ((operating (gated 0) (.keyPage 1 0)).opOn 0 7).map (·.work) = some (.keyPage 1 0) ∧
    ((operating (gated 0) (.ring 2)).opOn 0 7).map (·.work) = some (.ring 2) ∧ (gated 0).opOn 0 7 = none ∧
    (gated 0).retryOf (.fetch 16383 0) < 8 ∧
    (let s := operating (located (gated 16) []) (.fetch 16383 0);
      (s.opOn 0 7).map (·.work) = some (.fetch 16383 0) ∧ s.recOf 16383 = .data 7 4 0 0 5) ∧
    (let s := (operating (gated 8) (.band 7)).setBand 7 (.erasing [0]);
      (s.opOn 0 7).map (·.work) = some (.band 7) ∧ s.band 7 = .erasing [0] ∧ s.ratedCycles = 0 ∧
        Store.get 0 s.deck.marked (sbKey 0 7 (7 / s.card.nandDies + 4)) = 0) := by decide +kernel

theorem witness_DeckUpkeep :
    ((deckUp playing).running = true ∧ (deckUp playing).nchUp 15 = true ∧ ((deckUp playing).nch 15).failNext = none ∧
      (((deckUp playing).updNch 15 fun x => { x with failNext := some 15 }).nch 15).failNext = some 15 ∧ playing.atDownbeat = true ∧
      (((deckUp playing).updDeck fun d => { d with moves := [⟨16383, .zero, []⟩] }).deck.moves.find? fun m => m.need.isEmpty).isSome = true ∧
      playing.get Reg.DECK_STAT_STATE ≠ 2 ∧ (deckUp playing).saving = false ∧ (deckUp playing).get Reg.DECK_STAT_STATE = 2 ∧
      ((deckUp playing).updDeck fun d => { d with refreshWanted := true }).refreshDue = true ∧ playing.refreshDue = false ∧
      (atBar playing 16777216).phraseStart = true ∧ playing.deck.govPhrase + 65536 ≤ 16777216 / 256) ∧
    (up.formatReady = false ∧
      (let s := { (playing.set Reg.DECK_STAT_STATE 4).updDeck fun d => { d with
          bands := (List.range 64).map fun b => (b, .erased) } with card := ⟨1, 40, 255, 65535, false⟩ };
        s.on = true ∧ s.formatReady = true)) ∧
    (let s := deckUp up;
      nchRetireOp.reaches (pk [15#8, 0#8, 0#8, 0#8]) s = true ∧ (pk [15#8, 0#8, 0#8, 0#8]).genOk (s.get (Reg.NCH_GEN_GEN 15)) = true ∧
        s.saving = false ∧ s.restoring = false ∧ s.nchUp 15 = true ∧ 15 ≤ (nandChannels.filter s.nchUp).length ∧
        (nandChannels.filter (sets s [(Reg.NCH_STAT_STATE 0, 3), (Reg.NCH_STAT_STATE 1, 3)]).nchUp).length < 15) ∧
    (let p := pk (leBytes 4 0x544D464E) 1;
      deckFormatOp.reaches p (up.set Reg.DECK_STAT_STATE 3) = true ∧ p.u32 0 = 0x544D464E ∧ p.genOk (up.get Reg.DECK_GEN_GEN) = true ∧
        (up.set Reg.DECK_STAT_STATE 3).get Reg.DECK_STAT_STATE = 3) ∧
    imageListOp.reaches (pk []) up = true ∧ deckStatusOp.reaches (pk []) up = true := by decide +kernel

/-- PFAIL_N low since slot 0, and not yet latched. -/
def falling : State := sets (up.updSave fun x => { x with pfailPin := false, pfailFell := 0 })
  [(Reg.TILE_SAVE_STAT_PFAIL, 1), (Reg.TILE_SAVE_CTL_PFAIL_EN, 1), (Reg.PACK_INPUT_UV_MV, 10800)]

theorem witness_SaveTriggers :
    (up.on = true ∧ (up.updSys fun x => { x with dead := true }).on = false ∧
      up.save.pfailPin = true ∧ falling.save.pfailPin = false ∧
      falling.flag Reg.TILE_SAVE_STAT_PFAIL = true ∧ falling.bar * 6240 + 1599 < falling.save.pfailFell + 1600 ∧
      falling.save.pfailFell + 1600 ≤ falling.bar * 6240 + 1600 ∧ falling.flag Reg.TILE_SAVE_CTL_PFAIL_EN = true ∧
      falling.save.pfailTaken = false ∧ falling.get (Reg.GUARD_OUT_OUT 0) = 0 ∧ falling.saveState ≠ saveCommitted ∧
      falling.saveState ≠ saveFailed ∧ (falling.set Reg.TILE_SAVE_CTL_PFAIL_EN 0).flag Reg.TILE_SAVE_CTL_PFAIL_EN = false ∧
      (falling.set Reg.TILE_SAVE_STAT_PFAIL 0).flag Reg.TILE_SAVE_STAT_PFAIL = false ∧
      falling.get Reg.PACK_INPUT_UV_MV ≤ 10800 ∧ 10799 < falling.get Reg.PACK_INPUT_UV_MV) ∧
    (let p := pk [1#8, 0#8, 0#8, 0#8] 1;
      saveNowOp.reaches p up = true ∧ saveNowOp.reaches p (deckUp up) = true ∧ up.get Reg.DECK_STAT_STATE ≠ 2 ∧
        (deckUp up).get Reg.DECK_STAT_STATE = 2 ∧ (deckUp up).get Reg.SYS_STATE_STEP = 15 ∧
        (nandChannels.filter fun n => !((deckUp up).nchUp n)).length ≤ 2) := by decide +kernel

/-- A save in a state, one phrase after PFAIL_N rose. -/
def savingIn (st : Nat) (s : State) : State := atBar (sets s [(Reg.TILE_SAVE_STAT_STATE, st), (Reg.TILE_SAVE_STAT_PFAIL, 1)]) 256

/-- A Keystone of sequence number 1 with one valid copy. -/
def aKeystone : Keystone := { playing.makeKeystone 1 1 0 0 0 [] with copies := [0] }

theorem witness_SaveStages :
    (let s := savingIn saveFencing playing;
      s.running = true ∧ s.atDownbeat = true ∧ s.saveState = saveFencing ∧ s.save.start < s.bar ∧ s.fenceClear = true ∧
        (∀ c : Fin 8, s.flag (Reg.DCH_STAT_SELF_REFRESH c) = false) ∧ s.dirtyCount = 0 ∧ s.save.dirtied = false ∧ s.saveCause ≠ 6) ∧
    (let s := savingIn saveFencing (hosted codeCold);
      s.fenceClear = true ∧ s.dirtyCount ≠ 0 ∧
        (s.updTile fun x => { x with waits := [aReq] }).fenceDue = false) ∧
    (let s := (savingIn saveSaving (deckUp (hosted codeCold))).updSave fun x => { x with residual := [16383] };
      let u := ((s.readState (16383 / 16) .clean).readMap 16383 .corrected).dropLost;
      s.saveState = saveSaving ∧ s.residualOn 0 = 16383 :: [] ∧ s.wordGood (16383 / 16) = true ∧ s.frameOf 16383 = some 0 ∧
        (s.regionOfTile 16383).isSome = true ∧ s.code 16383 ≠ codeLost ∧
        u.saveState = saveSaving ∧ u.save.residual.contains 16383 = true ∧ u.frameOf 16383 = some 0 ∧ u.jobLeft 0 .save 0 = false ∧
        (u.readTile 16383 0).isZero = true ∧ u.poisoned 0 1023 = false ∧
        ({ aLine with other := true } : LineRead).decode (u.x8 (0 % 8)) = .uncorrectable) ∧
    (let s := ((savingIn saveSaving (deckUp (hosted codeCold))).updSave fun x => { x with residual := [16383] }).writeFrame 0 0 [1#8];
      let u := ((s.readState (16383 / 16) .clean).readMap 16383 .clean).dropLost;
      s.residualOn 0 = 16383 :: [] ∧ (u.readTile 16383 0).isZero = false ∧
        (u.addCopy .save u.bar (u.readTile 16383 0)).2.isSome = true) ∧
    (let s := savingIn saveClosing playing;
      s.saveState = saveClosing ∧ (s.kindsWritten fun k => k = .save || k = .map || k = .lostList) = true) ∧
    (let s := (savingIn saveKeystone playing).updSave fun x => { x with seq := 1 };
      let s := s.updDeck fun d => { d with keystones := [aKeystone] };
      (s.keystoneOf s.save.seq).isSome = true ∧ s.saveState = saveKeystone ∧ aKeystone.copies ≠ []) ∧
    ((savingIn saveFailed playing).saveState = saveFailed ∧ (savingIn saveFailed playing).saveEnd = .resume) ∧
    ((savingIn saveCommitted playing).saveState = saveCommitted ∧ (savingIn saveCommitted playing).saveEnd = .resume ∧
      ((savingIn saveCommitted playing).set Reg.TILE_SAVE_STAT_PFAIL 0).saveEnd ≠ .resume) ∧
    ((atBar playing 1).updSave fun x => { x with entry := some 0 }).save.entry = some 0 := by decide +kernel

/-- Restore under way, with tile 16,383 ABSENT. -/
def restoringIn : State := (hosted codeAbsent).set Reg.TILE_RESTORE_STAT_STATE 2

theorem witness_RestoreFetches :
    (let s := restoringIn.updTile fun x => { x with fetches := [{ aFetch [0] false false with entered := none }] };
      s.running = true ∧ s.atDownbeat = true ∧ s.touchWaiting = [{ aFetch [0] false false with entered := none }] ∧
        (∀ g ∈ s.touchQueue, g.tile ≠ 16383) ∧ s.mayEnter { aFetch [0] false false with entered := none } = true) ∧
    (let s := fetching restoringIn [] false false;
      (s.touchQueue.find? fun g => g.tile = 16383 && g.need.isEmpty) = some (aFetch [] false false) ∧
        (s.tile.waits.filter fun r => decide (r.tile = 16383)) = [] ∧ s.frameOf 16383 = some 0 ∧
        s.written (aFetch [] false false) = false ∧ s.written { aFetch [] false false with queued := true } = true) ∧
    (let s := fetching restoringIn [] true false;
      (s.touchQueue.find? fun g => g.tile = 16383 && g.need.isEmpty) = some (aFetch [] true false)) ∧
    (let s := atBar ((fetching restoringIn [0] false false).set Reg.TILE_TOUCH_BOUND_BARS 65534) 65535;
      (s.touchQueue.find? fun g => g.tile = 16383 && !g.long) = some (aFetch [0] false false) ∧
        s.get Reg.TILE_TOUCH_BOUND_BARS ≠ 65535 ∧
        s.get Reg.TILE_TOUCH_BOUND_BARS < s.bar - (aFetch [0] false false).entered.getD s.bar) ∧
    ((fetching restoringIn [0] false false).set Reg.TILE_TOUCH_BOUND_BARS 65535).get Reg.TILE_TOUCH_BOUND_BARS = 65535 ∧
    (let s := restoringIn.updTile fun x => { x with fetches := [{ aFetch [] false true with queued := true }] };
      (s.tile.fetches.find? fun g => g.tile = 16383 && g.bg && g.need.isEmpty) = some { aFetch [] false true with queued := true } ∧
        s.bgRuns = true ∧ (s.set Reg.TILE_RESTORE_STAT_STATE 3).bgRuns = false ∧ s.frameOf 16383 = some 0 ∧
        s.written { aFetch [] false true with queued := true } = true) ∧
    (restoreControlOp.reaches (pk [4#8, 63#8, 1#8, 0#8] 1) up = true ∧ restoreControlOp.reaches (pk [5#8, 0#8, 0#8, 0#8]) up = true) ∧
    (restoreControlOp.reaches (pk [2#8, 0#8, 0#8, 0#8]) up = true ∧ up.holds .span .mgmt = true ∧ up.restoring = false ∧
      restoringIn.restoring = true ∧ restoreControlOp.reaches (pk [3#8, 0#8, 0#8, 0#8]) restoringIn = true ∧
      (restoringIn.region 0).active = true) := by decide +kernel

/-- The reference pack in a state, in service. -/
def packed (st : Nat) : State :=
  sets { up with pack := (refPack 7980 200 0).pack } [(Reg.PACK_STAT_STATE, st), (Reg.PACK_STAT_VALID, 1)]

theorem witness_EstimatorPhraseAndCorrections : (packed packEstimating).on = true ∧
    (atBar (packed packEstimating) 255).bar % 256 ≠ 0 ∧
    (let s := atBar (packed packEstimating) 256;
      s.bar % 256 = 0 ∧ s.pack.phrase ≠ s.bar ∧ s.packState ≠ packAbsent ∧ s.packState ≠ packShip ∧
        s.flag Reg.PACK_STAT_VALID = true ∧ 0 < (s.designMah : ℚ) * s.fCyc / 10000 ∧
        (s.set Reg.PACK_STAT_VALID 0).flag Reg.PACK_STAT_VALID = false) ∧
    (packed packWindow).pack.rest < 1800 ∧
    (let s := (packed packWindow).updPack fun x => { x with rest := 1800, window := some (0, 0) };
      1800 ≤ s.pack.rest ∧ s.packState = packWindow ∧ s.pack.window.isSome = true ∧ s.get Reg.PACK_REST_MAX_MIN = 0) ∧
    (let s := (packed packEstimating).updPack fun x => { x with recordDue := true };
      s.pack.recordDue = true ∧ s.save.latched = [] ∧ s.saveState = 0 ∧
        s.sect (sectorOf (estAt ((s.flash.estSeq + 1) % 2) (s.flash.estPos.getD ((s.flash.estSeq + 1) % 2) 0))) = 0 ∧
        1 ≤ (s.set Reg.TILE_SAVE_STAT_STATE 4).saveState ∧ (s.set Reg.TILE_SAVE_STAT_STATE 4).saveState ≤ 4) ∧
    (packed packWindow).pack.window = none ∧
    (let s := atBar (((packed packWindow).set Reg.PACK_REST_MAX_MIN 1).updPack fun x => { x with window := some (0, 0) }) 15384616;
      s.pack.window = some (0, 0) ∧ s.get Reg.PACK_REST_MAX_MIN * 600000000 ≤ (s.bar - 0) * 39 ∧
        (15384615 - 0) * 39 < s.get Reg.PACK_REST_MAX_MIN * 600000000) := by decide +kernel

theorem witness_PackComesGoesAndIsProtected :
    ((packed packEstimating).on = true ∧ (packed packEstimating).packState ≠ packAbsent ∧ (packed packEstimating).packState ≠ packShip ∧
      (packed packAbsent).packState = packAbsent ∧ (packed packSettling).packState = packSettling ∧
      (atBar (packed packSettling) 16383).bar < (packed packSettling).pack.settle + 64 * 256 ∧ (packed packSettling).pack.short = false ∧
      (packed packEstimating).flag Reg.PACK_STAT_PROTECT_WARN = false ∧ (packed packEstimating).pack.tripped = false ∧
      (3 : Fin 6).val < (packed packEstimating).cells ∧ (packed packEstimating).pack.chargeFault = false) ∧
    ((packed packShip).packState = packShip ∧ ((packed packShip).updSys fun x => { x with off := true }).sys.off = true ∧
      (packed packShip).sys.off = false ∧
      (((packed packShip).updSys fun x => { x with dead := true }).set (Reg.GUARD_OUT_OUT 4) 1).sys.dead = true ∧
      (((packed packShip).updSys fun x => { x with dead := true }).set (Reg.GUARD_OUT_OUT 4) 1).get (Reg.GUARD_OUT_OUT 4) = 1) := by
  decide +kernel

theorem witness_PackPackets : packStatusOp.reaches (pk []) up = true ∧
    (let p := pk (defaultPack.take 104) 1;
      packParamsSetOp.reaches p up = true ∧ p.expert = true ∧ p.genOk (up.get Reg.PACK_GEN_GEN) = true ∧
        packParamsOk (p.params.take 104) = true ∧ up.saving = false ∧ (up.set Reg.TILE_SAVE_STAT_STATE 1).saving = true ∧
        p.genOk 1 = false) ∧
    (packParamsSetOp.reaches (pk (zs 104) 1) up = true ∧ packParamsOk (zs 104) = false) ∧
    (shipModeOp.reaches (pk []) (packed packFault) = true ∧ (pk []).genOk ((packed packFault).get Reg.PACK_GEN_GEN) = true ∧
      (packed packFault).get Reg.SYS_STATE_STEP = 15 ∧ (packed packFault).packState ≠ packAbsent ∧ (packed packFault).saving = false ∧
      (packed packFault).restoring = false ∧ (packed packAbsent).packState = packAbsent) ∧
    (let s := sets (packed packWindow) [(Reg.PACK_CTL_REST_PERMIT, 1), (Reg.TILE_SAVE_STAT_PFAIL, 1)];
      restWindowOp.reaches (pk [1#8, 1#8, 0xFF#8, 0xFF#8] 1) s = true ∧ s.flag Reg.PACK_CTL_REST_PERMIT = true ∧
        s.packState = packWindow ∧ s.flag Reg.TILE_SAVE_STAT_PFAIL = true ∧ s.saving = false ∧ s.restoring = false ∧
        (s.set Reg.PACK_CTL_REST_PERMIT 0).flag Reg.PACK_CTL_REST_PERMIT = false) := by decide +kernel

/-! ### Power-up, shut-down and margins -/

/-- A power-up in a state of the sequencer, rail 15 used, in bar `b`. -/
def powering (st b : Nat) : State :=
  atBar ((sets up [(Reg.SEQ_STAT_STATE, st), (Reg.SEQ_CTL_RAIL_EN, 0x8000), (Reg.SEQ_TIMING_START_WAIT, 10),
    (Reg.SEQ_TIMING_GLITCH_BARS, 8), (Reg.SEQ_TIMING_CHATTER_LIMIT, 4), (Reg.SEQ_OFF_MIN_OFF_MS, 1000),
    (Reg.SEQ_RAIL_CFG_ON_DELAY 15, 2), (Reg.SEQ_RAIL_CFG_STABLE 15, 3), (Reg.SEQ_RAIL_CFG_OFF_DELAY 15, 2),
    (Reg.SEQ_RAIL_DIS_PG_TIMEOUT 15, 4), (Reg.SEQ_RAIL_DIS_THRESH_MV 15, 100), (Reg.SEQ_RAIL_DIS_DIS_TIMEOUT 15, 5),
    (Reg.SEQ_RAIL_PMBUS_ADDR 15, 0x40)]).updPwr fun x => { x with glitch := 8, inUse := 0x8000, minOff := 1000 }) b

/-- That power-up with rail 15 enabled. -/
def rising (st b : Nat) : State := (powering st b).set Reg.SEQ_LIVE_EN 0x8000

/-- That power-up with PG of rail 15 low since bar 0. -/
def dropped (st b : Nat) : State := (rising st b).updRail 15 fun r => { r with low := some 0 }

theorem witness_PowerUpSequence :
    (let s := powering seqWait 640;
      s.on = true ∧ s.seqState = seqWait ∧ s.pwr.go = false ∧ s.cascade = false ∧ s.get Reg.SEQ_STAT_STUCK = 0 ∧
        (s.set Reg.SEQ_CTL_MODE 1).cascade = true ∧ (s.set Reg.SEQ_TIMING_START_WAIT 0).get Reg.SEQ_TIMING_START_WAIT = 0 ∧
        s.get Reg.SEQ_TIMING_START_WAIT ≠ 0 ∧ s.pwr.waitBar + 64 * s.get Reg.SEQ_TIMING_START_WAIT ≤ s.bar) ∧
    (let s := powering seqUp 127;
      s.seqState = seqUp ∧ s.pwr.fault = none ∧ s.railUsed 15 = true ∧ s.railEn 15 = false ∧ s.pwr.tick0 ≤ s.bar ∧
        s.tickNow < s.get (Reg.SEQ_RAIL_CFG_ON_DELAY 15) ∧ (atBar s 128).get (Reg.SEQ_RAIL_CFG_ON_DELAY 15) ≤ (atBar s 128).tickNow) ∧
    (let s := rising seqUp 191;
      s.railEn 15 = true ∧ s.railGood 15 = false ∧ (s.rail 15).low = none ∧
        s.bar < (s.rail 15).from' + 64 * max 1 (s.get (Reg.SEQ_RAIL_CFG_STABLE 15)) ∧
        ((atBar s 192).rail 15).from' + 64 * max 1 (s.get (Reg.SEQ_RAIL_CFG_STABLE 15)) ≤ (atBar s 192).bar) ∧
    (let s := rising seqUp 384;
      s.pwr.fault = none ∧ s.railUsed 15 = true ∧ s.railGood 15 = false ∧
        s.get (Reg.SEQ_RAIL_CFG_ON_DELAY 15) + s.get (Reg.SEQ_RAIL_DIS_PG_TIMEOUT 15) ≤ s.tickNow) ∧
    (((dropped seqUp 7).rail 15).low = some 0 ∧ (dropped seqUp 7).bar - 0 < (dropped seqUp 7).pwr.glitch ∧
      ((dropped seqUp 8).rail 15).low = some 0 ∧ (dropped seqUp 8).pwr.glitch ≤ (dropped seqUp 8).bar - 0) ∧
    ((dropped seqOn 7).seqState = seqOn ∧ ((dropped seqOn 7).rail 15).low = some 0 ∧
      (dropped seqOn 7).bar - 0 < (dropped seqOn 7).pwr.glitch ∧ ((dropped seqOn 8).rail 15).low = some 0 ∧
      (dropped seqOn 8).pwr.glitch ≤ (dropped seqOn 8).bar - 0 ∧
      (dropped seqOn 8).flag (Reg.SEQ_RAIL_STAT_LOST 15) = false) ∧
    (let s := powering seqOff 256410;
      s.seqState = seqOff ∧ s.pwr.go = false ∧ (s.bar - s.pwr.offBar) * 39 < s.get Reg.SEQ_OFF_MIN_OFF_MS * 10000 ∧
        (atBar s 256411).get Reg.SEQ_OFF_MIN_OFF_MS * 10000 ≤ ((atBar s 256411).bar - (atBar s 256411).pwr.offBar) * 39 ∧
        (s.set Reg.SEQ_CTL_RETRY 1).get Reg.SEQ_STAT_RETRIES < (s.set Reg.SEQ_CTL_RETRY 1).get Reg.SEQ_CTL_RETRY ∧
        (s.set Reg.SEQ_CTL_RETRY 0).get Reg.SEQ_CTL_RETRY ≤ s.get Reg.SEQ_STAT_RETRIES) := by decide +kernel

theorem witness_ShutDownReleasesTheRails :
    (let s := (rising seqOn 64).updSave fun x => { x with shut := true };
      s.on = true ∧ s.save.shut = true ∧ s.bar % 64 = 0 ∧ s.seqState ≠ seqDown ∧ up.save.shut = false) ∧
    (let s := rising seqDown 127;
      s.seqState = seqDown ∧ s.railEn 15 = true ∧ s.tickNow < s.get (Reg.SEQ_RAIL_CFG_OFF_DELAY 15) ∧
        (atBar s 128).get (Reg.SEQ_RAIL_CFG_OFF_DELAY 15) ≤ (atBar s 128).tickNow ∧ (rising seqReversing 0).seqState = seqReversing) ∧
    (let s := powering seqDown 319;
      s.railEn 15 = false ∧ s.get (Reg.SEQ_RAIL_DIS_THRESH_MV 15) ≤ 100 ∧ 99 < s.get (Reg.SEQ_RAIL_DIS_THRESH_MV 15) ∧
        (∀ m ∈ rails, s.railUsed m = true → s.railEn m = false ∧ (m = 15 ∨ (s.rail m).finished = true)) ∧ s.sys.drain = none ∧
        (powering seqReversing 319).railEn 15 = false ∧ (s.rail 15).finished = false ∧
        s.downTick 15 = some 4 ∧
        s.bar < (s.rail 15).from' + 64 * max 1 (s.get (Reg.SEQ_RAIL_DIS_DIS_TIMEOUT 15)) ∧
        (s.rail 15).from' + 64 * max 1 (s.get (Reg.SEQ_RAIL_DIS_DIS_TIMEOUT 15)) ≤ (atBar s 320).bar) ∧
    (let s := (sets (rising seqOn 200) [(Reg.SEQ_RAIL_FEED_DCH 15, 1)]).updPwr fun x => { x with hTick := some 64 };
      s.seqState = seqOn ∧ s.pwr.hTick = some 64 ∧ 64 ≤ s.bar ∧ s.railsOfH.contains 15 = true ∧ s.downTick 15 = some 2) ∧
    ((up.updSys fun x => { x with off := true }).sys.off = true ∧ (up.updSys fun x => { x with off := true }).sys.dead = false) := by
  decide +kernel

/-- SEQ_TABLE_SET of no rail. -/
def aTable (timing off : Nat) : Pkt := pk (leBytes 4 0x8000 ++ leBytes 4 timing ++ leBytes 4 off ++ zs 4) 1

theorem witness_PowerPacketsAndMargins :
    (startOp.reaches (pk []) (powering seqHalted 0) = true ∧ startOp.reaches (pk []) (powering seqWait 0) = true ∧
      startOp.reaches (pk []) (powering seqNotStarted 0) = true ∧ (powering seqHalted 0).seqState = seqHalted ∧
      (powering seqOn 0).seqState = seqOn) ∧
    (let p := aTable 0x110 0x640000;
      seqTableSetOp.reaches p up = true ∧ p.genOk 0 = true ∧ p.genOk (up.get Reg.SEQ_GEN_GEN) = true ∧ p.genOk 1 = false ∧
        up.seqState ≠ seqUp ∧ up.seqState ≠ seqReversing ∧ up.seqState ≠ seqDown ∧
        (timingOk (p.u32 4) && offOk (p.u32 8) && (List.range (rails.filter (bitAt (p.u16 0xC))).length).all fun i =>
          railOk (p.u32 (0x10 + 16 * i + 0)) (p.u32 (0x10 + 16 * i + 4)) (p.u32 (0x10 + 16 * i + 12))) = true ∧
        seqTableSetOp.reaches (aTable 0x110 0x630000) up = true ∧ offOk ((aTable 0x110 0x630000).u32 8) = false ∧
        seqTableSetOp.reaches p (powering seqUp 0) = true) ∧
    seqStatusOp.reaches (pk []) up = true ∧
    (let p := pk ([0#8, 0x80#8, 10#8, 0#8]);
      let s := (powering seqOn 0).updRail 15 fun r => { r with linear := true, pmbus := 0x800000 };
      marginSetOp.reaches p s = true ∧ s.saving = false ∧ s.restoring = false ∧ s.seqState = seqOn ∧
        (∀ n ∈ rails.filter (bitAt (p.u16 0)), -10 ≤ signed8 (p.u8 2) ∧ signed8 (p.u8 2) ≤ 10 ∧ s.marginable n = true ∧
          (s.rail n).linear = true) ∧ s.marginable 14 = false ∧
        rails.filter (bitAt (p.u16 0)) = [15] ∧ (((powering seqOn 0).updRail 15 fun r => { r with linear := false }).rail 15).linear = false ∧
        marginSetOp.reaches (pk [0#8, 0x80#8, 11#8, 0#8]) s = true ∧ 10 < signed8 ((pk [0#8, 0x80#8, 11#8, 0#8]).u8 2)) ∧
    (let s := (powering seqOn 64).updRail 15 fun r => { r with target := 10 };
      s.seqState = seqOn ∧ s.bar % 64 = 0 ∧ (s.rail 15).stepBar ≠ s.bar + 1 ∧ s.margin5 15 ≠ (s.rail 15).target ∧
        (powering seqOn 64).margin5 15 = ((powering seqOn 64).rail 15).target) ∧
    up.get Reg.WARDEN_STAT_ACTIVE ≠ 0 ∧ State.reset.get Reg.WARDEN_STAT_ACTIVE = 0 ∧ chargerFault 0x4000 = true ∧
    (packed packEstimating).packState ≠ packAbsent := by decide +kernel

/-! ### Wardens -/

/-- Both units run, A active with the claim of R377's worked case. -/
def manned : State :=
  sets up ([(Reg.WARDEN_STAT_A_STATE, unitActive), (Reg.WARDEN_STAT_B_STATE, unitStandby)]
    ++ (List.range 5).map fun n => (Reg.GUARD_HOLDER_CLAIM n, 0x8002))

theorem witness_LatchesKeepTheLargestClaim : manned.on = true ∧
    (claimUnit 0x4003 ≠ 0 ∧ claimUnit 0x8002 = 0 ∧ (manned.unit 0).held = false ∧
      ((manned.updUnit 0 fun x => { x with held := true }).unit 0).held = true ∧ manned.claimOf 4 ≠ 0xFFFE ∧
      (0x8002 ≠ 0 ∧ manned.claimOf 4 = 0x8002)) ∧
    (manned.saveRefuses 0 6 = false ∧ ([2, 3, 6, 7].contains (6 % 16)) = true ∧ manned.anyDebt = false ∧
      manned.atDownbeat = true ∧ manned.get (Reg.GUARD_OUT_OUT 0) = 0 ∧ (manned.set (Reg.GUARD_OUT_OUT 0) 1).get (Reg.GUARD_OUT_OUT 0) ≠ 0 ∧
      (manned.updPack fun x => { x with tripped := true }).pack.tripped = true ∧ manned.pack.tripped = false ∧
      (manned.set Reg.TILE_SAVE_STAT_STATE 4).saveRefuses 0 6 = true ∧ (manned.set Reg.TILE_SAVE_STAT_STATE 4).saveRefuses 4 0 = false) ∧
    (let s := manned.updUnit 1 fun x => { x with booted := true };
      s.bar % 256 = 0 ∧ (s.unit 1).booted = true ∧ (∀ u : Fin 2, (manned.unit u).booted = false)) ∧
    (let s := atBar (manned.updWarden fun w => { w with offers := [⟨0, 0x8004, 0⟩, ⟨4, 0x7FFF, 0⟩] }) 1;
      ((s.warden.offers.filter fun o => decide (o.bar < s.bar) && decide (o.latch = 0)).map (·.claim)).foldl max (s.claimOf 0) ≠
          s.claimOf 0 ∧
        ((s.warden.offers.filter fun o => decide (o.bar < s.bar) && decide (o.latch = 4)).map (·.claim)).foldl max (s.claimOf 4) =
          s.claimOf 4) ∧
    ((atBar manned 255).bar % 256 ≠ 0 ∧
      (let s := atBar ((manned.set (Reg.GUARD_LEASE_MISSED 1) 2).set (Reg.GUARD_LEASE_MISSED 2) 3) 256;
        s.bar % 256 = 0 ∧ s.warden.leaseAt ≠ s.bar / 256 + 1 ∧ s.claimOf 1 ≠ 0 ∧ 1 ∉ s.warden.refreshed ∧
          s.get (Reg.GUARD_LEASE_MISSED 1) < 3 ∧ 3 ≤ s.get (Reg.GUARD_LEASE_MISSED 2) ∧
          3 ∈ (s.updWarden fun w => { w with refreshed := [3] }).warden.refreshed)) := by decide +kernel

theorem witness_WardensBootTollAndClaim : manned.on = true ∧
    (let s := atBar manned 257;
      s.bar % 256 = 1 ∧ s.unitRuns 1 = true ∧ s.unitRuns 0 = true ∧ s.tollGood 0 (s.tollFrame 0) = true ∧
        s.tollGood 0 (s.tollFrame 0 + 1) = false ∧ s.tollGood 1 (s.tollFrame 0) = false ∧ (s.unit 0).goodAt ≠ s.bar / 256 + 1 ∧
        (s.unit 0).missedAt ≠ s.bar / 256 + 1 ∧ 3 ≤ ((s.updUnit 0 fun x => { x with missed := 3 }).unit 0).missed ∧
        ((s.updUnit 0 fun x => { x with goodAt := 2 }).unit 0).goodAt = s.bar / 256 + 1 ∧ (s.unit 0).failedAt = 0) ∧
    (let s := atBar ((manned.updUnit 0 fun x => { x with failedAt := 1 }).updUnit 1 fun x => { x with
        counts := [0, 0, 0, 0, 0], checkedAt := 1 }) 256;
      s.bar % 256 = 0 ∧ s.get (unitState 1) = unitStandby ∧ (s.unit 1).held = false ∧ (s.unit (1 - 1)).failedAt ≠ 0 ∧
        (s.unit (1 - 1)).held = false ∧ (s.unit 1).checkedAt = s.bar / 256 ∧ (s.unit 1).counts ≠ [] ∧ (s.unit 1).stopped = false ∧
        s.holdsLatch (1 - 1) = true ∧ (s.unit 1).counts = s.latchCounts ∧ (s.set (Reg.GUARD_LEASE_COUNT 4) 1).latchCounts ≠ (s.unit 1).counts ∧
        (sets s ((List.range 5).map fun n => (Reg.GUARD_HOLDER_CLAIM n, 0))).holdsLatch (1 - 1) = false ∧ (s.unit 1).silent = false ∧
        (sets s ((List.range 5).map fun n => (Reg.GUARD_HOLDER_CLAIM n, 0))).latchesFree = true ∧ (s.unit 1).checkedAt ≠ s.bar / 256 + 1 ∧
        ((s.updUnit 1 fun x => { x with stopped := true }).unit 1).stopped = true) := by decide +kernel

theorem witness_WardensBootTollAndClaim_claims :
    (let s := manned.updUnit 0 fun x => { x with claim := 0x8002, claiming := 1 };
      (s.unit 0).held = false ∧ s.get (unitState 0) = unitActive ∧ (s.unit 0).claim ≠ 0 ∧ (∀ n : Fin 5, s.claimOf n = (s.unit 0).claim) ∧
        (s.unit 0).claiming ≠ 0 ∧ (manned.unit 1).claim < 0x8002 ∧ (∀ n : Fin 5, manned.claimOf n = 0x8002) ∧
        manned.get (unitState 1) = unitStandby) ∧
    (let s := State.reset.set (unitState 1) unitBooting;
      s.on = true ∧ s.get (unitState 1) = unitBooting ∧ (s.unit 1).held = false ∧ (s.unit 1).claiming = 0 ∧ (s.unit 1).booted = false ∧
        (4 : Fin 5).val ≠ 0 ∧ s.bar % 256 = 0 ∧ (atBar s 1).bar % 256 ≠ 0 ∧
        s.latchesFree = true ∧ manned.latchesFree = false) ∧
    (let s := atBar (up.set Reg.SYS_STATE_STEP 3) 65536;
      65536 ≤ s.bar ∧ s.get Reg.SYS_STATE_STEP = 3 ∧ s.flag Reg.SYS_STATE_HALT = false ∧ s.get Reg.WARDEN_A_INFO_SELF_TEST ≠ 1 ∧
        s.get Reg.WARDEN_B_INFO_SELF_TEST ≠ 1) ∧
    (let s := (sets manned [(Reg.WARDEN_STAT_PREFERRED, 2), (Reg.WARDEN_CTL_REVERT_EN, 1), (Reg.WARDEN_TOLL_GOOD_RUN, 65535)]).updUnit 1 fun x => { x with
        pass := true };
      let s := s.updUnit 0 fun x => { x with rxRun := 65535 };
      s.get Reg.WARDEN_STAT_PREFERRED = 1 + 1 ∧ s.mayRevert 1 = true ∧ (s.set Reg.WARDEN_CTL_REVERT_EN 0).mayRevert 1 = false) ∧
    (let s := (manned.updUnit 0 fun x => { x with pass := true }).updUnit 1 fun x => { x with pass := true };
      s.bar % 256 = 0 ∧ (s.unit 0).pass = true ∧ (s.unit 1).pass = true) := by decide +kernel

/-- A firmware update of 32 bytes by the span manager. -/
def updating (length : Nat) (units : List (Nat × Bool)) (finish : Option Pkt) : State :=
  manned.updWarden fun w => { w with update := some ⟨.span, length, units, 0, 1, finish⟩ }

theorem witness_WardenPackets : wardenStatusOp.reaches (pk []) manned = true ∧
    (let s := (manned.updUnit 1 fun x => { x with pass := true }).set Reg.WARDEN_TOLL_GOOD_RUN 64;
      let p := pk [1#8, 0#8, 0#8, 0#8];
      wardenHandoverOp.reaches p s = true ∧ p.genOk (s.get Reg.WARDEN_GEN_GEN) = true ∧ p.genOk 1 = false ∧
        s.get Reg.WARDEN_STAT_ACTIVE ≠ p.u8 0 + 1 ∧ s.get (unitState (p.u8 0)) = unitStandby ∧ (s.unit (p.u8 0)).pass = true ∧
        64 ≤ s.get Reg.WARDEN_TOLL_GOOD_RUN ∧ s.unsettled = false ∧ (s.set Reg.WARDEN_TOLL_GOOD_RUN 63).get Reg.WARDEN_TOLL_GOOD_RUN < 64 ∧
        wardenHandoverOp.reaches (pk (zs 4)) s = true ∧ s.get Reg.WARDEN_STAT_ACTIVE = (pk (zs 4)).u8 0 + 1) ∧
    (let p := pk (leBytes 4 0x800000 ++ zs 4);
      fwUpdateBeginOp.reaches p manned = true ∧ p.genOk (manned.get Reg.WARDEN_GEN_GEN) = true ∧
        manned.get (unitState manned.standby) = unitStandby ∧ manned.saving = false ∧ manned.restoring = false ∧
        (manned.warden.update.any fun x => decide (x.src ≠ p.src) || x.finish.isSome) = false ∧ 0 < p.u32 0 ∧ p.u32 0 ≤ 0x800000 ∧
        0x800000 < (pk (leBytes 4 0x800001 ++ zs 4)).u32 0 ∧ (pk (zs 8)).u32 0 = 0 ∧
        fwUpdateBeginOp.reaches (pk (zs 8)) (manned.set Reg.TILE_SAVE_STAT_STATE 1) = true) ∧
    (let p := pk (leBytes 4 16 ++ zs 4 ++ zs 16);
      fwUpdateDataOp.reaches p manned = true ∧ manned.warden.update = none ∧ fwUpdateDataOp.reaches p (updating 32 [] none) = true ∧
        p.u32 0 + (p.params.length - 8) ≤ 32 ∧ p.u32 0 % 16 = 0 ∧ (p.params.length - 8) % 16 = 0 ∧ 31 < p.u32 0 + (p.params.length - 8) ∧
        p.src = .span ∧ (pk [] : Pkt).src = .span) ∧
    (let p := pk [];
      fwUpdateEndOp.reaches p manned = true ∧ fwUpdateEndOp.reaches p (updating 32 [(0, true)] none) = true ∧
        16 * [(0, true)].length < 32 ∧ 32 ≤ 16 * [(0, true), (1, true)].length ∧ (updating 32 [(0, true), (1, true)] none).imageBad 1 = true) ∧
    ((updating 32 [] none).warden.update.isSome = true ∧ (2564102 - 0) * 39 < 100000000 ∧ 100000000 ≤ (2564103 - 0) * 39 ∧
      (updating 32 [] (some (pk []))).on = true ∧ 65535 < 0 + 65536 ∧ 0 + 65536 ≤ 65536) := by decide +kernel

/-! ### The recorder, events, options and the span bus -/

/-- An event for the recorder. -/
def anEntry : RecEntry := ⟨1, 0, 0, 0, 0, []⟩

theorem witness_RecorderAndEventPackets : up.on = true ∧ up.recorder.prog = none ∧
    (let s : State := { up with recorder := { up.recorder with prog := some (anEntry, []) } };
      s.recorder.prog = some (anEntry, []) ∧ s.recPlace = some 0) ∧
    up.sys.drain = none ∧
    (let s := atBar (up.updSys fun x => { x with drain := some 0 }) 4095;
      s.sys.drain = some 0 ∧ s.bar < 0 + 4096 ∧ 0 + 4096 ≤ (atBar s 4096).bar ∧
        (s.recorder.queue.isEmpty && s.recorder.prog.isNone && s.recorder.supp.isEmpty) = true ∧
        ((([anEntry] : List RecEntry).isEmpty) && s.recorder.prog.isNone && s.recorder.supp.isEmpty) = false) ∧
    (let s : State := { up with recorder := { up.recorder with clear := some ⟨0, 1, 0, 0⟩ } };
      s.recorder.clear = some ⟨0, 1, 0, 0⟩ ∧ (⟨0, 1, 0, 0⟩ : RecClear).left = 0 ∧ (⟨0, 1, 0, 1⟩ : RecClear).left ≠ 0 ∧ s.recorder.prog = none) ∧
    (let s : State := sets { up with cmd := { up.cmd with fresh := [511] } } [(Reg.EVT_PEND_PEND 15, 2 ^ 31), (Reg.EVT_IBI_IBI_EN, 1),
        (Reg.CMD_STAT_DYN_ADDR, 9)];
      s.bar % 256 = 0 ∧ s.cmd.fresh.any s.pendingSources.contains = true ∧ s.flag Reg.EVT_IBI_IBI_EN = true ∧
        s.get Reg.CMD_STAT_DYN_ADDR ≠ 0 ∧ up.cmd.fresh.any up.pendingSources.contains = false) ∧
    (setTimeAnchorOp.reaches (pk (zs 8 ++ leBytes 4 999999999 ++ zs 4)) up = true ∧ (pk (zs 8 ++ leBytes 4 999999999 ++ zs 4)).u32 8 ≤ 999999999 ∧
      999999999 < (pk (zs 8 ++ leBytes 4 1000000000 ++ zs 4)).u32 8) ∧
    (recorderReadOp.reaches (pk [0xFF#8, 0x1F#8, 63#8, 0#8]) up = true ∧ (pk [0xFF#8, 0x1F#8, 63#8, 0#8]).u16 0 ≤ 8191 ∧
      8191 < (pk [0#8, 0x20#8, 1#8, 0#8]).u16 0) ∧
    (recorderClearOp.reaches (pk []) up = true ∧ (pk []).genOk (up.get Reg.EVT_GEN_GEN) = true ∧ up.saving = false ∧
      up.restoring = false ∧ up.warden.update = none ∧ up.recorder.clear = none) ∧
    (let p := pk (leBytes 2 0x1FF ++ leBytes 2 1 ++ [127#8]);
      evtRouteSetOp.reaches p up = true ∧ p.genOk (up.get Reg.EVT_GEN_GEN) = true ∧ p.u16 0 + p.u16 2 ≤ 0x200 ∧
        (∀ i < p.u16 2, leAt p.params (4 + i) 1 < 128) ∧ 0x200 < (pk (leBytes 2 0x1FF ++ leBytes 2 2 ++ [127#8, 0#8])).u16 0 + 2 ∧
        128 ≤ leAt (pk (leBytes 2 0x1FF ++ leBytes 2 1 ++ [128#8])).params 4 1) ∧
    (let p := pk [0xFF#8, 1#8, 1#8, 0#8];
      evtMaskOp.reaches p up = true ∧ p.expert = false ∧ p.u16 0 < 0x200 ∧ 0x200 ≤ (pk [0#8, 2#8, 1#8, 0#8]).u16 0 ∧
        evtMaskOp.reaches (pk (zs 68) 1) up = true ∧ (pk (zs 68) 1).expert = true) := by decide +kernel

theorem witness_OptionWriteAndFlashRead :
    (let p := pk (leBytes 2 8176 ++ [1#8, 0#8, 0#8, 0#8, 0#8, 0#8] ++ zs 16);
      optionWriteOp.reaches p up = true ∧ p.genOk (up.get Reg.FL_OPTION_SEQ_SEQ) = true ∧ p.genOk 1 = false ∧
        up.flash.job = none ∧ up.saving = false ∧ up.restoring = false ∧ up.warden.update = none ∧ p.u16 0 % 16 = 0 ∧
        p.u16 0 + (p.params.drop 8).length ≤ 8192 ∧ (p.params.drop 8).length % 16 = 0 ∧ p.u8 2 % 2 = 1 ∧
        8192 < p.u16 0 + 32) ∧
    optFormOk (zs 8192) = false ∧
    (let p := pk (leBytes 4 0x1000000 ++ leBytes 2 64 ++ zs 2);
      flashReadOp.reaches p up = true ∧ 0x1000000 ≤ p.u32 0 ∧ (∀ i < p.u16 4 / 8, Store.get false up.flash.ue (p.u32 0 + 8 * i) = false)) ∧
    (let p := { pk (leBytes 4 0xFFFFC0 ++ leBytes 2 64 ++ zs 2) with src := .hport 0 };
      let s : State := { up with opt := [(0x1C, 3#8)] };
      flashReadOp.reaches p s = true ∧ p.u32 0 < 0x1000000 ∧ s.holds p.src .expert = false) ∧
    (let s := up.updFlash fun x => { x with stage := some ⟨.span, [], [], 0⟩ };
      s.flash.stage = some ⟨.span, [], [], 0⟩ ∧ s.flash.job = none ∧ (2564102 - 0) * 39 < 100000000 ∧ 100000000 ≤ (2564103 - 0) * 39) := by
  decide +kernel

/-- An ECHO of one byte as bytes on a wire, its trailer good. -/
def anEcho (dest : Nat) : List Byte := Pkt.encode { pk [0x5A#8] with opcode := 0x0001, dest := dest, tag := 3 }

/-- The device with dynamic address 9 and a reply waiting. -/
def addressed : State :=
  sets { up with cmd := { up.cmd with replies := [⟨3, [1#8], 0⟩], ibis := [[0xA0#8, 1#8, 0#8, 1#8]] } }
    [(Reg.CMD_STAT_DYN_ADDR, 9), (Reg.CMD_STAT_OUTSTANDING, 7), (Reg.EVT_IBI_IBI_EN, 1)]

theorem witness_SpanBusAndMailboxes : up.on = true ∧
    ((hosted codeClean).ldExists 0 15 = false ∧ (hosted codeClean).ldExists 0 0 = true ∧ 20 ≤ (anEcho 0).length ∧
      (anEcho 0).length ≤ 4096 ∧ (hosted codeClean).judge .mailbox (parsePkt (.hport 0) (anEcho 0) 0) (anEcho 0) = .good ∧
      lengthBad (anEcho 0 ++ [0#8]) = true ∧ lengthBad ((anEcho 0).take 20 ++ [0#8]) = false ∧
      crcBad ((anEcho 0).take 20 ++ (zs 1)) = true ∧ (zs 19).length < 20) ∧
    (up.get Reg.CMD_STAT_DYN_ADDR = 0 ∧ addressed.get Reg.CMD_STAT_DYN_ADDR ≠ 0 ∧ addressed.get Reg.CMD_STAT_OUTSTANDING < 8 ∧
      8 ≤ (addressed.set Reg.CMD_STAT_OUTSTANDING 8).get Reg.CMD_STAT_OUTSTANDING ∧
      addressed.judge .write (parsePkt .span (anEcho 0) 0) (anEcho 0) = .good ∧ up.cmd.replies = [] ∧
      addressed.cmd.replies = ⟨3, [1#8], 0⟩ :: [] ∧ addressed.cmd.ibis = [0xA0#8, 1#8, 0#8, 1#8] :: [] ∧
      addressed.flag Reg.EVT_IBI_IBI_EN = true ∧ (127 : Fin 128).val ≠ 0) ∧
    (let b := Pkt.encode { pk (zs 4) with opcode := 0x0008, flags := 4, dest := 0xFF };
      addressed.judge .ccc (parsePkt .span b 0) b = .good) := by decide +kernel

theorem witness_PacketsThatDoNotApply : State.reset.on = true ∧ (State.reset.updSys fun x => { x with off := true }).on = false ∧
    State.reset.get Reg.WARDEN_STAT_ACTIVE = 0 ∧ up.get Reg.WARDEN_STAT_ACTIVE ≠ 0 ∧
    up.holds (.hport 3) (echoOp.needs false) = true ∧ up.holds (.hport 3) (scoreArmOp.needs false) = false ∧
    (pk [] 4).isCast = true ∧ echoOp.cast = false ∧ scoreArmOp.cast = true ∧ scoreArmOp.paramsOk false (zs 3) = false ∧
    scoreQueryOp.paramsOk false [] = true ∧ up.inH = false ∧ (up.set Reg.SYS_STATE_STEP 5).stepUp < upStep 0x0101 := by
  decide +kernel

theorem witness_SystemPackets : echoOp.reaches (pk (zs 4060)) up = true ∧ identifyOp.reaches (pk []) up = true ∧
    getStatusOp.reaches (pk []) up = true ∧ resetDeviceOp.reaches (pk [2#8, 0#8, 0#8, 0#8]) up = true ∧
    (pk [2#8, 0#8, 0#8, 0#8]).u8 0 = 2 ∧ (pk (zs 4)).u8 0 ≠ 1 ∧ (pk (zs 4)).u8 0 ≠ 2 ∧ resetDeviceOp.reaches (pk (zs 4)) up = true ∧
    up.saving = false ∧ (up.set Reg.TILE_SAVE_STAT_STATE 5).saving = true ∧ setGroupsOp.reaches (pk [0xFF#8, 0xFF#8, 0#8, 0#8]) up = true ∧
    idleHintOp.reaches (pk (leBytes 4 0xFFFFFFFF)) up = true ∧ diagLoopbackOp.reaches (pk [0#8]) up = true ∧
    regReadOp.reaches (pk (leBytes 4 0xFFFFC ++ leBytes 2 1 ++ zs 2)) up = true ∧
    regWriteOp.reaches (pk (leBytes 4 0x20000 ++ leBytes 2 1 ++ zs 6)) up = true ∧
    (let s := atBar (up.updSys fun x => { x with hints := Store.set 0 x.hints 4 7 }) 6;
      s.on = true ∧ Store.get 0 s.sys.hints 3 = 0 ∧ s.bar < Store.get 0 s.sys.hints 4 ∧
        Store.get 0 (atBar s 7).sys.hints 4 ≤ (atBar s 7).bar) := by decide +kernel

/-- Algorithms agreed with LD 0 of port 0, and key commands allowed from host ports. -/
def agreed : State :=
  { hosted codeClean with sec := { (hosted codeClean).sec with spdmAlg := [(spdmKey 0 0, true)] } }

theorem witness_KeysAndAttestation :
    (agreed.on = true ∧ agreed.ldExists 0 0 = true ∧ agreed.negotiated 0 0 = true ∧ (hosted codeClean).negotiated 0 0 = false ∧
      (7 : Fin 8).val ≠ 0 ∧ 7 < (8 : Fin 256).val ∧ (8 : Fin 256).val ≠ 255 ∧ (7 : Fin 256).val ≤ 7) ∧
    (secGetCertOp.reaches (pk [1#8, 0#8, 0#8, 0#8]) up = true ∧ (pk [1#8, 0#8, 0#8, 0#8]).u8 0 ≤ 1 ∧
      secGetCertOp.reaches (pk [2#8, 0#8, 0#8, 0#8]) up = true ∧ 1 < (pk [2#8, 0#8, 0#8, 0#8]).u8 0) ∧
    (let s := up.set Reg.SEC_STAT_EPOCH 254;
      secCryptoEraseOp.reaches (pk (confirmErase ++ zs 4)) s = true ∧ s.mayCommandKeys .span = true ∧
        (pk (confirmErase ++ zs 4)).params.take 4 = confirmErase ∧ (pk (zs 8)).params.take 4 ≠ confirmErase ∧
        (pk (confirmErase ++ zs 4)).genOk (s.get Reg.SEC_GEN_GEN) = true ∧
        (s.eraseLock || s.tile.regions.any (·.active) || s.saving || s.restoring || decide (255 < s.nextEpoch)) = false ∧
        ((s.set Reg.SEC_STAT_EPOCH 255).eraseLock || decide (255 < (s.set Reg.SEC_STAT_EPOCH 255).nextEpoch)) = true) ∧
    (let s : State := { up with opt := [(0x1C, 7#8)] };
      secCryptoEraseOp.reaches { pk (confirmErase ++ zs 4) with src := .hport 0 } s = true ∧ s.mayCommandKeys (.hport 0) = false) ∧
    (let p := pk [1#8, 0#8, 0#8, 0#8];
      let s := (deckUp up).set Reg.SEC_STAT_EPOCH 254;
      secKeyRotateOp.reaches p s = true ∧ p.u8 0 = 1 ∧ p.genOk (s.get Reg.SEC_GEN_GEN) = true ∧
        (s.saving || s.restoring || (decide (p.u8 0 = 1) && (decide (s.get Reg.DECK_STAT_STATE ≠ 2) ||
          s.flag Reg.SEC_STAT_ROTATE_PENDING || decide (s.get Reg.SEC_STAT_EPOCH = 255)))) = false ∧
        ((s.set Reg.SEC_STAT_EPOCH 255).get Reg.SEC_STAT_EPOCH = 255) ∧ secKeyRotateOp.reaches (pk [2#8, 0#8, 0#8, 0#8]) s = true) ∧
    (let p := pk ([0#8, 0#8, 0#8, 0#8] ++ zs 97 ++ zs 3);
      secEscrowSetOp.reaches p up = true ∧ p.u8 0 = 0 ∧ keyOk (sliceBytes p.params 4 97) = false ∧
        secEscrowSetOp.reaches (pk ([1#8, 0#8, 0#8, 0#8] ++ zs 100)) up = true ∧ up.escrowKey = none ∧ up.saving = false ∧
        up.restoring = false ∧ up.sec.store.length < 24) := by decide +kernel

theorem witness_ResetsAndPowerLoss : up.on = true ∧ up.pinWaits = false ∧
    (up.updSave fun x => { x with latched := [(1, false)] }).pinWaits = true ∧ up.get Reg.SYS_STATE_STEP ≠ 1 ∧
    State.reset.on = true ∧ State.reset.get Reg.SYS_STATE_STEP = 1 ∧ State.reset.flag Reg.SYS_STATE_HALT = false ∧
    up.sys.clockFault = false ∧ ([100, -40] : List Int).max? = some 100 ∧ (95 ≤ 95 ∧ 95 < 96) ∧ up.sys.dieWarn = false ∧
    up.sys.hotPhrases < 4 ∧ 4 ≤ (up.updSys fun x => { x with hotPhrases := 4 }).sys.hotPhrases ∧ up.sys.resetReq = none ∧
    (let s := atBar (up.updSys fun x => { x with resetReq := some (1, 256, 0) }) 256;
      s.sys.resetReq = some (1, 256, 0) ∧ s.bar % 256 = 0 ∧ 256 ≤ s.bar ∧ (atBar s 255).bar % 256 ≠ 0 ∧
        (s.updSys fun x => { x with tilesSet := true }).sys.tilesSet = true ∧ s.sys.tilesSet = false ∧ s.inH = false ∧
        (s.unit 0).held = false ∧ (s.unit 1).held = false) ∧
    State.reset.get Reg.SYS_STATE_STEP ≤ 2 ∧ 2 < up.get Reg.SYS_STATE_STEP ∧
    (let s := (State.reset.updSys fun x => { x with dead := true });
      s.sys.dead = true ∧ ¬ (s.packState = packShip ∧ s.get (Reg.GUARD_OUT_OUT 4) = 1)) := by decide +kernel

theorem witness_StartUpStepsAndPowerStates : State.reset.stepMay = true ∧ State.reset.get Reg.SYS_STATE_STEP = 1 ∧
    up.stepMay = false ∧
    (let s := up.set Reg.SYS_STATE_STEP 2; s.stepMay = true) ∧
    (let s := up.set Reg.SYS_STATE_STEP 3;
      s.stepMay = true ∧ s.flag Reg.FL_OPTION_DEFAULTS = false ∧ (s.set Reg.FL_OPTION_DEFAULTS 1).flag Reg.FL_OPTION_DEFAULTS = true) ∧
    (let s := sets playing [(Reg.SYS_STATE_STEP, 4), (Reg.SEQ_STAT_STATE, seqOn)]; s.stepMay = true ∧ s.get Reg.SYS_STATE_STEP = 4) ∧
    (let s := sets playing [(Reg.SYS_STATE_STEP, 5), (Reg.SEQ_STAT_STATE, seqOn)]; s.stepMay = true ∧ s.get Reg.SYS_STATE_STEP = 5) ∧
    (let s := (up.set Reg.SYS_STATE_STEP 7).updSys fun x => { x with tilesSet := true }; s.stepMay = true ∧ s.sys.tilesSet = true) ∧
    (up.set Reg.SYS_STATE_STEP 8).stepMay = true ∧
    (atBar up 1).bar % 256 ≠ 0 ∧ up.bar % 256 = 0 ∧ up.atDownbeat = true ∧ up.sys.chosenAt ≠ up.bar + 1 ∧ up.get Reg.SYS_STATE_STEP = 15 ∧ up.inH = false ∧
    (let x := up.set Reg.SYS_PWR_STATE_T_KNOWN_MS (satW 16 (up.tKnown / 1000)); x.choosePower.1 ≠ 4 ∧ (x.set Reg.SYS_PWR_CFG_H_EN 1).choosePower.1 = 4) ∧
    (let s := up.set Reg.SYS_PWR_STATE_STATE 3;
      1 ≤ s.get Reg.SYS_PWR_STATE_STATE ∧ s.get Reg.SYS_PWR_STATE_STATE ≤ 3 ∧
        ((s.updSave fun x => { x with wake := true }).save.wake = true) ∧ exitLatency 3 < 2001 * 10) ∧
    up.get Reg.SYS_PWR_STATE_STATE = 0 ∧
    (let s := (up.set Reg.SYS_PWR_STATE_STATE 4).updSys fun x => { x with wakes := [5] };
      s.get Reg.SYS_PWR_STATE_STATE = 4 ∧ s.sys.hExit = none ∧ s.save.shut = false ∧ s.exitCause 5 = true ∧ s.exitCause 4 = false) := by
  decide +kernel

theorem witness_StepRunsTheFront : State.reset.pending = [] ∧ ({ State.reset with pending := [.downbeat] } : State).pending ≠ [] := by
  decide

theorem witness_PacketsSurviveTheWire : wfPkt (pk (zs 4060) 15 0xFFFFFFFF) = true ∧ wfPkt { pk [] with opcode := 0x0001 } = true ∧
    (findOp 0x0001).isSome = true ∧ (hosted codeClean).on = true ∧ (hosted codeClean).ldExists 0 0 = true ∧
    (hosted codeClean).get Reg.WARDEN_STAT_ACTIVE ≠ 0 := by decide +kernel

theorem witness_LinesHaveOnePlace : 8 * (2 * 8 * 262144) - 1 < 8 * (2 * 8 * 262144) ∧ 1023 < 1024 ∧
    mapLine 8 262144 (8 * (2 * 8 * 262144) - 1) 1023 = ⟨7, 1, 1, 7, 3, 262143, 2032⟩ := by decide +kernel

/-! ### On-NAND formats: values worked out by hand from R279, R282 and R300 -/

theorem test_parity : parityP [[1#8], [2#8], [4#8]] = [7#8] ∧ parityQ [[1#8], [1#8], [1#8]] = [7#8] ∧ parityQ [[0#8], [0x80#8]] = [0x1D#8] := by
  decide

theorem test_tile_record : tileRecNat (.data 7 8191 495 13 0x1ABCDEF) = 0x3FFFFEFDABCDEF00 ∧
    tileRecOf 0x3FFFFEFDABCDEF00 = some (.data 7 8191 495 13 0xABCDEF) ∧ tileRecOf padRecNat = none ∧ tileRecOf (tileRecNat .lost) = some .lost := by
  decide +kernel

theorem test_scrambler : scramble (scrambleSeed 0 0 0) [0#8, 0#8, 0#8] = [0xC2#8, 0x22#8, 0x05#8] := by decide +kernel

end Sys2Proof.Tests
end

section
/-! PROOFS. Little-endian fields in a byte string, the layout of a packet (R6, R7, R471), and its arrival at a mailbox (R474). -/

namespace Sys2Proof

/-! ### Little-endian fields -/

@[simp] theorem length_leBytes (n v : Nat) : (leBytes n v).length = n := by
  induction n generalizing v with
  | zero => rfl
  | succ n ih => simp [leBytes, ih]

/-- The bytes of a number give it back, cut to their width. -/
theorem leNat_leBytes (n v : Nat) : leNat (leBytes n v) = v % 256 ^ n := by
  induction n generalizing v with
  | zero => simp [leBytes, leNat, Nat.mod_one]
  | succ n ih => simp [leBytes, leNat, ih, Nat.pow_succ', Nat.mod_mul]

@[simp] theorem length_sliceBytes (bs : List Byte) (off n : Nat) : (sliceBytes bs off n).length = n := by simp [sliceBytes]

/-- A field at the front of a byte string. -/
theorem sliceBytes_append_left (x r : List Byte) : sliceBytes (x ++ r) 0 x.length = x := by
  refine List.ext_getElem (by simp) fun i _ hi => ?_
  simp [sliceBytes, List.getElem?_append_left hi, List.getElem?_eq_getElem hi]

/-- What stands before an offset does not matter to a field at it. -/
theorem leAt_append_right {x : List Byte} (r : List Byte) {off : Nat} (n : Nat) (h : x.length ≤ off) :
    leAt (x ++ r) off n = leAt r (off - x.length) n := by
  unfold leAt sliceBytes
  congr 1
  refine List.map_congr_left fun i _ => ?_
  rw [List.getD_append_right _ _ _ _ (by omega), Nat.sub_add_comm h]

/-- The field that a byte string begins with. -/
theorem leAt_leBytes_append (n v : Nat) (r : List Byte) : leAt (leBytes n v ++ r) 0 n = v % 256 ^ n := by
  have h := sliceBytes_append_left (leBytes n v) r
  rw [length_leBytes] at h
  rw [leAt, h, leNat_leBytes]

/-- The fields that a byte string begins with do not matter to a later one. -/
theorem leAt_leBytes_append_right {m v off : Nat} (r : List Byte) (n : Nat) (h : m ≤ off) :
    leAt (leBytes m v ++ r) off n = leAt r (off - m) n := by
  have hm : (leBytes m v).length ≤ off := by simpa using h
  rw [leAt_append_right r n hm, length_leBytes]

/-! ### CRC-32C -/

theorem crcBit_lt {c : Nat} (h : c < 2 ^ 32) : crcBit c < 2 ^ 32 := by
  unfold crcBit
  split
  · exact Nat.xor_lt_two_pow (by omega) (by decide)
  · omega

theorem crcByte_lt {c : Nat} (b : Byte) (h : c < 2 ^ 32) : crcByte c b < 2 ^ 32 := by
  have hb : b.toNat < 2 ^ 32 := Nat.lt_trans b.isLt (by decide)
  have hx : Nat.xor c b.toNat < 2 ^ 32 := Nat.xor_lt_two_pow h hb
  unfold crcByte
  iterate 8 apply crcBit_lt
  exact hx

theorem foldl_crcByte_lt (bs : List Byte) {c : Nat} (h : c < 2 ^ 32) : bs.foldl crcByte c < 2 ^ 32 := by
  induction bs generalizing c with
  | nil => exact h
  | cons b bs ih => exact ih (crcByte_lt b h)

/-- The CRC of a byte string fits the four bytes of the trailer (R7). -/
theorem crc32c_lt (bs : List Byte) : crc32c bs < 2 ^ 32 :=
  Nat.xor_lt_two_pow (foldl_crcByte_lt bs (by decide)) (by decide)

/-! ### The layout of a packet -/

/-- The sixteen bytes before a packet's parameters (R471). -/
def Pkt.header (p : Pkt) : List Byte :=
  leBytes 1 1 ++ (leBytes 1 p.flags ++ (leBytes 2 p.opcode ++ (leBytes 2 p.tag ++ (leBytes 1 p.dest ++ (leBytes 1 0
    ++ (leBytes 4 p.gen ++ (leBytes 2 p.params.length ++ leBytes 2 0)))))))

@[simp] theorem Pkt.length_header (p : Pkt) : p.header.length = 16 := by simp [Pkt.header]

/-- A packet is its header, its parameters, and the CRC of both. -/
theorem Pkt.encode_eq (p : Pkt) : p.encode = (p.header ++ p.params) ++ leBytes 4 (crc32c (p.header ++ p.params)) := by
  simp only [Pkt.encode, Pkt.header, List.append_assoc]

@[simp] theorem Pkt.length_encode (p : Pkt) : p.encode.length = 20 + p.params.length := by
  simp [Pkt.encode_eq]
  omega

/-- What stands at each offset of a packet's header (R471). -/
theorem Pkt.leAt_encode (p : Pkt) :
    leAt p.encode 0 1 = 1 ∧ leAt p.encode 1 1 = p.flags % 2 ^ 8 ∧ leAt p.encode 2 2 = p.opcode % 2 ^ 16 ∧
    leAt p.encode 4 2 = p.tag % 2 ^ 16 ∧ leAt p.encode 6 1 = p.dest % 2 ^ 8 ∧ leAt p.encode 7 1 = 0 ∧
    leAt p.encode 8 4 = p.gen % 2 ^ 32 ∧ leAt p.encode 0xC 2 = p.params.length % 2 ^ 16 ∧ leAt p.encode 0xE 2 = 0 := by
  simp only [Pkt.encode_eq, Pkt.header, List.append_assoc]
  refine ⟨?_, ?_, ?_, ?_, ?_, ?_, ?_, ?_, ?_⟩ <;> simp [leAt_leBytes_append_right, leAt_leBytes_append]

/-- The parameters stand behind the header. -/
theorem Pkt.params_encode (p : Pkt) : (p.encode.drop 16).take p.params.length = p.params := by
  rw [Pkt.encode_eq, List.append_assoc, List.drop_left' p.length_header, List.take_left]

/-- The trailer is the CRC of what stands before it (R7, R471). -/
theorem Pkt.trailer_encode (p : Pkt) :
    leAt p.encode (p.encode.length - 4) 4 = crc32c (p.encode.take (p.encode.length - 4)) := by
  have hlen : p.encode.length - 4 = (p.header ++ p.params).length := by simp; omega
  have hcrc : leAt (leBytes 4 (crc32c (p.header ++ p.params))) 0 4 = crc32c (p.header ++ p.params) := by
    have h := leAt_leBytes_append 4 (crc32c (p.header ++ p.params)) []
    rwa [List.append_nil, show 256 ^ 4 = 2 ^ 32 from rfl, Nat.mod_eq_of_lt (crc32c_lt _)] at h
  rw [hlen, Pkt.encode_eq, List.take_left, leAt_append_right _ _ (Nat.le_refl _), Nat.sub_self, hcrc]

/-- The widths a well-formed packet keeps (R471). -/
theorem wfPkt_iff (p : Pkt) : wfPkt p = true ↔
    p.opcode < 2 ^ 16 ∧ p.flags < 2 ^ 4 ∧ p.tag < 2 ^ 16 ∧ p.dest < 2 ^ 8 ∧ p.gen < 2 ^ 32 ∧ p.params.length ≤ 4060 := by
  simp [wfPkt, and_assoc]

end Sys2Proof

namespace Sys2Proof.Machine

/-- The bytes of a well-formed packet are read back as the packet, whatever its source and time (R471). -/
theorem parsePkt_encode {p : Pkt} (h : wfPkt p = true) (src : Src) (bar : Nat) :
    parsePkt src p.encode bar = { p with src := src, rxBar := bar } := by
  obtain ⟨hop, hflags, htag, hdest, hgen, hlen⟩ := (wfPkt_iff p).mp h
  obtain ⟨-, eflags, eop, etag, edest, -, egen, elen, -⟩ := p.leAt_encode
  have hn : leAt p.encode 0xC 2 = p.params.length := by rw [elen, Nat.mod_eq_of_lt (by omega)]
  simp only [parsePkt, hn, p.params_encode, eflags, eop, etag, edest, egen, Nat.mod_eq_of_lt hop, Nat.mod_eq_of_lt htag,
    Nat.mod_eq_of_lt hdest, Nat.mod_eq_of_lt hgen, Nat.mod_eq_of_lt (show p.flags < 2 ^ 8 by omega)]

theorem lengthBad_encode {p : Pkt} (h : wfPkt p = true) : lengthBad p.encode = false := by
  obtain ⟨-, -, -, -, -, hlen⟩ := (wfPkt_iff p).mp h
  obtain ⟨-, -, -, -, -, -, -, elen, -⟩ := p.leAt_encode
  simp only [lengthBad, elen, p.length_encode, Bool.or_eq_false_iff, decide_eq_false_iff_not]
  omega

theorem crcBad_encode (p : Pkt) : crcBad p.encode = false := by
  simp [crcBad, -Pkt.length_encode, p.trailer_encode]

/-- At a mailbox the header's form is that of its flags and its reserved bytes alone (R466, R474). -/
theorem headerBad_encode {p : Pkt} (h : p.flags < 2 ^ 4) (n : Fin 4) (bar : Nat) :
    headerBad { p with src := .hport n, rxBar := bar } p.encode = false := by
  obtain ⟨-, -, -, -, -, e7, -, -, e14⟩ := p.leAt_encode
  have h4 : bitsAt p.flags 4 4 = 0 := by rw [bitsAt, Nat.div_eq_of_lt h]; rfl
  simp [headerBad, Pkt.isMailbox, e7, e14, h4]

/-! ### Arrival -/

/-- A packet without a fault of form counts in no error (R474, R495). -/
theorem State.countErr_of_good {s : State} {via : Via} {p : Pkt} {bs : List Byte} (h : s.judge via p bs = .good) :
    s.countErr p bs = s := by
  have hform : lengthBad bs = false ∧ crcBad bs = false ∧ headerBad p bs = false := by
    unfold State.judge at h
    split_ifs at h with h1 h2 h3 h4 h5 h6
    simp_all
  obtain ⟨hlen, hcrc, hhead⟩ := hform
  simp [State.countErr, hlen, hcrc, hhead]

/-- A packet without a fault of form waits for its downbeat, and nothing else changes (R474). -/
theorem State.arrive_of_good {s : State} {via : Via} {src : Src} {bs : List Byte} (late : Bool)
    (h : s.judge via (parsePkt src bs s.bar) bs = .good) :
    s.arrive via src bs late = s.updCmd fun c => { c with
      queue := c.queue ++ [⟨parsePkt src bs s.bar, s.bar + (if late then 2 else 1), none⟩] } := by
  simp only [State.arrive, h, State.countErr_of_good h]

/-- A well-formed packet of the tables, sent to a mailbox while a warden is active, has no fault of form (R474). -/
theorem State.judge_mailbox_encode {s : State} {p : Pkt} {n : Fin 4} (hwf : wfPkt p = true)
    (hact : s.get Reg.WARDEN_STAT_ACTIVE ≠ 0) (hop : (findOp p.opcode).isSome = true) :
    s.judge .mailbox { p with src := .hport n, rxBar := s.bar } p.encode = .good := by
  obtain ⟨-, hflags, -, -, -, -⟩ := (wfPkt_iff p).mp hwf
  obtain ⟨e0, -, -, -, -, -, -, -, -⟩ := p.leAt_encode
  have hhead : headerBad { p with src := .hport n, rxBar := s.bar } p.encode = false := headerBad_encode hflags n s.bar
  have hfind : (findOp p.opcode).isNone = false := by simpa [Option.isSome_iff_ne_none] using hop
  have hthere : s.addressed { p with src := .hport n, rxBar := s.bar } = true := by simp [State.addressed, Pkt.isMailbox]
  simp [State.judge, lengthBad_encode hwf, crcBad_encode, hact, e0, hfind, hhead, hthere]

/-- A payload that a packet can have, sent to the mailbox of an LD that exists, arrives as a packet from that port (R466). -/
theorem exec_mailboxCommandPacket {s : State} {port : Fin 4} {ld : Fin 16} {bytes : List Byte} (late : Bool) (hon : s.on = true)
    (hld : s.ldExists port ld = true) (hlo : 20 ≤ bytes.length) (hhi : bytes.length ≤ 4096) :
    exec (.mailboxCommandPacket port ld bytes late) s = .next (s.arrive .mailbox (.hport port) bytes late) := by
  have hlen : ¬ (bytes.length < 20 ∨ 4096 < bytes.length) := by omega
  show execMailboxCommandPacket port ld bytes late s = _
  simp [execMailboxCommandPacket, hon, hld, hlen]

/-- Settles O59: the layout of R471 field by field, then the checks of R474 in their order. -/
theorem packetsSurviveTheWire : Obligations.PacketsSurviveTheWire := by
  unfold Obligations.PacketsSurviveTheWire
  intro p hwf
  obtain ⟨e0, -, -, -, -, e7, -, -, e14⟩ := p.leAt_encode
  refine ⟨p.length_encode, e0, e7, e14, lengthBad_encode hwf, crcBad_encode p, fun bar => parsePkt_encode hwf p.src bar, ?_⟩
  intro s port ld late hon hld hact hop
  obtain ⟨-, -, -, -, -, hlen⟩ := (wfPkt_iff p).mp hwf
  have hparse := parsePkt_encode hwf (.hport port) s.bar
  have hgood : s.judge .mailbox (parsePkt (.hport port) p.encode s.bar) p.encode = .good := by
    rw [hparse]
    exact State.judge_mailbox_encode hwf hact hop
  refine ⟨_, exec_mailboxCommandPacket late hon hld (by simp) (by simp; omega), ?_⟩
  rw [State.arrive_of_good late hgood, hparse]
  exact ⟨rfl, rfl⟩

end Sys2Proof.Machine
end

section
/-! PROOFS. Register accesses: what the slot a command names does not touch, the rules of R11 and R14 in their order, and what a
refused access leaves behind. -/

namespace Sys2Proof.Machine

section Access

variable (s : State)

/-! ### What the slot does not touch (R10) -/

@[simp] theorem State.at_holds (k : Nat) (src : Src) (p : Priv) : (s.at k).holds src p = s.holds src p := by
  unfold State.at; split <;> rfl
@[simp] theorem State.at_hidden (k : Nat) (src : Src) (a : Nat) : (s.at k).hidden src a = s.hidden src a := by
  unfold State.at; split <;> rfl
@[simp] theorem State.at_frozen (k : Nat) (a : Nat) : (s.at k).frozen a = s.frozen a := by unfold State.at; split <;> rfl
@[simp] theorem State.at_field (k : Nat) (f : Field) : (s.at k).field f = s.field f := by unfold State.at; split <;> rfl
@[simp] theorem State.at_word (k : Nat) (a : Nat) : (s.at k).word a = s.word a := by unfold State.at; split <;> rfl

/-! ### Refused accesses -/

/-- A number held at a field's ceiling fits the field. -/
theorem satW_mod (w v : Nat) : satW w v % 2 ^ w = satW w v :=
  Nat.mod_eq_of_lt (by have := Nat.two_pow_pos w; unfold satW; omega)

/-- A counter that rises changes registers and the slot's notes alone (R10). -/
theorem State.count_frame (f : Field) (n : Nat) : { s.count f n with regs := s.regs, slotIncs := s.slotIncs } = s := rfl

/-- An access without privilege counts in CMD_NOPRIV_n of its port, which saturates (R14, R495). -/
theorem State.get_noPriv_hport (n : Fin 4) : (s.noPriv (.hport n)).get (Reg.CMD_NOPRIV_COUNT n) =
    min (s.get (Reg.CMD_NOPRIV_COUNT n) + 1) (2 ^ (Reg.CMD_NOPRIV_COUNT n).width - 1) :=
  (s.get_count_self _ 1).trans (satW_mod _ _)

/-- An access without privilege changes registers and the slot's notes alone (R14). -/
theorem State.noPriv_frame (src : Src) : { s.noPriv src with regs := s.regs, slotIncs := s.slotIncs } = s := by
  cases src with
  | hport n => exact s.count_frame _ _
  | _ => rfl

/-- A refused access is counted, with an event once a phrase (R11, R543). -/
theorem State.badAccess_eq (src : Src) (a : Nat) : s.badAccess src a =
    if s.sys.badPhrase = s.bar / 256 + 1 then s.count Reg.SYS_STAT_BAD_ACCESS
    else { (s.count Reg.SYS_STAT_BAD_ACCESS).raise 0x00C [d4 a, d1 (srcCode src)] with
      sys := { s.sys with badPhrase := s.bar / 256 + 1 } } := rfl

/-- Every refused access counts in BAD_ACCESS, which saturates (R11). -/
theorem State.get_badAccess_self (src : Src) (a : Nat) : (s.badAccess src a).get Reg.SYS_STAT_BAD_ACCESS =
    min (s.get Reg.SYS_STAT_BAD_ACCESS + 1) (2 ^ Reg.SYS_STAT_BAD_ACCESS.width - 1) := by
  rw [s.badAccess_eq]
  split <;> exact (s.get_count_self _ 1).trans (satW_mod _ _)

/-- The first refused access of a phrase raises 0x00C (R543). -/
theorem State.badAccess_raised (src : Src) (a : Nat) : (s.badAccess src a).raised = s.raised ++
    (if s.sys.badPhrase = s.bar / 256 + 1 then [] else [⟨0x00C, [⟨4, a, .plain⟩, ⟨1, srcCode src, .plain⟩], s.bar, []⟩]) := by
  rw [s.badAccess_eq]
  split
  · simp
  · rfl

/-- A refused access changes registers, the slot's notes, events and the phrase of the last 0x00C alone. -/
theorem State.badAccess_frame (src : Src) (a : Nat) :
    { s.badAccess src a with regs := s.regs, slotIncs := s.slotIncs, raised := s.raised, sys := s.sys } = s := by
  rw [s.badAccess_eq]
  split <;> rfl

/-! ### A write, by the rules of R14 and R11 in their order -/

variable {s}

theorem exec_registerWrite (hon : s.on = true) (src : Src) (slot : Fin 6240) (a : Fin 0x100000) (size : Fin 9) (v : Nat) :
    exec (.registerWrite ⟨src, slot⟩ a size v) s = .next ((s.at slot).write src a size v) :=
  s.powered_of_on hon

theorem State.write_of_not_held {src : Src} {a : Nat} (h : s.holds src (writePriv a) = false) (size v : Nat) :
    s.write src a size v = s.noPriv src := by
  simp [State.write, h]

theorem State.write_of_form {src : Src} {a size : Nat} (h : s.holds src (writePriv a) = true) (hform : size ≠ 4 ∨ a % 4 ≠ 0)
    (v : Nat) : s.write src a size v = s.badAccess src a := by
  have hbad : (size ≠ 4 || a % 4 ≠ 0) = true := by simpa using hform
  simp only [State.write, h, hbad, Bool.not_true, Bool.false_eq_true, if_false, if_true]

theorem State.write_word {src : Src} {a : Nat} (h : s.holds src (writePriv a) = true) (ha : a % 4 = 0) (v : Nat) :
    s.write src a 4 v = s.writeWord src a (v % 2 ^ 32) := by
  simp [State.write, h, ha]

/-! ### A read, by the rules of R14, R11 and R28 in their order -/

theorem exec_rcRegisterRead (hon : s.on = true) (src : Src) (slot : Fin 6240) (a : Fin 0x100000) (size : Fin 9) :
    exec (.rcRegisterRead ⟨src, slot⟩ a size) s = .next ((s.at slot).readOut src a size) :=
  s.powered_of_on hon

theorem State.readOut_of_not_held {src : Src} {a : Nat} (h : s.holds src (readNeeds src a) = false) (size : Nat) :
    s.readOut src a size = (s.noPriv src).send (.word src 0) := by
  simp [State.readOut, State.access, h]

theorem State.readOut_of_form {src : Src} {a size : Nat} (h : s.holds src (readNeeds src a) = true)
    (hform : a / 4 ≠ (a + size - 1) / 4) : s.readOut src a size = (s.badAccess src a).send (.word src 0) := by
  simp [State.readOut, State.access, h, hform]

theorem State.readOut_of_hidden {src : Src} {a size : Nat} (h : s.holds src (readNeeds src a) = true)
    (hform : a / 4 = (a + size - 1) / 4) (hh : s.hidden src (a - a % 4) = true) :
    s.readOut src a size = s.send (.word src 0) := by
  simp only [State.readOut, State.access, h, hh, ← hform, Bool.not_true, Bool.false_eq_true, if_false, ne_eq, not_true_eq_false,
    if_true]

theorem State.readOut_word {src : Src} {a size : Nat} (h : s.holds src (readNeeds src a) = true)
    (hform : a / 4 = (a + size - 1) / 4) (hh : s.hidden src (a - a % 4) = false) :
    s.readOut src a size = (s.readReg (a - a % 4)).1.send
      (.word src ((s.readReg (a - a % 4)).2 / 2 ^ (8 * (a % 4)) % 2 ^ (8 * size))) := by
  simp only [State.readOut, State.access, h, hh, ← hform, Bool.not_true, Bool.false_eq_true, if_false, ne_eq, not_true_eq_false]

end Access

/-- Settles O1: R14 comes before every other rule of an access, and its count is all it leaves behind. -/
theorem accessWithoutPrivilege : Obligations.AccessWithoutPrivilege := by
  unfold Obligations.AccessWithoutPrivilege
  intro src slot a size v s hon
  refine ⟨fun h => ?_, fun h => ?_, ?_, fun f hf => s.get_noPriv_ne src fun n hn => hf n hn, s.noPriv_frame src⟩
  · rw [exec_registerWrite hon, State.write_of_not_held (by simpa using h)]
  · rw [exec_rcRegisterRead hon, State.readOut_of_not_held (by simpa using h)]
  · rintro n rfl
    exact s.get_noPriv_hport n

/-- Settles O2: with the privilege, R11 judges the form of an access before any register is touched. -/
theorem accessOutOfForm : Obligations.AccessOutOfForm := by
  unfold Obligations.AccessOutOfForm
  intro src slot a size v s hon
  refine ⟨fun h hform => ?_, fun h hform => ?_, s.get_badAccess_self src a, fun f hf => s.get_badAccess_ne src a hf,
    s.badAccess_raised src a, s.badAccess_frame src a⟩
  · rw [exec_registerWrite hon, State.write_of_form (by simpa using h) (by omega)]
  · rw [exec_rcRegisterRead hon, State.readOut_of_form (by simpa using h) hform]

end Sys2Proof.Machine
end

section
/-! PROOFS. The keys of the flash interface (R405, R407). -/

namespace Sys2Proof.Machine

/-! ### An error of the sequence -/

/-- An error of the sequence relocks the interface and starts again at its first step (R405). -/
theorem State.seqErr_flash (s : State) : s.seqErr.flash = { s.flash with step := 0 } := rfl

theorem State.seqErr_raised (s : State) : s.seqErr.raised = s.raised := rfl

/-- SEQ_ERR stands after an error of the sequence, whatever it held (R405). -/
theorem State.get_seqErr_seqErr (s : State) : s.seqErr.get Reg.FL_STAT_SEQ_ERR = 1 := by
  have hodd (x : Nat) : Nat.lor x 1 % 2 ^ 1 = 1 := by
    show (x ||| 1) % 2 ^ 1 = 1
    rw [Nat.or_mod_two_pow]
    rcases Nat.mod_two_eq_zero_or_one x with h | h <;> simp [h]
  exact (State.get_latch_self _ _ _).trans (hodd _)

theorem State.get_seqErr_locked (s : State) : s.seqErr.get Reg.FL_STAT_LOCKED = 1 := by
  unfold State.seqErr State.relock
  rw [State.get_latch_ne _ _ (by decide), State.get_set_self]
  rfl

/-- An error of the sequence changes no other field. -/
theorem State.get_seqErr_ne (s : State) {f : Field} (hl : f.key ≠ Reg.FL_STAT_LOCKED.key) (he : f.key ≠ Reg.FL_STAT_SEQ_ERR.key) :
    s.seqErr.get f = s.get f := by
  unfold State.seqErr State.relock
  rw [State.get_latch_ne _ _ he, State.get_set_ne _ _ hl, State.updFlash_get]

theorem State.onlyFlash_seqErr (s : State) : s.onlyFlash s.seqErr := by
  have hkey {f g : Field} (hf : f.key / 32 < 0xE0004 ∨ 0xE0020 < f.key / 32) (hg : g.key / 32 = 0xE0010) : f.key ≠ g.key := by
    omega
  exact ⟨rfl, fun f hf => s.get_seqErr_ne (hkey hf (by decide)) (hkey hf (by decide))⟩

/-! ### A key -/

/-- The first key, in its place (R405). -/
theorem State.flashKey_first {s : State} (hp : s.flash.prog = none) (hs : s.flash.step = 0) :
    s.flashKey 0xA5C3 = s.updFlash fun x => { x with step := 1 } := by
  simp [State.flashKey, hp, hs]

/-- The second key, in its place, unlocks (R405). -/
theorem State.flashKey_second {s : State} (hp : s.flash.prog = none) (hs : s.flash.step = 1) :
    s.flashKey 0x3C5A = (s.updFlash fun x => { x with step := 2 }).set Reg.FL_STAT_LOCKED 0 := by
  simp [State.flashKey, hp, hs]

/-- Every other value, and every key out of its place or while a word program runs, is an error of the sequence (R405, R407). -/
theorem State.flashKey_wrong {s : State} {v : Nat} (h1 : ¬ (s.flash.prog = none ∧ s.flash.step = 0 ∧ v = 0xA5C3))
    (h2 : ¬ (s.flash.prog = none ∧ s.flash.step = 1 ∧ v = 0x3C5A)) : s.flashKey v = s.seqErr := by
  cases hp : s.flash.prog with
  | some x => simp [State.flashKey, hp]
  | none =>
    have k1 : ¬ (v = 0xA5C3 ∧ s.flash.step = 0) := fun h => h1 ⟨hp, h.2, h.1⟩
    have k2 : ¬ (v = 0x3C5A ∧ s.flash.step = 1) := fun h => h2 ⟨hp, h.2, h.1⟩
    simp [State.flashKey, hp, k1, k2]

/-- Only a warden is the active warden, and a warden holds every privilege (R27, R382). -/
theorem State.holds_of_isActive {s : State} {src : Src} (h : s.isActive src = true) (p : Priv) : s.holds src p = true := by
  cases src with
  | warden u => cases p <;> rfl
  | span => cases h
  | hport n => cases h

/-- FLASH_UNLOCK: the privilege first, then the source, then the key (R14, R405, R407). -/
theorem exec_flashUnlock {s : State} (hon : s.on = true) (src : Src) {v : Nat} (hv : v < 2 ^ 32) :
    exec (.flashUnlock src v) s = .next (if !(s.holds src .expert) then s.noPriv src
      else if s.isActive src then s.flashKey v else s.badAccess src 0xE0000) := by
  rw [← Nat.mod_eq_of_lt hv]
  exact (s.powered_of_on hon).trans (by rw [Nat.mod_mod])

/-- Settles O7: the three outcomes of a key, behind the checks of its source. -/
theorem flashUnlockSequence : Obligations.FlashUnlockSequence := by
  unfold Obligations.FlashUnlockSequence
  intro src v s hon hv
  refine ⟨fun h => ?_, fun h ha => ?_, fun ha => ?_⟩
  · simp [exec_flashUnlock hon src hv, h]
  · simp [exec_flashUnlock hon src hv, h, ha]
  · have hkey : exec (.flashUnlock src v) s = .next (s.flashKey v) := by
      simp [exec_flashUnlock hon src hv, State.holds_of_isActive ha, ha]
    rw [hkey]
    refine ⟨?_, ?_, fun h1 h2 => ?_⟩
    · rintro hp hs rfl
      exact congrArg _ (State.flashKey_first hp hs)
    · rintro hp hs rfl
      exact congrArg _ (State.flashKey_second hp hs)
    · exact ⟨s.seqErr, by rw [State.flashKey_wrong h1 h2], s.seqErr_flash, s.get_seqErr_locked, s.get_seqErr_seqErr,
        fun f hl he => s.get_seqErr_ne hl he, s.onlyFlash_seqErr, s.seqErr_raised⟩

end Sys2Proof.Machine
end

section
/-! PROOFS. The state after a cold power-on, against the Reset column of the register map (R15). -/

namespace Sys2Proof.Machine

/-- The number a Reset column asks a field to read as right after a cold power-on, where it asks for one (R15). -/
def ResetKind.value : ResetKind → Option Nat
  | .num v => some v
  | .live => some 0
  | .opt => none
  | .strap => none

/-- Every field of the register map reads as its Reset column says, but for DROPPED_LOST and EVT_MASK_10 (R15, R456, R464). -/
theorem reset_get_of_regTable : ∀ r ∈ regTable, ∀ i < r.count, ∀ d ∈ r.fields,
    (r.base + i * r.stride) * 32 + d.lo ≠ 0x10000 * 32 + 28 → (r.base + i * r.stride) * 32 + d.lo ≠ 0x100A8 * 32 →
    ∀ v ∈ d.reset.value, State.reset.get ⟨r.base + i * r.stride, d.lo, d.width⟩ = v := by
  decide +kernel

/-- Settles O58: the register map is walked field by field; the rest is the reset state itself. -/
theorem resetValues : Obligations.ResetValues := by
  unfold Obligations.ResetValues
  refine ⟨fun r hr i hi d hd hlost hmask => ?_, by decide, by decide, by decide, rfl, rfl, rfl, by decide +kernel⟩
  have h := reset_get_of_regTable r hr i hi d hd hlost hmask
  cases hreset : d.reset with
  | num v => exact h v (by rw [hreset]; rfl)
  | live => exact h 0 (by rw [hreset]; rfl)
  | opt => trivial
  | strap => trivial

end Sys2Proof.Machine
end

section
/-! PROOFS. The register map (R8, R9), walked once for every register, and folds that touch one field, or one channel, at a time. -/

namespace Sys2Proof.Machine

/-! ### Folds -/

/-- What no step of a fold changes, the fold leaves alone. -/
theorem foldl_unchanged {σ α β : Type} {step : σ → α → σ} {look : σ → β} {l : List α}
    (h : ∀ s, ∀ x ∈ l, look (step s x) = look s) (s : σ) : look (l.foldl step s) = look s := by
  induction l generalizing s with
  | nil => rfl
  | cons x l ih =>
    rw [List.foldl_cons, ih fun s y hy => h s y (List.mem_cons_of_mem x hy), h s x List.mem_cons_self]

/-- A fold over things with distinct names does the step of one of them between the steps of others. -/
theorem foldl_around {σ α κ : Type} {name : α → κ} {l : List α} (hnd : (l.map name).Nodup) {x : α} (hx : x ∈ l) :
    ∃ before after : List α, (∀ y ∈ before, name y ≠ name x) ∧ (∀ y ∈ after, name y ≠ name x) ∧
      ∀ (step : σ → α → σ) (s : σ), l.foldl step s = after.foldl step (step (before.foldl step s) x) := by
  obtain ⟨before, after, rfl⟩ := List.append_of_mem hx
  rw [List.map_append, List.map_cons, List.nodup_append, List.nodup_cons] at hnd
  obtain ⟨-, ⟨hafter, -⟩, hdisjoint⟩ := hnd
  refine ⟨before, after, fun y hy => hdisjoint _ (List.mem_map_of_mem hy) _ List.mem_cons_self, fun y hy heq => ?_, fun step s => by
    rw [List.foldl_append, List.foldl_cons]⟩
  exact hafter (heq ▸ List.mem_map_of_mem hy)

/-- A fold in which one element alone changes anything is that element's step. -/
theorem State.each_eq_one {α : Type} {f : State → α → State} {l : List α} (hnd : l.Nodup) {x : α} (hx : x ∈ l)
    (h : ∀ s, ∀ y ≠ x, f s y = s) (s : State) : s.each l f = f s x := by
  obtain ⟨before, after, hb, ha, heq⟩ := foldl_around (σ := State) (name := id) (by simpa using hnd) hx
  have hbefore : before.foldl f s = s := foldl_unchanged (look := id) (fun s y hy => h s y (hb y hy)) s
  rw [State.each, heq, hbefore]
  exact foldl_unchanged (look := id) (fun s y hy => h s y (ha y hy)) _

/-! ### The map -/

/-- The fields at an address are those of the register of the map that covers it (R8). -/
theorem mem_fieldsAt {a : Nat} {d : FieldDesc} (h : d ∈ fieldsAt a) :
    ∃ r ∈ regTable, ∃ i < r.count, a = r.base + i * r.stride ∧ d ∈ r.fields ∧ fieldsAt a = r.fields := by
  unfold fieldsAt at h ⊢
  cases hr : regTable.find? (·.covers a) with
  | none => simp [hr] at h
  | some r =>
    have hcov := List.find?_some hr
    simp only [RegDesc.covers, Bool.and_eq_true, decide_eq_true_eq, beq_iff_eq] at hcov
    obtain ⟨⟨hbase, hmod⟩, hcount⟩ := hcov
    refine ⟨r, List.mem_of_find?_eq_some hr, _, hcount, ?_, by simpa [hr] using h, rfl⟩
    rw [Nat.div_mul_cancel (Nat.dvd_of_mod_eq_zero hmod)]
    omega

/-- No two fields of a register begin at one bit. -/
theorem fieldsAt_lo_nodup (a : Nat) : ((fieldsAt a).map (·.lo)).Nodup := by
  have hall : ∀ r ∈ regTable, (r.fields.map (·.lo)).Nodup := by decide +kernel
  cases hf : fieldsAt a with
  | nil => simp
  | cons d ds =>
    obtain ⟨r, hr, -, -, -, -, he⟩ := mem_fieldsAt (a := a) (d := d) (by simp [hf])
    rw [← hf, he]
    exact hall r hr

/-- Fields of one register that begin at different bits have different keys. -/
theorem key_ne_of_lo_ne {a lo lo' w w' : Nat} (h : lo ≠ lo') : (⟨a, lo, w⟩ : Field).key ≠ (⟨a, lo', w'⟩ : Field).key :=
  fun heq => h (Nat.add_left_cancel heq)

/-- An address of which no field tracks a computed quantity. -/
def storedAddr (a : Nat) : Prop :=
  a < 0x20 ∨ (0x80 ≤ a ∧ a < 0x40000) ∨ (0x40000 ≤ a ∧ a < 0x80000 ∧ a % 0x4000 < 0x2C) ∨ (0x80010 ≤ a ∧ a < 0x80050) ∨
    (0x80100 ≤ a ∧ a < 0xE1000 ∧ a ≠ 0xA0000) ∨ 0xE1500 ≤ a

theorem State.live_of_storedAddr (s : State) {a : Nat} (h : storedAddr a) (lo w : Nat) : s.live ⟨a, lo, w⟩ = none := by
  unfold storedAddr at h
  simp only [State.live]
  iterate 18 rw [if_neg (by omega)]

/-- A field cleared by reading is stored, and tracks no computed quantity (R9). -/
theorem storedAddr_of_rc {a : Nat} {d : FieldDesc} (hd : d ∈ fieldsAt a) (hrc : d.access = .rc) : storedAddr a := by
  have hall : ∀ r ∈ regTable, ∀ i < r.count, ∀ d ∈ r.fields, d.access = .rc → storedAddr (r.base + i * r.stride) := by
    unfold storedAddr
    decide +kernel
  obtain ⟨r, hr, i, hi, rfl, hdr, -⟩ := mem_fieldsAt hd
  exact hall r hr i hi d hdr hrc

theorem State.field_of_rc (s : State) {a : Nat} {d : FieldDesc} (hd : d ∈ fieldsAt a) (hrc : d.access = .rc) :
    s.field ⟨a, d.lo, d.width⟩ = s.get ⟨a, d.lo, d.width⟩ := by
  rw [State.field, s.live_of_storedAddr (storedAddr_of_rc hd hrc)]

/-- The one field of DCH_n_REF_DEBT that a read clears is MAX (R157). -/
theorem rc_refDebt : ∀ c < 8, ∀ d ∈ fieldsAt (0x40004 + 0x4000 * c), d.access = .rc → d.lo = 12 ∧ d.width = 4 := by
  decide +kernel

/-- The one field of DCH_n_TEMP that a read clears is PEAK_C (R158). -/
theorem rc_temp : ∀ c < 8, ∀ d ∈ fieldsAt (0x40008 + 0x4000 * c), d.access = .rc → d.lo = 24 ∧ d.width = 8 := by
  decide +kernel

theorem max_mem_refDebt : ∀ c < 8, (⟨12, 4, .rc, .num 0⟩ : FieldDesc) ∈ fieldsAt (0x40004 + 0x4000 * c) := by decide +kernel

theorem peak_mem_temp : ∀ c < 8, (⟨24, 8, .rc, .num 0⟩ : FieldDesc) ∈ fieldsAt (0x40008 + 0x4000 * c) := by decide +kernel

end Sys2Proof.Machine
end

section
/-! PROOFS. What a read of a register leaves behind (R9, R10, R13, R157, R158). -/

namespace Sys2Proof.Machine

section Read

variable (s : State)

/-! ### One field cleared by reading -/

/-- A cleared field holds what the slot has added (R10). -/
theorem State.get_takeRc_self (f : Field) : (s.takeRc f).get f = satW f.width (s.risen f).2 :=
  (State.get_set_self s f _).trans (satW_mod _ _)

theorem State.get_takeRc_ne {f g : Field} (h : g.key ≠ f.key) : (s.takeRc f).get g = s.get g := State.get_set_ne s _ h

theorem State.risen_takeRc_ne {f g : Field} (h : g.key ≠ f.key) : (s.takeRc f).risen g = s.risen g := by
  have hincs : Store.get (0, 0) (s.takeRc f).slotIncs g.key = Store.get (0, 0) s.slotIncs g.key := Store.get_set_ne _ _ _ h
  simp only [State.risen, hincs, s.get_takeRc_ne h]

/-- A read of a register does this to each of its fields (R9). -/
def State.clearField (a : Nat) (s : State) (d : FieldDesc) : State :=
  if d.access = .rc then s.takeRc ⟨a, d.lo, d.width⟩ else s

theorem State.clearRc_eq (a : Nat) : s.clearRc a = ((fieldsAt a).foldl (State.clearField a) s).restartPeak a := rfl

theorem State.get_clearField_ne {a : Nat} {d : FieldDesc} {g : Field}
    (h : d.access = .rc → g.key ≠ (⟨a, d.lo, d.width⟩ : Field).key) : (s.clearField a d).get g = s.get g := by
  unfold State.clearField
  split
  next hrc => exact s.get_takeRc_ne (h hrc)
  next => rfl

theorem State.risen_clearField_ne {a : Nat} {d : FieldDesc} {g : Field} (h : g.key ≠ (⟨a, d.lo, d.width⟩ : Field).key) :
    (s.clearField a d).risen g = s.risen g := by
  unfold State.clearField
  split
  · exact s.risen_takeRc_ne h
  · rfl

/-- Two states that differ in registers and in the slot's notes of counters alone. -/
def State.onlyCounts (s t : State) : Prop := ∃ regs slotIncs, t = { s with regs := regs, slotIncs := slotIncs }

theorem State.onlyCounts_refl : s.onlyCounts s := ⟨_, _, rfl⟩

variable {s} in
theorem State.onlyCounts_trans {t u : State} (h : s.onlyCounts t) (h' : t.onlyCounts u) : s.onlyCounts u := by
  obtain ⟨_, _, rfl⟩ := h
  obtain ⟨regs, slotIncs, rfl⟩ := h'
  exact ⟨regs, slotIncs, rfl⟩

theorem State.onlyCounts_set (f : Field) (v : Nat) : s.onlyCounts (s.set f v) := ⟨_, _, rfl⟩

theorem State.onlyCounts_foldl {α : Type} {step : State → α → State} (h : ∀ s x, State.onlyCounts s (step s x)) (l : List α) :
    s.onlyCounts (l.foldl step s) := by
  induction l generalizing s with
  | nil => exact s.onlyCounts_refl
  | cons x l ih => exact State.onlyCounts_trans (h s x) (ih _)

theorem State.onlyCounts_clearField (a : Nat) (d : FieldDesc) : s.onlyCounts (s.clearField a d) := by
  unfold State.clearField
  split
  · exact ⟨_, _, rfl⟩
  · exact s.onlyCounts_refl

/-! ### The peaks that start again -/

/-- A read of a register does this to the two peaks of each channel (R157, R158). -/
def State.restartPeaksOf (a : Nat) (s : State) (c : Nat) : State :=
  let s := if a = 0x40004 + 0x4000 * c then s.set (Reg.DCH_REF_DEBT_MAX c) (s.get (Reg.DCH_REF_DEBT_DEBT c)) else s
  if a = 0x40008 + 0x4000 * c then s.set (Reg.DCH_TEMP_PEAK_C c) (s.get (Reg.DCH_TEMP_TEMP_C c)) else s

theorem State.restartPeak_eq (a : Nat) : s.restartPeak a = s.each channels (State.restartPeaksOf a) := rfl

theorem State.restartPeaksOf_other {a c : Nat} (hm : a ≠ 0x40004 + 0x4000 * c) (hp : a ≠ 0x40008 + 0x4000 * c) :
    s.restartPeaksOf a c = s := by
  simp only [State.restartPeaksOf, if_neg hm, if_neg hp]

/-- At an address of one channel alone, that channel's peaks start again. -/
theorem State.restartPeak_one {a c : Nat} (hc : c < 8) (h : ∀ e ≠ c, a ≠ 0x40004 + 0x4000 * e ∧ a ≠ 0x40008 + 0x4000 * e) :
    s.restartPeak a = s.restartPeaksOf a c := by
  have hin : c ∈ channels := List.mem_range.mpr hc
  exact State.each_eq_one (f := State.restartPeaksOf a) List.nodup_range hin
    (fun s e he => s.restartPeaksOf_other (h e he).1 (h e he).2) s

theorem State.restartPeak_refDebt {c : Nat} (hc : c < 8) : s.restartPeak (0x40004 + 0x4000 * c) =
    s.set (Reg.DCH_REF_DEBT_MAX c) (s.get (Reg.DCH_REF_DEBT_DEBT c)) := by
  rw [s.restartPeak_one hc (by omega)]
  simp [State.restartPeaksOf]

theorem State.restartPeak_temp {c : Nat} (hc : c < 8) : s.restartPeak (0x40008 + 0x4000 * c) =
    s.set (Reg.DCH_TEMP_PEAK_C c) (s.get (Reg.DCH_TEMP_TEMP_C c)) := by
  rw [s.restartPeak_one hc (by omega)]
  simp [State.restartPeaksOf]

theorem State.restartPeak_other {a : Nat} (h : ∀ c < 8, a ≠ 0x40004 + 0x4000 * c ∧ a ≠ 0x40008 + 0x4000 * c) :
    s.restartPeak a = s :=
  foldl_unchanged (look := id)
    (fun s c hc => s.restartPeaksOf_other (h c (List.mem_range.mp hc)).1 (h c (List.mem_range.mp hc)).2) s

/-- An address is that of one channel's REF_DEBT, of one channel's TEMP, or of neither. -/
theorem peak_cases (a : Nat) : (∃ c < 8, a = 0x40004 + 0x4000 * c) ∨ (∃ c < 8, a = 0x40008 + 0x4000 * c) ∨
    ∀ c < 8, a ≠ 0x40004 + 0x4000 * c ∧ a ≠ 0x40008 + 0x4000 * c := by
  by_cases hm : ∃ c < 8, a = 0x40004 + 0x4000 * c
  · exact .inl hm
  · by_cases hp : ∃ c < 8, a = 0x40008 + 0x4000 * c
    · exact .inr (.inl hp)
    · exact .inr (.inr fun c hc => ⟨fun h => hm ⟨c, hc, h⟩, fun h => hp ⟨c, hc, h⟩⟩)

theorem State.onlyCounts_restartPeak (a : Nat) : s.onlyCounts (s.restartPeak a) := by
  rcases peak_cases a with ⟨c, hc, rfl⟩ | ⟨c, hc, rfl⟩ | h
  · rw [s.restartPeak_refDebt hc]
    exact s.onlyCounts_set _ _
  · rw [s.restartPeak_temp hc]
    exact s.onlyCounts_set _ _
  · rw [s.restartPeak_other h]
    exact s.onlyCounts_refl

/-! ### A register cleared by reading -/

theorem State.onlyCounts_clearRc (a : Nat) : s.onlyCounts (s.clearRc a) :=
  State.onlyCounts_trans (s.onlyCounts_foldl (fun s d => s.onlyCounts_clearField a d) _) (State.onlyCounts_restartPeak _ a)

/-- The fields of a register cleared by reading, but for the peaks, leave every other field alone. -/
theorem State.get_foldl_clearField_ne {a : Nat} {g : Field}
    (h : ∀ d ∈ fieldsAt a, d.access = .rc → g.key ≠ (⟨a, d.lo, d.width⟩ : Field).key) :
    ((fieldsAt a).foldl (State.clearField a) s).get g = s.get g :=
  foldl_unchanged (look := fun t : State => t.get g) (fun t d hd => t.get_clearField_ne (h d hd)) s

/-- Each field of a register cleared by reading keeps what the slot has added to it (R10). -/
theorem State.get_foldl_clearField_self {a : Nat} {d : FieldDesc} (hd : d ∈ fieldsAt a) (hrc : d.access = .rc) :
    ((fieldsAt a).foldl (State.clearField a) s).get ⟨a, d.lo, d.width⟩ = satW d.width (s.risen ⟨a, d.lo, d.width⟩).2 := by
  obtain ⟨before, after, hb, ha, heq⟩ := foldl_around (σ := State) (fieldsAt_lo_nodup a) hd
  have hafter : ∀ u : State, (after.foldl (State.clearField a) u).get ⟨a, d.lo, d.width⟩ = u.get ⟨a, d.lo, d.width⟩ :=
    foldl_unchanged (look := fun t : State => t.get _) fun t e he => t.get_clearField_ne fun _ => key_ne_of_lo_ne (ha e he).symm
  have hbefore : (before.foldl (State.clearField a) s).risen ⟨a, d.lo, d.width⟩ = s.risen ⟨a, d.lo, d.width⟩ :=
    foldl_unchanged (look := fun t : State => t.risen _) (fun t e he => t.risen_clearField_ne (key_ne_of_lo_ne (hb e he).symm)) s
  rw [heq, hafter, State.clearField, if_pos hrc, State.get_takeRc_self, hbefore]

/-- A read leaves alone every field that it does not clear (R9). -/
theorem State.get_clearRc_ne {a : Nat} {g : Field}
    (h : ∀ d ∈ fieldsAt a, d.access = .rc → g.key ≠ (⟨a, d.lo, d.width⟩ : Field).key) : (s.clearRc a).get g = s.get g := by
  rw [s.clearRc_eq]
  rcases peak_cases a with ⟨c, hc, rfl⟩ | ⟨c, hc, rfl⟩ | hother
  · rw [State.restartPeak_refDebt _ hc, State.get_set_ne, s.get_foldl_clearField_ne h]
    exact h _ (max_mem_refDebt c hc) rfl
  · rw [State.restartPeak_temp _ hc, State.get_set_ne, s.get_foldl_clearField_ne h]
    exact h _ (peak_mem_temp c hc) rfl
  · rw [State.restartPeak_other _ hother, s.get_foldl_clearField_ne h]

/-- A field cleared by reading keeps what the slot has added to it, unless it is a peak that starts again (R9, R10). -/
theorem State.get_clearRc_self {a : Nat} {d : FieldDesc} (hd : d ∈ fieldsAt a) (hrc : d.access = .rc)
    (h : ∀ c : Fin 8, (⟨a, d.lo, d.width⟩ : Field) ≠ Reg.DCH_REF_DEBT_MAX c ∧ (⟨a, d.lo, d.width⟩ : Field) ≠ Reg.DCH_TEMP_PEAK_C c) :
    (s.clearRc a).get ⟨a, d.lo, d.width⟩ = satW d.width (s.risen ⟨a, d.lo, d.width⟩).2 := by
  rw [s.clearRc_eq]
  rcases peak_cases a with ⟨c, hc, rfl⟩ | ⟨c, hc, rfl⟩ | hother
  · obtain ⟨hlo, hw⟩ := rc_refDebt c hc d hd hrc
    exact absurd (by rw [hlo, hw]) (h ⟨c, hc⟩).1
  · obtain ⟨hlo, hw⟩ := rc_temp c hc d hd hrc
    exact absurd (by rw [hlo, hw]) (h ⟨c, hc⟩).2
  · rw [State.restartPeak_other _ hother, s.get_foldl_clearField_self hd hrc]

/-- DCH_n_REF_DEBT.MAX starts again at DEBT (R157). -/
theorem State.get_clearRc_refDebtMax {c : Nat} (hc : c < 8) : (s.clearRc (0x40004 + 0x4000 * c)).get (Reg.DCH_REF_DEBT_MAX c) =
    s.get (Reg.DCH_REF_DEBT_DEBT c) % 2 ^ (Reg.DCH_REF_DEBT_MAX c).width := by
  rw [s.clearRc_eq, State.restartPeak_refDebt _ hc, State.get_set_self, s.get_foldl_clearField_ne]
  intro d hd hrc
  obtain ⟨hlo, -⟩ := rc_refDebt c hc d hd hrc
  exact key_ne_of_lo_ne (by omega)

/-- DCH_n_TEMP.PEAK_C starts again at TEMP_C (R158). -/
theorem State.get_clearRc_tempPeak {c : Nat} (hc : c < 8) : (s.clearRc (0x40008 + 0x4000 * c)).get (Reg.DCH_TEMP_PEAK_C c) =
    s.get (Reg.DCH_TEMP_TEMP_C c) % 2 ^ (Reg.DCH_TEMP_PEAK_C c).width := by
  rw [s.clearRc_eq, State.restartPeak_temp _ hc, State.get_set_self, s.get_foldl_clearField_ne]
  intro d hd hrc
  obtain ⟨hlo, -⟩ := rc_temp c hc d hd hrc
  exact key_ne_of_lo_ne (by omega)

/-- A register of which no field is cleared by reading is left alone by a read. -/
theorem State.clearRc_of_no_rc {a : Nat} (hrc : ∀ d ∈ fieldsAt a, d.access ≠ .rc)
    (hpeak : ∀ c < 8, a ≠ 0x40004 + 0x4000 * c ∧ a ≠ 0x40008 + 0x4000 * c) : s.clearRc a = s := by
  rw [s.clearRc_eq, State.restartPeak_other _ hpeak]
  exact foldl_unchanged (look := id) (fun s d hd => if_neg (hrc d hd)) s

/-! ### The word read -/

/-- What a counter held at the start of a slot that has not begun is what it holds (R10). -/
theorem State.risen_at {k : Nat} (h : k ≠ s.slot) (f : Field) : (s.at k).risen f = (s.get f, 0) := by
  have hincs : (s.at k).slotIncs = [] := by rw [s.at_slotIncs, if_neg (Ne.symm h)]
  simp [State.risen, hincs, Store.get]

/-- Where no counter of a register has risen in the slot, a read finds the register as it stands (R10). -/
theorem State.readWord_eq_word {a : Nat}
    (h : ∀ d ∈ fieldsAt a, d.access = .rc → (s.risen ⟨a, d.lo, d.width⟩).1 = s.field ⟨a, d.lo, d.width⟩) :
    s.readWord a = s.word a := by
  unfold State.readWord State.word
  congr 1
  refine List.map_congr_left fun d hd => ?_
  by_cases hrc : d.access = .rc
  · simp [hrc, h d hd hrc]
  · rw [if_neg hrc]

/-! ### The high word latched (R13) -/

/-- A read of the low word of a 64-bit register latches the high word (R13). -/
def State.latchHigh (s : State) (a : Nat) : State :=
  { s with shadows := if wideLow.contains a then Store.set 0 s.shadows (a + 4) (s.word (a + 4)) else s.shadows }

/-- What a read of a register leaves behind: the high word latched, and outside a block that H has stopped the fields cleared
(R9, R13, R537). -/
def State.afterRead (s : State) (a : Nat) : State :=
  if s.frozen a then s.latchHigh a else (s.latchHigh a).clearRc a

/-- A read of the high word of a 64-bit register answers what was latched last (R13). -/
theorem State.readReg_high {a : Nat} (h : wideLow.contains (a - 4) ∧ 4 ≤ a) : s.readReg a = (s, Store.get 0 s.shadows a) := if_pos h

/-- A read of any other register. -/
theorem State.readReg_word {a : Nat} (h : ¬ (wideLow.contains (a - 4) ∧ 4 ≤ a)) : s.readReg a = (s.afterRead a, s.readWord a) := by
  have hlatch : (if wideLow.contains a then { s with shadows := Store.set 0 s.shadows (a + 4) (s.word (a + 4)) } else s) =
      s.latchHigh a := by
    unfold State.latchHigh
    split <;> rfl
  simp only [State.readReg, if_neg h, hlatch]
  rfl

/-- A read changes registers, the slot's notes of counters and the latched high words alone. -/
theorem State.onlyCounts_afterRead (a : Nat) : (s.latchHigh a).onlyCounts (s.afterRead a) := by
  unfold State.afterRead
  split
  · exact State.onlyCounts_refl _
  · exact State.onlyCounts_clearRc _ a

/-! ### The commands -/

variable {s}

/-- A read of a word that is neither hidden nor a latched high word. -/
theorem exec_rcRegisterRead_word (hon : s.on = true) {src : Src} (slot : Fin 6240) {a w : Fin 0x100000} {size : Fin 9}
    (h : s.holds src (readNeeds src a) = true) (hform : a.val / 4 = (a.val + size.val - 1) / 4) (hw : w.val = a.val - a.val % 4)
    (hh : s.hidden src w = false) :
    exec (.rcRegisterRead ⟨src, slot⟩ a size) s = .next (((s.at slot).readReg w).1.send
      (.word src (((s.at slot).readReg w).2 / 2 ^ (8 * (a.val % 4)) % 2 ^ (8 * size.val)))) := by
  rw [exec_rcRegisterRead hon, State.readOut_word (by simpa using h) hform (by simpa [← hw] using hh), ← hw]

@[simp] theorem State.get_latchHigh (a : Nat) (g : Field) : (s.latchHigh a).get g = s.get g := rfl
@[simp] theorem State.risen_latchHigh (a : Nat) (g : Field) : (s.latchHigh a).risen g = s.risen g := rfl

theorem State.latchHigh_shadows_low {a : Nat} (h : wideLow.contains a = true) :
    (s.latchHigh a).shadows = Store.set 0 s.shadows (a + 4) (s.word (a + 4)) := if_pos h

theorem State.latchHigh_shadows_other {a : Nat} (h : wideLow.contains a = false) : (s.latchHigh a).shadows = s.shadows :=
  if_neg (ne_true_of_eq_false h)

theorem State.afterRead_shadows (a : Nat) : (s.afterRead a).shadows = (s.latchHigh a).shadows := by
  obtain ⟨_, _, h⟩ := s.onlyCounts_afterRead a
  rw [h]

/-- What a read leaves in the fields outside a block that H has stopped. -/
theorem State.get_afterRead {a : Nat} (hf : s.frozen a = false) (g : Field) :
    (s.afterRead a).get g = ((s.latchHigh a).clearRc a).get g := by
  have hf' : ¬ s.frozen a = true := by simp [hf]
  rw [State.afterRead, if_neg hf']

/-- A read changes registers, the slot and its notes, and the latched high words alone. -/
theorem State.afterRead_at_frame (k a : Nat) : { (s.at k).afterRead a with
    regs := s.regs, slotIncs := s.slotIncs, shadows := s.shadows, slot := s.slot, slotSets := s.slotSets } = s := by
  obtain ⟨regs, slotIncs, h⟩ := (s.at k).onlyCounts_afterRead a
  rw [h, State.latchHigh]
  unfold State.at
  split <;> rfl

/-- The low words of the 64-bit registers are aligned, and hold no field that a read clears. -/
theorem wideLow_facts : ∀ a ∈ wideLow, a % 4 = 0 ∧ wideLow.contains (a - 4) = false ∧ (∀ d ∈ fieldsAt a, d.access ≠ .rc) ∧
    ∀ c < 8, a ≠ 0x40004 + 0x4000 * c ∧ a ≠ 0x40008 + 0x4000 * c := by
  decide +kernel

/-- A read of the low word of a 64-bit register latches the high word and changes nothing else (R13). -/
theorem State.readReg_wideLow {a : Nat} (h : wideLow.contains a = true) : s.readReg a = (s.latchHigh a, s.word a) := by
  obtain ⟨-, hlow, hrc, hpeak⟩ := wideLow_facts a (List.contains_iff_mem.mp h)
  have hword : s.readWord a = s.word a := s.readWord_eq_word fun d hd hd' => absurd hd' (hrc d hd)
  have hnot : ¬ (wideLow.contains (a - 4) = true ∧ 4 ≤ a) := fun hhigh => ne_true_of_eq_false hlow hhigh.1
  rw [s.readReg_word hnot, hword, State.afterRead, State.clearRc_of_no_rc _ hrc hpeak, ite_self]

theorem exec_wideRegisterLowRead (hon : s.on = true) {src : Src} {a : Fin 0x100000} (h : s.holds src (readNeeds src a) = true)
    (hlow : wideLow.contains a.val = true) (hh : s.hidden src a = false) :
    exec (.wideRegisterLowRead src a) s = .next ((s.latchHigh a).send (.word src (s.word a % 2 ^ 32))) := by
  obtain ⟨ha, -⟩ := wideLow_facts a (List.contains_iff_mem.mp hlow)
  have haligned : a.val - a.val % 4 = a.val := by omega
  have hout : s.readOut src a 4 = (s.latchHigh a).send (.word src (s.word a % 2 ^ 32)) := by
    rw [State.readOut_word h (by omega) (by rwa [haligned]), haligned, State.readReg_wideLow hlow, ha]
    simp
  exact (s.powered_of_on hon).trans (congrArg _ hout)

end Read

/-- Settles O3: a hidden word, a latched high word and every other word; then what a new slot forgets, and the wide read. -/
theorem registerReads : Obligations.RegisterReads := by
  unfold Obligations.RegisterReads
  refine ⟨?_, ?_, fun f n s hn => s.risen_count f hn.ne', ?_⟩
  · intro src slot a w size s hon h hform hw
    refine ⟨fun hh => ?_, fun hh hlow h4 => ?_, fun hh hnot => ?_⟩
    · rw [exec_rcRegisterRead hon, State.readOut_of_hidden (by simpa using h) hform (by simpa [← hw] using hh)]
    · rw [exec_rcRegisterRead_word hon slot h hform hw hh, State.readReg_high _ ⟨hlow, h4⟩, State.at_shadows]
    · refine ⟨(s.at slot).afterRead w, ?_, fun hf => ?_, fun hf => ?_, fun hlow => ?_, fun hlow => ?_, s.afterRead_at_frame slot w⟩
      · rw [exec_rcRegisterRead_word hon slot h hform hw hh, State.readReg_word _ hnot]
      · rw [State.afterRead, if_pos (by simpa using hf)]
        exact s.at_regs slot
      · have hafter := State.get_afterRead (s := s.at slot) (a := w) (by simpa using hf)
        refine ⟨fun d hd hrc hpeak => ?_, fun c hc => ?_, fun c hc => ?_, fun f hne => ?_⟩
        · rw [hafter, State.get_clearRc_self _ hd hrc hpeak, State.risen_latchHigh]
        · rw [hafter, hc, State.get_clearRc_refDebtMax _ c.isLt, State.get_latchHigh, State.at_get]
        · rw [hafter, hc, State.get_clearRc_tempPeak _ c.isLt, State.get_latchHigh, State.at_get]
        · rw [hafter, State.get_clearRc_ne _ hne, State.get_latchHigh, State.at_get]
      · rw [State.afterRead_shadows, State.latchHigh_shadows_low hlow, Store.get_set_self, State.at_word]
      · rw [State.afterRead_shadows, State.latchHigh_shadows_other hlow, State.at_shadows]
  · intro slot w f s hslot
    refine ⟨s.risen_at hslot f, fun _ => ?_⟩
    rw [State.readWord_eq_word _ fun d hd hrc => ?_, State.at_word]
    rw [s.risen_at hslot, State.at_field, s.field_of_rc hd hrc]
  · intro src a s hon h hlow hh
    rw [exec_wideRegisterLowRead hon h hlow hh, State.latchHigh, if_pos hlow]

end Sys2Proof.Machine
end

section
/-! PROOFS. What a write of a plain register does at once and what it leaves for the downbeat (R9 to R12, R20). -/

namespace Sys2Proof.Machine

/-! ### Bits cleared by a write -/

/-- The bits of a number that a mask shares, and those it does not, make up the number. -/
theorem land_add_ldiff (x m : Nat) : (x &&& m) + Nat.ldiff x m = x := by
  induction x using Nat.binaryRec generalizing m with
  | zero => simp [Nat.ldiff]
  | bit b n ih =>
    rw [← Nat.bit_bodd_div2 m, Nat.land_bit, Nat.ldiff_bit]
    have hn := ih m.div2
    have hbit : (b && m.bodd).toNat + (b && !m.bodd).toNat = b.toNat := by cases b <;> cases m.bodd <;> rfl
    simp only [Nat.bit_val]
    omega

/-- Taking away the bits shared with a mask keeps exactly the others. -/
theorem sub_land_eq_ldiff (x m : Nat) : x - Nat.land x m = Nat.ldiff x m := Nat.sub_eq_of_eq_add' (land_add_ldiff x m).symm

theorem bitAt_eq_testBit (v i : Nat) : bitAt v i = v.testBit i := by
  rw [bitAt, Nat.testBit_eq_decide_div_mod_eq, beq_eq_decide]

/-- A bit of a number with the bits of a mask taken away. -/
theorem bitAt_sub_land (x m k : Nat) : bitAt (x - Nat.land x m) k = (bitAt x k && !(bitAt m k)) := by
  simp only [sub_land_eq_ldiff, bitAt_eq_testBit, Nat.testBit_ldiff]

theorem bitAt_mod {w k : Nat} (h : k < w) (x : Nat) : bitAt (x % 2 ^ w) k = bitAt x k := by
  simp [bitAt_eq_testBit, Nat.testBit_mod_two_pow, h]

theorem bitAt_bitsAt {w k : Nat} (h : k < w) (v lo : Nat) : bitAt (bitsAt v lo w) k = bitAt v (lo + k) := by
  rw [bitsAt, bitAt_mod h, bitAt, bitAt, Nat.div_div_eq_div_mul, Nat.pow_add]

section Write

variable (s : State)

/-! ### One field -/

theorem State.get_clearW1c_ne {f g : Field} (x : Nat) (h : g.key ≠ f.key) : (s.clearW1c f x).get g = s.get g :=
  State.get_set_ne s _ h

/-- A bit of a W1C field after a write of it: a 1 clears the bit, unless hardware set it in this slot (R9, R10). -/
theorem State.bitAt_get_clearW1c (f : Field) (x : Nat) {k : Nat} (h : k < f.width) : bitAt ((s.clearW1c f x).get f) k =
    (bitAt (s.get f) k && !(bitAt x k && !(bitAt (Store.get 0 s.slotSets f.key) k))) := by
  rw [State.clearW1c, State.get_set_self, bitAt_mod h, bitAt_sub_land, bitAt_sub_land]

/-- A plain write does this to each field of the register (R9). -/
def State.writeField (a v : Nat) (s : State) (d : FieldDesc) : State :=
  match d.access with
  | .rw => s.later ⟨a, d.lo, d.width⟩ (bitsAt v d.lo d.width)
  | .w1c => s.clearW1c ⟨a, d.lo, d.width⟩ (bitsAt v d.lo d.width)
  | _ => s

theorem State.plainWrite_eq (a v : Nat) : s.plainWrite a v = (fieldsAt a).foldl (State.writeField a v) s := rfl

/-- The write of an RW field that waits for the downbeat (R20). -/
def waiting (a v : Nat) (d : FieldDesc) : Field × Nat := (⟨a, d.lo, d.width⟩, bitsAt v d.lo d.width % 2 ^ d.width)

/-- A field of a plain register waits where it is RW, is cleared by bits where it is W1C, and is left alone otherwise. -/
theorem State.writeField_cases (a v : Nat) (d : FieldDesc) :
    (d.access = .rw ∧ s.writeField a v d = { s with writes := s.writes ++ [waiting a v d] }) ∨
    (d.access = .w1c ∧ s.writeField a v d = s.clearW1c ⟨a, d.lo, d.width⟩ (bitsAt v d.lo d.width)) ∨
    (d.access ≠ .rw ∧ d.access ≠ .w1c ∧ s.writeField a v d = s) := by
  unfold State.writeField
  cases d.access with
  | rw => exact .inl ⟨rfl, rfl⟩
  | w1c => exact .inr (.inl ⟨rfl, rfl⟩)
  | ro => exact .inr (.inr ⟨by decide, by decide, rfl⟩)
  | wo => exact .inr (.inr ⟨by decide, by decide, rfl⟩)
  | rc => exact .inr (.inr ⟨by decide, by decide, rfl⟩)

theorem State.get_writeField_ne (a v : Nat) {d : FieldDesc} {g : Field}
    (h : d.access = .w1c → g.key ≠ (⟨a, d.lo, d.width⟩ : Field).key) : (s.writeField a v d).get g = s.get g := by
  rcases s.writeField_cases a v d with ⟨-, he⟩ | ⟨hw, he⟩ | ⟨-, -, he⟩
  · rw [he]
    rfl
  · rw [he, s.get_clearW1c_ne _ (h hw)]
  · rw [he]

theorem State.writeField_writes (a v : Nat) (d : FieldDesc) :
    (s.writeField a v d).writes = s.writes ++ if d.access = .rw then [waiting a v d] else [] := by
  rcases s.writeField_cases a v d with ⟨hw, he⟩ | ⟨hw, he⟩ | ⟨hw, -, he⟩
  · simp [he, hw]
  · rw [he, hw]
    simp [State.clearW1c]
  · simp [he, hw]

/-- A write of a field changes registers and the waiting writes alone. -/
theorem State.writeField_frame (a v : Nat) (d : FieldDesc) : ∃ regs writes,
    s.writeField a v d = { s with regs := regs, writes := writes } := by
  rcases s.writeField_cases a v d with ⟨-, he⟩ | ⟨-, he⟩ | ⟨-, -, he⟩
  all_goals
    rw [he]
    exact ⟨_, _, rfl⟩

/-! ### A register -/

theorem State.foldl_writeField_frame (a v : Nat) (ds : List FieldDesc) : ∃ regs writes,
    ds.foldl (State.writeField a v) s = { s with regs := regs, writes := writes } := by
  induction ds generalizing s with
  | nil => exact ⟨_, _, rfl⟩
  | cons d ds ih =>
    obtain ⟨_, _, hd⟩ := s.writeField_frame a v d
    obtain ⟨regs, writes, hds⟩ := ih (s.writeField a v d)
    exact ⟨regs, writes, by rw [List.foldl_cons, hds, hd]⟩

theorem State.foldl_writeField_writes (a v : Nat) (ds : List FieldDesc) :
    (ds.foldl (State.writeField a v) s).writes = s.writes ++ (ds.filter (·.access = .rw)).map (waiting a v) := by
  induction ds generalizing s with
  | nil => simp
  | cons d ds ih =>
    rw [List.foldl_cons, ih, s.writeField_writes, List.append_assoc, List.filter_cons]
    by_cases h : d.access = .rw <;> simp [h]

/-- Each RW field of a plain register waits with the value written, in the order of the map (R20). -/
theorem State.plainWrite_writes (a v : Nat) :
    (s.plainWrite a v).writes = s.writes ++ ((fieldsAt a).filter (·.access = .rw)).map (waiting a v) :=
  s.foldl_writeField_writes a v _

/-- A plain write changes no field at once but the register's W1C fields (R9, R20). -/
theorem State.get_plainWrite_ne {a : Nat} (v : Nat) {g : Field}
    (h : ∀ d ∈ fieldsAt a, d.access = .w1c → g.key ≠ (⟨a, d.lo, d.width⟩ : Field).key) : (s.plainWrite a v).get g = s.get g :=
  foldl_unchanged (look := fun t : State => t.get g) (fun t d hd => t.get_writeField_ne a v (h d hd)) s

/-- Each W1C bit of a plain register written as 1 is cleared at once, unless hardware set it in this slot (R9, R10). -/
theorem State.bitAt_get_plainWrite {a : Nat} (v : Nat) {d : FieldDesc} (hd : d ∈ fieldsAt a) (hw : d.access = .w1c) {k : Nat}
    (hk : k < d.width) : bitAt ((s.plainWrite a v).get ⟨a, d.lo, d.width⟩) k = (bitAt (s.get ⟨a, d.lo, d.width⟩) k &&
      !(bitAt v (d.lo + k) && !(bitAt (Store.get 0 s.slotSets (⟨a, d.lo, d.width⟩ : Field).key) k))) := by
  obtain ⟨before, after, hb, ha, heq⟩ := foldl_around (σ := State) (fieldsAt_lo_nodup a) hd
  have hafter : ∀ u : State, (after.foldl (State.writeField a v) u).get ⟨a, d.lo, d.width⟩ = u.get ⟨a, d.lo, d.width⟩ :=
    foldl_unchanged (look := fun t : State => t.get _) fun t e he => t.get_writeField_ne a v fun _ => key_ne_of_lo_ne (ha e he).symm
  have hbefore : (before.foldl (State.writeField a v) s).get ⟨a, d.lo, d.width⟩ = s.get ⟨a, d.lo, d.width⟩ :=
    foldl_unchanged (look := fun t : State => t.get _)
      (fun t e he => t.get_writeField_ne a v fun _ => key_ne_of_lo_ne (hb e he).symm) s
  obtain ⟨_, _, hframe⟩ := s.foldl_writeField_frame a v before
  have hsets : (before.foldl (State.writeField a v) s).slotSets = s.slotSets := by rw [hframe]
  have hstep (u : State) : u.writeField a v d = u.clearW1c ⟨a, d.lo, d.width⟩ (bitsAt v d.lo d.width) := by
    rw [State.writeField, hw]
  rw [s.plainWrite_eq, heq, hafter, hstep, State.bitAt_get_clearW1c _ _ _ hk, hbefore, hsets, bitAt_bitsAt hk]

/-- A plain write in a slot changes registers, the waiting writes, the slot and its notes alone. -/
theorem State.plainWrite_at_frame (k a v : Nat) : { (s.at k).plainWrite a v with
    regs := s.regs, writes := s.writes, slot := s.slot, slotIncs := s.slotIncs, slotSets := s.slotSets } = s := by
  obtain ⟨regs, writes, h⟩ := (s.at k).foldl_writeField_frame a v (fieldsAt a)
  rw [State.plainWrite_eq, h]
  unfold State.at
  split <;> rfl

/-! ### The registers without rules of their own -/

/-- No rule of its own governs a register: it is no GUARD, flash, SCORE_VARIANT, EVT_ROUTE, EVT_MASK, sequencer-table, HPORT_CFG or
HPORT_LD register. -/
def plainReg (a : Nat) : Prop :=
  guardReg a = false ∧ flashSteps.contains a = false ∧ a ≠ 0x20008 ∧ ¬ (0x10400 ≤ a ∧ a < 0x10600) ∧
    ¬ (0x10080 ≤ a ∧ a < 0x100C0) ∧ tableReg a = false ∧ ¬ (0x60000 ≤ a ∧ a < 0x70000 ∧ a % 0x4000 = 4) ∧ ldReg a = false

variable {s}

theorem State.writeWord_frozen {a : Nat} (h : s.frozen a = true) (src : Src) (v : Nat) : s.writeWord src a v = s.badAccess src a :=
  if_pos h

/-- A plain register takes a write within the ranges of its fields, and refuses any other (R11, notes/assumptions/49.md). -/
theorem State.writeWord_plain {a : Nat} (hf : s.frozen a = false) (ha : plainReg a) (src : Src) (v : Nat) :
    s.writeWord src a v = if rangeOk a v then s.plainWrite a v else s.badAccess src a := by
  obtain ⟨hguard, hflash, hvariant, hroute, hmask, htable, hcfg, hld⟩ := ha
  simp only [State.writeWord, hf, hguard, hflash, if_neg hvariant, if_neg hroute, if_neg hmask, htable, if_neg hcfg, hld,
    Bool.false_eq_true, if_false]

theorem exec_registerWrite_word (hon : s.on = true) {src : Src} (slot : Fin 6240) {a : Fin 0x100000}
    (h : s.holds src (writePriv a) = true) (ha : a.val % 4 = 0) (v : Nat) :
    exec (.registerWrite ⟨src, slot⟩ a 4 v) s = .next ((s.at slot).writeWord src a (v % 2 ^ 32)) := by
  rw [exec_registerWrite hon]
  exact congrArg _ (State.write_word (by simpa using h) ha v)

end Write

/-- Settles O4: the refused writes, then a plain register in range, whose fields a fold writes one by one. -/
theorem registerWriteWaitsForDownbeat : Obligations.RegisterWriteWaitsForDownbeat := by
  unfold Obligations.RegisterWriteWaitsForDownbeat
  intro src slot a v s hon h ha
  have hword := exec_registerWrite_word hon slot h ha v
  refine ⟨fun size hsize => ?_, fun hf => ?_, fun hf hguard hflash hvariant hroute hmask htable hcfg hld => ?_⟩
  · rw [exec_registerWrite hon, State.write_of_form (by simpa using h) (.inl (by omega))]
  · rw [hword, State.writeWord_frozen (by simpa using hf)]
  · have hplain : plainReg a := ⟨hguard, hflash, hvariant, hroute, hmask, htable, hcfg, hld⟩
    rw [hword, State.writeWord_plain (by simpa using hf) hplain]
    refine ⟨fun hr => ?_, fun hr => ⟨(s.at slot).plainWrite a (v % 2 ^ 32), congrArg _ (if_pos hr), ?_,
      fun d hd hw k hk => ?_, fun f hne => ?_, s.plainWrite_at_frame slot a _⟩⟩
    · exact congrArg _ (if_neg (ne_true_of_eq_false hr))
    · rw [State.plainWrite_writes, State.at_writes]
      rfl
    · rw [State.bitAt_get_plainWrite _ _ hd hw hk, State.at_get]
    · rw [State.get_plainWrite_ne _ _ hne, State.at_get]

end Sys2Proof.Machine
end

section
/-! PROOFS. A step and the queue of commands (R20, R466, R469). -/

namespace Sys2Proof.Machine

theorem step_of_front {s : State} {c : Instr} {rest : List Instr} (h : s.pending = c :: rest) :
    step s = exec c { s with pending := rest } := by
  simp only [step, h]

theorem step_of_empty {s : State} (h : s.pending = []) : step s = .next s := by
  simp only [step, h]

/-- Settles O57: the two cases of the queue. -/
theorem stepRunsTheFront : Obligations.StepRunsTheFront := by
  unfold Obligations.StepRunsTheFront
  exact fun s => ⟨fun c rest h => step_of_front h, step_of_empty⟩

end Sys2Proof.Machine
end

section
/-! PROOFS. What it changes, and what it leaves alone, to answer a host request, to queue it, to accept it as a write or to hold it
(R17, R84, R186, R200, R215). -/

namespace Sys2Proof.Machine

section Requests

variable (s : State)

/-! ### Answers (R165, R186, R195) -/

theorem State.get_peak_ne {f g : Field} (v : Nat) (h : g.key ≠ f.key) : (s.peak f v).get g = s.get g := State.get_set_ne s _ h

theorem State.onlyCounts_count (f : Field) (n : Nat) : s.onlyCounts (s.count f n) := ⟨_, _, rfl⟩

/-- An answer frees what its request owed; where the link has not fallen since the request's stamp the answer also leaves, with DevLoad
and the longest time. -/
theorem State.respond_cases (p : Fin 4) (stamp : Nat) (o : Out) :
    (stamp < (s.portState p).dropBefore ∧ ∃ f, s.respond p stamp o = s.updPort p f) ∨
    ((s.portState p).dropBefore ≤ stamp ∧ ∃ f g v n, s.respond p stamp o =
      ((((s.updPort p f).updPort p g).set (Reg.HPORT_STAT_DEVLOAD p) v).peak (Reg.HPORT_LAT_STAT_MAX_NS p) n).send o) := by
  unfold State.respond
  extract_lets write s'
  have hdrop : (s'.portState p).dropBefore = (s.portState p).dropBefore := by rw [State.portState_updPort_self _ _ p.isLt]
  rw [hdrop]
  split_ifs with h
  · exact .inl ⟨h, _, rfl⟩
  · exact .inr ⟨Nat.not_lt.mp h, _, _, _, _, rfl⟩

theorem State.respond_frame (p : Fin 4) (stamp : Nat) (o : Out) : ∃ regs slotIncs cxl outs,
    s.respond p stamp o = { s with regs := regs, slotIncs := slotIncs, cxl := cxl, outs := outs } := by
  obtain ⟨-, f, h⟩ | ⟨-, f, g, v, n, h⟩ := s.respond_cases p stamp o
  · exact ⟨_, _, _, _, h⟩
  · exact ⟨_, _, _, _, h⟩

theorem State.respond_outs {p : Fin 4} {stamp : Nat} (h : (s.portState p).dropBefore ≤ stamp) (o : Out) :
    (s.respond p stamp o).outs = s.outs ++ [o] := by
  obtain ⟨hlate, -⟩ | ⟨-, f, g, v, n, heq⟩ := s.respond_cases p stamp o
  · omega
  · rw [heq]
    rfl

theorem State.get_respond_ne {p : Fin 4} {stamp : Nat} {o : Out} {f : Field} (hload : f.key ≠ (Reg.HPORT_STAT_DEVLOAD p).key)
    (hmax : f.key ≠ (Reg.HPORT_LAT_STAT_MAX_NS p).key) : (s.respond p stamp o).get f = s.get f := by
  obtain ⟨-, _, h⟩ | ⟨-, _, _, _, _, h⟩ := s.respond_cases p stamp o
  · rw [h, State.updPort_get]
  · rw [h, State.send_get, State.get_peak_ne _ _ hmax, State.get_set_ne _ _ hload, State.updPort_get, State.updPort_get]

@[simp] theorem State.respond_tile (p : Fin 4) (stamp : Nat) (o : Out) : (s.respond p stamp o).tile = s.tile := by
  obtain ⟨_, _, _, _, h⟩ := s.respond_frame p stamp o
  rw [h]

@[simp] theorem State.respond_dram (p : Fin 4) (stamp : Nat) (o : Out) : (s.respond p stamp o).dram = s.dram := by
  obtain ⟨_, _, _, _, h⟩ := s.respond_frame p stamp o
  rw [h]

@[simp] theorem State.respond_raised (p : Fin 4) (stamp : Nat) (o : Out) : (s.respond p stamp o).raised = s.raised := by
  obtain ⟨_, _, _, _, h⟩ := s.respond_frame p stamp o
  rw [h]

/-! ### What no request disturbs -/

/-- What a request that is answered, accepted or set to wait leaves alone: the bytes in DRAM, the tiles' frames, the homeless tiles,
the sweep, the held writes and the time; and no channel's queue loses a request. -/
structure State.Undisturbed (s t : State) : Prop where
  bytes : t.dram.bytes = s.dram.bytes
  map : t.tile.map = s.tile.map
  homeless : t.tile.homeless = s.tile.homeless
  sweep : t.tile.sweep = s.tile.sweep
  held : t.tile.held = s.tile.held
  now : t.now = s.now
  queued : ∀ c < 8, ∀ q ∈ (s.ch c).reqs, q ∈ (t.ch c).reqs

variable {s}

theorem State.Undisturbed.trans {t u : State} (h : s.Undisturbed t) (h' : t.Undisturbed u) : s.Undisturbed u where
  bytes := h'.bytes.trans h.bytes
  map := h'.map.trans h.map
  homeless := h'.homeless.trans h.homeless
  sweep := h'.sweep.trans h.sweep
  held := h'.held.trans h.held
  now := h'.now.trans h.now
  queued c hc q hq := h'.queued c hc q (h.queued c hc q hq)

/-- A state that differs in neither DRAM nor the tile engine nor the time is undisturbed. -/
theorem State.Undisturbed.of_eq {t : State} (hdram : t.dram = s.dram) (htile : t.tile = s.tile) (hnow : t.now = s.now) :
    s.Undisturbed t where
  bytes := by rw [hdram]
  map := by rw [htile]
  homeless := by rw [htile]
  sweep := by rw [htile]
  held := by rw [htile]
  now := hnow
  queued c _ q hq := by
    unfold State.ch at hq ⊢
    rwa [hdram]

theorem State.Undisturbed.frameOf {t : State} (h : s.Undisturbed t) (k : Nat) : t.frameOf k = s.frameOf k := by
  unfold State.frameOf
  rw [h.map]

theorem State.Undisturbed.isHomeless {t : State} (h : s.Undisturbed t) (k : Nat) : t.isHomeless k = s.isHomeless k := by
  unfold State.isHomeless
  rw [h.homeless]

theorem State.Undisturbed.hotCode {t : State} (h : s.Undisturbed t) (k : Nat) : t.hotCode k = s.hotCode k := by
  unfold State.hotCode
  rw [h.sweep]

variable (s)

theorem State.undisturbed_refl : s.Undisturbed s := .of_eq rfl rfl rfl

theorem State.undisturbed_raise (n : Nat) (d : List DField) (l : List CxlRec) : s.Undisturbed (s.raise n d l) := .of_eq rfl rfl rfl

theorem State.undisturbed_respond (p : Fin 4) (stamp : Nat) (o : Out) : s.Undisturbed (s.respond p stamp o) := by
  obtain ⟨_, _, _, _, h⟩ := s.respond_frame p stamp o
  rw [h]
  exact .of_eq rfl rfl rfl

/-! ### Tile codes (R198, R199, R205) -/

theorem State.code_setCode_self (t c : Nat) : (s.setCode t c).code t = c := Store.get_set_self _ _ _ _

theorem State.updOverWindow_frame : ∃ regs raised, s.updOverWindow = { s with regs := regs, raised := raised } := by
  unfold State.updOverWindow
  dsimp only
  split
  · exact ⟨_, _, rfl⟩
  · exact ⟨_, _, rfl⟩

theorem State.moveCode_frame (t c : Nat) :
    ∃ regs raised, s.moveCode t c = { s.setCode t c with regs := regs, raised := raised } := by
  unfold State.moveCode
  split
  · exact ⟨_, _, rfl⟩
  · exact State.updOverWindow_frame _

theorem State.code_moveCode_self (t c : Nat) : (s.moveCode t c).code t = c := by
  obtain ⟨_, _, h⟩ := s.moveCode_frame t c
  rw [h]
  exact s.code_setCode_self t c

theorem State.undisturbed_moveCode (t c : Nat) : s.Undisturbed (s.moveCode t c) := by
  obtain ⟨_, _, h⟩ := s.moveCode_frame t c
  rw [h]
  exact ⟨rfl, rfl, rfl, rfl, rfl, rfl, fun _ _ _ hq => hq⟩

/-- A written tile's code is DIRTY with heat 3, so that the tile is present. -/
theorem State.hotCode_cases (t : Nat) : s.hotCode t = codeFresh ∨ s.hotCode t = codeHot := by
  unfold State.hotCode
  split
  · split
    · exact .inl rfl
    · exact .inr rfl
  · exact .inr rfl

theorem State.hotCode_ne_lost (t : Nat) : s.hotCode t ≠ codeLost := by
  obtain h | h := s.hotCode_cases t <;> rw [h] <;> decide

theorem State.hotCode_ne_absent (t : Nat) : s.hotCode t ≠ codeAbsent := by
  obtain h | h := s.hotCode_cases t <;> rw [h] <;> decide

/-! ### A channel's queue (R24, R37, R46, R138) -/

theorem mem_insertReq_self (l : List HostReq) (r : HostReq) : r ∈ insertReq l r :=
  List.mem_append_right _ List.mem_cons_self

theorem mem_insertReq_of_mem {l : List HostReq} {q : HostReq} (h : q ∈ l) (r : HostReq) : q ∈ insertReq l r := by
  rw [← List.takeWhile_append_dropWhile (p := fun o : HostReq => decide (o.stamp ≤ r.stamp)) (l := l), List.mem_append] at h
  exact List.mem_append.mpr (h.imp_right (List.mem_cons_of_mem _))

theorem State.reqs_dropWriteback (f i : Nat) (full : Bool) {c : Nat} (hc : c < 8) :
    ((s.dropWriteback f i full).ch c).reqs = (s.ch c).reqs := by
  unfold State.dropWriteback
  by_cases h : c = f % 8
  · subst h
    rw [State.ch_updCh_self _ _ hc]
  · rw [State.ch_updCh_ne _ _ hc h]

/-- Only the queue of the frame's channel takes the request. -/
theorem State.reqs_queueAt (r : HostReq) (f : Nat) {c : Nat} (hc : c < 8) : ((s.queueAt r f).ch c).reqs =
    if c = f % 8 then insertReq (s.ch c).reqs { r with frame := f } else (s.ch c).reqs := by
  have hput : ((s.updCh (f % 8) fun x => { x with reqs := insertReq x.reqs { r with frame := f } }).ch c).reqs =
      if c = f % 8 then insertReq (s.ch c).reqs { r with frame := f } else (s.ch c).reqs := by
    split_ifs with h
    · subst h
      rw [State.ch_updCh_self _ _ hc]
    · rw [State.ch_updCh_ne _ _ hc h]
  unfold State.queueAt
  dsimp only
  split
  · rw [State.reqs_dropWriteback _ _ _ _ hc, hput]
  · exact hput

theorem State.mem_queueAt_self (r : HostReq) (f : Nat) : { r with frame := f } ∈ ((s.queueAt r f).ch (f % 8)).reqs := by
  rw [s.reqs_queueAt r f (Nat.mod_lt f (by decide)), if_pos rfl]
  exact mem_insertReq_self _ _

theorem State.mem_queueAt_of_mem (r : HostReq) (f : Nat) {c : Nat} (hc : c < 8) {q : HostReq} (h : q ∈ (s.ch c).reqs) :
    q ∈ ((s.queueAt r f).ch c).reqs := by
  rw [s.reqs_queueAt r f hc]
  split
  · exact mem_insertReq_of_mem h _
  · exact h

theorem State.queueAt_frame (r : HostReq) (f : Nat) :
    ∃ chans, s.queueAt r f = { s with dram := { s.dram with chans := chans } } := by
  unfold State.queueAt
  dsimp only
  split
  · exact ⟨_, rfl⟩
  · exact ⟨_, rfl⟩

/-- A request enters its frame's channel, and a write to a tile under a relocation copy the copy's channel too. -/
theorem State.enqueue_cases (r : HostReq) (f : Nat) :
    s.enqueue r f = s.queueAt r f ∨ ∃ dst, s.enqueue r f = (s.queueAt r f).queueAt r dst := by
  unfold State.enqueue
  dsimp only
  split
  · split
    · exact .inr ⟨_, rfl⟩
    · exact .inl rfl
  · exact .inl rfl

theorem State.enqueue_frame (r : HostReq) (f : Nat) :
    ∃ chans, s.enqueue r f = { s with dram := { s.dram with chans := chans } } := by
  obtain ⟨chans, hq⟩ := s.queueAt_frame r f
  obtain h | ⟨dst, h⟩ := s.enqueue_cases r f
  · exact ⟨chans, h.trans hq⟩
  · obtain ⟨chans', hq'⟩ := (s.queueAt r f).queueAt_frame r dst
    exact ⟨chans', by rw [h, hq', hq]⟩

theorem State.mem_enqueue_self (r : HostReq) (f : Nat) : { r with frame := f } ∈ ((s.enqueue r f).ch (f % 8)).reqs := by
  have hself := s.mem_queueAt_self r f
  obtain h | ⟨dst, h⟩ := s.enqueue_cases r f
  · rwa [h]
  · rw [h]
    exact State.mem_queueAt_of_mem _ _ _ (Nat.mod_lt f (by decide)) hself

theorem State.undisturbed_enqueue (r : HostReq) (f : Nat) : s.Undisturbed (s.enqueue r f) := by
  have hqueued : ∀ c < 8, ∀ q ∈ (s.ch c).reqs, q ∈ ((s.enqueue r f).ch c).reqs := by
    intro c hc q hq
    have hmem := s.mem_queueAt_of_mem r f hc hq
    obtain h | ⟨dst, h⟩ := s.enqueue_cases r f
    · rwa [h]
    · rw [h]
      exact State.mem_queueAt_of_mem _ _ _ hc hmem
  obtain ⟨chans, h⟩ := s.enqueue_frame r f
  rw [h] at hqueued ⊢
  exact ⟨rfl, rfl, rfl, rfl, rfl, rfl, hqueued⟩

/-! ### A write accepted (R17, R200) -/

/-- The tile of an accepted write is DIRTY, and a copy of it already read is old. -/
def State.dirtyTile (s : State) (t : Nat) : State := (s.moveCode t (s.hotCode t)).staleFlight t

theorem State.code_dirtyTile (t : Nat) : (s.dirtyTile t).code t = s.hotCode t := s.code_moveCode_self t _

theorem State.undisturbed_dirtyTile (t : Nat) : s.Undisturbed (s.dirtyTile t) :=
  (s.undisturbed_moveCode t _).trans ⟨rfl, rfl, rfl, rfl, rfl, rfl, fun _ _ _ hq => hq⟩

theorem State.dirtyTile_frame (t : Nat) : ∃ regs raised tile,
    s.dirtyTile t = { s with regs := regs, raised := raised, tile := tile } := by
  obtain ⟨_, _, h⟩ := s.moveCode_frame t (s.hotCode t)
  unfold State.dirtyTile
  rw [h]
  exact ⟨_, _, _, rfl⟩

variable {s} {r : HostReq} {f : Nat}

/-- A write to a tile with a frame: the tile is DIRTY, the write is in the queue, and its completion is answered. -/
theorem State.acceptWrite_eq (h : s.frameOf r.tile = some f) : ∃ save, s.acceptWrite r =
    State.respond { (s.dirtyTile r.tile).enqueue r f with save := save } r.port r.stamp (.writeDone r.port r.ld r.tag) := by
  simp only [State.acceptWrite, h]
  split
  · exact ⟨_, rfl⟩
  · exact ⟨_, rfl⟩

theorem State.undisturbed_enqueue_acceptWrite (h : s.frameOf r.tile = some f) :
    ((s.dirtyTile r.tile).enqueue r f).Undisturbed (s.acceptWrite r) := by
  obtain ⟨save, heq⟩ := State.acceptWrite_eq h
  rw [heq]
  refine State.Undisturbed.trans ?_ (State.undisturbed_respond _ _ _ _)
  exact .of_eq rfl rfl rfl

theorem State.undisturbed_acceptWrite (s : State) (r : HostReq) : s.Undisturbed (s.acceptWrite r) := by
  cases hf : s.frameOf r.tile with
  | none =>
    simp only [State.acceptWrite, hf]
    exact s.undisturbed_refl
  | some f =>
    have hqueue := (s.undisturbed_dirtyTile r.tile).trans (State.undisturbed_enqueue _ r f)
    exact hqueue.trans (State.undisturbed_enqueue_acceptWrite hf)

theorem State.code_acceptWrite (h : s.frameOf r.tile = some f) : (s.acceptWrite r).code r.tile = s.hotCode r.tile := by
  obtain ⟨save, heq⟩ := State.acceptWrite_eq h
  obtain ⟨chans, hq⟩ := (s.dirtyTile r.tile).enqueue_frame r f
  rw [heq, hq]
  unfold State.code
  rw [State.respond_tile]
  exact s.code_dirtyTile r.tile

theorem State.mem_acceptWrite (h : s.frameOf r.tile = some f) : { r with frame := f } ∈ ((s.acceptWrite r).ch (f % 8)).reqs :=
  (State.undisturbed_enqueue_acceptWrite h).queued _ (Nat.mod_lt f (by decide)) _ (State.mem_enqueue_self _ r f)

theorem State.acceptWrite_outs (h : s.frameOf r.tile = some f) (hdrop : (s.portState r.port).dropBefore ≤ r.stamp) :
    (s.acceptWrite r).outs = s.outs ++ [.writeDone r.port r.ld r.tag] := by
  obtain ⟨save, heq⟩ := State.acceptWrite_eq h
  obtain ⟨_, _, _, hd⟩ := s.dirtyTile_frame r.tile
  obtain ⟨chans, hq⟩ := (s.dirtyTile r.tile).enqueue_frame r f
  rw [heq, hq, hd]
  refine State.respond_outs _ ?_ _
  exact hdrop

/-! ### Accesses that reach no data (R152, R171, R173, R202) -/

theorem State.undisturbed_answerBad (s : State) (r : HostReq) : s.Undisturbed (s.answerBad r) := s.undisturbed_respond _ _ _

theorem State.lostAccess_eq (s : State) (r : HostReq) : ∃ raised,
    s.lostAccess r = State.answerBad { s with raised := raised } r := by
  unfold State.lostAccess
  dsimp only
  split
  · exact ⟨_, rfl⟩
  · exact ⟨_, rfl⟩

theorem State.lostAccess_write (h : r.write = true) : s.lostAccess r =
    (s.raise 0x14D [dPort r.port, dLd r.port r.ld, dTile r.tile] (s.mediaRecord r)).respond r.port r.stamp
      (.writeDone r.port r.ld r.tag) := by
  simp only [State.lostAccess, State.answerBad, h, if_true]

theorem State.homelessAccess_write (h : r.write = true) : s.homelessAccess r =
    (s.raise (srcDram s.homelessChannel 12) [dTile r.tile, dPort r.port, d1 1] (s.mediaRecord r)).respond r.port r.stamp
      (.writeDone r.port r.ld r.tag) := by
  simp only [State.homelessAccess, State.answerBad, h, if_true, bit]

theorem State.undisturbed_lostAccess (s : State) (r : HostReq) : s.Undisturbed (s.lostAccess r) := by
  obtain ⟨raised, h⟩ := s.lostAccess_eq r
  rw [h]
  exact State.Undisturbed.trans (t := { s with raised := raised }) (.of_eq rfl rfl rfl) (State.undisturbed_answerBad _ r)

theorem State.undisturbed_homelessAccess (s : State) (r : HostReq) : s.Undisturbed (s.homelessAccess r) := by
  unfold State.homelessAccess
  exact (State.undisturbed_raise _ _ _ _).trans (State.undisturbed_answerBad _ r)

variable (s r)

theorem State.violation_outs {dpa len : Nat} (h : (s.portState r.port).dropBefore ≤ r.stamp) :
    (s.violation r dpa len).outs = s.outs ++
      [if r.write then .writeDone r.port r.ld r.tag else .readData r.port r.ld r.tag zeroLine false] := by
  unfold State.violation
  refine State.respond_outs _ ?_ _
  exact h

theorem State.violation_dram (dpa len : Nat) : (s.violation r dpa len).dram = s.dram := by
  unfold State.violation
  exact State.respond_dram _ _ _ _

theorem State.violation_raised (dpa len : Nat) : (s.violation r dpa len).raised = s.raised ++
    [⟨srcPort r.port 3, [dLd r.port r.ld, d8 dpa, d1 (bit r.write), d4 len], s.bar, []⟩] := by
  unfold State.violation
  exact State.respond_raised _ _ _ _

theorem State.get_violation (dpa len : Nat) : (s.violation r dpa len).get (Reg.HPORT_VIOL_COUNT_COUNT r.port) =
    min (s.get (Reg.HPORT_VIOL_COUNT_COUNT r.port) + 1) (2 ^ 32 - 1) := by
  unfold State.violation
  dsimp only
  rw [State.get_respond_ne _ (by simp only [Field.key]; omega) (by simp only [Field.key]; omega), State.raise_get,
    State.get_count_self, satW_mod]
  rfl

/-! ### A write held (R215, R216) -/

/-- HELD_TILES and HELD_NOW are set first, then TILE_STAT.HOLD. -/
theorem State.updHeld_eq : ∃ u, s.onlyCounts u ∧ s.updHeld = (u.setB Reg.TILE_STAT_HOLD (!u.tile.held.isEmpty)).updExpedited := by
  unfold State.updHeld
  extract_lets tiles s' u
  have htiles : s.onlyCounts s' := s.onlyCounts_set _ _
  have hports : s'.onlyCounts u := s'.onlyCounts_foldl (fun v p => v.onlyCounts_set _ _) ports
  exact ⟨u, State.onlyCounts_trans htiles hports, rfl⟩

theorem State.onlyCounts_updHeld : s.onlyCounts s.updHeld := by
  obtain ⟨u, hu, h⟩ := s.updHeld_eq
  rw [h]
  exact State.onlyCounts_trans hu (State.onlyCounts_trans (u.onlyCounts_set _ _) (State.onlyCounts_set _ _ _))

theorem State.get_updHeld_hold : s.updHeld.get Reg.TILE_STAT_HOLD = bit (!s.tile.held.isEmpty) := by
  obtain ⟨u, hu, heq⟩ := s.updHeld_eq
  obtain ⟨_, _, rfl⟩ := hu
  rw [heq, State.updExpedited, State.setB, State.get_set_ne _ _ (by decide), State.setB, State.get_set_self]
  cases s.tile.held.isEmpty <;> rfl

/-- A write held joins the held writes; the first one of a hold raises 0x142 and starts its figures again. -/
theorem State.hold_eq : ∃ u raised n m, s.hold r = u.updHeld ∧ State.onlyCounts { s with
    raised := raised,
    tile := { s.tile with held := s.tile.held ++ [⟨r, false⟩], heldCount := n, heldLongest := m } } u := by
  unfold State.hold
  dsimp only
  split
  · exact ⟨_, _, _, _, rfl, State.onlyCounts_count _ _ _⟩
  · exact ⟨_, _, _, _, rfl, State.onlyCounts_count _ _ _⟩

theorem State.hold_frame : ∃ regs slotIncs raised n m, s.hold r = { s with
    regs := regs, slotIncs := slotIncs, raised := raised,
    tile := { s.tile with held := s.tile.held ++ [⟨r, false⟩], heldCount := n, heldLongest := m } } := by
  obtain ⟨u, raised, n, m, heq, hu⟩ := s.hold_eq r
  obtain ⟨regs, slotIncs, h⟩ := State.onlyCounts_trans hu u.onlyCounts_updHeld
  exact ⟨regs, slotIncs, raised, n, m, heq.trans h⟩

theorem State.get_hold_hold : (s.hold r).get Reg.TILE_STAT_HOLD = 1 := by
  obtain ⟨u, _, _, _, heq, ⟨_, _, rfl⟩⟩ := s.hold_eq r
  rw [heq, State.get_updHeld_hold]
  simp [bit]

/-! ### Admission (R214, R215, R222) -/

/-- The fields that admission looks at. -/
def admissionFields : List Field :=
  [Reg.TILE_SAVE_STAT_STATE, Reg.TILE_DMAX_TILES, Reg.TILE_STAT_ASSURED, Reg.TILE_POLICY_POLICY, Reg.TILE_POLICY_FLOOR_GIB]

variable {s}

/-- Admission is judged over a few fields, the tile codes, the requests that wait for a fetch and the held writes. -/
theorem State.admitsNew_congr {t : State} (hget : ∀ f ∈ admissionFields, t.get f = s.get f) (hcodes : t.tile.codes = s.tile.codes)
    (hwaits : t.tile.waits = s.tile.waits) (hheld : t.tile.held = s.tile.held) : t.admitsNew = s.admitsNew := by
  simp only [admissionFields, List.forall_mem_cons, List.not_mem_nil, false_imp_iff, implies_true, and_true] at hget
  obtain ⟨hstate, hmax, hassured, hpolicy, hfloor⟩ := hget
  have hthreshold : t.threshold = s.threshold := by
    unfold State.threshold State.assured State.flag State.floorTiles
    rw [hmax, hassured, hpolicy, hfloor]
  have hdirty : t.dirtyCount = s.dirtyCount := by simp only [State.dirtyCount, State.tilesWith, hcodes]
  have hpromised : t.promised = s.promised := by simp only [State.promised, hwaits]
  simp only [State.admitsNew, State.admits, hstate, hthreshold, hdirty, hpromised, hheld]

variable (s)

/-! ### A touch fetch (R263) -/

theorem State.get_updTouchStat_ne {f : Field} (ho : f.key ≠ Reg.TILE_TOUCH_STAT_OUTSTANDING.key)
    (hw : f.key ≠ Reg.TILE_TOUCH_STAT_WAITING.key) : s.updTouchStat.get f = s.get f :=
  (State.get_set_ne _ _ hw).trans (State.get_set_ne _ _ ho)

theorem State.onlyCounts_updTouchStat : s.onlyCounts s.updTouchStat :=
  State.onlyCounts_trans (s.onlyCounts_set _ _) (State.onlyCounts_set _ _ _)

/-- A wanted touch fetch is the one there is, or one that was in the background, or a new one; a background fetch that becomes a touch
fetch takes its work on the frame's channel with it. -/
theorem State.wantFetch_eq (t stamp : Nat) : ∃ fetches chans, (∃ f ∈ fetches, f.tile = t ∧ f.bg = false) ∧
    s.wantFetch t stamp =
      State.updTouchStat { s with tile := { s.tile with fetches := fetches }, dram := { s.dram with chans := chans } } := by
  unfold State.wantFetch
  dsimp only
  split
  case h_1 =>
    exact ⟨_, s.dram.chans, ⟨s.newFetch t stamp false, List.mem_append_right _ List.mem_cons_self, rfl, rfl⟩, rfl⟩
  case h_2 f hf =>
    have hmem := List.mem_of_find?_eq_some hf
    have htile : f.tile = t := by simpa using List.find?_some hf
    split
    · next hbg => exact ⟨s.tile.fetches, s.dram.chans, ⟨f, hmem, htile, by simpa using hbg⟩, rfl⟩
    · have htouch := List.mem_map_of_mem (f := fun g : Fetch => if g.tile = t then { g with bg := false, stamp := stamp } else g) hmem
      rw [if_pos htile] at htouch
      split
      · exact ⟨_, s.dram.chans, ⟨_, htouch, htile, rfl⟩, rfl⟩
      · exact ⟨_, _, ⟨_, htouch, htile, rfl⟩, rfl⟩

/-- Fetching a tile does not change what is admitted. -/
theorem State.admitsNew_wantFetch (t stamp : Nat) : (s.wantFetch t stamp).admitsNew = s.admitsNew := by
  obtain ⟨fetches, chans, -, h⟩ := s.wantFetch_eq t stamp
  have hkeys : ∀ f ∈ admissionFields,
      f.key ≠ Reg.TILE_TOUCH_STAT_OUTSTANDING.key ∧ f.key ≠ Reg.TILE_TOUCH_STAT_WAITING.key := by decide
  have hget : ∀ f ∈ admissionFields, (s.wantFetch t stamp).get f = s.get f := by
    intro f hf
    rw [h, State.get_updTouchStat_ne _ (hkeys f hf).1 (hkeys f hf).2]
    rfl
  obtain ⟨_, _, hframe⟩ := State.onlyCounts_updTouchStat
    { s with tile := { s.tile with fetches := fetches }, dram := { s.dram with chans := chans } }
  refine State.admitsNew_congr hget ?_ ?_ ?_ <;> rw [h, hframe]

end Requests
end Sys2Proof.Machine
end

section
/-! PROOFS. A host request enters its port, and is looked up (R41, R50, R167, R171, R172, R203, R240, R532). -/

namespace Sys2Proof.Machine

section Arrival

variable (s : State)

/-! ### Entering the port -/

/-- A request has entered its port: its credit is owed, its port's hint is withdrawn, and it counts as a wake. -/
def State.received (s : State) (a : HostAccess) (write : Bool) : State :=
  (((s.at a.slot).updPort a.port fun x => { x with owed := addCredit write x.owed }).dropHint a.port).updSave
    fun x => { x with wake := true }

/-- A request does not enter on a link below CXL.mem, without a credit, or as a write behind the fence (R50, R162, R240). -/
def State.barred (s : State) (a : HostAccess) (write : Bool) : Prop :=
  s.get (Reg.HPORT_STAT_LINK_STATE a.port) < 3 ∨ s.heldCredits a.port write = 0 ∨ (write = true ∧ s.fencedOut = true)

@[simp] theorem State.at_heldCredits (k p : Nat) (write : Bool) : (s.at k).heldCredits p write = s.heldCredits p write := by
  unfold State.at; split <;> rfl
@[simp] theorem State.at_fencedOut (k : Nat) : (s.at k).fencedOut = s.fencedOut := by unfold State.at; split <;> rfl
@[simp] theorem State.at_inH (k : Nat) : (s.at k).inH = s.inH := by unfold State.at; split <;> rfl

variable {s} {a : HostAccess} {write : Bool}

theorem State.hostRequest_of_barred (h : s.barred a write) (data : List Byte) (mask : List Bool) :
    s.hostRequest a write data mask = s.at a.slot := by
  unfold State.hostRequest
  refine if_pos ?_
  simpa [State.barred, or_assoc] using h

theorem State.hostRequest_of_not_barred (h : ¬ s.barred a write) (data : List Byte) (mask : List Bool) :
    s.hostRequest a write data mask =
      if (s.received a write).inH then
        (s.received a write).updSys fun x => { x with hReqs := x.hReqs ++ [⟨a, write, data, mask, (s.received a write).now⟩] }
      else (s.received a write).lookUp a (s.received a write).now write data mask := by
  unfold State.hostRequest
  refine if_neg ?_
  simpa [State.barred, or_assoc] using h

variable (s a write)

theorem State.at_frame (k : Nat) : ∃ slotIncs slotSets,
    s.at k = { s with slot := k, slotIncs := slotIncs, slotSets := slotSets } := by
  unfold State.at
  split
  · next h => exact ⟨s.slotIncs, s.slotSets, by rw [← h]⟩
  · exact ⟨_, _, rfl⟩

theorem State.dropHint_frame (p : Nat) : ∃ raised hints, s.dropHint p =
    { s with raised := raised, sys := { s.sys with hints := hints } } := by
  unfold State.dropHint
  split
  · exact ⟨_, _, rfl⟩
  · exact ⟨_, _, rfl⟩

theorem State.received_frame : ∃ slotIncs slotSets raised hints, s.received a write =
    { s.updPort a.port fun x => { x with owed := addCredit write x.owed } with
      slot := a.slot, slotIncs := slotIncs, slotSets := slotSets, raised := raised, sys := { s.sys with hints := hints },
      save := { s.save with wake := true } } := by
  obtain ⟨slotIncs, slotSets, hat⟩ := s.at_frame a.slot
  obtain ⟨raised, hints, hhint⟩ :=
    ((s.at a.slot).updPort a.port fun x => { x with owed := addCredit write x.owed }).dropHint_frame a.port
  refine ⟨slotIncs, slotSets, raised, hints, ?_⟩
  unfold State.received
  rw [hhint, hat]
  rfl

@[simp] theorem State.received_tile : (s.received a write).tile = s.tile := by
  obtain ⟨_, _, _, _, h⟩ := s.received_frame a write
  rw [h]
  rfl

@[simp] theorem State.received_dram : (s.received a write).dram = s.dram := by
  obtain ⟨_, _, _, _, h⟩ := s.received_frame a write
  rw [h]
  rfl

@[simp] theorem State.received_outs : (s.received a write).outs = s.outs := by
  obtain ⟨_, _, _, _, h⟩ := s.received_frame a write
  rw [h]
  rfl

@[simp] theorem State.received_get (f : Field) : (s.received a write).get f = s.get f := by
  obtain ⟨_, _, _, _, h⟩ := s.received_frame a write
  rw [h]
  rfl

@[simp] theorem State.received_now : (s.received a write).now = s.bar * 6240 + a.slot := by
  obtain ⟨_, _, _, _, h⟩ := s.received_frame a write
  rw [h]
  rfl

@[simp] theorem State.received_inH : (s.received a write).inH = s.inH := by
  obtain ⟨_, _, _, _, h⟩ := s.received_frame a write
  rw [h]
  rfl

theorem State.received_hReqs : (s.received a write).sys.hReqs = s.sys.hReqs := by
  obtain ⟨_, _, _, _, h⟩ := s.received_frame a write
  rw [h]

theorem State.received_wake : (s.received a write).save.wake = true := by
  obtain ⟨_, _, _, _, h⟩ := s.received_frame a write
  rw [h]

/-- The port's decoders and its last fall are as before. -/
theorem State.received_portState : (s.received a write).portState a.port =
    { s.portState a.port with owed := addCredit write (s.portState a.port).owed } := by
  obtain ⟨_, _, _, _, h⟩ := s.received_frame a write
  rw [h]
  exact s.portState_updPort_self (fun x => { x with owed := addCredit write x.owed }) a.port.isLt

@[simp] theorem State.received_dropBefore : ((s.received a write).portState a.port).dropBefore = (s.portState a.port).dropBefore := by
  rw [State.received_portState]

@[simp] theorem State.received_dpaFor (ld hpa : Nat) : (s.received a write).dpaFor a.port ld hpa = s.dpaFor a.port ld hpa := by
  simp only [State.dpaFor, State.decodersOf, State.received_portState]

@[simp] theorem State.received_code (t : Nat) : (s.received a write).code t = s.code t := by
  simp only [State.code, State.received_tile]

@[simp] theorem State.received_frameOf (t : Nat) : (s.received a write).frameOf t = s.frameOf t := by
  simp only [State.frameOf, State.received_tile]

@[simp] theorem State.received_isHomeless (t : Nat) : (s.received a write).isHomeless t = s.isHomeless t := by
  simp only [State.isHomeless, State.received_tile]

@[simp] theorem State.received_hotCode (t : Nat) : (s.received a write).hotCode t = s.hotCode t := by
  simp only [State.hotCode, State.received_tile]

@[simp] theorem State.received_wordGood (w : Nat) : (s.received a write).wordGood w = s.wordGood w := by
  simp only [State.wordGood, State.received_code]

@[simp] theorem State.received_region (r : Nat) : (s.received a write).region r = s.region r := by
  simp only [State.region, State.received_tile]

@[simp] theorem State.received_ownedRegion (port ld dpa : Nat) :
    (s.received a write).ownedRegion port ld dpa = s.ownedRegion port ld dpa := by
  simp only [State.ownedRegion, State.received_region]

@[simp] theorem State.received_tileAt (r dpa : Nat) : (s.received a write).tileAt r dpa = s.tileAt r dpa := by
  simp only [State.tileAt, State.received_region]

@[simp] theorem State.received_admitsNew : (s.received a write).admitsNew = s.admitsNew :=
  State.admitsNew_congr (fun f _ => s.received_get a write f) (by rw [State.received_tile]) (by rw [State.received_tile])
    (by rw [State.received_tile])

/-! ### The look-up -/

variable {s a write}

/-- A word without codes that are not used, read clean, changes nothing (R203). -/
theorem State.readState_clean {w : Nat} (h : s.wordGood w = true) : s.readState w .clean = s := by
  have hused : ((List.range 16).any fun i => let c := s.code (16 * w + i); (5 < c && c < 8) || (11 < c && c < 15)) = false := by
    rw [← Bool.not_eq_true', List.not_any_eq_all_not]
    exact h
  unfold State.readState
  exact if_neg (ne_true_of_eq_false hused)

theorem State.readMap_clean (t : Nat) : s.readMap t .clean = s := by
  unfold State.readMap
  split <;> rfl

variable {dpa r : Nat} (stamp : Nat) (data : List Byte) (mask : List Bool)

/-- An address that no committed decoder covers, or that no region owns, is a violation (R167, R172, R173, notes/assumptions/11.md). -/
theorem State.lookUp_outside (h : s.dpaFor a.port a.ld (a.line * 64) = none ∨
      ∃ dpa, s.dpaFor a.port a.ld (a.line * 64) = some dpa ∧ s.ownedRegion a.port a.ld dpa = none) :
    ∃ line place len, s.lookUp a stamp write data mask = s.violation (reqOf a stamp 0 line write data mask) place len := by
  unfold State.lookUp
  obtain hd | ⟨dpa, hd, hr⟩ := h
  · simp only [hd]
    exact ⟨_, _, _, rfl⟩
  · simp only [hd, hr]
    exact ⟨_, _, _, rfl⟩

/-- An address inside ownership whose look-ups are clean goes to its tile. -/
theorem State.lookUp_owned (hd : s.dpaFor a.port a.ld (a.line * 64) = some dpa) (hr : s.ownedRegion a.port a.ld dpa = some r)
    (hword : a.word = .clean) (hentry : a.entry = .clean) (hgood : s.wordGood (s.tileAt r dpa / 16) = true) :
    s.lookUp a stamp write data mask = s.dispatch (reqOf a stamp (s.tileAt r dpa) (dpa / 64) write data mask) := by
  unfold State.lookUp
  simp only [hd, hr, hword, hentry, State.readState_clean hgood, State.readMap_clean]

/-! ### The request meets its tile -/

variable {q : HostReq}

theorem State.dispatch_lost (h : s.code q.tile = codeLost) : s.dispatch q = s.lostAccess q := if_pos h

theorem State.dispatch_homeless (hl : s.code q.tile ≠ codeLost) (hh : s.isHomeless q.tile = true) :
    s.dispatch q = s.homelessAccess q := (if_neg hl).trans (if_pos hh)

theorem State.dispatch_absent (ha : s.code q.tile = codeAbsent) (hh : s.isHomeless q.tile = false) :
    s.dispatch q = if q.write && !(s.wantFetch q.tile q.stamp).admitsNew then (s.wantFetch q.tile q.stamp).hold q
      else (s.wantFetch q.tile q.stamp).updTile fun x => { x with waits := x.waits ++ [q] } := by
  have hl : s.code q.tile ≠ codeLost := by rw [ha]; decide
  exact (if_neg hl).trans ((if_neg (ne_true_of_eq_false hh)).trans (if_pos ha))

theorem State.dispatch_present (hl : s.code q.tile ≠ codeLost) (hh : s.isHomeless q.tile = false)
    (ha : s.code q.tile ≠ codeAbsent) : s.dispatch q = s.serve q :=
  (if_neg hl).trans ((if_neg (ne_true_of_eq_false hh)).trans (if_neg ha))

theorem State.serve_write (h : q.write = true) (henters : q.enters = 0) :
    s.serve q = if inD (s.code q.tile) = true ∨ s.admitsNew = true then s.acceptWrite q else s.hold q := by
  simp [State.serve, State.tryWrite, h, henters]

end Arrival

end Sys2Proof.Machine
end

section
/-! PROOFS. Host writes: outside ownership, to a tile that is LOST, homeless, ABSENT or present, accepted or held; and the release of
held writes (R17, R84, R173, R200, R202, R215 to R217). -/

namespace Sys2Proof.Machine

section Writes

variable {s : State} {a : HostAccess} {write : Bool} {data : List Byte} {mask : List Bool}

/-! ### A write as its port carries it -/

theorem exec_hostWriteRequest (hon : s.on = true) (a : HostAccess) (data : List Byte) (mask : List Bool) :
    exec (.hostWriteRequest a data mask) s = .next (s.hostRequest a true data mask) := s.powered_of_on hon

/-- A port carries an access that is not barred, outside H, since its link came up, with clean look-ups. -/
theorem State.carries_iff : s.carries a write = true ↔ s.on = true ∧ ¬ s.barred a write ∧ s.inH = false ∧ a.word = .clean ∧
    a.entry = .clean ∧ (s.portState a.port).dropBefore ≤ s.bar * 6240 + a.slot := by
  simp only [State.carries, State.barred, Bool.and_eq_true, Bool.not_eq_true', decide_eq_true_eq, Bool.and_eq_false_iff, not_or,
    not_and, Bool.not_eq_true, Nat.not_lt]
  constructor
  · rintro ⟨⟨⟨⟨⟨⟨⟨hon, hh⟩, hlink⟩, hcredit⟩, hword⟩, hentry⟩, hfence⟩, hdrop⟩
    exact ⟨hon, ⟨hlink, hcredit, fun hw => hfence.resolve_left (by simp [hw])⟩, hh, hword, hentry, hdrop⟩
  · rintro ⟨hon, ⟨hlink, hcredit, hfence⟩, hh, hword, hentry, hdrop⟩
    refine ⟨⟨⟨⟨⟨⟨⟨hon, hh⟩, hlink⟩, hcredit⟩, hword⟩, hentry⟩, ?_⟩, hdrop⟩
    cases hw : write with
    | false => exact .inl rfl
    | true => exact .inr (hfence hw)

theorem exec_hostWriteRequest_carried (h : s.carries a true = true) (data : List Byte) (mask : List Bool) :
    exec (.hostWriteRequest a data mask) s =
      .next ((s.received a true).lookUp a (s.bar * 6240 + a.slot) true data mask) := by
  obtain ⟨hon, hbar, hh, -, -, -⟩ := State.carries_iff.mp h
  rw [exec_hostWriteRequest hon, State.hostRequest_of_not_barred hbar, State.received_inH, hh, State.received_now]
  rfl

/-- A write inside ownership meets its tile. -/
theorem exec_hostWriteRequest_owned (h : s.carries a true = true) {dpa r : Nat}
    (hd : s.dpaFor a.port a.ld (a.line * 64) = some dpa) (hr : s.ownedRegion a.port a.ld dpa = some r)
    (hgood : s.wordGood (s.tileAt r dpa / 16) = true) (data : List Byte) (mask : List Bool) :
    exec (.hostWriteRequest a data mask) s = .next ((s.received a true).dispatch
      (reqOf a (s.bar * 6240 + a.slot) (s.tileAt r dpa) (dpa / 64) true data mask)) := by
  obtain ⟨-, -, -, hword, hentry, -⟩ := State.carries_iff.mp h
  rw [exec_hostWriteRequest_carried h, State.lookUp_owned (r := r) (dpa := dpa) _ _ _ (by rwa [State.received_dpaFor])
    (by rwa [State.received_ownedRegion]) hword hentry (by rwa [State.received_tileAt, State.received_wordGood]),
    State.received_tileAt]

/-! ### A write meets its tile -/

section Meets

variable {q : HostReq}

theorem State.wantFetch_frame (s : State) (t stamp : Nat) : ∃ regs slotIncs fetches chans,
    (∃ f ∈ fetches, f.tile = t ∧ f.bg = false) ∧ s.wantFetch t stamp = { s with
      regs := regs, slotIncs := slotIncs, tile := { s.tile with fetches := fetches },
      dram := { s.dram with chans := chans } } := by
  obtain ⟨fetches, chans, hmem, heq⟩ := s.wantFetch_eq t stamp
  obtain ⟨regs, slotIncs, h⟩ := State.onlyCounts_updTouchStat
    { s with tile := { s.tile with fetches := fetches }, dram := { s.dram with chans := chans } }
  exact ⟨regs, slotIncs, fetches, chans, hmem, heq.trans h⟩

theorem State.dispatch_absent_admitted (ha : s.code q.tile = codeAbsent) (hh : s.isHomeless q.tile = false)
    (hn : s.admitsNew = true) :
    s.dispatch q = (s.wantFetch q.tile q.stamp).updTile fun x => { x with waits := x.waits ++ [q] } := by
  rw [State.dispatch_absent ha hh, State.admitsNew_wantFetch, hn]
  exact if_neg (by simp)

theorem State.dispatch_absent_held (hw : q.write = true) (ha : s.code q.tile = codeAbsent) (hh : s.isHomeless q.tile = false)
    (hn : s.admitsNew = false) : s.dispatch q = (s.wantFetch q.tile q.stamp).hold q := by
  rw [State.dispatch_absent ha hh, State.admitsNew_wantFetch, hn, hw]
  exact if_pos rfl

/-- A write to an ABSENT tile has its touch fetch, and waits for it or is held; its tile is still ABSENT. -/
theorem State.dispatch_absent_write (hw : q.write = true) (ha : s.code q.tile = codeAbsent) (hh : s.isHomeless q.tile = false) :
    (s.dispatch q).outs = s.outs ∧ (s.dispatch q).code q.tile = codeAbsent ∧ (s.dispatch q).dram.bytes = s.dram.bytes ∧
    (∃ f ∈ (s.dispatch q).tile.fetches, f.tile = q.tile ∧ f.bg = false) ∧
    (s.admitsNew = true → (s.dispatch q).tile.waits = s.tile.waits ++ [q] ∧ (s.dispatch q).tile.held = s.tile.held) ∧
    (s.admitsNew = false →
      (s.dispatch q).tile.held = s.tile.held ++ [⟨q, false⟩] ∧ (s.dispatch q).tile.waits = s.tile.waits) := by
  obtain ⟨_, _, fetches, _, hmem, hfetch⟩ := s.wantFetch_frame q.tile q.stamp
  cases hn : s.admitsNew with
  | true =>
    rw [State.dispatch_absent_admitted ha hh hn, hfetch]
    exact ⟨rfl, ha, rfl, hmem, fun _ => ⟨rfl, rfl⟩, nofun⟩
  | false =>
    obtain ⟨_, _, _, _, _, hhold⟩ := (s.wantFetch q.tile q.stamp).hold_frame q
    rw [State.dispatch_absent_held hw ha hh hn, hhold, hfetch]
    exact ⟨rfl, ha, rfl, hmem, nofun, fun _ => ⟨rfl, rfl⟩⟩

/-- A write to a present tile that is admitted enters the queue, dirties the tile and completes. -/
theorem State.dispatch_accepted (hw : q.write = true) (henters : q.enters = 0) (hl : s.code q.tile ≠ codeLost)
    (ha : s.code q.tile ≠ codeAbsent) (hh : s.isHomeless q.tile = false)
    (hadmit : inD (s.code q.tile) = true ∨ s.admitsNew = true) : s.dispatch q = s.acceptWrite q := by
  rw [State.dispatch_present hl hh ha, State.serve_write hw henters, if_pos hadmit]

theorem State.dispatch_held (hw : q.write = true) (henters : q.enters = 0) (hl : s.code q.tile ≠ codeLost)
    (ha : s.code q.tile ≠ codeAbsent) (hh : s.isHomeless q.tile = false) (hd : inD (s.code q.tile) = false)
    (hn : s.admitsNew = false) : s.dispatch q = s.hold q := by
  rw [State.dispatch_present hl hh ha, State.serve_write hw henters, if_neg (by simp [hd, hn])]

/-- A write held is not completed, and leaves its tile and the DRAM as they are. -/
theorem State.hold_outcome (s : State) (q : HostReq) : (s.hold q).outs = s.outs ∧ (s.hold q).code q.tile = s.code q.tile ∧
    (s.hold q).dram = s.dram ∧ (s.hold q).get Reg.TILE_STAT_HOLD = 1 ∧ (s.hold q).tile.held = s.tile.held ++ [⟨q, false⟩] := by
  have hget := s.get_hold_hold q
  obtain ⟨_, _, _, _, _, h⟩ := s.hold_frame q
  rw [h] at hget ⊢
  exact ⟨rfl, rfl, rfl, hget, rfl⟩

end Meets

/-! ### The release of held writes (R84, R216) -/

theorem mem_insertBy {α : Type} (le : α → α → Bool) (x y : α) (l : List α) : y ∈ insertBy le x l ↔ y = x ∨ y ∈ l := by
  induction l with
  | nil => simp [insertBy]
  | cons z l ih =>
    unfold insertBy
    split
    · exact List.mem_cons
    · rw [List.mem_cons, ih, List.mem_cons, or_left_comm]

theorem mem_sortBy {α : Type} (le : α → α → Bool) (y : α) (l : List α) : y ∈ sortBy le l ↔ y ∈ l := by
  induction l with
  | nil => exact Iff.rfl
  | cons x l ih => rw [List.mem_cons, ← ih]; exact mem_insertBy le x y _

/-- A held write as it is let in: the slot from which it may stand in its queue (R84). -/
def State.entering (s : State) (r : HostReq) : HostReq := { r with enters := max (r.stamp + slotsIn) s.now }

theorem State.undisturbed_letIn (s : State) (r : HostReq) : s.Undisturbed (s.letIn r) := by
  unfold State.letIn
  dsimp only
  split_ifs
  · exact s.undisturbed_lostAccess _
  · exact s.undisturbed_homelessAccess _
  · exact ⟨rfl, rfl, rfl, rfl, rfl, rfl, fun _ _ _ hq => hq⟩
  · exact s.undisturbed_acceptWrite _

theorem State.letIn_present {r : HostReq} (hl : s.code r.tile ≠ codeLost) (hh : s.isHomeless r.tile = false)
    (ha : s.code r.tile ≠ codeAbsent) : s.letIn r = s.acceptWrite (s.entering r) :=
  (if_neg hl).trans ((if_neg (ne_true_of_eq_false hh)).trans (if_neg ha))

theorem State.undisturbed_each_letIn (s : State) (go : List HostReq) : s.Undisturbed (s.each go State.letIn) := by
  induction go generalizing s with
  | nil => exact s.undisturbed_refl
  | cons r go ih => exact (s.undisturbed_letIn r).trans (ih _)

/-- Writes let in to one tile that is present: the tile is DIRTY, and they are in the queue of its frame's channel. -/
theorem State.each_letIn_present {go : List HostReq} {tile f : Nat} (hgo : ∀ r ∈ go, r.tile = tile) (hl : s.code tile ≠ codeLost)
    (ha : s.code tile ≠ codeAbsent) (hh : s.isHomeless tile = false) (hf : s.frameOf tile = some f) :
    (go ≠ [] → (s.each go State.letIn).code tile = s.hotCode tile) ∧
    ∀ r ∈ go, { s.entering r with frame := f } ∈ ((s.each go State.letIn).ch (f % 8)).reqs := by
  induction go generalizing s with
  | nil => exact ⟨fun h => absurd rfl h, nofun⟩
  | cons r go ih =>
    obtain ⟨rfl, hgo⟩ := List.forall_mem_cons.mp hgo
    have hin := State.letIn_present hl hh ha
    have hkeep := s.undisturbed_letIn r
    have hcode : (s.letIn r).code r.tile = s.hotCode r.tile := by
      rw [hin]
      exact State.code_acceptWrite (r := s.entering r) hf
    have hmem : { s.entering r with frame := f } ∈ ((s.letIn r).ch (f % 8)).reqs := by
      rw [hin]
      exact State.mem_acceptWrite (r := s.entering r) hf
    obtain ⟨ihcode, ihmem⟩ := ih (s := s.letIn r) hgo (hcode ▸ s.hotCode_ne_lost _) (hcode ▸ s.hotCode_ne_absent _)
      ((hkeep.isHomeless _).trans hh) ((hkeep.frameOf _).trans hf)
    refine ⟨fun _ => ?_, List.forall_mem_cons.mpr ⟨?_, fun k hk => ?_⟩⟩
    · cases go with
      | nil => exact hcode
      | cons k go => exact (ihcode (List.cons_ne_nil _ _)).trans (hkeep.hotCode _)
    · exact (State.undisturbed_each_letIn _ go).queued _ (Nat.mod_lt f (by decide)) _ hmem
    · have hk' := ihmem k hk
      unfold State.entering at hk' ⊢
      rwa [hkeep.now] at hk'

/-- Writes leave the held list, and the longest of their holds is noted. -/
def State.leaveHeld (s : State) (p : HostReq → Bool) (us : Nat) : State :=
  ((s.updTile fun x => { x with held := x.held.filter fun h => !(p h.req) }).peak Reg.TILE_HOLD_STAT_MAX_US us).updTile
    fun x => { x with heldLongest := max x.heldLongest us }

/-- The registers follow the held writes, and the end of the hold raises 0x143. -/
def State.settleHeld (s : State) : State :=
  if s.updHeld.tile.held.isEmpty then s.updHeld.raise 0x143 [d4 s.updHeld.tile.heldCount, d4 s.updHeld.tile.heldLongest]
  else s.updHeld

theorem State.settleHeld_frame (s : State) : ∃ regs slotIncs raised, s.settleHeld =
    { s with regs := regs, slotIncs := slotIncs, raised := raised } := by
  obtain ⟨regs, slotIncs, h⟩ := s.onlyCounts_updHeld
  unfold State.settleHeld
  rw [h]
  split
  · exact ⟨_, _, _, rfl⟩
  · exact ⟨_, _, _, rfl⟩

/-- A release takes the writes that are to go out of the held list, lets them in and settles its figures. -/
theorem State.releaseHeld_eq (s : State) (p : HostReq → Bool) (h : ∃ k ∈ s.tile.held, p k.req = true) :
    ∃ go us, (∀ r, r ∈ go ↔ ∃ k ∈ s.tile.held, k.req = r ∧ p r = true) ∧
      s.releaseHeld p = ((s.leaveHeld p us).each go State.letIn).settleHeld := by
  unfold State.releaseHeld
  extract_lets waiting go
  have hgo : ∀ r, r ∈ go ↔ ∃ k ∈ s.tile.held, k.req = r ∧ p r = true := by
    intro r
    rw [mem_sortBy, List.mem_filter, List.mem_map]
    exact ⟨fun ⟨⟨k, hk, he⟩, hp⟩ => ⟨k, hk, he, hp⟩, fun ⟨k, hk, he, hp⟩ => ⟨⟨k, hk, he⟩, hp⟩⟩
  obtain ⟨k, hk, hp⟩ := h
  have hne : ¬ go.isEmpty = true := by
    rw [List.isEmpty_iff]
    exact List.ne_nil_of_mem ((hgo k.req).mpr ⟨k, hk, rfl, hp⟩)
  rw [if_neg hne]
  exact ⟨go, _, hgo, rfl⟩

/-- A fold that keeps what it has or takes the next element ends with what it began with, or with an element. -/
theorem foldl_keep_or_take {α : Type} {f : Option α → α → Option α} (h : ∀ b x, f b x = some x ∨ f b x = b) (l : List α)
    (b : Option α) : l.foldl f b = b ∨ ∃ x ∈ l, l.foldl f b = some x := by
  induction l generalizing b with
  | nil => exact .inl rfl
  | cons x l ih =>
    rw [List.foldl_cons]
    obtain hb | ⟨y, hy, hb⟩ := ih (f b x)
    · rw [hb]
      exact (h b x).symm.imp_right fun hx => ⟨x, List.mem_cons_self, hx⟩
    · exact .inr ⟨y, List.mem_cons_of_mem _ hy, hb⟩

/-- The older of two writes, the one of the lower port on a tie (R216). -/
def olderOf (b : Option HostReq) (r : HostReq) : Option HostReq :=
  match b with
  | none => some r
  | some o => if r.stamp < o.stamp || (r.stamp = o.stamp && r.port < o.port) then some r else some o

theorem olderOf_cases (b : Option HostReq) (r : HostReq) : olderOf b r = some r ∨ olderOf b r = b := by
  cases b with
  | none => exact .inl rfl
  | some o => exact ite_eq_or_eq _ _ _

theorem State.oldestHeld_eq (s : State) : s.oldestHeld = (s.tile.held.map (·.req)).foldl olderOf none := rfl

theorem State.mem_held_of_oldestHeld {r : HostReq} (h : s.oldestHeld = some r) : ∃ k ∈ s.tile.held, k.req = r := by
  rw [State.oldestHeld_eq] at h
  obtain hnone | ⟨x, hx, hsome⟩ := foldl_keep_or_take olderOf_cases (s.tile.held.map (·.req)) none
  · cases h.symm.trans hnone
  · cases h.symm.trans hsome
    exact List.mem_map.mp hx

theorem exec_heldWriteRelease_none (hrun : s.running = true) (h : s.oldestHeld = none) : exec .heldWriteRelease s = .next s :=
  (State.engines_of_running hrun).trans (by simp only [h])

theorem exec_heldWriteRelease_some (hrun : s.running = true) {r : HostReq} (h : s.oldestHeld = some r) :
    exec .heldWriteRelease s = if s.admits then .next (s.releaseHeld fun q => q.tile = r.tile) else .next s :=
  (State.engines_of_running hrun).trans (by simp only [h])

/-- Releasing the writes of one tile: the others are still held, and where the tile is present it is DIRTY and they are queued. -/
theorem State.releaseHeld_tile {tile : Nat} (h : ∃ k ∈ s.tile.held, k.req.tile = tile) :
    (s.releaseHeld fun q => q.tile = tile).dram.bytes = s.dram.bytes ∧
    (s.releaseHeld fun q => q.tile = tile).tile.held = s.tile.held.filter (fun k => !decide (k.req.tile = tile)) ∧
    ∀ f : Nat, s.code tile ≠ codeLost → s.code tile ≠ codeAbsent → s.isHomeless tile = false → s.frameOf tile = some f →
      (s.releaseHeld fun q => q.tile = tile).code tile = s.hotCode tile ∧ ∀ k ∈ s.tile.held, k.req.tile = tile →
        { s.entering k.req with frame := f } ∈ ((s.releaseHeld fun q => q.tile = tile).ch (f % 8)).reqs := by
  obtain ⟨go, us, hgo, heq⟩ := s.releaseHeld_eq (fun q => q.tile = tile) (by simpa using h)
  obtain ⟨_, _, _, hsettle⟩ := ((s.leaveHeld (fun q => q.tile = tile) us).each go State.letIn).settleHeld_frame
  have hkeep := (s.leaveHeld (fun q => q.tile = tile) us).undisturbed_each_letIn go
  have hin : ∀ k ∈ s.tile.held, k.req.tile = tile → k.req ∈ go := fun k hk ht =>
    (hgo _).mpr ⟨k, hk, rfl, by simpa using ht⟩
  have htile : ∀ r ∈ go, r.tile = tile := fun r hr => by
    obtain ⟨k, -, -, ht⟩ := (hgo r).mp hr
    simpa using ht
  obtain ⟨k, hk, ht⟩ := h
  rw [heq, hsettle]
  refine ⟨hkeep.bytes, hkeep.held, fun f hl ha hh hf => ?_⟩
  obtain ⟨hcode, hmem⟩ := State.each_letIn_present (s := s.leaveHeld (fun q => q.tile = tile) us) htile hl ha hh hf
  exact ⟨hcode (List.ne_nil_of_mem (hin k hk ht)), fun k hk ht => hmem _ (hin k hk ht)⟩

/-! ### A write held too long (R217) -/

section HeldLong

variable {port : Fin 4} {tag : Nat} {slot : Fin 6240}

theorem exec_holdLong_none (hrun : s.running = true)
    (h : (s.tile.held.find? fun k => k.req.port = port.val && k.req.tag = tag && (s.at slot).heldLong k) = none) :
    exec (.holdLong port tag slot) s = .next (s.at slot) :=
  (State.engines_of_running hrun).trans (by simp only [State.at_tile, h])

theorem exec_holdLong_eq (hrun : s.running = true) {h : HeldWrite}
    (hfound : (s.tile.held.find? fun k => k.req.port = port.val && k.req.tag = tag && (s.at slot).heldLong k) = some h) :
    exec (.holdLong port tag slot) s = .next (((s.at slot).updTile fun x =>
        { x with held := x.held.map fun k => if k = h then { k with long := true } else k }).raise 0x148
      [dPort port, dTile h.req.tile, d4 (slotsUs ((s.at slot).now - h.req.stamp))]) :=
  (State.engines_of_running hrun).trans (by simp only [State.at_tile, hfound]; rfl)

/-- A write held too long is marked, and raises 0x148. -/
theorem exec_holdLong_found (hrun : s.running = true) {h : HeldWrite}
    (hfound : (s.tile.held.find? fun k => k.req.port = port.val && k.req.tag = tag && (s.at slot).heldLong k) = some h) :
    ∃ t : State, exec (.holdLong port tag slot) s = .next t ∧
      t.tile.held = s.tile.held.map (fun k => if k = h then { k with long := true } else k) ∧
      t.raised = s.raised ++ [⟨0x148, [⟨1, port, .port⟩, ⟨4, h.req.tile, .tile⟩,
        ⟨4, slotsUs ((s.at slot).now - h.req.stamp), .plain⟩], s.bar, []⟩] ∧
      { t with raised := s.raised, tile := s.tile } = s.at slot := by
  obtain ⟨_, _, hat⟩ := s.at_frame slot
  rw [exec_holdLong_eq hrun hfound]
  refine ⟨_, rfl, ?_, ?_, ?_⟩
  · rw [State.raise_tile, State.updTile_self, State.at_tile]
  · rw [State.raise_raised, State.updTile_raised, State.at_raised, State.updTile_bar, State.at_bar]
    rfl
  · rw [hat]
    rfl

end HeldLong

/-! ### What becomes of a write -/

theorem State.exists_raised {t : State} {l : List Event} {e : Event} {n : Nat} (h : t.raised = l ++ [e])
    (hn : e.src = n) : ∃ x ∈ t.raised, x.src = n :=
  ⟨e, h ▸ List.mem_append_right _ List.mem_cons_self, hn⟩

/-- A write outside ownership is discarded, completed and counted, with k = 3 (R173). -/
theorem hostWrite_outside (hc : s.carries a true = true) (h : s.dpaFor a.port a.ld (a.line * 64) = none ∨
      ∃ dpa, s.dpaFor a.port a.ld (a.line * 64) = some dpa ∧ s.ownedRegion a.port a.ld dpa = none) :
    ∃ t : State, exec (.hostWriteRequest a data mask) s = .next t ∧ t.outs = s.outs ++ [.writeDone a.port a.ld a.tag] ∧
      t.dram = s.dram ∧ (∃ e ∈ t.raised, e.src = srcPort a.port 3) ∧
      t.get (Reg.HPORT_VIOL_COUNT_COUNT a.port) = min (s.get (Reg.HPORT_VIOL_COUNT_COUNT a.port) + 1) (2 ^ 32 - 1) := by
  obtain ⟨-, -, -, -, -, hdrop⟩ := State.carries_iff.mp hc
  obtain ⟨line, place, len, hlook⟩ := State.lookUp_outside (s := s.received a true) (a := a) (write := true)
    (s.bar * 6240 + a.slot) data mask (by simpa only [State.received_dpaFor, State.received_ownedRegion] using h)
  rw [exec_hostWriteRequest_carried hc, hlook]
  refine ⟨_, rfl, ?_, ?_, State.exists_raised (State.violation_raised _ _ _ _) rfl, ?_⟩
  · rw [State.violation_outs _ _ (by rwa [← State.received_dropBefore s a true] at hdrop), State.received_outs]
    rfl
  · rw [State.violation_dram, State.received_dram]
  · rw [← s.received_get a true]
    exact State.get_violation _ _ _ _

section Owned

variable {q : HostReq}

/-- The completion of a write that reaches no data leaves, and DRAM is as before. -/
theorem State.dispatch_lost_write (hw : q.write = true) (hdrop : (s.portState q.port).dropBefore ≤ q.stamp)
    (hl : s.code q.tile = codeLost) : (s.dispatch q).dram = s.dram ∧
      (s.dispatch q).outs = s.outs ++ [.writeDone q.port q.ld q.tag] ∧ ∃ e ∈ (s.dispatch q).raised, e.src = 0x14D := by
  rw [State.dispatch_lost hl, State.lostAccess_write hw]
  refine ⟨State.respond_dram _ _ _ _, State.respond_outs _ ?_ _, State.exists_raised (State.respond_raised _ _ _ _) rfl⟩
  exact hdrop

theorem State.dispatch_homeless_write (hw : q.write = true) (hdrop : (s.portState q.port).dropBefore ≤ q.stamp)
    (hl : s.code q.tile ≠ codeLost) (hh : s.isHomeless q.tile = true) : (s.dispatch q).dram = s.dram ∧
      (s.dispatch q).outs = s.outs ++ [.writeDone q.port q.ld q.tag] := by
  rw [State.dispatch_homeless hl hh, State.homelessAccess_write hw]
  refine ⟨State.respond_dram _ _ _ _, State.respond_outs _ ?_ _⟩
  exact hdrop

end Owned

end Writes

/-- Settles O25: the write enters or not, is looked up, and meets its tile; then the release of held writes, and a hold too long. -/
theorem hostWrites : Obligations.HostWrites := by
  unfold Obligations.HostWrites
  refine ⟨fun a data mask s => ⟨fun hon hbar => ?_, fun hon hh hlink hcredit hfence => ?_,
      fun hc => ⟨hostWrite_outside hc, fun dpa r tile hd hr htile hgood => ?_⟩⟩,
    fun s hrun => ⟨fun hnone => ?_, fun r hr => ⟨fun hadmit => ?_, fun hadmit => ?_⟩,
      fun port tag slot => ⟨fun hnone => ?_, fun h hfound => exec_holdLong_found hrun hfound⟩⟩⟩
  · rw [exec_hostWriteRequest hon, State.hostRequest_of_barred (by simpa [State.barred] using hbar)]
  · have hbar : ¬ s.barred a true := by simp [State.barred, hcredit, hfence, hlink]
    rw [exec_hostWriteRequest hon, State.hostRequest_of_not_barred hbar, State.received_inH, if_pos hh]
    refine ⟨_, rfl, s.received_outs a true, s.received_dram a true, s.received_wake a true, ?_⟩
    rw [State.updSys_self, State.received_hReqs, State.received_now]
  · subst htile
    intro q
    obtain ⟨-, -, -, -, -, hdrop⟩ := State.carries_iff.mp hc
    rw [← s.received_dropBefore a true] at hdrop
    rw [exec_hostWriteRequest_owned hc hd hr hgood]
    simp only [← s.received_outs a true, ← s.received_code a true, ← s.received_dram a true, ← s.received_tile a true,
      ← s.received_hotCode a true, ← s.received_admitsNew a true, ← s.received_frameOf a true, ← s.received_isHomeless a true]
    refine ⟨fun hl => ⟨_, rfl, State.dispatch_lost_write rfl hdrop hl⟩,
      fun hl hh => ⟨_, rfl, State.dispatch_homeless_write rfl hdrop hl hh⟩,
      fun ha hh => ⟨_, rfl, State.dispatch_absent_write rfl ha hh⟩,
      fun f hl ha hh hf => ⟨fun hadmit => ⟨_, rfl, ?_⟩, fun hdirty hfull => ⟨_, rfl, ?_⟩⟩⟩
    · rw [State.dispatch_accepted rfl rfl hl ha hh hadmit]
      exact ⟨State.acceptWrite_outs hf hdrop, State.code_acceptWrite hf, (State.undisturbed_acceptWrite _ _).bytes,
        State.mem_acceptWrite hf⟩
    · rw [State.dispatch_held rfl rfl hl ha hh hdirty hfull]
      exact State.hold_outcome _ _
  · exact exec_heldWriteRelease_none hrun hnone
  · obtain ⟨k, hk, rfl⟩ := State.mem_held_of_oldestHeld hr
    obtain ⟨hbytes, hheld, hpresent⟩ := State.releaseHeld_tile ⟨k, hk, rfl⟩
    exact ⟨_, (exec_heldWriteRelease_some hrun hr).trans (if_pos hadmit), hbytes, hheld, hpresent⟩
  · exact (exec_heldWriteRelease_some hrun hr).trans (if_neg (ne_true_of_eq_false hadmit))
  · exact exec_holdLong_none hrun hnone

end Sys2Proof.Machine
end

section
/-! PROOFS. Registers with rules of their own for a write: GUARD registers and SCORE_VARIANT (R53, R378). -/

namespace Sys2Proof.Machine

section OwnRules

variable {s : State}

theorem exec_guardRegisterWrite (hon : s.on = true) (src : Src) (latch : Fin 5) (word : Fin 4) (v : Nat) :
    exec (.guardRegisterWrite src latch word v) s = .next (s.write src (0xD0100 + 16 * latch.val + 4 * word.val) 4 v) :=
  s.powered_of_on hon

theorem exec_scoreVariantReqWrite (hon : s.on = true) (src : Src) (v : Nat) :
    exec (.scoreVariantReqWrite src v) s = .next (s.write src 0x20008 4 v) := s.powered_of_on hon

/-- The addresses of the guard latches' words are those of the GUARD registers, which need expert privilege (R27, R399). -/
theorem guardReg_word (latch : Fin 5) (word : Fin 4) : guardReg (0xD0100 + 16 * latch.val + 4 * word.val) = true ∧
    (0xD0100 + 16 * latch.val + 4 * word.val) % 4 = 0 ∧ writePriv (0xD0100 + 16 * latch.val + 4 * word.val) = .expert := by
  revert latch word
  decide

/-- A GUARD register takes no write, frozen or not (R378). -/
theorem State.writeWord_guard {a : Nat} (h : guardReg a = true) (src : Src) (v : Nat) : s.writeWord src a v = s.badAccess src a := by
  unfold State.writeWord
  rw [if_pos h, ite_self]

theorem State.writeWord_variant (h : s.frozen 0x20008 = false) (src : Src) (v : Nat) :
    s.writeWord src 0x20008 v = s.writeVariantReq v := by
  unfold State.writeWord
  rw [if_neg (ne_true_of_eq_false h), if_neg (by decide), if_neg (by decide), if_pos rfl]

/-- REQ is taken from the bits of the word that the register has (R5, R71). -/
theorem bitsAt_req (v : Nat) : bitsAt (v % 2 ^ 32) 8 3 = v / 256 % 8 := by
  unfold bitsAt
  omega

theorem State.write_variant {src : Src} (h : s.holds src .expert = true) (hf : s.frozen 0x20008 = false) (v : Nat) :
    s.write src 0x20008 4 v = if (s.seq.play.tab (v / 256 % 8)).isNone then s.raise 0x047 [d1 (v / 256 % 8)]
      else s.later Reg.SCORE_VARIANT_REQ (v / 256 % 8) := by
  rw [State.write_word h rfl, State.writeWord_variant hf, State.writeVariantReq, bitsAt_req]

end OwnRules

/-- Settles O5: both registers stand behind the same checks of a write; a GUARD register takes none, SCORE_VARIANT a present variant. -/
theorem guardedRegisterWrites : Obligations.GuardedRegisterWrites := by
  unfold Obligations.GuardedRegisterWrites
  refine fun src v s hon => ⟨fun latch word h => ?_, fun h hf => ⟨fun hp => ?_, fun hp => ?_⟩, fun h hf => ?_⟩
  · obtain ⟨hguard, hword, hpriv⟩ := guardReg_word latch word
    rw [exec_guardRegisterWrite hon, State.write_word (hpriv ▸ h) hword, State.writeWord_guard hguard]
  · have hsome : (s.seq.play.tab (v / 256 % 8)).isNone = false := by simpa [Option.isSome_iff_ne_none] using hp
    rw [exec_scoreVariantReqWrite hon, State.write_variant h hf, hsome]
    simp [State.later]
  · have hnone : (s.seq.play.tab (v / 256 % 8)).isNone = true := by simpa using hp
    rw [exec_scoreVariantReqWrite hon, State.write_variant h hf, if_pos hnone]
    rfl
  · rw [exec_scoreVariantReqWrite hon, State.write_word h rfl, State.writeWord_frozen hf]

end Sys2Proof.Machine
end

section
/-! PROOFS. The clocks of the requests that wait: urgency, and the target that is reached (R41, R44). -/

namespace Sys2Proof.Machine

section Clocks

variable (s : State)

/-! ### A request found and changed -/

/-- Is this the request of a port and tag? -/
def HostReq.isOf (port tag : Nat) (r : HostReq) : Bool := decide (r.port = port) && decide (r.tag = tag)

/-- Change the request of a port and tag. -/
def HostReq.onOf (port tag : Nat) (f : HostReq → HostReq) (r : HostReq) : HostReq := if r.port = port && r.tag = tag then f r else r

theorem State.findReq_eq (port tag : Nat) : s.findReq port tag =
    ((channels.findSome? fun c => ((s.ch c).reqs.find? (HostReq.isOf port tag)).map fun r => (c, r))
      <|> ((s.tile.waits ++ s.tile.held.map (·.req)).find? (HostReq.isOf port tag)).map fun r => (((s.frameOf r.tile).getD 0) % 8, r)) :=
  rfl

theorem State.updReq_eq (port tag : Nat) (f : HostReq → HostReq) : s.updReq port tag f =
    (s.each channels fun s c => s.updCh c fun x => { x with reqs := x.reqs.map (HostReq.onOf port tag f) }).updTile fun x => { x with
      waits := x.waits.map (HostReq.onOf port tag f)
      held := x.held.map fun h => { h with req := HostReq.onOf port tag f h.req } } := rfl

variable {s} in
/-- Where a request is found depends on the channels and the tile engine alone. -/
theorem State.findReq_congr {t : State} (hdram : t.dram = s.dram) (htile : t.tile = s.tile) (port tag : Nat) :
    t.findReq port tag = s.findReq port tag := by
  simp only [State.findReq_eq, State.ch, State.frameOf, hdram, htile]

theorem State.count_findReq (f : Field) (n port tag : Nat) : (s.count f n).findReq port tag = s.findReq port tag :=
  State.findReq_congr (t := s.count f n) rfl rfl port tag

theorem State.raise_findReq (n : Nat) (d : List DField) (l : List CxlRec) (port tag : Nat) :
    (s.raise n d l).findReq port tag = s.findReq port tag := State.findReq_congr (t := s.raise n d l) rfl rfl port tag

variable {s} {port tag c : Nat} {r : HostReq} {f : HostReq → HostReq}

theorem HostReq.onOf_of_isOf (h : r.isOf port tag = true) : HostReq.onOf port tag f r = f r := by
  rw [HostReq.onOf, if_pos (by simpa [HostReq.isOf] using h)]

/-- A change that keeps every request's port and tag is found where the request was. -/
theorem find?_map_onOf (hf : ∀ r, (f r).port = r.port ∧ (f r).tag = r.tag) (l : List HostReq) :
    (l.map (HostReq.onOf port tag f)).find? (HostReq.isOf port tag) = (l.find? (HostReq.isOf port tag)).map f := by
  have hkeeps : HostReq.isOf port tag ∘ HostReq.onOf port tag f = HostReq.isOf port tag := by
    funext r
    obtain ⟨hport, htag⟩ := hf r
    simp only [Function.comp, HostReq.onOf]
    split <;> simp [HostReq.isOf, hport, htag]
  rw [List.find?_map, hkeeps]
  exact Option.map_congr fun r hr => HostReq.onOf_of_isOf (List.find?_some hr)

/-- A channel after each channel's own update. -/
theorem State.ch_each_updCh (g : Nat → DramCh → DramCh) (s : State) {k : Nat} (hk : k < 8) :
    (s.each channels fun s c => s.updCh c (g c)).ch k = g k (s.ch k) := by
  obtain ⟨before, after, hb, ha, heq⟩ :=
    foldl_around (σ := State) (name := id) (by simpa using List.nodup_range (n := 8)) (List.mem_range.mpr hk)
  have hother : ∀ l : List Nat, (∀ c ∈ l, id c ≠ id k) → ∀ u : State,
      (l.foldl (fun s c => s.updCh c (g c)) u).ch k = u.ch k := fun l hl =>
    foldl_unchanged (look := fun u : State => u.ch k) fun u c hc => u.ch_updCh_ne _ hk (hl c hc).symm
  rw [State.each, channels, heq, hother after ha, State.ch_updCh_self _ _ hk, hother before hb]

theorem State.each_updCh_frame (g : Nat → DramCh → DramCh) (l : List Nat) (s : State) :
    ∃ chans, (s.each l fun s c => s.updCh c (g c)) = { s with dram := { s.dram with chans := chans } } := by
  induction l generalizing s with
  | nil => exact ⟨_, rfl⟩
  | cons c l ih =>
    obtain ⟨chans, h⟩ := ih (s.updCh c (g c))
    exact ⟨chans, h⟩

theorem State.ch_updReq {k : Nat} (hk : k < 8) : (s.updReq port tag f).ch k =
    { s.ch k with reqs := (s.ch k).reqs.map (HostReq.onOf port tag f) } := by
  rw [State.updReq_eq, State.updTile_ch]
  exact State.ch_each_updCh (fun _ x => { x with reqs := x.reqs.map (HostReq.onOf port tag f) }) s hk

theorem State.updReq_frame (port tag : Nat) (f : HostReq → HostReq) (s : State) : ∃ chans, s.updReq port tag f = { s with
    dram := { s.dram with chans := chans }
    tile := { s.tile with
      waits := s.tile.waits.map (HostReq.onOf port tag f)
      held := s.tile.held.map fun h => { h with req := HostReq.onOf port tag f h.req } } } := by
  obtain ⟨chans, h⟩ := State.each_updCh_frame (fun _ x => { x with reqs := x.reqs.map (HostReq.onOf port tag f) }) channels s
  refine ⟨chans, ?_⟩
  rw [State.updReq_eq, h]
  rfl

theorem State.updReq_now (s : State) (port tag : Nat) (f : HostReq → HostReq) : (s.updReq port tag f).now = s.now := by
  obtain ⟨chans, h⟩ := State.updReq_frame port tag f s
  rw [h]
  rfl

/-- Where a change keeps a request's port, tag and tile, the request is found changed, on the same channel. -/
theorem State.findReq_updReq (hf : ∀ r, (f r).port = r.port ∧ (f r).tag = r.tag) (htile : ∀ r, (f r).tile = r.tile) :
    (s.updReq port tag f).findReq port tag = (s.findReq port tag).map fun x => (x.1, f x.2) := by
  obtain ⟨chans, hframe⟩ := State.updReq_frame port tag f s
  have hqueues : (channels.findSome? fun c =>
        (((s.updReq port tag f).ch c).reqs.find? (HostReq.isOf port tag)).map fun r => (c, r)) =
      (channels.findSome? fun c => ((s.ch c).reqs.find? (HostReq.isOf port tag)).map fun r => (c, r)).map
        fun x => (x.1, f x.2) := by
    rw [List.map_findSome?, ← List.head?_filterMap, ← List.head?_filterMap]
    refine congrArg List.head? (List.filterMap_congr fun c hc => ?_)
    rw [State.ch_updReq (List.mem_range.mp hc), find?_map_onOf hf]
    simp only [Function.comp_def, Option.map_map]
  have hothers : ((s.updReq port tag f).tile.waits ++ (s.updReq port tag f).tile.held.map (·.req)) =
      (s.tile.waits ++ s.tile.held.map (·.req)).map (HostReq.onOf port tag f) := by
    rw [hframe]
    simp
  have hplace : ∀ t, (s.updReq port tag f).frameOf t = s.frameOf t := fun t => by rw [hframe]; rfl
  rw [State.findReq_eq, hqueues, hothers, find?_map_onOf hf, State.findReq_eq]
  simp only [hplace, Option.orElse_eq_orElse, Option.orElse_eq_or, Option.map_or, Option.map_map, Function.comp_def, htile]

/-! ### The target (R41, R44, R184) -/

/-- The target is the nanoseconds in slots of 0.625 ns, rounded down. -/
theorem State.targetSlots_read (s : State) (p : Nat) : s.targetSlots p false * 5 ≤ s.get (Reg.HPORT_LAT_TARGET_READ_NS p) * 8 ∧
    s.get (Reg.HPORT_LAT_TARGET_READ_NS p) * 8 < s.targetSlots p false * 5 + 5 := by
  simp only [State.targetSlots, Bool.false_eq_true, if_false]
  omega

theorem State.targetSlots_write (s : State) (p : Nat) : s.targetSlots p true * 5 ≤ s.get (Reg.HPORT_LAT_TARGET_WRITE_NS p) * 8 ∧
    s.get (Reg.HPORT_LAT_TARGET_WRITE_NS p) * 8 < s.targetSlots p true * 5 + 5 := by
  simp only [State.targetSlots, if_true]
  omega

@[simp] theorem State.at_targetSlots (s : State) (k p : Nat) (write : Bool) : (s.at k).targetSlots p write = s.targetSlots p write := by
  simp only [State.targetSlots, State.at_get]

/-- The levels of urgency lie between their bounds, in order. -/
theorem urgencyOf_levels {t : Nat} (ht : t ≠ 0) (e : Nat) :
    (urgencyOf t e = 0 ↔ e < t / 2) ∧ (urgencyOf t e = 1 ↔ t / 2 ≤ e ∧ e < t * 3 / 4) ∧
    (urgencyOf t e = 2 ↔ t * 3 / 4 ≤ e ∧ e < t * 9 / 10) ∧ (urgencyOf t e = 3 ↔ t * 9 / 10 ≤ e) := by
  have hhalf : t / 2 ≤ t * 3 / 4 := by omega
  have hthree : t * 3 / 4 ≤ t * 9 / 10 := by omega
  unfold urgencyOf
  rw [if_neg ht]
  split_ifs <;> simp <;> omega

theorem urgencyOf_mono (t : Nat) {e e' : Nat} (h : e ≤ e') : urgencyOf t e ≤ urgencyOf t e' := by
  unfold urgencyOf
  split_ifs <;> omega

/-! ### The commands -/

variable (slot : Fin 6240)

theorem State.at_findReq (s : State) (k port tag : Nat) : (s.at k).findReq port tag = s.findReq port tag :=
  State.findReq_congr (s.at_dram k) (s.at_tile k) port tag

theorem State.now_at (s : State) (k : Nat) : (s.at k).now = s.bar * 6240 + k := by
  rw [State.now, State.at_bar, State.at_slot]

theorem exec_urgencyRise {port : Fin 4} (hrun : s.running = true) (h : s.findReq port tag = some (c, r)) :
    exec (.urgencyRise port tag slot) s = .next ((s.at slot).updReq port tag fun x =>
      { x with urgency := urgencyOf (s.targetSlots r.port r.write) (s.bar * 6240 + slot - r.stamp) }) := by
  refine (s.engines_of_running hrun).trans ?_
  simp only [State.at_findReq, h, State.urgency, State.at_targetSlots, State.now_at]

theorem exec_urgencyRise_none {port : Fin 4} (hrun : s.running = true) (h : s.findReq port tag = none) :
    exec (.urgencyRise port tag slot) s = .next (s.at slot) := by
  refine (s.engines_of_running hrun).trans ?_
  simp only [State.at_findReq, h]

/-- The request of a port and tag, on a channel, has reached its target after so many slots: it stays at urgency 3, is counted and is
reported (R44). -/
def State.targetReached (s : State) (port : Fin 4) (tag c elapsed : Nat) : State :=
  ((s.updReq port tag fun x => { x with urgency := 3, exceeded := true }).count
    (Reg.HPORT_LAT_STAT_EXCEEDED port)).raise 0x04A [dPort port, d1 c, d4 elapsed]

theorem exec_latencyTargetReached {port : Fin 4} (hrun : s.running = true) (h : s.findReq port tag = some (c, r)) :
    exec (.latencyTargetReached port tag slot) s =
      if s.targetSlots port r.write = 0 ∨ r.exceeded = true ∨ s.bar * 6240 + slot - r.stamp < s.targetSlots port r.write then
        .next (s.at slot)
      else .next ((s.at slot).targetReached port tag c (s.bar * 6240 + slot - r.stamp)) := by
  refine (s.engines_of_running hrun).trans ?_
  simp only [State.at_findReq, h, State.at_targetSlots, State.now_at, Bool.or_eq_true, decide_eq_true_eq, or_assoc, State.targetReached,
    State.updReq_now]

theorem exec_latencyTargetReached_none {port : Fin 4} (hrun : s.running = true) (h : s.findReq port tag = none) :
    exec (.latencyTargetReached port tag slot) s = .next (s.at slot) := by
  refine (s.engines_of_running hrun).trans ?_
  simp only [State.at_findReq, h]

/-- Besides the count and the event, a target that is reached changes nothing but the request, which stands where it was. -/
theorem State.targetReached_outcome {port : Fin 4} (h : s.findReq port tag = some (c, r)) (e : Nat) :
    let t := (s.at slot).targetReached port tag c e
    t.findReq port tag = some (c, { r with urgency := 3, exceeded := true }) ∧
      t.get (Reg.HPORT_LAT_STAT_EXCEEDED port) = min (s.get (Reg.HPORT_LAT_STAT_EXCEEDED port) + 1) 65535 ∧
      (∀ f : Field, f.key ≠ (Reg.HPORT_LAT_STAT_EXCEEDED port).key → t.get f = s.get f) ∧
      t.raised = s.raised ++ [⟨0x04A, [⟨1, port, .port⟩, ⟨1, c, .plain⟩, ⟨4, e, .plain⟩], s.bar, []⟩] ∧
      { t with regs := s.regs, slotIncs := s.slotIncs, slot := s.slot, slotSets := s.slotSets, raised := s.raised, dram := s.dram,
               tile := s.tile } = s := by
  obtain ⟨slotIncs, slotSets, hat⟩ := s.at_frame slot
  obtain ⟨chans, hframe⟩ := State.updReq_frame port tag (fun x => { x with urgency := 3, exceeded := true }) (s.at slot)
  have hfound : ((s.at slot).targetReached port tag c e).findReq port tag =
      some (c, { r with urgency := 3, exceeded := true }) := by
    rw [State.targetReached, State.raise_findReq, State.count_findReq,
      State.findReq_updReq (f := fun x => { x with urgency := 3, exceeded := true }) (fun _ => ⟨rfl, rfl⟩) fun _ => rfl,
      State.at_findReq, h]
    rfl
  have hget : ∀ f, ((s.at slot).updReq port tag fun x => { x with urgency := 3, exceeded := true }).get f = s.get f := by
    intro f
    rw [hframe, hat]
    rfl
  refine ⟨hfound, ?_, fun f hf => ?_, ?_, ?_⟩
  · rw [State.targetReached, State.raise_get, State.get_count_self, satW_mod, hget]
    rfl
  · rw [State.targetReached, State.raise_get, State.get_count_ne _ _ hf, hget]
  · rw [State.targetReached, hframe, hat]
    rfl
  · rw [State.targetReached, hframe, hat]
    rfl

end Clocks

/-- Settles O14: the request is found where it waits, and judged against its port's target. -/
theorem queueClocks : Obligations.QueueClocks := by
  unfold Obligations.QueueClocks
  refine ⟨fun port tag slot s c r hrun h => ⟨exec_urgencyRise slot hrun h, fun hnot => ?_, fun ht he hreached => ?_⟩,
    fun port tag slot s hrun h => ⟨exec_urgencyRise_none slot hrun h, exec_latencyTargetReached_none slot hrun h⟩,
    fun s p => ⟨s.targetSlots_read p, s.targetSlots_write p⟩, fun e => rfl, fun t e ht => ?_⟩
  · rw [exec_latencyTargetReached slot hrun h, if_pos hnot]
  · refine ⟨_, (exec_latencyTargetReached slot hrun h).trans (if_neg ?_), State.targetReached_outcome slot h _⟩
    simp [ht, he, hreached]
  · obtain ⟨h0, h1, h2, h3⟩ := urgencyOf_levels ht e
    exact ⟨h0, h1, h2, h3, fun e' he => urgencyOf_mono t he⟩

end Sys2Proof.Machine
end

section
/-! PROOFS. The variant in force: the switch that was put off, and the end of the hot condition (R51, R52). -/

namespace Sys2Proof.Machine

section Variants

variable {s : State}

/-! ### The choice of a variant (R52) -/

theorem State.wanted_eq (s : State) : s.wanted =
    if s.flag Reg.SCORE_STAT_HOT = true ∧ s.rateOf (s.get Reg.SCORE_VARIANT_REQ) = 1 then 1 else s.get Reg.SCORE_VARIANT_REQ := by
  simp only [State.wanted, Bool.and_eq_true, decide_eq_true_eq]

/-- The variant is chosen, and where it changes the bar is planned afresh. -/
def State.reselect (s : State) : State :=
  if (s.selectVariant false).2.1 then (s.selectVariant false).1.planBar true false false else (s.selectVariant false).1

theorem State.reselect_same (h : s.wanted = s.active) : s.reselect = s.set Reg.SCORE_VARIANT_REQ_PENDING 0 := by
  simp [State.reselect, State.selectVariant, h]

theorem State.reselect_debt (h : s.wanted ≠ s.active) (hdebt : s.anyDebt = true) :
    s.reselect = s.set Reg.SCORE_VARIANT_REQ_PENDING 1 := by
  simp [State.reselect, State.selectVariant, h, hdebt]

theorem State.reselect_switch (h : s.wanted ≠ s.active) (hdebt : s.anyDebt = false) :
    s.reselect = (s.switchTo s.wanted false).planBar true false false := by
  simp [State.reselect, State.selectVariant, h, hdebt]

/-- A switch that is not forced sets the three fields of SCORE_VARIANT, raises 0x040, and inherits no debt. -/
theorem State.switchTo_unforced (s : State) (v : Nat) : s.switchTo v false =
    (((s.set Reg.SCORE_VARIANT_ACTIVE v).set Reg.SCORE_VARIANT_REQ_PENDING 0).set Reg.SCORE_VARIANT_HOT_CAP
      (bit (s.rateOf v = 2))).raise 0x040 [d1 s.active, d1 v] := rfl

theorem State.switchTo_unforced_outcome (s : State) (v : Nat) :
    let t := s.switchTo v false
    t.get Reg.SCORE_VARIANT_ACTIVE = v % 8 ∧ t.get Reg.SCORE_VARIANT_REQ_PENDING = 0 ∧
      t.get Reg.SCORE_VARIANT_HOT_CAP = bit (s.rateOf v = 2) ∧
      t.raised = s.raised ++ [⟨0x040, [⟨1, s.active, .plain⟩, ⟨1, v, .plain⟩], s.bar, []⟩] ∧
      (∀ f : Field, f.key ≠ Reg.SCORE_VARIANT_ACTIVE.key → f.key ≠ Reg.SCORE_VARIANT_REQ_PENDING.key →
        f.key ≠ Reg.SCORE_VARIANT_HOT_CAP.key → t.get f = s.get f) ∧
      { t with regs := s.regs, raised := s.raised } = s := by
  dsimp only
  rw [State.switchTo_unforced]
  refine ⟨?_, ?_, ?_, rfl, fun f ha hr hc => ?_, rfl⟩
  · rw [State.raise_get, State.get_set_ne _ _ (by decide), State.get_set_ne _ _ (by decide), State.get_set_self]
    rfl
  · rw [State.raise_get, State.get_set_ne _ _ (by decide), State.get_set_self]
    rfl
  · rw [State.raise_get, State.get_set_self]
    cases decide (s.rateOf v = 2) <;> rfl
  · rw [State.raise_get, State.get_set_ne _ _ hc, State.get_set_ne _ _ hr, State.get_set_ne _ _ ha]

/-! ### The switch put off -/

theorem exec_deferredVariantSwitch (hrun : s.running = true) : exec .deferredVariantSwitch s =
    if s.atDownbeat && s.flag Reg.SCORE_VARIANT_REQ_PENDING && !s.anyDebt && !s.saving then .next s.reselect else .next s :=
  s.engines_of_running hrun

/-! ### The end of the hot condition (R51) -/

theorem exec_hotConditionEndCheck (hrun : s.running = true) : exec .hotConditionEndCheck s =
    if s.atDownbeat && s.flag Reg.SCORE_STAT_HOT && s.phraseStart && s.seq.hotJudged ≠ s.bar then .next s.hotEndCheck
    else .next s :=
  s.engines_of_running hrun

/-- Every channel in service reports cool. -/
def State.allCool (s : State) : Prop := ∀ c ∈ channels, s.serving c = true → s.reportsCool c = true

/-- The phrase start is judged with a tally. -/
def State.judged (s : State) (tally : Nat) : State := s.updSeq fun q => { q with hotTally := tally, hotJudged := s.bar }

/-- HOT ends with 0x042, and the tally starts again. -/
def State.cooled (s : State) : State :=
  (((s.judged (s.seq.hotTally + 1)).set Reg.SCORE_STAT_HOT 0).updSeq fun q => { q with hotTally := 0 }).raise 0x042

theorem State.all_cool_iff (s : State) : (channels.all fun c => !(s.serving c) || s.reportsCool c) = true ↔ s.allCool := by
  simp only [List.all_eq_true, Bool.or_eq_true, Bool.not_eq_true', State.allCool, ← Bool.not_eq_true, imp_iff_not_or]

/-- A tally ends the hot condition from HOT_DWELL on, without FORCE_HOT and with the crystal running. -/
def State.endsHot (s : State) (tally : Nat) : Bool :=
  decide (max 1 (s.get Reg.SCORE_CTL_HOT_DWELL) ≤ tally) && !(s.flag Reg.SCORE_CTL_FORCE_HOT) && !s.sys.clockFault

theorem State.hotEndCheck_of_not_cool (h : ¬ s.allCool) : s.hotEndCheck = s.judged 0 := by
  have hcool : (channels.all fun c => !(s.serving c) || s.reportsCool c) = false := by
    rw [← Bool.not_eq_true, State.all_cool_iff]
    exact h
  unfold State.hotEndCheck
  rw [hcool]
  simp [State.judged]

theorem State.hotEndCheck_of_cool (h : s.allCool) : s.hotEndCheck =
    if s.endsHot (s.seq.hotTally + 1) then (if s.cooled.saving then s.cooled else s.cooled.reselect)
    else s.judged (s.seq.hotTally + 1) := by
  unfold State.hotEndCheck
  rw [s.all_cool_iff.mpr h]
  rfl

/-- Not before HOT_DWELL, nor under FORCE_HOT or a crystal fault. -/
theorem State.not_endsHot {n : Nat} (h : n < max 1 (s.get Reg.SCORE_CTL_HOT_DWELL) ∨ s.flag Reg.SCORE_CTL_FORCE_HOT = true ∨
    s.sys.clockFault = true) : s.endsHot n = false := by
  unfold State.endsHot
  obtain h | h | h := h
  · rw [decide_eq_false (by omega)]
    rfl
  · simp [h]
  · simp [h]

theorem State.get_cooled_ne (s : State) {f : Field} (h : f.key ≠ Reg.SCORE_STAT_HOT.key) : s.cooled.get f = s.get f :=
  (s.judged (s.seq.hotTally + 1)).get_set_ne 0 h

theorem State.cooled_saving (s : State) : s.cooled.saving = s.saving := by
  simp only [State.saving, s.get_cooled_ne (show Reg.TILE_SAVE_STAT_STATE.key ≠ Reg.SCORE_STAT_HOT.key by decide)]

theorem State.cooled_outcome (s : State) : s.cooled.get Reg.SCORE_STAT_HOT = 0 ∧
    s.cooled.raised = s.raised ++ [⟨0x042, [], s.bar, []⟩] ∧ s.cooled.seq.hotTally = 0 ∧
    (∀ f : Field, f.key ≠ Reg.SCORE_STAT_HOT.key → s.cooled.get f = s.get f) ∧
    { s.cooled with regs := s.regs, raised := s.raised, seq := s.seq } = s :=
  ⟨(s.judged (s.seq.hotTally + 1)).get_set_self Reg.SCORE_STAT_HOT 0, rfl, rfl, fun _ hf => s.get_cooled_ne hf, rfl⟩

end Variants

/-- Settles O13: the choice of R52, made where it was put off and again where the hot condition ends. -/
theorem variantsSwitchAndCool : Obligations.VariantsSwitchAndCool := by
  unfold Obligations.VariantsSwitchAndCool
  refine ⟨fun s hrun => ⟨fun h => ?_, fun hdown hpend hdebt hsave => ⟨fun hw => ?_, fun hw => ?_⟩⟩, State.wanted_eq,
    fun s hrun => ⟨fun h => ?_, fun hdown hhot hstart hnew => ?_⟩⟩
  · rw [exec_deferredVariantSwitch hrun, if_neg]
    obtain h | h | h | h := h <;> simp [h]
  · rw [exec_deferredVariantSwitch hrun, if_pos (by simp [hdown, hpend, hdebt, hsave]), State.reselect_same hw]
  · refine ⟨s.switchTo s.wanted false, ?_, s.switchTo_unforced_outcome s.wanted⟩
    rw [exec_deferredVariantSwitch hrun, if_pos (by simp [hdown, hpend, hdebt, hsave]), State.reselect_switch hw hdebt]
  · rw [exec_hotConditionEndCheck hrun, if_neg]
    obtain h | h | h | h := h <;> simp [h]
  · rw [exec_hotConditionEndCheck hrun, if_pos (by simp [hdown, hhot, hstart, hnew])]
    refine ⟨fun ⟨c, hc, hserves, hwarm⟩ => ?_, fun hcool => ⟨fun hnot => ?_, fun hdwell hforce hclock => ?_⟩⟩
    · rw [State.hotEndCheck_of_not_cool fun h => absurd (h c hc hserves) (ne_true_of_eq_false hwarm)]
      rfl
    · rw [State.hotEndCheck_of_cool hcool, State.not_endsHot hnot]
      rfl
    · have hends : s.endsHot (s.seq.hotTally + 1) = true := by simp [State.endsHot, hdwell, hforce, hclock]
      obtain ⟨hoff, hraised, htally, hother, hframe⟩ := s.cooled_outcome
      rw [State.hotEndCheck_of_cool hcool, if_pos hends, State.cooled_saving]
      refine ⟨s.cooled, hoff, hraised, htally, hother, hframe, fun h => ?_, fun h hw hdebt => ?_, fun h hw hdebt => ?_,
        fun h hw => ?_⟩
      · rw [if_pos h]
      · rw [if_neg (ne_true_of_eq_false h), State.reselect_switch hw hdebt]
      · rw [if_neg (ne_true_of_eq_false h), State.reselect_debt hw hdebt]
      · rw [if_neg (ne_true_of_eq_false h), State.reselect_same hw]

end Sys2Proof.Machine
end

section
/-! PROOFS. What serves every packet: its answer where it is applied, its parameters; and folds that set one field, or one part of the
state, at a time (R6, R471, R476, R477). -/

namespace Sys2Proof.Machine

/-! ### Answers -/

section Answers

variable {o : PktOp} {p : Pkt} {s t : State}

theorem PktOp.command_of_refuse (h : o.reaches p s = true) {st : Nat} (hrun : o.run (Pkt.as p o.opcode) s = .refuse s st)
    (hst : st ≠ stLater) : o.command p s = s.ended o p st := by
  rw [PktOp.command_of_reaches h, hrun, OpResult.finish_refuse hst]
  rfl

theorem PktOp.command_of_ok (h : o.reaches p s = true) {data : List Byte} (hrun : o.run (Pkt.as p o.opcode) s = .ok t data) :
    o.command p s = t.ended o p stOk data := by
  rw [PktOp.command_of_reaches h, hrun, OpResult.finish_ok]
  rfl

/-- A packet that reaches its application has parameters in form (R474). -/
theorem PktOp.paramsOk_of_reaches (h : o.reaches p s = true) : o.paramsOk p.expert p.params = true := by
  simp only [PktOp.reaches, Bool.and_eq_true] at h
  obtain ⟨⟨⟨-, h⟩, -⟩, -⟩ := h
  exact h

end Answers

/-! ### Parameters -/

theorem leNat_lt (bs : List Byte) : leNat bs < 256 ^ bs.length := by
  induction bs with
  | nil => decide
  | cons b bs ih =>
    have hb := b.isLt
    rw [leNat, List.length_cons, pow_succ]
    omega

theorem leAt_lt (bs : List Byte) (off n : Nat) : leAt bs off n < 256 ^ n := by
  have h := leNat_lt (sliceBytes bs off n)
  rwa [length_sliceBytes] at h

theorem Pkt.u16_lt (p : Pkt) (o : Nat) : p.u16 o < 65536 := leAt_lt _ _ 2

/-! ### Fields at other addresses -/

/-- Fields of different registers have different keys. -/
theorem key_ne_of_addr_ne {f g : Field} (hf : f.lo < 32) (hg : g.lo < 32) (h : f.addr ≠ g.addr) : f.key ≠ g.key :=
  fun he => h (Field.key_inj hf hg he).1

/-! ### Registers alone -/

/-- Two states that differ in registers alone. -/
def State.onlyRegs (s t : State) : Prop := ∃ regs, t = { s with regs := regs }

theorem State.onlyRegs_refl (s : State) : s.onlyRegs s := ⟨_, rfl⟩

theorem State.onlyRegs_trans {s t u : State} (h : s.onlyRegs t) (h' : t.onlyRegs u) : s.onlyRegs u := by
  obtain ⟨_, rfl⟩ := h
  obtain ⟨regs, rfl⟩ := h'
  exact ⟨regs, rfl⟩

theorem State.onlyRegs_set (s : State) (f : Field) (v : Nat) : s.onlyRegs (s.set f v) := ⟨_, rfl⟩

/-! ### Folds -/

section Folds

variable {α : Type}

/-- What relates a state to the state after each step, and chains, relates it to the state after the fold. -/
theorem State.each_related {R : State → State → Prop} (hrefl : ∀ s, R s s) (htrans : ∀ {s t u}, R s t → R t u → R s u)
    {step : State → α → State} (h : ∀ s x, R s (step s x)) (l : List α) (s : State) : R s (s.each l step) := by
  induction l generalizing s with
  | nil => exact hrefl s
  | cons x l ih => exact htrans (h s x) (ih (step s x))

variable {place : α → Field} {v : α → Nat} {l : List α}

/-- A fold that sets fields of different keys leaves each with its value. -/
theorem State.get_each_set (hnd : (l.map fun x => (place x).key).Nodup) {x : α} (hx : x ∈ l) (s : State) :
    (s.each l fun s x => s.set (place x) (v x)).get (place x) = v x % 2 ^ (place x).width := by
  obtain ⟨before, after, -, ha, heq⟩ := foldl_around (σ := State) hnd hx
  rw [State.each, heq, foldl_unchanged (look := fun u : State => u.get (place x)) fun u y hy => u.get_set_ne _ (ha y hy).symm,
    State.get_set_self]

theorem State.get_each_set_ne {g : Field} (h : ∀ x ∈ l, g.key ≠ (place x).key) (s : State) :
    (s.each l fun s x => s.set (place x) (v x)).get g = s.get g :=
  foldl_unchanged (look := fun u : State => u.get g) (fun u x hx => u.get_set_ne _ (h x hx)) s

theorem State.onlyRegs_each_set (place : α → Field) (v : α → Nat) (l : List α) (s : State) :
    s.onlyRegs (s.each l fun s x => s.set (place x) (v x)) :=
  State.each_related State.onlyRegs_refl State.onlyRegs_trans (fun s _ => s.onlyRegs_set _ _) l s

end Folds

end Sys2Proof.Machine
end

section
/-! PROOFS. PORT_CONFIG and LATENCY_TARGET_SET (R45, R166, R184, R185, R194). -/

namespace Sys2Proof.Machine

section Ports

variable {s : State}

/-! ### The figure of the GPF DVSEC (R187, R190) -/

/-- Two states that differ in the ports' memory, and in records logged after those of the first. -/
def State.onlyLogs (s t : State) : Prop := ∃ cxl more, t = { s with cxl := cxl, raised := s.raised ++ more }

theorem State.onlyLogs_refl (s : State) : s.onlyLogs s := ⟨s.cxl, [], by rw [List.append_nil]⟩

theorem State.onlyLogs_trans {t u : State} (h : s.onlyLogs t) (h' : t.onlyLogs u) : s.onlyLogs u := by
  obtain ⟨_, more, rfl⟩ := h
  obtain ⟨cxl, more', rfl⟩ := h'
  exact ⟨cxl, more ++ more', by simp only [List.append_assoc]⟩

/-- Logging a record leaves the registers, DRAM and the tile engine alone, and every event that was raised. -/
theorem State.onlyLogs_outcome {t : State} (h : s.onlyLogs t) :
    (∀ f, t.get f = s.get f) ∧ (∀ e ∈ s.raised, e ∈ t.raised) ∧ t.dram = s.dram ∧ t.tile = s.tile := by
  obtain ⟨_, _, rfl⟩ := h
  exact ⟨fun _ => rfl, fun _ => List.mem_append_left _, rfl, rfl⟩

theorem State.onlyLogs_cdatChange (s : State) (p : Nat) (lds : List Nat) : s.onlyLogs (s.cdatChange p lds) :=
  State.each_related State.onlyLogs_refl State.onlyLogs_trans (fun s _ => ⟨s.cxl, _, rfl⟩) lds s

theorem State.onlyLogs_updGpf (s : State) : s.onlyLogs s.updGpf := by
  refine State.each_related State.onlyLogs_refl State.onlyLogs_trans (fun s p => ?_) ports s
  dsimp only
  split
  · exact s.onlyLogs_refl
  · have hport : s.onlyLogs (s.updPort p fun x => { x with gpfFigure := s.gpfFigureOf p }) := ⟨_, [], by rw [List.append_nil]; rfl⟩
    exact State.onlyLogs_trans hport (State.onlyLogs_cdatChange _ _ _)

/-! ### A configuration takes effect (R194) -/

/-- The link trains where it may: LINK_STATE alone may change (R193). -/
theorem State.trainPort_eq (s : State) (n : Nat) : ∃ v, s.trainPort n = s ∨ s.trainPort n = s.set (Reg.HPORT_STAT_LINK_STATE n) v := by
  unfold State.trainPort
  split
  · exact ⟨_, .inr rfl⟩
  · exact ⟨0, .inl rfl⟩

/-- The five fields of HPORT_n_CFG hold a configuration. -/
def State.setCfg (s : State) (n cfg : Nat) : State :=
  ((((s.set (Reg.HPORT_CFG_ENABLE n) (bitsAt cfg 31 1)).set (Reg.HPORT_CFG_MLD n) (bitsAt cfg 30 1)).set
    (Reg.HPORT_CFG_LD_COUNT n) (bitsAt cfg 25 5)).set (Reg.HPORT_CFG_ISOCH n) (bitsAt cfg 24 1)).set
    (Reg.HPORT_CFG_GPF_MODE n) (bitsAt cfg 23 1)

/-- Two states that differ in fields of one register alone. -/
structure State.OnlyReg (a : Nat) (s t : State) : Prop where
  frame : s.onlyRegs t
  other : ∀ f : Field, f.addr ≠ a → f.lo < 32 → t.get f = s.get f

theorem State.OnlyReg.refl (a : Nat) (s : State) : State.OnlyReg a s s := ⟨s.onlyRegs_refl, fun _ _ _ => rfl⟩

theorem State.OnlyReg.set {a : Nat} {t : State} (h : State.OnlyReg a s t) (f : Field) (v : Nat) (ha : f.addr = a := by rfl)
    (hf : f.lo < 32 := by simp) : State.OnlyReg a s (t.set f v) := by
  refine ⟨State.onlyRegs_trans h.frame (t.onlyRegs_set f v), fun g hg hlo => ?_⟩
  rw [State.get_set_ne _ _ (key_ne_of_addr_ne hlo hf (ha ▸ hg)), h.other g hg hlo]

theorem State.onlyReg_setCfg (s : State) (n cfg : Nat) : State.OnlyReg (cfgWord n) s (s.setCfg n cfg) :=
  (((((State.OnlyReg.refl _ s).set (Reg.HPORT_CFG_ENABLE n) _).set (Reg.HPORT_CFG_MLD n) _).set (Reg.HPORT_CFG_LD_COUNT n) _).set
    (Reg.HPORT_CFG_ISOCH n) _).set (Reg.HPORT_CFG_GPF_MODE n) _

/-- What HPORT_n_STAT shows of a configuration. -/
theorem State.applyCfg_eq (s : State) (n cfg : Nat) : ∃ u d, State.OnlyReg (0x60000 + 0x4000 * n) (s.setCfg n cfg) u ∧
    s.applyCfg n cfg = (u.raise (srcPort n 11) d).updGpf := by
  have hshown : State.OnlyReg (0x60000 + 0x4000 * n) (s.setCfg n cfg) ((s.setCfg n cfg).showLds n) :=
    (State.OnlyReg.refl _ _).set (Reg.HPORT_STAT_LD_COUNT n) _
  have htrained : State.OnlyReg (0x60000 + 0x4000 * n) (s.setCfg n cfg) (((s.setCfg n cfg).showLds n).trainPort n) := by
    obtain ⟨v, h | h⟩ := ((s.setCfg n cfg).showLds n).trainPort_eq n
    · rwa [h]
    · rw [h]
      exact hshown.set (Reg.HPORT_STAT_LINK_STATE n) v
  exact ⟨_, _, (htrained.set (Reg.HPORT_STAT_GPF_MODE n) _).set (Reg.HPORT_STAT_ISOCH n) _, rfl⟩

/-- The five fields of the configuration. -/
theorem State.get_setCfg (s : State) (n cfg : Nat) :
    (s.setCfg n cfg).get (Reg.HPORT_CFG_ENABLE n) = bitsAt cfg 31 1 ∧ (s.setCfg n cfg).get (Reg.HPORT_CFG_MLD n) = bitsAt cfg 30 1 ∧
      (s.setCfg n cfg).get (Reg.HPORT_CFG_LD_COUNT n) = bitsAt cfg 25 5 ∧
      (s.setCfg n cfg).get (Reg.HPORT_CFG_ISOCH n) = bitsAt cfg 24 1 ∧
      (s.setCfg n cfg).get (Reg.HPORT_CFG_GPF_MODE n) = bitsAt cfg 23 1 := by
  simp [State.setCfg, State.get_set, bitsAt]

/-- A configuration leaves every register but HPORT_n_CFG and HPORT_n_STAT alone; k = 11 is raised (R194, R197). -/
theorem State.applyCfg_outcome (s : State) (n cfg : Nat) :
    (∀ f : Field, f.addr = cfgWord n → f.lo < 32 → (s.applyCfg n cfg).get f = (s.setCfg n cfg).get f) ∧
      (∀ f : Field, f.addr ≠ cfgWord n → f.addr ≠ 0x60000 + 0x4000 * n → f.lo < 32 → (s.applyCfg n cfg).get f = s.get f) ∧
      (∃ e ∈ (s.applyCfg n cfg).raised, e.src = srcPort n 11) ∧ (s.applyCfg n cfg).dram = s.dram ∧
      (s.applyCfg n cfg).tile = s.tile := by
  obtain ⟨u, d, hu, happly⟩ := s.applyCfg_eq n cfg
  obtain ⟨hlogGet, hlogRaised, hlogDram, hlogTile⟩ := State.onlyLogs_outcome (u.raise (srcPort n 11) d).onlyLogs_updGpf
  obtain ⟨⟨_, hset⟩, hsetGet⟩ := s.onlyReg_setCfg n cfg
  obtain ⟨⟨_, hframe⟩, hget⟩ := hu
  have hu : ∀ f : Field, f.addr ≠ 0x60000 + 0x4000 * n → f.lo < 32 → (s.applyCfg n cfg).get f = (s.setCfg n cfg).get f :=
    fun f ha hlo => by rw [happly, hlogGet, State.raise_get, hget f ha hlo]
  refine ⟨fun f hf hlo => hu f (by rw [hf, cfgWord]; omega) hlo, fun f hcfg hstat hlo => (hu f hstat hlo).trans (hsetGet f hcfg hlo),
    ?_, ?_, ?_⟩
  · rw [happly]
    exact ⟨_, hlogRaised _ (List.mem_append_right _ List.mem_cons_self), rfl⟩
  · rw [happly, hlogDram, State.raise_dram, hframe, hset]
  · rw [happly, hlogTile, State.raise_tile, hframe, hset]

/-! ### PORT_CONFIG (R166, R184) -/

/-- The configuration a packet asks for: the basic form changes ISOCH and GPF_MODE alone. -/
def State.newCfg (s : State) (p : Pkt) : Nat :=
  if p.expert then p.u32 4
  else s.word (cfgWord (p.u8 0)) - bitsAt (s.word (cfgWord (p.u8 0))) 23 2 * 2 ^ 23 + bitsAt (p.u32 4) 23 2 * 2 ^ 23

/-- The size of an LD that a packet asks for. -/
def State.newSize (s : State) (p : Pkt) (l : Nat) : Nat :=
  if p.expert then p.u16 (8 + 2 * l) else s.get (Reg.HPORT_LD_LD_SIZE (p.u8 0) l)

/-- The port after PORT_CONFIG. -/
def State.configured (s : State) (n cfg : Nat) (size : Nat → Nat) : State :=
  ((s.each (List.range 16) fun s l => s.set (Reg.HPORT_LD_LD_SIZE n l) (size l)).applyCfg n cfg).bump (Reg.HPORT_GEN_GEN n)

/-- Is a size of the expert form out of range (R166)? -/
def State.sizeBad (s : State) (p : Pkt) : Bool := p.expert && !((List.range 16).all fun l => decide (s.newSize p l ≤ 2048))

theorem opPortConfig_eq (p : Pkt) (s : State) : opPortConfig p s =
    if !(p.genOk (s.get (Reg.HPORT_GEN_GEN (p.u8 0)))) then .refuse s stStale
    else if s.countBad (p.u8 0) (countOf (s.newCfg p)) || s.sizeBad p then .refuse s stInvalid
    else if s.cutsRegion (p.u8 0) (presents (s.newCfg p)) (s.newSize p) then .refuse s stForbids
    else .ok (s.configured (p.u8 0) (s.newCfg p) (s.newSize p))
      ((s.configured (p.u8 0) (s.newCfg p) (s.newSize p)).words [cfgWord (p.u8 0), 0x60020 + 0x4000 * p.u8 0]) := rfl

theorem State.sizeBad_expert {p : Pkt} (h : p.expert = true) (s : State) :
    s.sizeBad p = true ↔ ∃ l, l < 16 ∧ 2048 < p.u16 (8 + 2 * l) := by
  simp [State.sizeBad, State.newSize, h]

theorem State.sizeBad_basic {p : Pkt} (h : p.expert = false) (s : State) : s.sizeBad p = false := by
  simp [State.sizeBad, h]

theorem State.newCfg_expert {p : Pkt} (h : p.expert = true) (s : State) : s.newCfg p = p.u32 4 := if_pos h

theorem State.newSize_expert {p : Pkt} (h : p.expert = true) (s : State) : s.newSize p = fun l => p.u16 (8 + 2 * l) :=
  funext fun _ => if_pos h

theorem State.newSize_basic {p : Pkt} (h : p.expert = false) (s : State) :
    s.newSize p = fun l => s.get (Reg.HPORT_LD_LD_SIZE (p.u8 0) l) := funext fun _ => if_neg (ne_true_of_eq_false h)

/-- The basic form keeps every bit of the configuration but bits 23 and 24, which it takes from the packet. -/
theorem State.newCfg_basic {p : Pkt} (h : p.expert = false) (s : State) :
    bitsAt (s.newCfg p) 31 1 = bitsAt (s.word (cfgWord (p.u8 0))) 31 1 ∧
      bitsAt (s.newCfg p) 30 1 = bitsAt (s.word (cfgWord (p.u8 0))) 30 1 ∧
      bitsAt (s.newCfg p) 25 5 = bitsAt (s.word (cfgWord (p.u8 0))) 25 5 ∧
      bitsAt (s.newCfg p) 24 1 = bitsAt (p.u32 4) 24 1 ∧ bitsAt (s.newCfg p) 23 1 = bitsAt (p.u32 4) 23 1 := by
  unfold State.newCfg
  rw [if_neg (ne_true_of_eq_false h)]
  unfold bitsAt
  omega

theorem countOf_congr {v w : Nat} (h : bitsAt v 25 5 = bitsAt w 25 5) : countOf v = countOf w := by
  rw [countOf, h, countOf]

theorem presents_congr {v w : Nat} (hmld : bitsAt v 30 1 = bitsAt w 30 1) (h : bitsAt v 25 5 = bitsAt w 25 5) :
    presents v = presents w := by
  have hbit : bitAt v 30 = bitAt w 30 := congrArg (· == 1) hmld
  rw [presents, presents, hbit, countOf_congr h]

/-- What a port shows after PORT_CONFIG. -/
theorem State.configured_outcome (s : State) (n cfg : Nat) (size : Nat → Nat) :
    let t := s.configured n cfg size
    t.get (Reg.HPORT_GEN_GEN n) = (s.get (Reg.HPORT_GEN_GEN n) + 1) % 2 ^ (Reg.HPORT_GEN_GEN n).width ∧
      t.get (Reg.HPORT_CFG_ENABLE n) = bitsAt cfg 31 1 ∧ t.get (Reg.HPORT_CFG_MLD n) = bitsAt cfg 30 1 ∧
      t.get (Reg.HPORT_CFG_LD_COUNT n) = bitsAt cfg 25 5 ∧ t.get (Reg.HPORT_CFG_ISOCH n) = bitsAt cfg 24 1 ∧
      t.get (Reg.HPORT_CFG_GPF_MODE n) = bitsAt cfg 23 1 ∧ (∃ e ∈ t.raised, e.src = srcPort n 11) ∧
      t.dram = s.dram ∧ t.tile = s.tile ∧ ∀ l < 16, t.get (Reg.HPORT_LD_LD_SIZE n l) = size l % 2 ^ 12 := by
  intro t
  obtain ⟨u, hu⟩ : ∃ u, u = s.each (List.range 16) fun s l => s.set (Reg.HPORT_LD_LD_SIZE n l) (size l) := ⟨_, rfl⟩
  have ht : t = (u.applyCfg n cfg).bump (Reg.HPORT_GEN_GEN n) := by rw [hu]; rfl
  obtain ⟨hcfg, hother, hraised, hdram, htile⟩ := u.applyCfg_outcome n cfg
  obtain ⟨henable, hmld, hcount, hisoch, hmode⟩ := u.get_setCfg n cfg
  obtain ⟨regs, hframe⟩ := State.onlyRegs_each_set (Reg.HPORT_LD_LD_SIZE n) size (List.range 16) s
  have hbump : ∀ f : Field, f.addr ≠ 0x60020 + 0x4000 * n → f.lo < 32 → t.get f = (u.applyCfg n cfg).get f := fun f ha hlo => by
    rw [ht]
    exact State.get_set_ne _ _ (key_ne_of_addr_ne hlo (by simp) ha)
  have hfield : ∀ f : Field, f.addr = cfgWord n → f.lo < 32 → t.get f = (u.setCfg n cfg).get f := fun f ha hlo =>
    (hbump f (by rw [ha, cfgWord]; omega) hlo).trans (hcfg f ha hlo)
  have hkeys : ((List.range 16).map fun l => (Reg.HPORT_LD_LD_SIZE n l).key).Nodup :=
    List.nodup_range.map fun a b h => by
      simp only [Field.key] at h
      omega
  have hsize : ∀ l < 16, u.get (Reg.HPORT_LD_LD_SIZE n l) = size l % 2 ^ 12 := fun l hl => by
    rw [hu]
    exact State.get_each_set hkeys (List.mem_range.mpr hl) s
  have hgen : u.get (Reg.HPORT_GEN_GEN n) = s.get (Reg.HPORT_GEN_GEN n) := by
    rw [hu]
    refine State.get_each_set_ne (fun l hl => ?_) s
    simp only [Field.key, ne_eq]
    omega
  refine ⟨?_, ?_, ?_, ?_, ?_, ?_, ?_, ?_, ?_, fun l hl => ?_⟩
  · rw [ht, State.bump, State.get_set_self, hother _ (by simp [cfgWord]) (by simp) (by simp), hgen]
  · rw [hfield _ rfl (by simp), henable]
  · rw [hfield _ rfl (by simp), hmld]
  · rw [hfield _ rfl (by simp), hcount]
  · rw [hfield _ rfl (by simp), hisoch]
  · rw [hfield _ rfl (by simp), hmode]
  · rwa [ht, State.bump, State.set_raised]
  · rw [ht, State.bump, State.set_dram, hdram, hu, hframe]
  · rw [ht, State.bump, State.set_tile, htile, hu, hframe]
  · rw [hbump _ (by simp; omega) (by simp), hother _ (by simp [cfgWord]; omega) (by simp; omega) (by simp), hsize l hl]

/-! ### LATENCY_TARGET_SET (R45, R184) -/

/-- The write target a packet asks for: the basic form gives the read target to both. -/
def writeTarget (p : Pkt) : Nat := if p.expert then p.u16 4 else p.u16 2

/-- The port after LATENCY_TARGET_SET. -/
def State.targeted (s : State) (p : Pkt) : State :=
  (((s.set (Reg.HPORT_LAT_TARGET_READ_NS (p.u8 0)) (p.u16 2)).set (Reg.HPORT_LAT_TARGET_WRITE_NS (p.u8 0)) (writeTarget p)).bump
    (Reg.HPORT_GEN_GEN (p.u8 0))).raise (srcPort (p.u8 0) 12) [d2 (p.u16 2), d2 (writeTarget p)]

theorem opLatencyTargetSet_eq (p : Pkt) (s : State) : opLatencyTargetSet p s =
    if !(p.genOk (s.get (Reg.HPORT_GEN_GEN (p.u8 0)))) then .refuse s stStale
    else .ok (s.targeted p) ((s.targeted p).words [0x60008 + 0x4000 * p.u8 0]) := rfl

theorem writeTarget_lt (p : Pkt) : writeTarget p < 65536 := by
  unfold writeTarget
  split
  · exact Pkt.u16_lt p 4
  · exact Pkt.u16_lt p 2

theorem State.targeted_frame (s : State) (p : Pkt) : { s.targeted p with regs := s.regs, raised := s.raised } = s := by
  have hset : s.onlyRegs (((s.set (Reg.HPORT_LAT_TARGET_READ_NS (p.u8 0)) (p.u16 2)).set (Reg.HPORT_LAT_TARGET_WRITE_NS (p.u8 0))
      (writeTarget p)).bump (Reg.HPORT_GEN_GEN (p.u8 0))) :=
    State.onlyRegs_trans (State.onlyRegs_trans (s.onlyRegs_set _ _) (State.onlyRegs_set _ _ _)) (State.onlyRegs_set _ _ _)
  obtain ⟨regs, h⟩ := hset
  rw [State.targeted, h]
  rfl

theorem State.targeted_outcome {p : Pkt} {n : Nat} (hn : n = p.u8 0) (s : State) :
    let t := s.targeted p
    t.get (Reg.HPORT_LAT_TARGET_READ_NS n) = p.u16 2 ∧ t.get (Reg.HPORT_LAT_TARGET_WRITE_NS n) = writeTarget p ∧
      t.get (Reg.HPORT_GEN_GEN n) = (s.get (Reg.HPORT_GEN_GEN n) + 1) % 2 ^ (Reg.HPORT_GEN_GEN n).width ∧
      (∃ e ∈ t.raised, e.src = srcPort n 12) ∧ { t with regs := s.regs, raised := s.raised } = s ∧
      ∀ f : Field, f.addr ≠ 0x60008 + 0x4000 * n → f.key ≠ (Reg.HPORT_GEN_GEN n).key → f.lo < 32 → t.get f = s.get f := by
  subst hn
  have hframe := s.targeted_frame p
  have hgen : ∀ f : Field, f.addr = 0x60008 + 0x4000 * p.u8 0 → f.lo < 32 → f.key ≠ (Reg.HPORT_GEN_GEN (p.u8 0)).key :=
    fun f ha hlo => key_ne_of_addr_ne hlo (by simp) (by rw [ha]; simp)
  refine ⟨?_, ?_, ?_, ?_, hframe, fun f ha hf hlo => ?_⟩
  · rw [State.targeted, State.raise_get, State.bump, State.get_set_ne _ _ (hgen _ rfl (by simp)),
      State.get_set_ne _ _ (key_ne_of_lo_ne (by decide)),
      State.get_set_self]
    exact Nat.mod_eq_of_lt (Pkt.u16_lt p 2)
  · rw [State.targeted, State.raise_get, State.bump, State.get_set_ne _ _ (hgen _ rfl (by simp)), State.get_set_self]
    exact Nat.mod_eq_of_lt (writeTarget_lt p)
  · rw [State.targeted, State.raise_get, State.bump, State.get_set_self, State.get_set_ne _ _ (hgen _ rfl (by simp)).symm,
      State.get_set_ne _ _ (hgen _ rfl (by simp)).symm]
  · rw [State.targeted, State.raise_raised]
    exact ⟨_, List.mem_append_right _ List.mem_cons_self, rfl⟩
  · rw [State.targeted, State.raise_get, State.bump, State.get_set_ne _ _ hf, State.get_set_ne _ _ (key_ne_of_addr_ne hlo (by simp) ha),
      State.get_set_ne _ _ (key_ne_of_addr_ne hlo (by simp) ha)]

end Ports

/-- Settles O28: each form of PORT_CONFIG by the checks of R184 in their order, then LATENCY_TARGET_SET. -/
theorem portPackets : Obligations.PortPackets := by
  unfold Obligations.PortPackets
  rintro p s _ rfl
  refine ⟨fun h => ?_, fun h => ⟨fun hgen => ?_, fun hgen => ?_⟩⟩
  · have hrefuse {st : Nat} (hrun : opPortConfig p s = .refuse s st) (hst : st ≠ stLater) :
        exec (.portConfig p) s = .next (s.ended portConfigOp p st) := congrArg _ (PktOp.command_of_refuse h hrun hst)
    have hok {t : State} {data : List Byte} (hrun : opPortConfig p s = .ok t data) :
        exec (.portConfig p) s = .next (t.ended portConfigOp p stOk data) := congrArg _ (PktOp.command_of_ok h hrun)
    rw [opPortConfig_eq] at hrefuse hok
    refine ⟨fun hgen => hrefuse (by simp [hgen]) (by decide), fun hgen he => ?_, fun hgen he => ?_⟩
    · rw [State.newCfg_expert he, State.newSize_expert he] at hrefuse hok
      refine ⟨fun hbad => hrefuse ?_ (by decide), fun hcount hsizes => ?_⟩
      · rw [← s.sizeBad_expert he] at hbad
        simp [hgen, hbad]
      have hsize : s.sizeBad p = false := by
        rw [← Bool.not_eq_true, s.sizeBad_expert he]
        rintro ⟨l, hl, hbad⟩
        exact absurd (hsizes l hl) (Nat.not_le.mpr hbad)
      refine ⟨fun hcut => hrefuse (by simp [hgen, hcount, hsize, hcut]) (by decide), fun hcut => ?_⟩
      obtain ⟨hadvance, henable, hmld, hlds, hisoch, hmode, hraised, hdram, htile, hsz⟩ :=
        s.configured_outcome (p.u8 0) (p.u32 4) fun l => p.u16 (8 + 2 * l)
      refine ⟨_, hok (by simp [hgen, hcount, hsize, hcut]), hadvance, henable, hmld, hlds, hisoch, hmode, hraised, hdram, htile,
        fun l => ?_⟩
      rw [hsz l l.isLt]
      exact Nat.mod_eq_of_lt (Nat.lt_of_le_of_lt (hsizes l l.isLt) (by decide))
    · obtain ⟨benable, bmld, blds, bisoch, bmode⟩ := s.newCfg_basic he
      rw [countOf_congr blds, presents_congr bmld blds, State.newSize_basic he, s.sizeBad_basic he] at hrefuse hok
      refine ⟨fun hcount => hrefuse (by simp [hgen, hcount]) (by decide), fun hcount =>
        ⟨fun hcut => hrefuse (by simp [hgen, hcount, hcut]) (by decide), fun hcut => ?_⟩⟩
      obtain ⟨hadvance, henable, hmld, hlds, hisoch, hmode, hraised, -, -, hsz⟩ :=
        s.configured_outcome (p.u8 0) (s.newCfg p) fun l => s.get (Reg.HPORT_LD_LD_SIZE (p.u8 0) l)
      exact ⟨_, hok (by simp [hgen, hcount, hcut]), hadvance, hisoch.trans bisoch, hmode.trans bmode, henable.trans benable,
        hmld.trans bmld, hlds.trans blds, hraised, fun l => hsz l l.isLt⟩
  · refine congrArg _ (PktOp.command_of_refuse h ?_ (by decide))
    exact (opLatencyTargetSet_eq _ _).trans (if_pos (by simpa using hgen))
  · refine ⟨s.targeted p, congrArg _ (PktOp.command_of_ok h ?_), State.targeted_outcome rfl s⟩
    exact (opLatencyTargetSet_eq _ _).trans (if_neg (by simpa using hgen))

end Sys2Proof.Machine
end

section
/-! PROOFS. The packets of the DRAM channels: SCRUB_SET, DCH_STATUS, DCH_OFFLINE and DCH_ONLINE (R60, R139, R144, R149, R484). -/

namespace Sys2Proof.Machine

/-- A fold whose steps leave the state as it is. -/
theorem State.each_of_fixed {α : Type} {f : State → α → State} {l : List α} {s : State} (h : ∀ x ∈ l, f s x = s) :
    s.each l f = s := by
  induction l with
  | nil => rfl
  | cons x l ih =>
    rw [State.each, List.foldl_cons, h x List.mem_cons_self]
    exact ih fun y hy => h y (List.mem_cons_of_mem x hy)

/-- A fold of which one step alone changes the state, and no other the state after it, is that step. -/
theorem State.each_of_one {α : Type} {f : State → α → State} {l : List α} (hnd : l.Nodup) {x : α} (hx : x ∈ l) {s : State}
    (hbefore : ∀ y ∈ l, y ≠ x → f s y = s) (hafter : ∀ y ∈ l, y ≠ x → f (f s x) y = f s x) : s.each l f = f s x := by
  obtain ⟨before, after, rfl⟩ := List.append_of_mem hx
  rw [List.nodup_append, List.nodup_cons] at hnd
  obtain ⟨-, ⟨hnot, -⟩, hdisjoint⟩ := hnd
  have hb : s.each before f = s := State.each_of_fixed fun y hy =>
    hbefore y (List.mem_append_left _ hy) (hdisjoint y hy x List.mem_cons_self)
  have ha : (f s x).each after f = f s x := State.each_of_fixed fun y hy =>
    hafter y (List.mem_append_right _ (List.mem_cons_of_mem x hy)) fun he => hnot (he ▸ hy)
  rw [State.each, List.foldl_append, List.foldl_cons]
  rw [State.each] at hb ha
  rw [hb, ha]

theorem channels_nodup : channels.Nodup := List.nodup_range

section Channels

variable {s : State} {p : Pkt} {c : Nat}

/-! ### SCRUB_SET (R139) -/

/-- What SCRUB_SET does to one channel. -/
def State.scrubbed (p : Pkt) (s : State) (c : Nat) : State :=
  let s := s.later (Reg.DCH_SCRUB_CTL_PATROL_EN c) (p.u8 1)
  if p.expert then
    let s := s.later (Reg.DCH_SCRUB_CTL_WRITEBACK c) (p.u8 2)
    if p.u8 3 = 1 then
      (s.updCh c fun x => { x with patrolLine := 0, patrolErrors := 0 }).set (Reg.DCH_SCRUB_PROGRESS c) 0
    else s
  else s

/-- The state in which SCRUB_SET leaves the channels of its mask. -/
def State.scrubSet (s : State) (p : Pkt) : State := s.each (channels.filter (bitAt (p.u8 0))) (State.scrubbed p)

theorem opScrubSet_eq (p : Pkt) (s : State) : opScrubSet p s =
    .ok (s.scrubSet p) (wordsBytes (channels.map fun c => (s.scrubSet p).comingWord (0x40024 + 0x4000 * c))) := rfl

/-- The writes that a channel's step queues. -/
def scrubWrites (p : Pkt) (c : Nat) : List (Field × Nat) :=
  (Reg.DCH_SCRUB_CTL_PATROL_EN c, p.u8 1 % 2) :: if p.expert then [(Reg.DCH_SCRUB_CTL_WRITEBACK c, p.u8 2 % 2)] else []

theorem State.scrubbed_writes (s : State) (p : Pkt) (c : Nat) : (s.scrubbed p c).writes = s.writes ++ scrubWrites p c := by
  unfold State.scrubbed scrubWrites
  dsimp only
  split_ifs <;> simp [State.later]

theorem State.scrubbed_basic (h : p.expert = false) (s : State) (c : Nat) :
    s.scrubbed p c = s.later (Reg.DCH_SCRUB_CTL_PATROL_EN c) (p.u8 1) := by
  simp [State.scrubbed, h]

/-- A new start of the patrol is a channel's own. -/
theorem State.scrubbed_patrol_ne {d : Nat} (hc : c < 8) (h : c ≠ d) (s : State) :
    (s.scrubbed p d).ch c = s.ch c ∧ (s.scrubbed p d).get (Reg.DCH_SCRUB_PROGRESS c) = s.get (Reg.DCH_SCRUB_PROGRESS c) := by
  unfold State.scrubbed
  dsimp only
  split_ifs
  · refine ⟨?_, ?_⟩
    · rw [State.set_ch, State.ch_updCh_ne _ _ hc h, State.later_ch, State.later_ch]
    · rw [State.get_set_ne _ _ (key_ne_of_addr_ne (by simp) (by simp) (by simp; omega)), State.updCh_get, State.later_get,
        State.later_get]
  · exact ⟨rfl, rfl⟩
  · exact ⟨rfl, rfl⟩

theorem State.scrubbed_patrol (hc : c < 8) (he : p.expert = true) (h3 : p.u8 3 = 1) (s : State) :
    ((s.scrubbed p c).ch c).patrolLine = 0 ∧ (s.scrubbed p c).get (Reg.DCH_SCRUB_PROGRESS c) = 0 := by
  simp only [State.scrubbed, he, h3, if_true, State.set_ch, State.ch_updCh_self _ _ hc, State.get_set_self]
  exact ⟨trivial, rfl⟩

/-- Each channel of the mask has its writes queued, and in the expert form a patrol that starts anew. -/
theorem State.scrubSet_channel (hc : c < 8) (hbit : bitAt (p.u8 0) c = true) (s : State) :
    (∀ w ∈ scrubWrites p c, w ∈ (s.scrubSet p).writes) ∧ (p.expert = true → p.u8 3 = 1 →
      ((s.scrubSet p).ch c).patrolLine = 0 ∧ (s.scrubSet p).get (Reg.DCH_SCRUB_PROGRESS c) = 0) := by
  have hin : c ∈ channels.filter (bitAt (p.u8 0)) := List.mem_filter.mpr ⟨List.mem_range.mpr hc, hbit⟩
  obtain ⟨before, after, -, ha, heq⟩ := foldl_around (σ := State) (name := id) (by simpa using channels_nodup.filter _) hin
  have hne : ∀ d ∈ after, c ≠ d := fun d hd he => ha d hd he.symm
  have hwrites : ∀ u : State, ∀ w ∈ u.writes, w ∈ (u.each after (State.scrubbed p)).writes := fun u =>
    State.each_related (R := fun u v => ∀ w ∈ u.writes, w ∈ v.writes) (fun _ _ h => h) (fun h h' w hw => h' w (h w hw))
      (fun u d w hw => by rw [u.scrubbed_writes]; exact List.mem_append_left _ hw) after u
  have hpatrol : ∀ u : State, ((u.each after (State.scrubbed p)).ch c).patrolLine = (u.ch c).patrolLine ∧
      (u.each after (State.scrubbed p)).get (Reg.DCH_SCRUB_PROGRESS c) = u.get (Reg.DCH_SCRUB_PROGRESS c) := fun u =>
    ⟨foldl_unchanged (look := fun u : State => (u.ch c).patrolLine)
        (fun u d hd => by rw [(u.scrubbed_patrol_ne hc (hne d hd)).1]) u,
      foldl_unchanged (look := fun u : State => u.get (Reg.DCH_SCRUB_PROGRESS c))
        (fun u d hd => (u.scrubbed_patrol_ne hc (hne d hd)).2) u⟩
  rw [State.scrubSet, State.each, heq]
  refine ⟨fun w hw => hwrites _ w ?_, fun he h3 => ?_⟩
  · rw [State.scrubbed_writes]
    exact List.mem_append_right _ hw
  · obtain ⟨hline, hprogress⟩ := hpatrol (State.scrubbed p (before.foldl (State.scrubbed p) s) c)
    obtain ⟨hline0, hprogress0⟩ := State.scrubbed_patrol hc he h3 (before.foldl (State.scrubbed p) s)
    exact ⟨hline.trans hline0, hprogress.trans hprogress0⟩

/-- The basic form queues writes and does nothing else. -/
theorem State.scrubSet_basic (h : p.expert = false) (s : State) : { s.scrubSet p with writes := s.writes } = s := by
  obtain ⟨writes, hw⟩ := State.each_related (R := fun s t => ∃ writes, t = { s with writes := writes }) (fun s => ⟨s.writes, rfl⟩)
    (fun {s t u} h h' => by obtain ⟨_, rfl⟩ := h; obtain ⟨w, rfl⟩ := h'; exact ⟨w, rfl⟩)
    (step := State.scrubbed p) (fun s c => ⟨_, s.scrubbed_basic h c⟩) (channels.filter (bitAt (p.u8 0))) s
  rw [State.scrubSet, hw]

/-! ### A channel's state (R142) -/

/-- A change of a channel's state shows in STATE, advances the generation and raises k = 9. -/
theorem State.setChState_of_ne {st : Nat} (h : s.chState c ≠ st) : s.setChState c st =
    ((s.set (Reg.DCH_STAT_STATE c) st).bump (Reg.DCH_GEN_GEN c)).raise (srcDram c 9) [d1 (s.chState c), d1 st] := by
  unfold State.setChState
  rw [if_neg h]

theorem State.chState_setChState {st : Nat} (hst : st < 8) (s : State) (c : Nat) : (s.setChState c st).chState c = st := by
  by_cases h : s.chState c = st
  · rw [State.setChState, if_pos h, h]
  · rw [State.setChState_of_ne h, State.chState, State.raise_get, State.bump,
      State.get_set_ne _ _ (key_ne_of_addr_ne (by simp) (by simp) (by simp)), State.get_set_self]
    exact Nat.mod_eq_of_lt hst

theorem State.get_setChState_gen {st : Nat} (h : s.chState c ≠ st) : (s.setChState c st).get (Reg.DCH_GEN_GEN c) =
    (s.get (Reg.DCH_GEN_GEN c) + 1) % 2 ^ (Reg.DCH_GEN_GEN c).width := by
  rw [State.setChState_of_ne h, State.raise_get, State.bump, State.get_set_self,
    State.get_set_ne _ _ (key_ne_of_addr_ne (by simp) (by simp) (by simp))]

/-- A change of state leaves every field alone but STATE and the generation. -/
theorem State.get_setChState_ne {f : Field} (hstate : f.key ≠ (Reg.DCH_STAT_STATE c).key) (hgen : f.key ≠ (Reg.DCH_GEN_GEN c).key)
    (s : State) (st : Nat) : (s.setChState c st).get f = s.get f := by
  unfold State.setChState
  split
  · rfl
  · rw [State.raise_get, State.bump, State.get_set_ne _ _ hgen, State.get_set_ne _ _ hstate]

theorem State.setChState_frame (s : State) (c st : Nat) :
    ∃ regs raised, s.setChState c st = { s with regs := regs, raised := raised } := by
  unfold State.setChState
  split
  · exact ⟨_, _, rfl⟩
  · exact ⟨_, _, rfl⟩

theorem State.setChState_ch (s : State) (c st d : Nat) : (s.setChState c st).ch d = s.ch d := by
  obtain ⟨_, _, h⟩ := s.setChState_frame c st
  rw [h]
  rfl

/-! ### DCH_OFFLINE (R60, R144) -/

/-- What a downbeat does to a channel that leaves service. -/
def State.leaveOf (s : State) (c : Nat) : State :=
  if (s.ch c).leaving && s.debt c = 0 && s.chState c = chInService then
    ((s.updCh c fun x => { x with leaving := false }).setChState c chRelocating).set (Reg.DCH_RELOC_RESULT c) 1
  else s

theorem State.leaveStep_eq (s : State) : s.leaveStep = s.each channels State.leaveOf := rfl

theorem State.leaveOf_stays (h : (s.ch c).leaving = false ∨ s.debt c ≠ 0) : s.leaveOf c = s := by
  unfold State.leaveOf
  refine if_neg ?_
  obtain h | h := h <;> simp [h]

/-- Is a channel of the card out of service or leaving it? -/
def State.someLeaves (s : State) : Bool := channels.any fun d => s.chState d ≠ chInService || (s.ch d).leaving

/-- The channel is about to leave service, and does at once where it has no debt. -/
def State.toLeave (s : State) (c : Nat) : State := s.updCh c fun x => { x with leaving := true }

theorem opDchOffline_eq (p : Pkt) (s : State) : opDchOffline p s =
    if !(p.genOk (s.get (Reg.DCH_GEN_GEN (p.u8 0)))) then .refuse s stStale
    else if s.someLeaves then .refuse s stForbids
    else if s.saving || s.restoring then .refuse s stForbids
    else if ((channels.filter (· ≠ p.u8 0)).map s.freeFrames).sum < (s.mappedFrames (p.u8 0)).length then .refuse s stForbids
    else .ok (s.toLeave (p.u8 0)).leaveStep
      ((s.toLeave (p.u8 0)).leaveStep.words [0x40000 + 0x4000 * p.u8 0, 0x4003C + 0x4000 * p.u8 0]) := rfl

theorem State.someLeaves_iff (s : State) :
    s.someLeaves = true ↔ ∃ d ∈ channels, s.chState d ≠ chInService ∨ (s.ch d).leaving = true := by
  simp [State.someLeaves]

/-- With debt the channel waits; without it the channel relocates at once. -/
theorem State.toLeave_outcome (hc : c < 8) (hstays : s.someLeaves = false) :
    (s.debt c = 0 → (s.toLeave c).leaveStep.chState c = chRelocating ∧
      (s.toLeave c).leaveStep.get (Reg.DCH_RELOC_RESULT c) = 1 ∧
      (s.toLeave c).leaveStep.get (Reg.DCH_GEN_GEN c) = (s.get (Reg.DCH_GEN_GEN c) + 1) % 2 ^ (Reg.DCH_GEN_GEN c).width) ∧
    (s.debt c ≠ 0 → (s.toLeave c).leaveStep = s.toLeave c) := by
  have hserves : ∀ d < 8, s.chState d = chInService ∧ (s.ch d).leaving = false := fun d hd => by
    have hnot := mt s.someLeaves_iff.mpr (ne_true_of_eq_false hstays)
    simpa using not_and.mp (not_exists.mp hnot d) (List.mem_range.mpr hd)
  have hothers : ∀ d ∈ channels, d ≠ c → ((s.toLeave c).ch d).leaving = false := fun d hd hne => by
    rw [State.toLeave, State.ch_updCh_ne _ _ (List.mem_range.mp hd) hne]
    exact (hserves d (List.mem_range.mp hd)).2
  refine ⟨fun hdebt => ?_, fun hdebt => ?_⟩
  · have hleaves : (s.toLeave c).leaveOf c =
        (((s.toLeave c).updCh c fun x => { x with leaving := false }).setChState c chRelocating).set (Reg.DCH_RELOC_RESULT c) 1 := by
      refine if_pos ?_
      have hleaving : ((s.toLeave c).ch c).leaving = true := by rw [State.toLeave, State.ch_updCh_self _ _ hc]
      have hin : (s.toLeave c).chState c = chInService := (hserves c hc).1
      have hno : (s.toLeave c).debt c = 0 := hdebt
      simp [hleaving, hin, hno]
    have hstep : (s.toLeave c).leaveStep = (s.toLeave c).leaveOf c := by
      rw [State.leaveStep_eq]
      refine State.each_of_one channels_nodup (List.mem_range.mpr hc) (fun d hd hne => State.leaveOf_stays (.inl (hothers d hd hne)))
        fun d hd hne => State.leaveOf_stays (.inl ?_)
      rw [hleaves, State.set_ch, State.setChState_ch, State.ch_updCh_ne _ _ (List.mem_range.mp hd) hne]
      exact hothers d hd hne
    have hchanges : ((s.toLeave c).updCh c fun x => { x with leaving := false }).chState c ≠ chRelocating := by
      have hin : ((s.toLeave c).updCh c fun x => { x with leaving := false }).chState c = chInService := (hserves c hc).1
      rw [hin]
      decide
    rw [hstep, hleaves]
    refine ⟨?_, ?_, ?_⟩
    · rw [State.chState, State.get_set_ne _ _ (key_ne_of_addr_ne (by simp) (by simp) (by simp))]
      exact State.chState_setChState (by decide) _ c
    · rw [State.get_set_self]
      rfl
    · rw [State.get_set_ne _ _ (key_ne_of_addr_ne (by simp) (by simp) (by simp)), State.get_setChState_gen hchanges]
      rfl
  · rw [State.leaveStep_eq]
    refine State.each_of_fixed fun d hd => State.leaveOf_stays ?_
    by_cases he : d = c
    · exact .inr (he ▸ hdebt)
    · exact .inl (hothers d hd he)

/-! ### DCH_ONLINE (R149) -/

/-- A packet may bring a channel back: an OFFLINE one, or in the expert form a FAILED one. -/
def State.mayReturn (s : State) (p : Pkt) : Bool :=
  s.chState (p.u8 0) = chOffline || (p.expert && s.chState (p.u8 0) = chFailed)

/-- The channel is RETURNING, to be trained, without a cause of failure. -/
def State.returned (s : State) (c : Nat) : State :=
  ((s.setChState c chReturning).updCh c fun x => { x with trained := false }).set (Reg.DCH_STAT_FAIL_CAUSE c) 0

theorem opDchOnline_eq (p : Pkt) (s : State) : opDchOnline p s =
    if !(p.genOk (s.get (Reg.DCH_GEN_GEN (p.u8 0)))) then .refuse s stStale
    else if !(s.mayReturn p) then .refuse s stForbids
    else if s.saving || s.restoring then .refuse s stForbids
    else .ok (s.returned (p.u8 0)) ((s.returned (p.u8 0)).words [0x40000 + 0x4000 * p.u8 0, 0x4003C + 0x4000 * p.u8 0]) := rfl

theorem State.mayReturn_iff (s : State) (p : Pkt) : s.mayReturn p = true ↔
    s.chState (p.u8 0) = chOffline ∨ (p.expert = true ∧ s.chState (p.u8 0) = chFailed) := by
  simp [State.mayReturn]

theorem State.returned_outcome (hc : c < 8) (h : s.chState c ≠ chReturning) :
    (s.returned c).chState c = chReturning ∧ (s.returned c).get (Reg.DCH_STAT_FAIL_CAUSE c) = 0 ∧
      ((s.returned c).ch c).trained = false ∧
      (s.returned c).get (Reg.DCH_GEN_GEN c) = (s.get (Reg.DCH_GEN_GEN c) + 1) % 2 ^ (Reg.DCH_GEN_GEN c).width := by
  unfold State.returned
  refine ⟨?_, ?_, ?_, ?_⟩
  · rw [State.chState, State.get_set_ne _ _ (key_ne_of_lo_ne (by decide)), State.updCh_get]
    exact State.chState_setChState (by decide) s c
  · rw [State.get_set_self]
    rfl
  · rw [State.set_ch, State.ch_updCh_self _ _ hc]
  · rw [State.get_set_ne _ _ (key_ne_of_addr_ne (by simp) (by simp) (by simp)), State.updCh_get, State.get_setChState_gen h]

/-- A packet that names one channel names one of the card's. -/
theorem oneChannel_lt {p : Pkt} (h : oneChannel p.params = true) : p.u8 0 < 8 := by
  simp only [oneChannel, Bool.and_eq_true, decide_eq_true_eq] at h
  obtain ⟨-, hle⟩ := h
  exact Nat.lt_succ_of_le hle

end Channels

/-- Settles O20: each packet by the checks of its row in their order, then what it leaves of the channels it names. -/
theorem dramPackets : Obligations.DramPackets := by
  unfold Obligations.DramPackets
  intro p s
  refine ⟨fun h => ?_, fun h => ?_, fun h => ?_, fun h => ?_⟩
  · refine ⟨s.scrubSet p, congrArg _ (PktOp.command_of_ok h (opScrubSet_eq _ s)), fun c hbit => ?_, fun he => s.scrubSet_basic he⟩
    obtain ⟨hwrites, hpatrol⟩ := State.scrubSet_channel c.isLt hbit s
    refine ⟨hwrites _ List.mem_cons_self, fun he => ⟨hwrites _ ?_, hpatrol he⟩⟩
    rw [scrubWrites, if_pos he]
    exact List.mem_cons_of_mem _ List.mem_cons_self
  · exact congrArg _ (PktOp.command_of_ok h rfl)
  · have hc := oneChannel_lt (PktOp.paramsOk_of_reaches h)
    have hrefuse {st : Nat} (hrun : opDchOffline p s = .refuse s st) (hst : st ≠ stLater) :
        exec (.dchOffline p) s = .next (s.ended dchOfflineOp p st) := congrArg _ (PktOp.command_of_refuse h hrun hst)
    rw [opDchOffline_eq] at hrefuse
    refine ⟨fun hgen => hrefuse (by simp [hgen]) (by decide), fun hgen => ⟨fun hnot => hrefuse ?_ (by decide),
      fun hall hsave hrestore hroom => ?_⟩⟩
    · obtain hleaves | hsave | hrestore | hroom := hnot
      · simp [hgen, s.someLeaves_iff.mpr hleaves]
      · simp [hgen, hsave]
      · simp [hgen, hrestore]
      · simp only [hgen, hroom, if_true, ite_self, Bool.not_true, Bool.false_eq_true, if_false]
    · have hstays : s.someLeaves = false := by
        rw [← Bool.not_eq_true, s.someLeaves_iff]
        rintro ⟨d, hd, hbad⟩
        obtain ⟨hin, hleaving⟩ := hall d hd
        simp [hin, hleaving] at hbad
      refine ⟨(s.toLeave (p.u8 0)).leaveStep, congrArg _ (PktOp.command_of_ok h ?_), State.toLeave_outcome hc hstays⟩
      refine (opDchOffline_eq _ s).trans ?_
      simp only [Pkt.as_genOk, Pkt.as_u8, hgen, hstays, hsave, hrestore, Bool.not_true, Bool.or_self, Bool.false_eq_true, if_false]
      exact if_neg (Nat.not_lt.mpr hroom)
  · have hc := oneChannel_lt (PktOp.paramsOk_of_reaches h)
    have hrefuse {st : Nat} (hrun : opDchOnline p s = .refuse s st) (hst : st ≠ stLater) :
        exec (.dchOnline p) s = .next (s.ended dchOnlineOp p st) := congrArg _ (PktOp.command_of_refuse h hrun hst)
    rw [opDchOnline_eq] at hrefuse
    refine ⟨fun hgen => hrefuse (by simp [hgen]) (by decide), fun hgen => ⟨fun hnot => hrefuse ?_ (by decide),
      fun hsave hrestore hstate => ?_⟩⟩
    · obtain hstate | hsave | hrestore := hnot
      · rw [← s.mayReturn_iff, Bool.not_eq_true] at hstate
        simp [hgen, hstate]
      · simp [hgen, hsave]
      · simp [hgen, hrestore]
    · have hnew : s.chState (p.u8 0) ≠ chReturning := by
        obtain hoff | ⟨-, hfailed⟩ := hstate
        · rw [hoff]
          decide
        · rw [hfailed]
          decide
      refine ⟨s.returned (p.u8 0), congrArg _ (PktOp.command_of_ok h ?_), State.returned_outcome hc hnew⟩
      refine (opDchOnline_eq _ s).trans ?_
      have hmay : s.mayReturn (Pkt.as p dchOnlineOp.opcode) = true := s.mayReturn_iff p |>.mpr hstate
      simp [hgen, hmay, hsave, hrestore]

end Sys2Proof.Machine
end

section
/-! PROOFS. Host reads: outside ownership, to a tile that is LOST, homeless, ABSENT or present, and behind look-ups that are not clean
(R152, R171 to R173, R202, R203, R263). -/

namespace Sys2Proof.Machine

section Reads

variable {s : State} {a : HostAccess}

/-! ### A read as its port carries it -/

theorem exec_hostReadRequest (hon : s.on = true) (a : HostAccess) :
    exec (.hostReadRequest a) s = .next (s.hostRequest a false [] []) := s.powered_of_on hon

/-- A read whose look-ups, whatever they find, are made: it is not barred, and its link has not fallen since. -/
theorem exec_hostReadRequest_looked (h : s.carries { a with word := .clean, entry := .clean } false = true) :
    exec (.hostReadRequest a) s = .next ((s.received a false).lookUp a (s.bar * 6240 + a.slot) false [] []) := by
  obtain ⟨hon, hbar, hh, -, -, -⟩ := State.carries_iff.mp h
  have hfree : ¬ s.barred a false := hbar
  rw [exec_hostReadRequest hon, State.hostRequest_of_not_barred hfree, State.received_inH, hh, State.received_now]
  rfl

/-- Look-ups that come out clean are those of a read that its port carries. -/
theorem State.carries_clean (h : s.carries a false = true) : s.carries { a with word := .clean, entry := .clean } false = true := by
  obtain ⟨hon, hbar, hh, -, -, hdrop⟩ := State.carries_iff.mp h
  exact State.carries_iff.mpr ⟨hon, hbar, hh, rfl, rfl, hdrop⟩

theorem hostRead_outside (hc : s.carries a false = true) (h : s.dpaFor a.port a.ld (a.line * 64) = none ∨
      ∃ dpa, s.dpaFor a.port a.ld (a.line * 64) = some dpa ∧ s.ownedRegion a.port a.ld dpa = none) :
    ∃ t : State, exec (.hostReadRequest a) s = .next t ∧ t.dram = s.dram ∧
      t.outs = s.outs ++ [.readData a.port a.ld a.tag zeroLine false] ∧ (∃ e ∈ t.raised, e.src = srcPort a.port 3) ∧
      t.get (Reg.HPORT_VIOL_COUNT_COUNT a.port) = min (s.get (Reg.HPORT_VIOL_COUNT_COUNT a.port) + 1) (2 ^ 32 - 1) := by
  obtain ⟨-, -, -, -, -, hdrop⟩ := State.carries_iff.mp hc
  obtain ⟨line, place, len, hlook⟩ := State.lookUp_outside (s := s.received a false) (a := a) (write := false)
    (s.bar * 6240 + a.slot) [] [] (by simpa only [State.received_dpaFor, State.received_ownedRegion] using h)
  rw [exec_hostReadRequest_looked (State.carries_clean hc), hlook]
  refine ⟨_, rfl, ?_, ?_, State.exists_raised (State.violation_raised _ _ _ _) rfl, ?_⟩
  · rw [State.violation_dram, State.received_dram]
  · rw [State.violation_outs _ _ (by rwa [← State.received_dropBefore s a false] at hdrop), State.received_outs]
    rfl
  · rw [← s.received_get a false]
    exact State.get_violation _ _ _ _

/-- A read inside ownership meets its tile, after the word and the entry of its tile are read. -/
theorem exec_hostReadRequest_owned (h : s.carries { a with word := .clean, entry := .clean } false = true) {dpa r : Nat}
    (hd : s.dpaFor a.port a.ld (a.line * 64) = some dpa) (hr : s.ownedRegion a.port a.ld dpa = some r) :
    exec (.hostReadRequest a) s =
      .next ((((s.received a false).readState (s.tileAt r dpa / 16) a.word).readMap (s.tileAt r dpa) a.entry).dispatch
        (reqOf a (s.bar * 6240 + a.slot) (s.tileAt r dpa) (dpa / 64) false [] [])) := by
  rw [exec_hostReadRequest_looked h]
  unfold State.lookUp
  simp only [State.received_dpaFor, State.received_ownedRegion, State.received_tileAt, hd, hr]

theorem State.received_ch (s : State) (a : HostAccess) (write : Bool) (c : Nat) : (s.received a write).ch c = s.ch c := by
  rw [State.ch, State.received_dram]
  rfl

/-! ### A read meets its tile -/

section Meets

variable {q : HostReq}

theorem State.lostAccess_read (h : q.write = false) (s : State) : ∃ e, s.lostAccess q =
    State.respond { s with raised := s.raised ++ [e] } q.port q.stamp (.readData q.port q.ld q.tag zeroLine true) := by
  simp only [State.lostAccess, h, State.answerBad]
  exact ⟨_, rfl⟩

theorem State.homelessAccess_read (h : q.write = false) (s : State) : ∃ e, s.homelessAccess q =
    State.respond { s with raised := s.raised ++ [e] } q.port q.stamp (.readData q.port q.ld q.tag zeroLine true) := by
  simp only [State.homelessAccess, h, State.answerBad]
  exact ⟨_, rfl⟩

/-- A read of a LOST or homeless tile returns poison, and is logged (R152, R202). -/
theorem State.dispatch_bad_read (hw : q.write = false) (h : s.code q.tile = codeLost ∨ s.isHomeless q.tile = true) :
    ∃ e, s.dispatch q =
      State.respond { s with raised := s.raised ++ [e] } q.port q.stamp (.readData q.port q.ld q.tag zeroLine true) := by
  by_cases hl : s.code q.tile = codeLost
  · rw [State.dispatch_lost hl]
    exact State.lostAccess_read hw s
  · rw [State.dispatch_homeless hl (h.resolve_left hl)]
    exact State.homelessAccess_read hw s

/-- Poison leaves for such a read; no tile, and nothing in DRAM, changes. -/
theorem State.dispatch_bad_outcome (hw : q.write = false) (h : s.code q.tile = codeLost ∨ s.isHomeless q.tile = true)
    (hdrop : (s.portState q.port).dropBefore ≤ q.stamp) :
    (s.dispatch q).outs = s.outs ++ [.readData q.port q.ld q.tag zeroLine true] ∧ (s.dispatch q).dram = s.dram ∧
      (s.dispatch q).tile = s.tile ∧ ∀ e ∈ s.raised, e ∈ (s.dispatch q).raised := by
  obtain ⟨e, heq⟩ := State.dispatch_bad_read hw h
  rw [heq]
  refine ⟨State.respond_outs _ ?_ _, State.respond_dram _ _ _ _, State.respond_tile _ _ _ _, ?_⟩
  · exact hdrop
  · rw [State.respond_raised]
    exact fun _ => List.mem_append_left _

/-- A read of an ABSENT tile waits for its touch fetch (R263). -/
theorem State.dispatch_absent_read (hw : q.write = false) (ha : s.code q.tile = codeAbsent) (hh : s.isHomeless q.tile = false) :
    s.dispatch q = (s.wantFetch q.tile q.stamp).updTile fun x => { x with waits := x.waits ++ [q] } := by
  rw [State.dispatch_absent ha hh, hw]
  exact if_neg (by simp)

/-- A read of a present tile stands in the queue of its frame's channel. -/
theorem State.dispatch_present_read (hw : q.write = false) (hl : s.code q.tile ≠ codeLost) (ha : s.code q.tile ≠ codeAbsent)
    (hh : s.isHomeless q.tile = false) {f : Nat} (hf : s.frameOf q.tile = some f) :
    s.dispatch q = s.updCh (f % 8) fun x => { x with reqs := insertReq x.reqs { q with frame := f } } := by
  have hqueue (u : State) (g : Nat) : u.queueAt q g = u.updCh (g % 8) fun x => { x with reqs := insertReq x.reqs { q with frame := g } } := by
    unfold State.queueAt
    rw [hw]
    rfl
  rw [State.dispatch_present hl hh ha, State.serve, hw]
  simp only [hf, Bool.false_eq_true, if_false]
  unfold State.enqueue
  simp only [hw, Bool.false_and, Bool.false_eq_true, if_false, hqueue]
  split <;> rfl

end Meets

/-! ### Tiles lost by a look-up (R171, R200, R203, R241) -/

/-- What losing a tile, or unmapping its code, leaves alone: the bytes in DRAM, what was sent out and raised, the ports' memory, and
every field but OVER_WINDOW and the count of tiles lost in a save. -/
structure State.Spares (s t : State) : Prop where
  bytes : t.dram.bytes = s.dram.bytes
  outs : t.outs = s.outs
  cxl : t.cxl = s.cxl
  raised : ∀ e ∈ s.raised, e ∈ t.raised
  get : ∀ f : Field, f.key ≠ Reg.TILE_STAT_OVER_WINDOW.key → f.key ≠ Reg.TILE_SAVE_LOST_TILES.key → t.get f = s.get f

theorem State.Spares.refl (s : State) : s.Spares s := ⟨rfl, rfl, rfl, fun _ h => h, fun _ _ _ => rfl⟩

theorem State.Spares.trans {t u : State} (h : s.Spares t) (h' : t.Spares u) : s.Spares u where
  bytes := h'.bytes.trans h.bytes
  outs := h'.outs.trans h.outs
  cxl := h'.cxl.trans h.cxl
  raised e he := h'.raised e (h.raised e he)
  get f ho hl := (h'.get f ho hl).trans (h.get f ho hl)

/-- A change of the tile engine's memories and of the channels' work. -/
theorem State.Spares.of_frame {t : State} (h : ∃ chans tile, t = { s with dram := { s.dram with chans := chans }, tile := tile }) :
    s.Spares t := by
  obtain ⟨_, _, rfl⟩ := h
  exact ⟨rfl, rfl, rfl, fun _ h => h, fun _ _ _ => rfl⟩

variable (s)

theorem State.spares_raise (n : Nat) (d : List DField) (l : List CxlRec) : s.Spares (s.raise n d l) :=
  ⟨rfl, rfl, rfl, fun _ => List.mem_append_left _, fun _ _ _ => rfl⟩

theorem State.spares_moveCode (k c : Nat) : s.Spares (s.moveCode k c) := by
  have hget : ∀ f : Field, f.key ≠ Reg.TILE_STAT_OVER_WINDOW.key → (s.moveCode k c).get f = s.get f := fun f hf => by
    unfold State.moveCode State.updOverWindow
    dsimp only
    split_ifs
    · rfl
    · rfl
    · exact State.get_set_ne _ _ hf
  have hraised : ∀ e ∈ s.raised, e ∈ (s.moveCode k c).raised := by
    unfold State.moveCode State.updOverWindow
    dsimp only
    split_ifs
    · exact fun _ h => h
    · exact fun _ h => h
    · exact fun _ => List.mem_append_left _
  obtain ⟨_, _, h⟩ := s.moveCode_frame k c
  exact ⟨by rw [h]; rfl, by rw [h]; rfl, by rw [h]; rfl, hraised, fun f hf _ => hget f hf⟩

theorem State.code_moveCode_ne {j k : Nat} (c : Nat) (h : j ≠ k) : (s.moveCode k c).code j = s.code j := by
  obtain ⟨_, _, hframe⟩ := s.moveCode_frame k c
  rw [hframe]
  exact Store.get_set_ne _ _ _ h

/-- The relocation copies that end change the copies and the frames that wait to be zeroed alone. -/
theorem State.dropCopies_frame (p : Nat → Bool) : ∃ chans releasing, s.dropCopies p =
    { s with dram := { s.dram with chans := chans }, tile := { s.tile with releasing := releasing } } := by
  refine State.each_related (R := fun s t => ∃ chans releasing, t =
      { s with dram := { s.dram with chans := chans }, tile := { s.tile with releasing := releasing } })
    (fun s => ⟨_, _, rfl⟩) (fun {s t u} h h' => ?_) (fun s c => ?_) channels s
  · obtain ⟨_, _, rfl⟩ := h
    obtain ⟨chans, releasing, rfl⟩ := h'
    exact ⟨chans, releasing, rfl⟩
  · cases hcopy : (s.ch c).copying with
    | none => exact ⟨_, _, rfl⟩
    | some k =>
      simp only [State.dropCopy, hcopy]
      split
      · exact ⟨_, _, rfl⟩
      · exact ⟨_, _, rfl⟩

theorem State.spares_dropCopies (p : Nat → Bool) : s.Spares (s.dropCopies p) := by
  obtain ⟨chans, releasing, h⟩ := s.dropCopies_frame p
  rw [h]
  exact .of_frame ⟨_, _, rfl⟩

theorem State.code_dropCopies (p : Nat → Bool) (j : Nat) : (s.dropCopies p).code j = s.code j := by
  obtain ⟨chans, releasing, h⟩ := s.dropCopies_frame p
  rw [h]
  rfl

theorem State.spares_updTile (f : TileState → TileState) : s.Spares (s.updTile f) :=
  ⟨rfl, rfl, rfl, fun _ h => h, fun _ _ _ => rfl⟩

theorem State.code_staleFlight (k j : Nat) : (s.staleFlight k).code j = s.code j := rfl

theorem State.code_vacate (f r p j : Nat) : (s.vacate f r p).code j = s.code j := rfl

/-- A LOST tile holds no frame and is not homeless, and its record is LOST (R151, R170, R290). -/
def State.forgotten (s : State) (k : Nat) : State := (((s.setFrame k none).setHomeless k false).setRec k .lost).dirtied

theorem State.spares_forgotten (k : Nat) : s.Spares (s.forgotten k) := by
  have hframe (u : State) : u.Spares (u.setFrame k none) := ⟨rfl, rfl, rfl, fun _ h => h, fun _ _ _ => rfl⟩
  have hhome (u : State) : u.Spares (u.setHomeless k false) := ⟨rfl, rfl, rfl, fun _ h => h, fun _ _ _ => rfl⟩
  have hrec (u : State) : u.Spares (u.setRec k .lost) := ⟨rfl, rfl, rfl, fun _ h => h, fun _ _ _ => rfl⟩
  have hdirtied (u : State) : u.Spares u.dirtied := ⟨rfl, rfl, rfl, fun _ h => h, fun _ _ _ => rfl⟩
  exact (((hframe s).trans (hhome _)).trans (hrec _)).trans (hdirtied _)

theorem State.code_forgotten (k j : Nat) : (s.forgotten k).code j = s.code j := by
  have hframe (u : State) : (u.setFrame k none).code j = u.code j := rfl
  have hhome (u : State) : (u.setHomeless k false).code j = u.code j := rfl
  have hrec (u : State) : (u.setRec k .lost).code j = u.code j := rfl
  have hdirtied (u : State) : u.dirtied.code j = u.code j := rfl
  rw [State.forgotten, hdirtied, hrec, hhome, hframe]

/-- A tile that is lost leaves its frame, takes its code, and is forgotten. -/
theorem State.loseTile_eq (k : Nat) : ∃ u, s.Spares u ∧ (∀ j, u.code j = s.code j) ∧
    s.loseTile k = (u.moveCode k codeLost).forgotten k := by
  have hplaced : s.Spares ((s.dropCopies (· = k)).staleFlight k) := (s.spares_dropCopies _).trans (State.spares_updTile _ _)
  have hcode (j : Nat) : ((s.dropCopies (· = k)).staleFlight k).code j = s.code j := by
    rw [State.code_staleFlight, State.code_dropCopies]
  unfold State.loseTile
  dsimp only
  split
  · exact ⟨_, hplaced.trans (State.spares_updTile _ _), fun j => (State.code_vacate _ _ _ _ j).trans (hcode j), rfl⟩
  · exact ⟨_, hplaced, hcode, rfl⟩

theorem State.spares_loseTile (k : Nat) : s.Spares (s.loseTile k) := by
  obtain ⟨u, hu, -, h⟩ := s.loseTile_eq k
  rw [h]
  exact (hu.trans (u.spares_moveCode k codeLost)).trans (State.spares_forgotten _ k)

theorem State.code_loseTile (k j : Nat) : (s.loseTile k).code j = if j = k then codeLost else s.code j := by
  obtain ⟨u, -, hcode, h⟩ := s.loseTile_eq k
  rw [h, State.code_forgotten]
  split_ifs with he
  · rw [he, State.code_moveCode_self]
  · rw [State.code_moveCode_ne _ _ he, hcode]

theorem State.loseInSave_cases (k cause : Nat) : s.loseInSave k cause = s.loseTile k ∨ ∃ save d, s.loseInSave k cause =
    (State.count { s.loseTile k with save := save } Reg.TILE_SAVE_LOST_TILES).raise 0x153 d := by
  unfold State.loseInSave
  dsimp only
  split
  · exact .inr ⟨_, _, rfl⟩
  · exact .inl rfl

theorem State.spares_lostCounted (save : SaveState) (d : List DField) :
    s.Spares ((State.count { s with save := save } Reg.TILE_SAVE_LOST_TILES).raise 0x153 d) := by
  have hsave : s.Spares { s with save := save } := ⟨rfl, rfl, rfl, fun _ h => h, fun _ _ _ => rfl⟩
  have hcount (u : State) : u.Spares (u.count Reg.TILE_SAVE_LOST_TILES) :=
    ⟨rfl, rfl, rfl, fun _ h => h, fun _ _ hl => u.get_count_ne 1 hl⟩
  exact (hsave.trans (hcount _)).trans (State.spares_raise _ _ _ _)

theorem State.spares_loseInSave (k cause : Nat) : s.Spares (s.loseInSave k cause) := by
  have hlose := s.spares_loseTile k
  obtain h | ⟨save, d, h⟩ := s.loseInSave_cases k cause
  · rwa [h]
  · rw [h]
    exact hlose.trans (State.spares_lostCounted _ save d)

theorem State.code_loseInSave (k cause j : Nat) : (s.loseInSave k cause).code j = if j = k then codeLost else s.code j := by
  rw [← s.code_loseTile k j]
  obtain h | ⟨save, d, h⟩ := s.loseInSave_cases k cause
  · rw [h]
  · have hsave (u : State) : State.code { u with save := save } j = u.code j := rfl
    rw [h, State.raise_code, State.count_code, hsave]

/-- The tiles of a word of the tile state memory that lie in regions. -/
def State.wordTiles (s : State) (w : Nat) : List Nat :=
  ((List.range 16).map (16 * w + ·)).filter fun t => (s.regionOfTile t).isSome

/-- An uncorrectable word: its tiles in regions are LOST, the others unmapped. -/
def State.wordLost (s : State) (w : Nat) : State :=
  (s.each ((s.wordTiles w).filter fun t => s.code t ≠ codeLost) fun s t => s.loseInSave t 4).each
    (((List.range 16).map (16 * w + ·)).filter fun t => !((s.wordTiles w).contains t)) fun s t => s.moveCode t codeUnmapped

theorem State.wordUe_eq (w : Nat) : ∃ d, s.wordUe w = ((s.wordLost w).count Reg.TILE_STATE_ERR_UE).raise 0x149 d := ⟨_, rfl⟩

theorem State.spares_wordLost (w : Nat) : s.Spares (s.wordLost w) :=
  (State.each_related State.Spares.refl State.Spares.trans (fun s k => s.spares_loseInSave k 4) _ s).trans
    (State.each_related State.Spares.refl State.Spares.trans (fun s k => s.spares_moveCode k codeUnmapped) _ _)

/-- A tile of the word that lies in a region is LOST. -/
theorem State.code_wordLost {w k : Nat} (hk : k ∈ s.wordTiles w) : (s.wordLost w).code k = codeLost := by
  have hkeep : ∀ (l : List Nat) (u : State), u.code k = codeLost → (u.each l fun u t => u.loseInSave t 4).code k = codeLost :=
    fun l u => State.each_related (R := fun u v => u.code k = codeLost → v.code k = codeLost) (fun _ h => h)
      (fun h h' hu => h' (h hu)) (fun u j hu => by rw [State.code_loseInSave, hu, ite_self]) l u
  have hlost : (s.each ((s.wordTiles w).filter fun t => s.code t ≠ codeLost) fun u t => u.loseInSave t 4).code k = codeLost := by
    by_cases hcode : s.code k = codeLost
    · exact hkeep _ s hcode
    · obtain ⟨before, after, hsplit⟩ := List.append_of_mem
        (List.mem_filter.mpr ⟨hk, decide_eq_true hcode⟩ : k ∈ (s.wordTiles w).filter fun t => s.code t ≠ codeLost)
      rw [hsplit, State.each, List.foldl_append, List.foldl_cons]
      refine hkeep after _ ?_
      rw [State.code_loseInSave, if_pos rfl]
  refine (foldl_unchanged (look := fun u : State => u.code k) (fun u t ht => ?_) _).trans hlost
  refine u.code_moveCode_ne codeUnmapped fun he => ?_
  have hout := (List.mem_filter.mp ht).2
  rw [← he] at hout
  simp [hk] at hout

/-- What reading an uncorrectable word leaves alone. -/
theorem State.wordUe_outcome (w : Nat) : (s.wordUe w).dram.bytes = s.dram.bytes ∧ (s.wordUe w).outs = s.outs ∧
    (s.wordUe w).cxl = s.cxl ∧ (∃ e ∈ (s.wordUe w).raised, e.src = 0x149) ∧
    ∀ k ∈ s.wordTiles w, (s.wordUe w).code k = codeLost := by
  have hword := s.spares_wordLost w
  have hlost : ∀ k ∈ s.wordTiles w, (s.wordLost w).code k = codeLost := fun k hk => s.code_wordLost hk
  obtain ⟨d, h⟩ := s.wordUe_eq w
  rw [h]
  refine ⟨?_, ?_, ?_, ?_, fun k hk => ?_⟩
  · rw [State.raise_dram, State.count_dram, hword.bytes]
  · rw [State.raise_outs, State.count_outs, hword.outs]
  · rw [State.raise_cxl, State.count_cxl, hword.cxl]
  · rw [State.raise_raised]
    exact ⟨_, List.mem_append_right _ List.mem_cons_self, rfl⟩
  · rw [State.raise_code, State.count_code, hlost k hk]

/-! ### What the look-ups find (R171, R203) -/

section Found

variable {s}

theorem State.wordGood_iff {w : Nat} : s.wordGood w = true ↔
    ¬ ((List.range 16).any fun i => let c := s.code (16 * w + i); (5 < c && c < 8) || (11 < c && c < 15)) = true := by
  rw [Bool.not_eq_true, ← Bool.not_eq_true', List.not_any_eq_all_not]
  rfl

/-- A word that is uncorrectable, or holds a code that is not used. -/
theorem State.readState_bad {w : Nat} {e : SecDed} (h : e = .uncorrectable ∨ s.wordGood w = false) :
    s.readState w e = s.wordUe w := by
  unfold State.readState
  dsimp only
  split
  · rfl
  · rename_i hunused
    rw [← State.wordGood_iff] at hunused
    obtain rfl | hbad := h
    · rfl
    · exact absurd (hunused.symm.trans hbad) (by decide)

theorem State.readState_corrected {w : Nat} (h : s.wordGood w = true) : s.readState w .corrected = s.count Reg.TILE_STATE_ERR_CE := by
  unfold State.readState
  exact if_neg (State.wordGood_iff.mp h)

/-- What reading an entry leaves alone, whatever is found: the bytes in DRAM, what was sent out and raised, the ports' memory, the count
of the words corrected, and every tile that is LOST. -/
structure State.MapSpares (s t : State) : Prop where
  bytes : t.dram.bytes = s.dram.bytes
  outs : t.outs = s.outs
  cxl : t.cxl = s.cxl
  raised : ∀ e ∈ s.raised, e ∈ t.raised
  words : t.get Reg.TILE_STATE_ERR_CE = s.get Reg.TILE_STATE_ERR_CE
  lost : ∀ k, s.code k = codeLost → t.code k = codeLost

theorem State.MapSpares.refl (s : State) : s.MapSpares s := ⟨rfl, rfl, rfl, fun _ h => h, rfl, fun _ h => h⟩

theorem State.mapSpares_count : s.MapSpares (s.count Reg.TILE_MAP_CE_COUNT) :=
  ⟨rfl, rfl, rfl, fun _ h => h, s.get_count_ne 1 (by decide), fun _ h => h⟩

theorem State.Spares.mapSpares {t : State} (h : s.Spares t) (hlost : ∀ k, s.code k = codeLost → t.code k = codeLost) : s.MapSpares t :=
  ⟨h.bytes, h.outs, h.cxl, h.raised, h.get _ (by decide) (by decide), hlost⟩

/-- An entry in use: one that names a frame, or that of a homeless tile (R170). -/
theorem State.readMap_used {k : Nat} (h : s.frameOf k ≠ none ∨ s.isHomeless k = true) :
    (s.frameOf k = none && !(s.isHomeless k)) = false := by
  obtain h | h := h <;> simp [h]

theorem State.readMap_corrected {k : Nat} (h : s.frameOf k ≠ none ∨ s.isHomeless k = true) :
    s.readMap k .corrected = s.count Reg.TILE_MAP_CE_COUNT := by
  unfold State.readMap
  rw [State.readMap_used h]
  rfl

/-- An uncorrectable entry in use: its tile is lost, and an event says so. -/
theorem State.readMap_uncorrectable {k : Nat} (h : s.frameOf k ≠ none ∨ s.isHomeless k = true) :
    ∃ u port, s.Spares u ∧ (∀ j, u.code j = s.code j) ∧
      s.readMap k .uncorrectable = (u.loseInSave k 3).raise (srcPort port 13) [dTile k] := by
  have hframe (u : State) : u.Spares (u.setFrame k none) := ⟨rfl, rfl, rfl, fun _ h => h, fun _ _ _ => rfl⟩
  unfold State.readMap
  rw [State.readMap_used h, if_neg Bool.false_ne_true]
  cases s.frameOf k with
  | some f => exact ⟨_, _, (hframe s).trans (State.spares_updTile _ _), fun j => rfl, rfl⟩
  | none => exact ⟨s, _, .refl s, fun _ => rfl, rfl⟩

theorem State.mapSpares_readMap (k : Nat) (e : SecDed) : s.MapSpares (s.readMap k e) := by
  by_cases h : s.frameOf k ≠ none ∨ s.isHomeless k = true
  · cases e with
    | clean => exact (s.readMap_clean k).symm ▸ .refl s
    | corrected => exact (State.readMap_corrected h).symm ▸ State.mapSpares_count
    | uncorrectable =>
      obtain ⟨u, port, hu, hcode, heq⟩ := State.readMap_uncorrectable h
      rw [heq]
      refine ((hu.trans (u.spares_loseInSave k 3)).trans (State.spares_raise _ _ _ _)).mapSpares fun j hj => ?_
      rw [State.raise_code, State.code_loseInSave, hcode, hj, ite_self]
  · obtain ⟨hframe, hhome⟩ := not_or.mp h
    have hsame : s.readMap k e = s := by
      unfold State.readMap
      rw [not_not.mp hframe, eq_false_of_ne_true hhome]
      rfl
    exact hsame.symm ▸ .refl s

/-- What a read counts itself is its port's, and the touch queue's. -/
theorem State.get_dispatch_read {q : HostReq} (hw : q.write = false) {f : Field}
    (hload : f.key ≠ (Reg.HPORT_STAT_DEVLOAD q.port).key) (hmax : f.key ≠ (Reg.HPORT_LAT_STAT_MAX_NS q.port).key)
    (hout : f.key ≠ Reg.TILE_TOUCH_STAT_OUTSTANDING.key) (hwait : f.key ≠ Reg.TILE_TOUCH_STAT_WAITING.key) :
    (s.dispatch q).get f = s.get f := by
  by_cases hbad : s.code q.tile = codeLost ∨ s.isHomeless q.tile = true
  · obtain ⟨e, h⟩ := State.dispatch_bad_read hw hbad
    rw [h]
    exact State.get_respond_ne _ hload hmax
  obtain ⟨hl, hh⟩ := not_or.mp hbad
  by_cases ha : s.code q.tile = codeAbsent
  · obtain ⟨fetches, chans, -, h⟩ := s.wantFetch_eq q.tile q.stamp
    rw [State.dispatch_absent_read hw ha (eq_false_of_ne_true hh), State.updTile_get, h, State.get_updTouchStat_ne _ hout hwait]
    rfl
  · cases hf : s.frameOf q.tile with
    | some f => rw [State.dispatch_present_read hw hl ha (eq_false_of_ne_true hh) hf, State.updCh_get]
    | none =>
      rw [State.dispatch_present hl (eq_false_of_ne_true hh) ha, State.serve, hw]
      simp only [hf, Bool.false_eq_true, if_false]

/-- The tile of a DPA that a region owns lies in that region (R169, R172). -/
theorem State.tile_in_region {port ld dpa r : Nat} (h : s.ownedRegion port ld dpa = some r) :
    (s.regionOfTile (s.tileAt r dpa)).isSome = true := by
  have howns := List.find?_some h
  simp only [Bool.and_eq_true, decide_eq_true_eq] at howns
  obtain ⟨⟨⟨⟨hactive, -⟩, -⟩, hbase⟩, htop⟩ := howns
  refine List.find?_isSome.mpr ⟨r, List.mem_of_find?_eq_some h, ?_⟩
  simp only [Region.hasTile, State.tileAt, hactive, Bool.true_and, Bool.and_eq_true]
  exact ⟨decide_eq_true (by omega), decide_eq_true (by omega)⟩

theorem State.mem_wordTiles {k : Nat} (h : (s.regionOfTile k).isSome = true) : k ∈ s.wordTiles (k / 16) :=
  List.mem_filter.mpr ⟨List.mem_map.mpr ⟨k % 16, List.mem_range.mpr (Nat.mod_lt _ (by decide)), Nat.div_add_mod k 16⟩, h⟩

/-- A read whose look-ups lost its tile and raised an event returns poison, and the tile stays LOST. -/
theorem State.dispatch_found_lost {v : State} {q : HostReq} (hw : q.write = false) (hdrop : (s.portState q.port).dropBefore ≤ q.stamp)
    (hcxl : v.cxl = s.cxl) (hlost : v.code q.tile = codeLost) : (v.dispatch q).code q.tile = codeLost ∧
      (v.dispatch q).outs = v.outs ++ [.readData q.port q.ld q.tag zeroLine true] ∧
      (v.dispatch q).dram.bytes = v.dram.bytes ∧ ∀ e ∈ v.raised, e ∈ (v.dispatch q).raised := by
  have hport : (v.portState q.port).dropBefore ≤ q.stamp := by rwa [State.portState, hcxl]
  obtain ⟨houts, hdram, htile, hraised⟩ := State.dispatch_bad_outcome hw (.inl hlost) hport
  exact ⟨by rw [State.code, htile]; exact hlost, houts, by rw [hdram], hraised⟩

/-- The word of the tile, in a region, is uncorrectable or holds a code not used. -/
theorem State.dispatch_bad_word {q : HostReq} (e : SecDed) (hw : q.write = false) (hdrop : (s.portState q.port).dropBefore ≤ q.stamp)
    (hregion : (s.regionOfTile q.tile).isSome = true) :
    (((s.wordUe (q.tile / 16)).readMap q.tile e).dispatch q).code q.tile = codeLost ∧
      (((s.wordUe (q.tile / 16)).readMap q.tile e).dispatch q).outs = s.outs ++ [.readData q.port q.ld q.tag zeroLine true] ∧
      (((s.wordUe (q.tile / 16)).readMap q.tile e).dispatch q).dram.bytes = s.dram.bytes ∧
      ∃ x ∈ (((s.wordUe (q.tile / 16)).readMap q.tile e).dispatch q).raised, x.src = 0x149 := by
  obtain ⟨hbytes, houts, hcxl, ⟨x, hx, hsrc⟩, hlost⟩ := s.wordUe_outcome (q.tile / 16)
  have hmap := (s.wordUe (q.tile / 16)).mapSpares_readMap q.tile e
  obtain ⟨hcode, hout, hdram, hraised⟩ := State.dispatch_found_lost hw hdrop (hmap.cxl.trans hcxl)
    (hmap.lost _ (hlost _ (State.mem_wordTiles hregion)))
  exact ⟨hcode, by rw [hout, hmap.outs, houts], by rw [hdram, hmap.bytes, hbytes], x, hraised x (hmap.raised x hx), hsrc⟩

/-- The entry of the tile, in use, is uncorrectable. -/
theorem State.dispatch_bad_entry {q : HostReq} (hw : q.write = false) (hdrop : (s.portState q.port).dropBefore ≤ q.stamp)
    (hused : s.frameOf q.tile ≠ none ∨ s.isHomeless q.tile = true) :
    ((s.readMap q.tile .uncorrectable).dispatch q).code q.tile = codeLost ∧
      ((s.readMap q.tile .uncorrectable).dispatch q).outs = s.outs ++ [.readData q.port q.ld q.tag zeroLine true] ∧
      ((s.readMap q.tile .uncorrectable).dispatch q).dram.bytes = s.dram.bytes ∧
      ∃ x ∈ ((s.readMap q.tile .uncorrectable).dispatch q).raised, ∃ n, x.src = srcPort n 13 := by
  have hmap := s.mapSpares_readMap q.tile .uncorrectable
  obtain ⟨u, port, -, -, heq⟩ := State.readMap_uncorrectable hused
  have hlost : (s.readMap q.tile .uncorrectable).code q.tile = codeLost := by
    rw [heq, State.raise_code, State.code_loseInSave, if_pos rfl]
  have hevent : ∃ x ∈ (s.readMap q.tile .uncorrectable).raised, x.src = srcPort port 13 := by
    rw [heq]
    exact State.exists_raised (State.raise_raised _ _ _ _) rfl
  obtain ⟨x, hx, hsrc⟩ := hevent
  obtain ⟨hcode, hout, hdram, hraised⟩ := State.dispatch_found_lost hw hdrop hmap.cxl hlost
  exact ⟨hcode, by rw [hout, hmap.outs], by rw [hdram, hmap.bytes], x, hraised x hx, port, hsrc⟩

theorem State.get_dispatch_words {q : HostReq} (hw : q.write = false) :
    (s.dispatch q).get Reg.TILE_STATE_ERR_CE = s.get Reg.TILE_STATE_ERR_CE :=
  State.get_dispatch_read hw (key_ne_of_addr_ne (by simp) (by simp) (by simp; omega))
    (key_ne_of_addr_ne (by simp) (by simp) (by simp; omega)) (by decide) (by decide)

theorem State.get_dispatch_entries {q : HostReq} (hw : q.write = false) :
    (s.dispatch q).get Reg.TILE_MAP_CE_COUNT = s.get Reg.TILE_MAP_CE_COUNT :=
  State.get_dispatch_read hw (key_ne_of_addr_ne (by simp) (by simp) (by simp; omega))
    (key_ne_of_addr_ne (by simp) (by simp) (by simp; omega)) (by decide) (by decide)

/-- The waits, and the fetch that answers them. -/
theorem State.dispatch_absent_outcome {q : HostReq} (hw : q.write = false) (ha : s.code q.tile = codeAbsent)
    (hh : s.isHomeless q.tile = false) : (s.dispatch q).outs = s.outs ∧ (s.dispatch q).tile.waits = s.tile.waits ++ [q] ∧
      (s.dispatch q).dram.bytes = s.dram.bytes ∧ ∃ f ∈ (s.dispatch q).tile.fetches, f.tile = q.tile ∧ f.bg = false := by
  obtain ⟨_, _, fetches, _, hmem, heq⟩ := s.wantFetch_frame q.tile q.stamp
  rw [State.dispatch_absent_read hw ha hh, heq]
  exact ⟨rfl, rfl, rfl, hmem⟩

/-- The queue of the frame's channel takes the request, in the order of stamps. -/
theorem State.dispatch_present_outcome {q : HostReq} (hw : q.write = false) (hl : s.code q.tile ≠ codeLost)
    (ha : s.code q.tile ≠ codeAbsent) (hh : s.isHomeless q.tile = false) {f : Nat} (hf : s.frameOf q.tile = some f) :
    (s.dispatch q).outs = s.outs ∧ (s.dispatch q).dram.bytes = s.dram.bytes ∧
      ((s.dispatch q).ch (f % 8)).reqs = insertReq (s.ch (f % 8)).reqs { q with frame := f } ∧
      ∀ c : Fin 8, c.val ≠ f % 8 → (s.dispatch q).ch c = s.ch c := by
  rw [State.dispatch_present_read hw hl ha hh hf]
  refine ⟨rfl, rfl, ?_, fun c hc => State.ch_updCh_ne _ _ c.isLt hc⟩
  rw [State.ch_updCh_self _ _ (Nat.mod_lt f (by decide))]

end Found

end Reads
/-- Settles O24: the read enters or not, is looked up, and meets its tile; then what look-ups that are not clean find. -/
theorem hostReads : Obligations.HostReads := by
  unfold Obligations.HostReads
  refine fun a s => ⟨fun hon hbar => ?_, fun hon hh hlink hcredit => ?_,
    fun hc => ⟨hostRead_outside hc, fun dpa r tile hd hr htile hgood => ?_⟩, fun dpa r tile hc hd hr htile => ?_⟩
  · rw [exec_hostReadRequest hon, State.hostRequest_of_barred (by simpa [State.barred] using hbar)]
  · have hbar : ¬ s.barred a false := by simp [State.barred, hcredit, hlink]
    rw [exec_hostReadRequest hon, State.hostRequest_of_not_barred hbar, State.received_inH, if_pos hh]
    refine ⟨_, rfl, s.received_outs a false, s.received_dram a false, s.received_wake a false, ?_⟩
    rw [State.updSys_self, State.received_hReqs, State.received_now]
  · subst htile
    obtain ⟨-, -, -, hword, hentry, hdrop⟩ := State.carries_iff.mp hc
    rw [← s.received_dropBefore a false] at hdrop
    rw [← s.received_wordGood a false] at hgood
    rw [exec_hostReadRequest_owned (State.carries_clean hc) hd hr, hword, hentry, State.readState_clean hgood, State.readMap_clean]
    simp only [← s.received_outs a false, ← s.received_code a false, ← s.received_dram a false, ← s.received_tile a false,
      ← s.received_frameOf a false, ← s.received_isHomeless a false, ← s.received_ch a false]
    refine ⟨fun hbad => ⟨_, rfl, ?_⟩, fun ha hh => ⟨_, rfl, State.dispatch_absent_outcome rfl ha hh⟩,
      fun f hl ha hh hf => ⟨_, rfl, State.dispatch_present_outcome rfl hl ha hh hf⟩⟩
    obtain ⟨houts, hdram, -, -⟩ := State.dispatch_bad_outcome
      (q := reqOf a (s.bar * 6240 + a.slot) (s.tileAt r dpa) (dpa / 64) false [] []) rfl hbad hdrop
    exact ⟨houts, hdram⟩
  · subst htile
    have hdrop : ((s.received a false).portState a.port).dropBefore ≤ s.bar * 6240 + a.slot := by
      obtain ⟨-, -, -, -, -, hdrop⟩ := State.carries_iff.mp hc
      rwa [State.received_dropBefore]
    have hread : (reqOf a (s.bar * 6240 + a.slot) (s.tileAt r dpa) (dpa / 64) false [] []).write = false := rfl
    have hregion : ((s.received a false).regionOfTile (s.tileAt r dpa)).isSome = true := by
      rw [← s.received_tileAt a false]
      exact State.tile_in_region ((s.received_ownedRegion a false _ _ _).trans hr)
    rw [exec_hostReadRequest_owned hc hd hr]
    simp only [← s.received_outs a false, ← s.received_dram a false, ← s.received_wordGood a false, ← s.received_get a false,
      ← s.received_frameOf a false, ← s.received_isHomeless a false]
    refine ⟨fun hbad => ⟨_, rfl, ?_⟩, fun hword hgood => ⟨_, rfl, ?_⟩, fun hword hgood hused => ⟨fun hentry => ⟨_, rfl, ?_⟩,
      fun hentry => ⟨_, rfl, ?_⟩⟩⟩
    · rw [State.readState_bad hbad]
      exact State.dispatch_bad_word
        (q := reqOf a (s.bar * 6240 + a.slot) (s.tileAt r dpa) (dpa / 64) false [] []) a.entry hread hdrop hregion
    · rw [hword, State.readState_corrected hgood, State.get_dispatch_words hread, (State.mapSpares_readMap _ _).words,
        State.get_count_self, satW_mod]
      rfl
    · rw [hword, hentry, State.readState_clean hgood, State.readMap_corrected hused, State.get_dispatch_entries hread,
        State.get_count_self, satW_mod]
      rfl
    · rw [hword, hentry, State.readState_clean hgood]
      exact State.dispatch_bad_entry
        (q := reqOf a (s.bar * 6240 + a.slot) (s.tileAt r dpa) (dpa / 64) false [] []) hread hdrop hused

end Sys2Proof.Machine
end

section
/-! PROOFS. Background work of the DRAM channels: self-refresh, maintenance, training records and write-backs (R60, R120, R122, R126,
R127, R131, R137). -/

namespace Sys2Proof.Machine

/-! ### A range of bytes written -/

section Ranges

variable {α : Type} [DecidableEq α] (d : α)

theorem Store.get_setRange (vs : List α) (m : List (Nat × α)) (k a : Nat) : Store.get d (Store.setRange d m k vs) a =
    if k ≤ a ∧ a < k + vs.length then vs.getD (a - k) d else Store.get d m a := by
  induction vs generalizing m k with
  | nil => exact (if_neg (by simp)).symm
  | cons v vs ih =>
    rw [Store.setRange, ih, List.length_cons]
    obtain rfl | hne := eq_or_ne a k
    · rw [if_neg (by omega), if_pos (by omega), Store.get_set_self, Nat.sub_self]
      rfl
    · rw [Store.get_set_ne _ _ _ hne]
      by_cases hin : k + 1 ≤ a ∧ a < k + 1 + vs.length
      · rw [if_pos hin, if_pos (by omega), show a - k = (a - (k + 1)) + 1 by omega]
        rfl
      · rw [if_neg hin, if_neg (by omega)]

/-- What is written at a place is read there. -/
theorem Store.getRange_setRange (vs : List α) (m : List (Nat × α)) (k : Nat) :
    Store.getRange d (Store.setRange d m k vs) k vs.length = vs := by
  refine List.ext_getElem (by simp [Store.getRange]) fun i _ hi => ?_
  simp only [Store.getRange, List.getElem_map, List.getElem_range]
  rw [Store.get_setRange, if_pos ⟨by omega, by omega⟩, Nat.add_sub_cancel_left]
  exact List.getD_eq_getElem _ _ hi

end Ranges

section Background

variable {s : State} {c : Nat}

theorem State.mem_channels : c ∈ channels ↔ c < 8 := List.mem_range

/-! ### Self-refresh (R122) -/

/-- The channels that play a table, and may enter self-refresh. -/
def State.players (s : State) : List Nat := channels.filter fun c => decide (chInService ≤ s.chState c) && s.chState c ≠ chFailed

/-- Gate 2 is driven by the warden. -/
def State.gate2 (s : State) (v : Nat) : State := (s.set (Reg.GUARD_OUT_OUT 2) v).set (Reg.GUARD_OUT_HW 2) 0

/-- Every channel that plays is in self-refresh. -/
def State.slept (s : State) : State :=
  (s.gate2 1).each (s.gate2 1).players fun u c => u.set (Reg.DCH_STAT_SELF_REFRESH c) 1

theorem State.selfRefreshOn_eq (s : State) : s.selfRefreshOn =
    if s.anyDebt || !s.atDownbeat then
      if s.atDownbeat then (s.updSeq fun q => { q with selfRefreshWait := true, selfRefreshExit := false }).replan
      else s.updSeq fun q => { q with selfRefreshWait := true, selfRefreshExit := false }
    else (s.updSeq fun q => { q with selfRefreshWait := false, selfRefreshExit := false }).slept := rfl

theorem exec_selfRefreshEntry (hon : s.on = true) : exec .selfRefreshEntry s =
    if s.get Reg.WARDEN_STAT_ACTIVE ≠ 0 && s.dozing && !s.saving then .next s.selfRefreshOn else .next s := s.powered_of_on hon

theorem exec_selfRefreshExit (hrun : s.running = true) : exec .selfRefreshExit s =
    if s.get Reg.WARDEN_STAT_ACTIVE ≠ 0 && !s.dozing then .next s.selfRefreshOff else .next s := State.engines_of_running hrun

theorem State.get_gate2 (s : State) (v : Nat) : (s.gate2 v).get (Reg.GUARD_OUT_OUT 2) = v % 2 ^ 16 :=
  (State.get_set_ne _ _ (by decide)).trans (State.get_set_self _ _ _)

theorem State.get_gate2_ne {f : Field} (v : Nat) (hout : f.key ≠ (Reg.GUARD_OUT_OUT 2).key) (hhw : f.key ≠ (Reg.GUARD_OUT_HW 2).key) :
    (s.gate2 v).get f = s.get f := (State.get_set_ne _ _ hhw).trans (State.get_set_ne _ _ hout)

theorem selfRefresh_key_inj {c d : Nat} (h : (Reg.DCH_STAT_SELF_REFRESH c).key = (Reg.DCH_STAT_SELF_REFRESH d).key) : c = d := by
  by_contra hne
  exact key_ne_of_addr_ne (f := Reg.DCH_STAT_SELF_REFRESH c) (g := Reg.DCH_STAT_SELF_REFRESH d) (by simp) (by simp)
    (by simp; omega) h

theorem selfRefresh_keys_nodup {l : List Nat} (h : l.Nodup) : (l.map fun c => (Reg.DCH_STAT_SELF_REFRESH c).key).Nodup :=
  h.map fun _ _ => selfRefresh_key_inj

theorem State.slept_outcome (s : State) : s.slept.get (Reg.GUARD_OUT_OUT 2) = 1 ∧
    (∀ c : Fin 8, s.slept.get (Reg.DCH_STAT_SELF_REFRESH c) =
      if chInService ≤ s.chState c ∧ s.chState c ≠ chFailed then 1 else s.get (Reg.DCH_STAT_SELF_REFRESH c)) ∧
    (∀ f : Field, f.key ≠ (Reg.GUARD_OUT_OUT 2).key → f.key ≠ (Reg.GUARD_OUT_HW 2).key →
      (∀ c : Fin 8, f.key ≠ (Reg.DCH_STAT_SELF_REFRESH c).key) → s.slept.get f = s.get f) ∧ s.onlyRegs s.slept := by
  have hlt : ∀ c ∈ s.players, c < 8 := fun c hc => State.mem_channels.mp (List.mem_of_mem_filter hc)
  have hgate (c : Nat) : (Reg.GUARD_OUT_OUT 2).key ≠ (Reg.DCH_STAT_SELF_REFRESH c).key := by
    exact key_ne_of_addr_ne (by simp) (by simp) (by simp; omega)
  have hself (c : Nat) : (s.gate2 1).get (Reg.DCH_STAT_SELF_REFRESH c) = s.get (Reg.DCH_STAT_SELF_REFRESH c) :=
    State.get_gate2_ne 1 (hgate c).symm (key_ne_of_addr_ne (by simp) (by simp) (by simp; omega))
  have hplayers : (s.gate2 1).players = s.players := by
    have hstate (c : Nat) : (s.gate2 1).chState c = s.chState c :=
      State.get_gate2_ne 1 (key_ne_of_addr_ne (by simp) (by simp) (by simp; omega)) (key_ne_of_addr_ne (by simp) (by simp) (by simp; omega))
    simp only [State.players, hstate]
  unfold State.slept
  rw [hplayers]
  refine ⟨?_, fun c => ?_, fun f hout hhw hf => ?_, ?_⟩
  · exact (State.get_each_set_ne (fun c _ => hgate c) _).trans (s.get_gate2 1)
  · by_cases hc : chInService ≤ s.chState c ∧ s.chState c ≠ chFailed
    · have hmem : c.val ∈ s.players := List.mem_filter.mpr ⟨State.mem_channels.mpr c.isLt, by simpa using hc⟩
      have hnd : (s.players.map fun d => (Reg.DCH_STAT_SELF_REFRESH d).key).Nodup :=
        selfRefresh_keys_nodup (channels_nodup.filter _)
      rw [if_pos hc]
      exact State.get_each_set (place := fun d => Reg.DCH_STAT_SELF_REFRESH d) (v := fun _ => 1) hnd hmem _
    · have hout : ∀ d ∈ s.players, (Reg.DCH_STAT_SELF_REFRESH c).key ≠ (Reg.DCH_STAT_SELF_REFRESH d).key := fun d hd he => by
        obtain rfl := selfRefresh_key_inj he
        exact hc (by simpa using (List.mem_filter.mp hd).2)
      rw [if_neg hc, State.get_each_set_ne hout, hself]
  · refine (State.get_each_set_ne (fun c hc => ?_) _).trans (State.get_gate2_ne 1 hout hhw)
    exact hf ⟨c, hlt c hc⟩
  · exact State.onlyRegs_trans (State.onlyRegs_trans (State.onlyRegs_set _ _ _) (State.onlyRegs_set _ _ _))
      (State.onlyRegs_each_set _ _ _ _)

/-! ### Maintenance (R120, R127) -/

/-- A channel's work once an operation of MAINT slots waits, unless one of its kind does. -/
def DramCh.withMaint (x : DramCh) (o : MaintOp) : DramCh :=
  if x.work.maint.any (fun m => m.1 = o) then x else { x with work := { x.work with maint := x.work.maint ++ [(o, maintSlots)] } }

theorem DramCh.withMaint_has (x : DramCh) (o : MaintOp) : ∃ m ∈ (x.withMaint o).work.maint, m.1 = o := by
  unfold DramCh.withMaint
  split
  · rename_i h
    simpa using h
  · exact ⟨_, List.mem_append_right _ List.mem_cons_self, rfl⟩

theorem DramCh.withMaint_mono {x : DramCh} {m : MaintOp × Nat} (o : MaintOp) (h : m ∈ x.work.maint) :
    m ∈ (x.withMaint o).work.maint := by
  unfold DramCh.withMaint
  split
  · exact h
  · exact List.mem_append_left _ h

/-- One channel changes as `g` says, and neither the other channels nor anything but DRAM does. -/
structure State.OnChan (c : Nat) (g : DramCh → DramCh) (s t : State) : Prop where
  self : t.ch c = g (s.ch c)
  other : ∀ d < 8, d ≠ c → t.ch d = s.ch d
  rest : ∃ dram, t = { s with dram := dram }

section OnChan

variable {g h : DramCh → DramCh} {t u : State}

theorem State.OnChan.bar (ht : State.OnChan c g s t) : t.bar = s.bar := by
  obtain ⟨_, h⟩ := ht.rest
  rw [h]

theorem State.OnChan.seq (ht : State.OnChan c g s t) : t.seq = s.seq := by
  obtain ⟨_, h⟩ := ht.rest
  rw [h]

theorem State.OnChan.get (ht : State.OnChan c g s t) (f : Field) : t.get f = s.get f := by
  obtain ⟨_, h⟩ := ht.rest
  rw [h]
  rfl

theorem State.OnChan.trans (ht : State.OnChan c g s t) (hu : State.OnChan c h t u) : State.OnChan c (fun x => h (g x)) s u where
  self := by rw [hu.self, ht.self]
  other d hd hne := (hu.other d hd hne).trans (ht.other d hd hne)
  rest := by
    obtain ⟨_, ht⟩ := ht.rest
    obtain ⟨dram, hu⟩ := hu.rest
    exact ⟨dram, by rw [hu, ht]⟩

theorem State.onChan_updCh (hc : c < 8) (s : State) : State.OnChan c g s (s.updCh c g) :=
  ⟨State.ch_updCh_self _ _ hc, fun _ hd hne => State.ch_updCh_ne _ _ hd hne, _, rfl⟩

theorem State.onChan_addMaint (hc : c < 8) (s : State) (o : MaintOp) : State.OnChan c (fun x => x.withMaint o) s (s.addMaint c o) := by
  by_cases h : (s.ch c).work.maint.any (fun m => m.1 = o) = true
  · rw [State.addMaint, if_pos h]
    exact ⟨(if_pos h).symm, fun _ _ _ => rfl, _, rfl⟩
  · rw [State.addMaint, if_neg h]
    refine ⟨(State.ch_updCh_self _ _ hc).trans (if_neg h).symm, fun _ hd hne => State.ch_updCh_ne _ _ hd hne, _, rfl⟩

/-- A step that is taken on a condition on the channel. -/
theorem State.OnChan.ite {p : State → Prop} {q : DramCh → Prop} [∀ s, Decidable (p s)] [∀ x, Decidable (q x)]
    (hiff : p s ↔ q (s.ch c)) (ht : State.OnChan c g s t) : State.OnChan c (fun x => if q x then g x else x) s (if p s then t else s) := by
  by_cases hp : p s
  · rw [if_pos hp]
    exact ⟨ht.self.trans (if_pos (hiff.mp hp)).symm, ht.other, ht.rest⟩
  · rw [if_neg hp]
    exact ⟨(if_neg fun hq => hp (hiff.mpr hq)).symm, fun _ _ _ => rfl, _, rfl⟩

end OnChan

/-- What falls due on one channel: the temperature read, ZQ calibration, DQS tracking. -/
def State.tempDue (s : State) (c : Nat) : State := if s.bar % 64 = 0 then s.addMaint c .temp else s

def State.zqDue (s : State) (c : Nat) : State :=
  if (s.ch c).zqBar + 32768 ≤ s.bar then (s.addMaint c .zq).updCh c fun x => { x with zqBar := s.bar } else s

def State.dqsDue (s : State) (c : Nat) : State :=
  if (s.ch c).dqsBar + 4096 ≤ s.bar then (s.addMaint c .dqs).updCh c fun x => { x with dqsBar := s.bar } else s

/-- What falls due on a channel at a bar. -/
def DramCh.withTemp (x : DramCh) (bar : Nat) : DramCh := if bar % 64 = 0 then x.withMaint .temp else x

def DramCh.withZq (x : DramCh) (bar : Nat) : DramCh := if x.zqBar + 32768 ≤ bar then { x.withMaint .zq with zqBar := bar } else x

def DramCh.withDqs (x : DramCh) (bar : Nat) : DramCh := if x.dqsBar + 4096 ≤ bar then { x.withMaint .dqs with dqsBar := bar } else x

theorem State.maintDue_eq (s : State) :
    s.maintDue = s.each (channels.filter s.maintains) fun s c => ((s.tempDue c).zqDue c).dqsDue c := rfl

theorem State.onChan_due (hc : c < 8) (s : State) :
    State.OnChan c (fun x => ((x.withTemp s.bar).withZq s.bar).withDqs s.bar) s (((s.tempDue c).zqDue c).dqsDue c) := by
  have htemp (u : State) : State.OnChan c (fun x => x.withTemp u.bar) u (u.tempDue c) :=
    (u.onChan_addMaint hc .temp).ite (p := fun u => u.bar % 64 = 0) (q := fun _ => u.bar % 64 = 0) Iff.rfl
  have hzq (u : State) : State.OnChan c (fun x => x.withZq u.bar) u (u.zqDue c) :=
    ((u.onChan_addMaint hc .zq).trans (State.onChan_updCh (g := fun x => { x with zqBar := u.bar }) hc _)).ite
      (p := fun u => (u.ch c).zqBar + 32768 ≤ u.bar) (q := fun x => x.zqBar + 32768 ≤ u.bar) Iff.rfl
  have hdqs (u : State) : State.OnChan c (fun x => x.withDqs u.bar) u (u.dqsDue c) :=
    ((u.onChan_addMaint hc .dqs).trans (State.onChan_updCh (g := fun x => { x with dqsBar := u.bar }) hc _)).ite
      (p := fun u => (u.ch c).dqsBar + 4096 ≤ u.bar) (q := fun x => x.dqsBar + 4096 ≤ u.bar) Iff.rfl
  have h := ((htemp s).trans (hzq _)).trans (hdqs _)
  rwa [((htemp s).trans (hzq _)).bar, (htemp s).bar] at h

/-- What falls due on a channel that carries out maintenance. -/
theorem State.ch_maintDue (hc : c < 8) (h : s.maintains c = true) :
    s.maintDue.ch c = (((s.ch c).withTemp s.bar).withZq s.bar).withDqs s.bar := by
  have hkeep : ∀ (l : List Nat) (u : State), (∀ d ∈ l, d < 8 ∧ d ≠ c) →
      ((u.each l fun s d => ((s.tempDue d).zqDue d).dqsDue d).ch c, (u.each l fun s d => ((s.tempDue d).zqDue d).dqsDue d).bar) =
        (u.ch c, u.bar) := fun l u hl =>
    foldl_unchanged (look := fun u : State => (u.ch c, u.bar)) (fun u d hd => by
      obtain ⟨hlt, hne⟩ := hl d hd
      rw [(u.onChan_due hlt).other c hc hne.symm, (u.onChan_due hlt).bar]) u
  have hmem : c ∈ channels.filter s.maintains := List.mem_filter.mpr ⟨State.mem_channels.mpr hc, h⟩
  have hnd := channels_nodup.filter s.maintains
  have hlt : ∀ d ∈ channels.filter s.maintains, d < 8 := fun d hd => State.mem_channels.mp (List.mem_of_mem_filter hd)
  obtain ⟨before, after, hsplit⟩ := List.append_of_mem hmem
  rw [hsplit] at hnd hlt
  obtain ⟨-, hnot, hdisjoint⟩ := List.nodup_append.mp hnd
  rw [List.nodup_cons] at hnot
  have hbefore := hkeep before s fun d hd => ⟨hlt d (List.mem_append_left _ hd), hdisjoint d hd c List.mem_cons_self⟩
  obtain ⟨hch, hbar⟩ := Prod.mk.inj hbefore
  rw [State.maintDue_eq, hsplit, State.each, List.foldl_append, List.foldl_cons]
  have hafter := hkeep after ((((s.each before fun s d => ((s.tempDue d).zqDue d).dqsDue d).tempDue c).zqDue c).dqsDue c)
    fun d hd => ⟨hlt d (List.mem_append_right _ (List.mem_cons_of_mem _ hd)), fun he => hnot.1 (he ▸ hd)⟩
  refine (Prod.mk.inj hafter).1.trans ?_
  rw [(State.onChan_due hc _).self, hch, hbar]

theorem DramCh.withMaint_zqBar (x : DramCh) (o : MaintOp) : (x.withMaint o).zqBar = x.zqBar := by
  unfold DramCh.withMaint
  split <;> rfl

theorem DramCh.withMaint_dqsBar (x : DramCh) (o : MaintOp) : (x.withMaint o).dqsBar = x.dqsBar := by
  unfold DramCh.withMaint
  split <;> rfl

theorem DramCh.withZq_mono {x : DramCh} {m : MaintOp × Nat} (bar : Nat) (h : m ∈ x.work.maint) : m ∈ (x.withZq bar).work.maint := by
  unfold DramCh.withZq
  split
  · exact DramCh.withMaint_mono _ h
  · exact h

theorem DramCh.withDqs_mono {x : DramCh} {m : MaintOp × Nat} (bar : Nat) (h : m ∈ x.work.maint) : m ∈ (x.withDqs bar).work.maint := by
  unfold DramCh.withDqs
  split
  · exact DramCh.withMaint_mono _ h
  · exact h

theorem DramCh.withTemp_bars (x : DramCh) (bar : Nat) : (x.withTemp bar).zqBar = x.zqBar ∧ (x.withTemp bar).dqsBar = x.dqsBar := by
  unfold DramCh.withTemp
  split
  · exact ⟨x.withMaint_zqBar _, x.withMaint_dqsBar _⟩
  · exact ⟨rfl, rfl⟩

theorem DramCh.withZq_dqsBar (x : DramCh) (bar : Nat) : (x.withZq bar).dqsBar = x.dqsBar := by
  unfold DramCh.withZq
  split
  · exact x.withMaint_dqsBar _
  · rfl

theorem DramCh.withDqs_zqBar (x : DramCh) (bar : Nat) : (x.withDqs bar).zqBar = x.zqBar := by
  unfold DramCh.withDqs
  split
  · exact x.withMaint_zqBar _
  · rfl

/-- ZQ calibration, DQS tracking and the temperature read enter the MAINT work once they are due (R120, R127). -/
theorem State.maintDue_outcome (hc : c < 8) (h : s.maintains c = true) :
    ((s.ch c).zqBar + 32768 ≤ s.bar → (s.maintDue.ch c).zqBar = s.bar ∧ ∃ m ∈ (s.maintDue.ch c).work.maint, m.1 = .zq) ∧
    ((s.ch c).dqsBar + 4096 ≤ s.bar → (s.maintDue.ch c).dqsBar = s.bar ∧ ∃ m ∈ (s.maintDue.ch c).work.maint, m.1 = .dqs) ∧
    (s.bar % 64 = 0 → ∃ m ∈ (s.maintDue.ch c).work.maint, m.1 = .temp) := by
  rw [State.ch_maintDue hc h]
  obtain ⟨hzq, hdqs⟩ := (s.ch c).withTemp_bars s.bar
  refine ⟨fun hdue => ?_, fun hdue => ?_, fun hdue => ?_⟩
  · rw [← hzq] at hdue
    rw [DramCh.withDqs_zqBar]
    have heq : ((s.ch c).withTemp s.bar).withZq s.bar = { ((s.ch c).withTemp s.bar).withMaint .zq with zqBar := s.bar } := if_pos hdue
    obtain ⟨m, hm, hop⟩ := ((s.ch c).withTemp s.bar).withMaint_has .zq
    exact ⟨by rw [heq], m, DramCh.withDqs_mono _ (by rw [heq]; exact hm), hop⟩
  · rw [← hdqs, ← DramCh.withZq_dqsBar _ s.bar] at hdue
    have heq : (((s.ch c).withTemp s.bar).withZq s.bar).withDqs s.bar =
        { (((s.ch c).withTemp s.bar).withZq s.bar).withMaint .dqs with dqsBar := s.bar } := if_pos hdue
    obtain ⟨m, hm, hop⟩ := (((s.ch c).withTemp s.bar).withZq s.bar).withMaint_has .dqs
    rw [heq]
    exact ⟨rfl, m, hm, hop⟩
  · have heq : (s.ch c).withTemp s.bar = (s.ch c).withMaint .temp := if_pos hdue
    obtain ⟨m, hm, hop⟩ := (s.ch c).withMaint_has .temp
    exact ⟨m, DramCh.withDqs_mono _ (DramCh.withZq_mono _ (by rw [heq]; exact hm)), hop⟩

/-! ### Self-refresh ends (R122) -/

/-- One channel leaves self-refresh, and its temperature is read. -/
def State.woken (s : State) (c : Nat) : State := (s.set (Reg.DCH_STAT_SELF_REFRESH c) 0).addMaint c .temp

/-- The channels in self-refresh. -/
def State.sleepers (s : State) : List Nat := channels.filter fun c => s.flag (Reg.DCH_STAT_SELF_REFRESH c)

theorem State.selfRefreshOff_later (h : s.atDownbeat = false) : s.selfRefreshOff = { s with seq := { s.seq with
    selfRefreshWait := false, selfRefreshExit := channels.any fun c => s.flag (Reg.DCH_STAT_SELF_REFRESH c) } } := by
  have hdown : (s.updSeq fun q => { q with selfRefreshWait := false }).atDownbeat = false := h
  have hany : (!(s.sleepers).isEmpty) = channels.any fun c => s.flag (Reg.DCH_STAT_SELF_REFRESH c) := by
    rw [Bool.eq_iff_iff, Bool.not_eq_true', List.isEmpty_eq_false_iff_exists_mem, List.any_eq_true]
    simp only [State.sleepers, List.mem_filter]
  rw [← hany]
  unfold State.selfRefreshOff
  dsimp only
  rw [hdown]
  rfl

theorem State.selfRefreshOff_eq (h : s.atDownbeat = true) : s.selfRefreshOff =
    ((s.updSeq fun q => { q with selfRefreshWait := false, selfRefreshExit := false }).gate2 0).each s.sleepers State.woken := by
  have hdown : (s.updSeq fun q => { q with selfRefreshWait := false }).atDownbeat = true := h
  unfold State.selfRefreshOff
  dsimp only
  rw [hdown]
  rfl

/-- What channels that leave self-refresh leave alone: the sequencer, every other field, a flag that is 0, the queues, and the MAINT work
that waits. -/
structure State.Wakes (s t : State) : Prop where
  seq : t.seq = s.seq
  get : ∀ f : Field, (∀ c, f.key ≠ (Reg.DCH_STAT_SELF_REFRESH c).key) → t.get f = s.get f
  awake : ∀ c, s.get (Reg.DCH_STAT_SELF_REFRESH c) = 0 → t.get (Reg.DCH_STAT_SELF_REFRESH c) = 0
  reqs : ∀ c < 8, (t.ch c).reqs = (s.ch c).reqs
  maint : ∀ c < 8, ∀ m ∈ (s.ch c).work.maint, m ∈ (t.ch c).work.maint

theorem State.Wakes.refl (s : State) : s.Wakes s := ⟨rfl, fun _ _ => rfl, fun _ h => h, fun _ _ => rfl, fun _ _ _ h => h⟩

theorem State.Wakes.trans {t u : State} (h : s.Wakes t) (h' : t.Wakes u) : s.Wakes u where
  seq := h'.seq.trans h.seq
  get f hf := (h'.get f hf).trans (h.get f hf)
  awake c hc := h'.awake c (h.awake c hc)
  reqs c hc := (h'.reqs c hc).trans (h.reqs c hc)
  maint c hc m hm := h'.maint c hc m (h.maint c hc m hm)

theorem DramCh.withMaint_reqs (x : DramCh) (o : MaintOp) : (x.withMaint o).reqs = x.reqs := by
  unfold DramCh.withMaint
  split <;> rfl

theorem State.woken_outcome (hc : c < 8) (s : State) : s.Wakes (s.woken c) ∧ (s.woken c).get (Reg.DCH_STAT_SELF_REFRESH c) = 0 ∧
    ∃ m ∈ ((s.woken c).ch c).work.maint, m.1 = .temp := by
  have hon := (s.set (Reg.DCH_STAT_SELF_REFRESH c) 0).onChan_addMaint hc .temp
  have hself : (s.woken c).get (Reg.DCH_STAT_SELF_REFRESH c) = 0 := (hon.get _).trans (State.get_set_self _ _ _)
  refine ⟨⟨hon.seq, fun f hf => (hon.get f).trans (State.get_set_ne _ _ (hf c)), fun d hd => ?_, fun d hd => ?_, fun d hd m hm => ?_⟩,
    hself, ?_⟩
  · obtain rfl | hne := eq_or_ne d c
    · exact hself
    · exact (hon.get _).trans ((State.get_set_ne _ _ fun he => hne (selfRefresh_key_inj he)).trans hd)
  · obtain rfl | hne := eq_or_ne d c
    · exact (congrArg DramCh.reqs hon.self).trans (DramCh.withMaint_reqs _ _)
    · exact congrArg DramCh.reqs (hon.other d hd hne)
  · obtain rfl | hne := eq_or_ne d c
    · rw [State.woken, hon.self]
      exact DramCh.withMaint_mono _ hm
    · rw [State.woken, hon.other d hd hne]
      exact hm
  · rw [State.woken, hon.self]
    exact DramCh.withMaint_has _ _

theorem State.wakes_each {l : List Nat} (h : ∀ d ∈ l, d < 8) (s : State) : s.Wakes (s.each l State.woken) := by
  induction l generalizing s with
  | nil => exact .refl s
  | cons d l ih =>
    obtain ⟨hd, -, -⟩ := State.woken_outcome (h d List.mem_cons_self) s
    exact hd.trans (ih (fun e he => h e (List.mem_cons_of_mem d he)) (s.woken d))

/-- A channel that was in self-refresh leaves it with a temperature read to come. -/
theorem State.each_woken {l : List Nat} (h : ∀ d ∈ l, d < 8) (hc : c ∈ l) (s : State) :
    (s.each l State.woken).get (Reg.DCH_STAT_SELF_REFRESH c) = 0 ∧ ∃ m ∈ ((s.each l State.woken).ch c).work.maint, m.1 = .temp := by
  obtain ⟨before, after, rfl⟩ := List.append_of_mem hc
  obtain ⟨-, hget, m, hm, hop⟩ := State.woken_outcome (h c hc) (s.each before State.woken)
  have hafter := State.wakes_each (l := after) (fun d hd => h d (List.mem_append_right _ (List.mem_cons_of_mem c hd)))
    ((s.each before State.woken).woken c)
  rw [State.each, List.foldl_append, List.foldl_cons]
  exact ⟨hafter.awake c hget, m, hafter.maint c (h c hc) m hm, hop⟩

theorem State.selfRefreshOff_outcome (h : s.atDownbeat = true) : s.selfRefreshOff.get (Reg.GUARD_OUT_OUT 2) = 0 ∧
    s.selfRefreshOff.seq = { s.seq with selfRefreshWait := false, selfRefreshExit := false } ∧
    ∀ c : Fin 8, s.selfRefreshOff.get (Reg.DCH_STAT_SELF_REFRESH c) = 0 ∧ (s.selfRefreshOff.ch c).reqs = (s.ch c).reqs ∧
      (s.flag (Reg.DCH_STAT_SELF_REFRESH c) = true → ∃ m ∈ (s.selfRefreshOff.ch c).work.maint, m.1 = .temp) := by
  have hgate (c : Nat) : (Reg.GUARD_OUT_OUT 2).key ≠ (Reg.DCH_STAT_SELF_REFRESH c).key :=
    key_ne_of_addr_ne (by simp) (by simp) (by simp; omega)
  have hlt : ∀ c ∈ s.sleepers, c < 8 := fun c hc => State.mem_channels.mp (List.mem_of_mem_filter hc)
  have hwakes := State.wakes_each hlt ((s.updSeq fun q => { q with selfRefreshWait := false, selfRefreshExit := false }).gate2 0)
  rw [State.selfRefreshOff_eq h]
  refine ⟨(hwakes.get _ hgate).trans (State.get_gate2 _ 0), hwakes.seq, fun c => ⟨?_, hwakes.reqs c c.isLt, fun hflag => ?_⟩⟩
  · by_cases hflag : s.flag (Reg.DCH_STAT_SELF_REFRESH c) = true
    · exact (State.each_woken hlt (List.mem_filter.mpr ⟨State.mem_channels.mpr c.isLt, hflag⟩) _).1
    · refine hwakes.awake c ((State.get_gate2_ne 0 (hgate c).symm (key_ne_of_addr_ne (by simp) (by simp) (by simp; omega))).trans ?_)
      simpa [State.flag] using hflag
  · exact (State.each_woken hlt (List.mem_filter.mpr ⟨State.mem_channels.mpr c.isLt, hflag⟩) _).2

/-! ### Training records and write-backs (R126, R131, R137) -/

theorem exec_trainingSeedWrite (hrun : s.running = true) (c : Fin 8) (ok : Bool) : exec (.trainingSeedWrite ⟨c, ok⟩) s =
    if ((s.ch c).seedNew.isSome || (s.ch c).recordDue) && !s.saving && s.get Reg.SYS_STATE_STEP = 15 then .next (s.writeTraining c ok)
    else .next s := State.engines_of_running hrun

theorem State.writeTraining_outcome (s : State) (c : Nat) (ok : Bool) :
    ∃ k : TrainSlot, k.commit = ok ∧ k.crcOk = ok ∧ k.pending = (s.ch c).pendingRows ∧ k.retired = (s.ch c).retired ∧
      k.identity = Config.identityKey ∧ k.config = s.cardConfig c ∧ (∀ d, (s.ch c).seedNew = some d → k.seed = some d) ∧
      (∀ j old, (s.ch c).newestSlot = some (j, old) → k.seq = old.seq + 1) ∧
      s.writeTraining c ok = s.updCh c fun x => { x with
        slots := x.slots.set (((s.ch c).newestSlot.map (1 - ·.1)).getD 0) (some k)
        seedNew := if ok then none else x.seedNew
        recordDue := !ok && x.recordDue } := by
  refine ⟨_, rfl, rfl, rfl, rfl, rfl, rfl, fun d hd => ?_, fun j old hold => ?_, rfl⟩
  · simp only [hd]
    rfl
  · simp only [hold]
    rfl

/-- A task picked by its content is the oldest of that content. -/
theorem pickTask_eq {α : Type} {f : Task → Option α} {g : α → Task} (h : ∀ k x, f k = some x → k = g x) (l : List Task) :
    pickTask l f = (l.findSome? f).map fun x => (g x, x) := by
  rw [pickTask, List.map_findSome?]
  congr 1
  funext k
  rw [Function.comp_apply]
  cases hf : f k with
  | none => rfl
  | some x => exact congrArg (fun y => some (y, x)) (h k x hf)

/-- The write-back that a task is. -/
def Task.line? : Task → Option LineRef
  | .writeback x => some x
  | _ => none

theorem Task.eq_of_line? (k : Task) (x : LineRef) (h : k.line? = some x) : k = .writeback x := by
  cases k with
  | writeback y => exact congrArg Task.writeback (Option.some.inj h)
  | _ => cases h

/-- The line of a write-back as it is written: zeros, and no marker any more; or the data that the decoder corrected. -/
def State.rewritten (s : State) (x : LineRef) : State :=
  if x.zero then (s.setPoison x.frame x.line false).writeFrame x.frame (x.line * 64) (List.replicate 64 0#8)
  else if x.data.length = 64 then s.writeFrame x.frame (x.line * 64) x.data
  else s

theorem State.writeback_eq (s : State) (c : Nat) : s.writeback c = match (s.ch c).tasks.findSome? Task.line? with
    | none => s
    | some x => (s.takeTask c (.writeback x)).rewritten x := by
  have hpick : s.writeback c = match pickTask (s.ch c).tasks Task.line? with
      | none => s
      | some (k, x) => (s.takeTask c k).rewritten x := rfl
  rw [hpick, pickTask_eq Task.eq_of_line?]
  cases (s.ch c).tasks.findSome? Task.line? <;> rfl

section Line

variable {x : LineRef}

theorem State.readLine_writeFrame {f i : Nat} {bs : List Byte} (h : bs.length = 64) (s : State) :
    (s.writeFrame f (i * 64) bs).readLine f i = bs := by
  have hread := Store.getRange_setRange 0#8 bs s.dram.bytes (f * 65536 + i * 64)
  rwa [h] at hread

theorem State.bytes_writeFrame_ne {f i a : Nat} {bs : List Byte} (h : bs.length = 64) (ha : a / 64 ≠ f * 1024 + i) (s : State) :
    Store.get 0#8 (s.writeFrame f (i * 64) bs).dram.bytes a = Store.get 0#8 s.dram.bytes a :=
  (Store.get_setRange 0#8 bs s.dram.bytes (f * 65536 + i * 64) a).trans (if_neg (by omega))

theorem State.rewritten_zero (hz : x.zero = true) (s : State) : s.rewritten x =
    (s.setPoison x.frame x.line false).writeFrame x.frame (x.line * 64) (List.replicate 64 0#8) := if_pos hz

theorem State.rewritten_data (hz : x.zero = false) (hd : x.data.length = 64) (s : State) :
    s.rewritten x = s.writeFrame x.frame (x.line * 64) x.data :=
  (if_neg (ne_true_of_eq_false hz)).trans (if_pos hd)

theorem State.rewritten_none (hz : x.zero = false) (hd : x.data.length ≠ 64) (s : State) : s.rewritten x = s :=
  (if_neg (ne_true_of_eq_false hz)).trans (if_neg hd)

/-- The line's bytes and its marker change alone. -/
theorem State.rewritten_frame (s : State) (x : LineRef) : ∃ bytes poison, s.rewritten x =
    { s with dram := { s.dram with bytes := bytes, poison := poison } } := by
  unfold State.rewritten
  split_ifs
  · exact ⟨_, _, rfl⟩
  · exact ⟨_, _, rfl⟩
  · exact ⟨_, _, rfl⟩

theorem State.rewritten_outcome (s : State) (x : LineRef) :
    (x.zero = true → (s.rewritten x).poisoned x.frame x.line = false ∧
      (s.rewritten x).readLine x.frame x.line = List.replicate 64 0#8) ∧
    (x.zero = false → (s.rewritten x).dram.poison = s.dram.poison ∧
      (x.data.length = 64 → (s.rewritten x).readLine x.frame x.line = x.data) ∧
      (x.data.length ≠ 64 → (s.rewritten x).dram.bytes = s.dram.bytes)) ∧
    ∀ a, a / 64 ≠ x.frame * 1024 + x.line → Store.get 0#8 (s.rewritten x).dram.bytes a = Store.get 0#8 s.dram.bytes a := by
  refine ⟨fun hz => ?_, fun hz => ⟨?_, fun hd => ?_, fun hd => ?_⟩, fun a ha => ?_⟩
  · rw [State.rewritten_zero hz]
    refine ⟨?_, State.readLine_writeFrame List.length_replicate _⟩
    exact Store.get_set_self false false s.dram.poison (x.frame * 1024 + x.line)
  · by_cases hd : x.data.length = 64
    · rw [State.rewritten_data hz hd]
      rfl
    · rw [State.rewritten_none hz hd]
  · rw [State.rewritten_data hz hd]
    exact State.readLine_writeFrame hd s
  · rw [State.rewritten_none hz hd]
  · cases hz : x.zero with
    | true =>
      rw [State.rewritten_zero hz]
      exact State.bytes_writeFrame_ne List.length_replicate ha _
    | false =>
      by_cases hd : x.data.length = 64
      · rw [State.rewritten_data hz hd]
        exact State.bytes_writeFrame_ne hd ha s
      · rw [State.rewritten_none hz hd]

/-- A write-back is done with, its line is written, and DRAM changes alone. -/
theorem State.writeback_outcome (hc : c < 8) (hx : (s.ch c).tasks.findSome? Task.line? = some x) :
    ((s.writeback c).ch c).tasks = (s.ch c).tasks.erase (.writeback x) ∧
    (x.zero = true → (s.writeback c).poisoned x.frame x.line = false ∧
      (s.writeback c).readLine x.frame x.line = List.replicate 64 0#8) ∧
    (x.zero = false → (s.writeback c).dram.poison = s.dram.poison ∧
      (x.data.length = 64 → (s.writeback c).readLine x.frame x.line = x.data) ∧
      (x.data.length ≠ 64 → (s.writeback c).dram.bytes = s.dram.bytes)) ∧
    (∀ a, a / 64 ≠ x.frame * 1024 + x.line → Store.get 0#8 (s.writeback c).dram.bytes a = Store.get 0#8 s.dram.bytes a) ∧
    { s.writeback c with dram := s.dram } = s := by
  have heq : s.writeback c = (s.takeTask c (.writeback x)).rewritten x := by rw [State.writeback_eq, hx]
  obtain ⟨hzero, hdata, hbytes⟩ := (s.takeTask c (.writeback x)).rewritten_outcome x
  obtain ⟨bytes, poison, hframe⟩ := (s.takeTask c (.writeback x)).rewritten_frame x
  rw [heq]
  refine ⟨?_, hzero, hdata, hbytes, ?_⟩
  · have hch : ((s.takeTask c (.writeback x)).rewritten x).ch c = (s.takeTask c (.writeback x)).ch c := by
      rw [hframe]
      rfl
    rw [hch, State.takeTask, State.ch_updCh_self _ _ hc]
  · rw [hframe]
    rfl

end Line

end Background

/-- Settles O16: self-refresh begins and ends, maintenance falls due, and what quads have issued completes. -/
theorem dramBackgroundWork : Obligations.DramBackgroundWork := by
  unfold Obligations.DramBackgroundWork
  refine ⟨fun s hon => ⟨fun h => ?_, fun hact hdoze hsave => ⟨fun hdown hdebt => ?_, fun hdown => ?_, fun hdown hdebt => ?_⟩⟩,
    fun s hrun => ⟨fun h => ?_, fun hact hdoze => ⟨fun hdown => ?_, fun hdown => ?_⟩⟩,
    fun s c h => State.maintDue_outcome c.isLt h,
    fun s c hrun => ⟨State.engines_of_running hrun, State.engines_of_running hrun, fun ok => ⟨fun h => ?_, fun hdue hsave hstep => ?_⟩,
      fun hnone => ?_, fun x hx => ?_⟩⟩
  · rw [exec_selfRefreshEntry hon]
    exact if_neg (by rcases h with h | h | h <;> simp [h])
  · rw [exec_selfRefreshEntry hon, if_pos (by simp [hact, hdoze, hsave]), State.selfRefreshOn_eq, if_neg (by simp [hdown, hdebt])]
    obtain ⟨hgate, hflags, hother, regs, hregs⟩ :=
      (s.updSeq fun q => { q with selfRefreshWait := false, selfRefreshExit := false }).slept_outcome
    exact ⟨_, rfl, hgate, by rw [hregs]; rfl, hflags, hother, by rw [hregs]; rfl⟩
  · rw [exec_selfRefreshEntry hon, if_pos (by simp [hact, hdoze, hsave]), State.selfRefreshOn_eq, if_pos (by simp [hdown]),
      if_neg (by simp [hdown])]
    rfl
  · rw [exec_selfRefreshEntry hon, if_pos (by simp [hact, hdoze, hsave]), State.selfRefreshOn_eq, if_pos (by simp [hdebt]),
      if_pos hdown]
    rfl
  · rw [exec_selfRefreshExit hrun]
    exact if_neg (by rcases h with h | h <;> simp [h])
  · rw [exec_selfRefreshExit hrun, if_pos (by simp [hact, hdoze]), State.selfRefreshOff_later hdown]
  · rw [exec_selfRefreshExit hrun, if_pos (by simp [hact, hdoze])]
    exact ⟨_, rfl, State.selfRefreshOff_outcome hdown⟩
  · rw [exec_trainingSeedWrite hrun]
    exact if_neg (by rcases h with ⟨hseed, hrec⟩ | h | h <;> simp [*])
  · obtain ⟨k, hcommit, hcrc, hpend, hret, hid, hcfg, hseed, hseq, heq⟩ := s.writeTraining_outcome c ok
    refine ⟨k, hcommit, hcrc, hpend, hret, hid, hcfg, hseed, hseq, ?_⟩
    rw [exec_trainingSeedWrite hrun, ← heq]
    refine if_pos ?_
    simp only [hsave, hstep, Bool.not_false, Bool.and_true, decide_true, Bool.or_eq_true, Option.isSome_iff_ne_none]
    exact hdue
  · have hno : (s.ch c).tasks.findSome? Task.line? = none := hnone
    refine (State.engines_of_running hrun).trans (?_)
    rw [State.writeback_eq, hno]
  · exact ⟨_, State.engines_of_running hrun, State.writeback_outcome c.isLt hx⟩

end Sys2Proof.Machine
end

section
/-! PROOFS. Overruns and what follows them: their record, rest bars, and the channel that fails; and the temperature of a DRAM channel
(R61, R62, R63, R116, R120, R121, R150, R156, R158, R289). -/

namespace Sys2Proof.Machine

section KeepsWord

variable {a : Nat} {s t u : State}

/-! ### A register that is left alone -/

/-- Every field at an address reads as before. -/
def State.KeepsWord (a : Nat) (s t : State) : Prop := ∀ f : Field, f.lo < 32 → f.addr = a → t.get f = s.get f

theorem State.KeepsWord.refl (a : Nat) (s : State) : State.KeepsWord a s s := fun _ _ _ => rfl

theorem State.KeepsWord.trans (h : State.KeepsWord a s t) (h' : State.KeepsWord a t u) : State.KeepsWord a s u :=
  fun f hlo ha => (h' f hlo ha).trans (h f hlo ha)

/-- What leaves the registers alone leaves each of them alone. -/
theorem State.KeepsWord.of_regs (h : t.regs = s.regs) : State.KeepsWord a s t := fun f _ _ => by rw [State.get, h]; rfl

theorem State.KeepsWord.set (h : State.KeepsWord a s t) (f : Field) (v : Nat) (hlo : f.lo < 32) (ha : f.addr ≠ a) :
    State.KeepsWord a s (t.set f v) := fun g hg hga => (State.get_set_ne _ _ (key_ne_of_addr_ne hg hlo (hga ▸ ha.symm))).trans (h g hg hga)

theorem State.KeepsWord.raise (h : State.KeepsWord a s t) (n : Nat) (d : List DField) (l : List CxlRec) :
    State.KeepsWord a s (t.raise n d l) := h

theorem State.KeepsWord.ite (h : State.KeepsWord a s t) (h' : State.KeepsWord a s u) (p : Prop) [Decidable p] :
    State.KeepsWord a s (if p then t else u) := by
  split
  · exact h
  · exact h'

theorem State.KeepsWord.each {α : Type} {step : State → α → State} (h : ∀ s x, State.KeepsWord a s (step s x)) (l : List α)
    (s : State) : State.KeepsWord a s (s.each l step) :=
  State.each_related (State.KeepsWord.refl a) State.KeepsWord.trans h l s

end KeepsWord

/-! ### A DRAM channel that fails (R150) -/

section FailDram

variable {a : Nat} (s : State)

/-- Publishing a bar writes SCORE_STAT alone. -/
theorem State.keepsWord_planBar (ha : a ≠ 0x20004) (switched forced saveFirst : Bool) :
    State.KeepsWord a s (s.planBar switched forced saveFirst) := by
  have hpress (t : VariantTab) (fresh : Bool) (u : State) (c : Nat) : State.KeepsWord a u (u.planPress t c fresh) := by
    unfold State.planPress
    split
    · exact .of_regs rfl
    · have hset : State.KeepsWord a u (u.updCh c fun x => { x with press := (u.pressOf t c fresh).1 }) := .of_regs rfl
      exact .ite (hset.raise _ _ _) hset _
  have hcredits (g : Nat → Grant) (u : State) (p : Nat) : State.KeepsWord a u (u.returnCredits p (g p)) := by
    unfold State.returnCredits
    split
    · exact .refl a u
    · exact .of_regs rfl
  unfold State.planBar
  cases s.playing with
  | none => exact .refl a s
  | some t =>
    dsimp -zeta only
    extract_lets s1 again s2 s3 s4 void s5 s6 grants
    have h1 : State.KeepsWord a s s1 := State.KeepsWord.each (hpress t switched) channels s
    clear_value s1
    have h2 : State.KeepsWord a s s2 := by
      have hclear : State.KeepsWord a s1 (s1.updSeq fun q => { q with
        passUsed := [0, 0, 0, 0], zeroUsed := List.replicate 8 0, xtsUsed := [0, 0, 0, 0], granted := List.replicate 4 (0, 0) }) :=
        .of_regs rfl
      exact State.KeepsWord.ite h1 (h1.trans hclear) _
    clear_value s2
    have h3 : State.KeepsWord a s s3 := by
      refine h2.trans (State.KeepsWord.each (fun u c => ?_) channels s2)
      exact .of_regs rfl
    clear_value s3
    have h4 : State.KeepsWord a s s4 := h3
    clear_value s4
    have h5 : State.KeepsWord a s s5 := (h4.set _ _ (by simp) ha.symm).set _ _ (by simp) ha.symm
    have h6 : State.KeepsWord a s s6 := (h5.set _ _ (by simp) ha.symm).set _ _ (by simp) ha.symm
    exact h6.trans (State.KeepsWord.each (hcredits fun p => grants.getD p ⟨0, 0⟩) ports s6)

theorem State.keepsWord_replan (ha : a ≠ 0x20004) : State.KeepsWord a s s.replan :=
  .ite (s.keepsWord_planBar ha false false false) (.refl a s) _

theorem State.Spares.keepsWord {s t : State} (h : s.Spares t) (ho : a ≠ 0x80000) (hl : a ≠ 0x8010C) : State.KeepsWord a s t :=
  fun f hlo hf => h.get f (key_ne_of_addr_ne hlo (by simp) (hf ▸ ho)) (key_ne_of_addr_ne hlo (by simp) (hf ▸ hl))

theorem State.keepsWord_rehome (k : Nat) : State.KeepsWord a s (s.rehome k) := by
  unfold State.rehome
  split
  · exact .of_regs rfl
  · exact .of_regs rfl

theorem State.keepsWord_failTile (ho : a ≠ 0x80000) (hl : a ≠ 0x8010C) (k : Nat) : State.KeepsWord a s (s.failTile k) := by
  unfold State.failTile
  dsimp only
  split_ifs
  · have hcode : State.KeepsWord a s (s.setCode k codeAbsent) := .of_regs rfl
    exact hcode.trans (State.keepsWord_rehome _ k)
  · exact s.keepsWord_rehome k
  · exact s.keepsWord_rehome k
  · exact (s.spares_loseInSave k 2).keepsWord ho hl
  · exact .of_regs rfl

/-- A failing channel takes its cause and its state, and what follows leaves DCH_n_STAT alone. -/
theorem State.failChannel_keepsWord {c : Nat} (hc : c < 8) (cause : Nat) : ∃ u : State,
    State.KeepsWord (0x40000 + 0x4000 * c) ((u.set (Reg.DCH_STAT_FAIL_CAUSE c) cause).setChState c chFailed) (s.failChannel c cause) := by
  have hdebt (u : State) : State.KeepsWord (0x40000 + 0x4000 * c) u (u.debtClear c) := by
    have hclear := (((State.KeepsWord.refl (0x40000 + 0x4000 * c) u).set (Reg.DCH_REF_DEBT_DEBT c) 0 (by simp) (by simp)).set
      (Reg.DCH_REF_DEBT_INHERITED c) 0 (by simp) (by simp))
    exact hclear.set _ _ (by simp) (by simp; omega)
  have hzero (u : State) : State.KeepsWord (0x40000 + 0x4000 * c) u (u.dropZeroing c) := .of_regs rfl
  have hframe (u : State) (k : Nat) : State.KeepsWord (0x40000 + 0x4000 * c) u (u.setFrame k none) := .of_regs rfl
  have hoffline (u : State) : State.KeepsWord (0x40000 + 0x4000 * c) u u.updOffline :=
    (State.KeepsWord.refl _ u).set _ _ (by simp) (by simp; omega)
  have hfail := fun u : State => u.keepsWord_failTile (a := 0x40000 + 0x4000 * c) (by omega) (by omega)
  unfold State.failChannel
  extract_lets s1 s2 tiles s3 s4 lost s5 s6 homeless homed
  refine ⟨s3, ?_⟩
  clear_value s3
  have h4 : State.KeepsWord (0x40000 + 0x4000 * c) ((s3.set (Reg.DCH_STAT_FAIL_CAUSE c) cause).setChState c chFailed) s4 :=
    (hdebt _).trans (hzero _)
  clear_value s4
  have h5 : State.KeepsWord (0x40000 + 0x4000 * c) s4 s5 := .each hframe _ _
  clear_value s5
  have h6 : State.KeepsWord (0x40000 + 0x4000 * c) s5 s6 :=
    ((State.KeepsWord.each hfail tiles s5).trans (hoffline _)).trans (State.keepsWord_replan _ (by omega))
  exact ((h4.trans h5).trans h6).raise _ _ _

/-- A channel that fails is FAILED, with its cause. -/
theorem State.failChannel_outcome {c cause : Nat} (hc : c < 8) (hcause : cause < 16) :
    (s.failChannel c cause).chState c = chFailed ∧ (s.failChannel c cause).get (Reg.DCH_STAT_FAIL_CAUSE c) = cause := by
  obtain ⟨u, h⟩ := s.failChannel_keepsWord hc cause
  refine ⟨(h _ (by simp) rfl).trans (State.chState_setChState (by decide) _ c), (h _ (by simp) rfl).trans ?_⟩
  rw [State.get_setChState_ne (key_ne_of_lo_ne (by decide)) (key_ne_of_addr_ne (by simp) (by simp) (by simp)), State.get_set_self]
  exact Nat.mod_eq_of_lt hcause

end FailDram


/-! ### A NAND channel that fails (R289) -/

/-- NCH_n_STAT reads as before, and the operations on the channel's dies are as before. -/
structure State.NandKeeps (n : Nat) (s t : State) : Prop where
  word : State.KeepsWord (0xB0000 + 0x1000 * n) s t
  ops : (t.nch n).ops = (s.nch n).ops

section FailNand

variable {n : Nat} {s t u : State}

theorem State.NandKeeps.refl (n : Nat) (s : State) : State.NandKeeps n s s := ⟨.refl _ s, rfl⟩

theorem State.NandKeeps.trans (h : State.NandKeeps n s t) (h' : State.NandKeeps n t u) : State.NandKeeps n s u :=
  ⟨h.word.trans h'.word, h'.ops.trans h.ops⟩

theorem State.NandKeeps.of_same (hregs : t.regs = s.regs) (hchans : t.deck.chans = s.deck.chans) : State.NandKeeps n s t :=
  ⟨.of_regs hregs, by rw [State.nch, hchans]; rfl⟩

theorem State.NandKeeps.set (h : State.NandKeeps n s t) (f : Field) (v : Nat) (hlo : f.lo < 32) (ha : f.addr ≠ 0xB0000 + 0x1000 * n) :
    State.NandKeeps n s (t.set f v) := ⟨h.word.set f v hlo ha, h.ops⟩

theorem State.NandKeeps.raise (h : State.NandKeeps n s t) (src : Nat) (d : List DField) (l : List CxlRec) :
    State.NandKeeps n s (t.raise src d l) := ⟨h.word, h.ops⟩

theorem State.NandKeeps.ite (h : State.NandKeeps n s t) (h' : State.NandKeeps n s u) (p : Prop) [Decidable p] :
    State.NandKeeps n s (if p then t else u) := by
  split
  · exact h
  · exact h'

theorem State.NandKeeps.each {α : Type} {step : State → α → State} (h : ∀ s x, State.NandKeeps n s (step s x)) (l : List α)
    (s : State) : State.NandKeeps n s (s.each l step) :=
  State.each_related (State.NandKeeps.refl n) State.NandKeeps.trans h l s

/-- A change of a channel's own record that leaves its operations. -/
theorem State.nandKeeps_updNch (hn : n < 16) {f : NandCh → NandCh} (hf : ∀ x, (f x).ops = x.ops) (m : Nat) (s : State) :
    State.NandKeeps n s (s.updNch m f) := by
  refine ⟨.of_regs rfl, ?_⟩
  obtain rfl | hne := eq_or_ne n m
  · rw [State.nch_updNch_self s _ hn, hf]
  · rw [State.nch_updNch_ne s _ hn hne]

theorem State.nandKeeps_updSaveRate (hn : n < 16) (phrase : Bool) (s : State) : State.NandKeeps n s (s.updSaveRate phrase) := by
  unfold State.updSaveRate
  extract_lets s1 old r s2 s3
  have h1 : State.NandKeeps n s s1 := (State.NandKeeps.refl n s).set _ _ (by simp) (by simp; omega)
  clear_value s1
  have h2 : State.NandKeeps n s1 s2 :=
    ((State.NandKeeps.refl n s1).set _ _ (by simp) (by simp; omega)).set _ _ (by simp) (by simp; omega)
  clear_value s2
  have h3 : State.NandKeeps n s s3 := (h1.trans h2).raise _ _ _
  clear_value s3
  have h4 : State.NandKeeps n s3 (s3.updTile fun x => { x with recompute := true }) := .of_same rfl rfl
  exact .ite h1 (.ite (h3.trans h4) h3 _) _

theorem State.nandKeeps_dropSegment (s : State) (k : Nat) : State.NandKeeps n s (s.dropSegment k) := .of_same rfl rfl

theorem State.nandKeeps_replanFetches (s : State) : State.NandKeeps n s s.replanFetches := by
  unfold State.replanFetches
  extract_lets s1
  have h1 : State.NandKeeps n s s1 := .of_same rfl rfl
  clear_value s1
  exact h1.trans (.of_same rfl rfl)

theorem State.nandKeeps_moveCopies (hn : n < 16) (s : State) (m : Nat) : State.NandKeeps n s (s.moveCopies m) := by
  have hrewrite (w : KWrite) (i : Nat) : State.NandKeeps n s (s.rewriteCopy w i) := by
    unfold State.rewriteCopy
    extract_lets c s1
    have h1 : State.NandKeeps n s s1 := .of_same rfl rfl
    clear_value s1
    split
    · extract_lets s2 s3
      have h2 : State.NandKeeps n s1 s2 := by
        refine State.nandKeeps_updNch hn (fun x => ?_) _ s1
        rfl
      clear_value s2
      have h3 : State.NandKeeps n s2 s3 := .of_same rfl rfl
      exact ((h1.trans h2).trans h3).raise _ _ _
    · exact h1.trans (.of_same rfl rfl)
  unfold State.moveCopies
  split
  · exact .refl n s
  · split
    · exact hrewrite _ _
    · exact .refl n s

/-- A save that fails, and what its end decides at once: no entry to H, which a committed save alone makes (R251, R252). -/
theorem State.nandKeeps_failSave (hn : n < 16) (s : State) : State.NandKeeps n s s.failSave.endSave := by
  have hdrops (l : List Segment) (u : State) : State.NandKeeps n u (u.each l fun s g => s.dropSegment g.num) ∧
      (u.each l fun s g => s.dropSegment g.num).saveState = u.saveState :=
    ⟨.each (fun u g => State.nandKeeps_dropSegment u g.num) l u, foldl_unchanged (look := State.saveState)
      (step := fun (s : State) (g : Segment) => s.dropSegment g.num) (fun _ _ _ => rfl) u⟩
  have hfail : State.NandKeeps n s s.failSave ∧ s.failSave.saveState = saveFailed := by
    unfold State.failSave
    extract_lets stage s1 s2 s3
    have h1 : State.NandKeeps n s s1 := ((State.NandKeeps.refl n s).set _ _ (by simp) (by simp; omega)).set _ _ (by simp) (by simp; omega)
    have hstate : s1.saveState = saveFailed := (State.get_set_ne _ _ (by decide)).trans (State.get_set_self _ _ _)
    clear_value s1
    have h2 : State.NandKeeps n s1 s2 ∧ s2.saveState = s1.saveState := hdrops _ s1
    clear_value s2
    have h3 : State.NandKeeps n s2 s3 := .of_same rfl rfl
    have hstate3 : s3.saveState = s2.saveState := rfl
    clear_value s3
    refine ⟨((h1.trans h2.1).trans h3).raise _ _ _, ?_⟩
    exact hstate3.trans (h2.2.trans hstate)
  obtain ⟨hkeep, hstate⟩ := hfail
  refine hkeep.trans ?_
  unfold State.endSave
  split
  · rw [if_neg (by rw [hstate]; decide)]
    exact .refl n _
  · exact .of_same rfl rfl
  · exact .refl n _

theorem State.nandKeeps_checkSaveFail (hn : n < 16) (s : State) : State.NandKeeps n s s.checkSaveFail :=
  .ite (State.nandKeeps_failSave hn s) (.refl n s) _

theorem State.nchState_setNch {st : Nat} (hst : st < 8) (s : State) : nchState (s.setNch n st) n = st := by
  unfold State.setNch
  split
  · assumption
  · extract_lets s1 s2
    have h1 : nchState s1 n = st := (State.get_set_ne _ _ (key_ne_of_addr_ne (by simp) (by simp) (by simp))).trans
      ((State.get_set_self _ _ _).trans (Nat.mod_eq_of_lt hst))
    clear_value s1
    have h2 : State.KeepsWord (0xB0000 + 0x1000 * n) s1 s2 := (State.KeepsWord.refl _ s1).set _ _ (by simp) (by simp; omega)
    clear_value s2
    exact (h2.set _ _ (by simp) (by simp; omega) _ (by simp) rfl).trans h1

theorem State.nandKeeps_dropGc (s : State) : State.NandKeeps n s s.dropGc :=
  .each (fun u (g : Segment) => u.nandKeeps_dropSegment g.num) _ s

/-- A channel that leaves service has its state, its cause and no operation. -/
theorem State.failNand_outcome (hn : n < 16) {cause : Nat} (hcause : cause < 16) (s : State) :
    nchState (s.failNand n cause) n = 3 ∧ (s.failNand n cause).get (Reg.NCH_STAT_FAIL_CAUSE n) = cause ∧
      ((s.failNand n cause).nch n).ops = [] := by
  have hfailed : ∃ u : State, nchState u n = 3 ∧ u.get (Reg.NCH_STAT_FAIL_CAUSE n) = cause ∧ (u.nch n).ops = [] ∧
      State.NandKeeps n u (s.failNand n cause) := by
    unfold State.failNand
    extract_lets s1 gate s2 s3 s4 s5 bands s6 s7
    have hstate1 : nchState s1 n = 3 :=
      (State.get_set_ne _ _ (key_ne_of_lo_ne (by decide))).trans (State.nchState_setNch (by decide) s)
    have hcause1 : s1.get (Reg.NCH_STAT_FAIL_CAUSE n) = cause := (State.get_set_self _ _ _).trans (Nat.mod_eq_of_lt hcause)
    clear_value s1
    have h2 : State.KeepsWord (0xB0000 + 0x1000 * n) s1 s2 :=
      ((State.KeepsWord.refl _ s1).set _ _ (by simp) (by simp; omega)).set _ _ (by simp) (by simp; omega)
    clear_value s2
    have h3 : State.KeepsWord (0xB0000 + 0x1000 * n) s2 s3 := .of_regs rfl
    have hops : (s3.nch n).ops = [] := congrArg NandCh.ops (State.nch_updNch_self s2
      (fun x => { x with ops := [], overruns := [], restBars := 0, busy := 0, failNext := none }) hn)
    clear_value s3
    have hword := h2.trans h3
    refine ⟨s3, (hword _ (by simp) rfl).trans hstate1, (hword _ (by simp) rfl).trans hcause1, hops, ?_⟩
    have h4 : State.NandKeeps n s3 s4 := (State.NandKeeps.refl n s3).raise _ _ _
    clear_value s4
    have h5 : State.NandKeeps n s4 s5 := (((State.nandKeeps_updSaveRate hn false s4).trans (State.nandKeeps_dropGc _)).trans
      (State.nandKeeps_replanFetches _)).trans (State.nandKeeps_moveCopies hn _ n)
    clear_value s5
    have h6 : State.NandKeeps n s5 s6 := by
      have hdeck : State.NandKeeps n s5 (s5.updDeck fun d => { d with rebuild := (d.rebuild ++ bands).dedup }) := .of_same rfl rfl
      exact hdeck.set _ _ (by simp) (by simp; omega)
    clear_value s6
    have h7 : State.NandKeeps n s5 s7 := .ite ((h6.set _ _ (by simp) (by simp; omega)).raise _ _ _) (.refl n s5) _
    clear_value s7
    exact ((h4.trans h5).trans h7).trans (State.nandKeeps_checkSaveFail hn s7)
  obtain ⟨u, hstate, hu, hops, hkeep⟩ := hfailed
  exact ⟨(hkeep.word _ (by simp) rfl).trans hstate, (hkeep.word _ (by simp) rfl).trans hu, hkeep.ops.trans hops⟩

end FailNand

end Sys2Proof.Machine
end

section
/-! PROOFS. Overruns as they arise and as they are recorded, and the temperature of a DRAM channel (R61, R62, R63, R116, R120, R121,
R156, R158). -/

namespace Sys2Proof.Machine

section Overruns

variable {s : State}

theorem exec_engineRestLimit_later (hrun : s.running = true) (h : s.atDownbeat = false) (e : Engine) :
    exec (.engineRestLimit e) s = .next s :=
  (State.engines_of_running hrun).trans (if_pos (by rw [h]; rfl))

theorem exec_engineRestLimit_dram (hrun : s.running = true) (h : s.atDownbeat = true) (c : Fin 8) : exec (.engineRestLimit (.dram c)) s =
    if 257 ≤ (s.ch c).restBars && s.serving c then .next (s.failChannel c 2) else .next s :=
  (State.engines_of_running hrun).trans (if_neg (by rw [h]; decide))

theorem exec_engineRestLimit_nand (hrun : s.running = true) (h : s.atDownbeat = true) (n : Fin 16) : exec (.engineRestLimit (.nand n)) s =
    if 257 ≤ (s.nch n).restBars && s.nchUp n then .next (s.failNand n 2) else .next s :=
  (State.engines_of_running hrun).trans (if_neg (by rw [h]; decide))

section NandOverrun

variable {n : Fin 16} {die : Fin 8}

theorem exec_nandContractOverrun_none (hrun : s.running = true) (h : ((s.nch n).ops.find? fun x => x.die = die.val) = none)
    (excess busy : Nat) : exec (.nandContractOverrun n die excess busy) s = .next s :=
  (State.engines_of_running hrun).trans (by rw [h])

theorem exec_nandContractOverrun_some (hrun : s.running = true) {o : NandOp}
    (h : ((s.nch n).ops.find? fun x => x.die = die.val) = some o) (excess busy : Nat) :
    exec (.nandContractOverrun n die excess busy) s =
      if s.nchUp n then .next (s.overrunNand n ⟨die, o.work.cls, excess⟩ busy) else .next s :=
  (State.engines_of_running hrun).trans (by rw [h])

end NandOverrun

/-! ### The record of a channel's overruns (R62, R63) -/

/-- One overrun of a DRAM channel, recorded. -/
def State.recorded (s : State) (c excess : Nat) : State := (s.recordOverrun false c).raise 0x044 [d1 c, d4 excess]

theorem State.recorded_outcome (s : State) (c excess : Nat) :
    (s.recorded c excess).get Reg.SCORE_OVERRUN_COUNT = min (s.get Reg.SCORE_OVERRUN_COUNT + 1) 255 ∧
      (s.recorded c excess).dram = s.dram ∧ ∃ e : Event, (s.recorded c excess).raised = s.raised ++ [e] ∧ e.src = 0x044 ∧
        e.detail = [d1 c, d4 excess] := by
  have hcount : (s.recordOverrun false c).get Reg.SCORE_OVERRUN_COUNT = (s.count Reg.SCORE_OVERRUN_COUNT).get Reg.SCORE_OVERRUN_COUNT :=
    (State.get_set_ne _ _ (by decide)).trans ((State.get_set_ne _ _ (by decide)).trans (State.get_set_ne _ _ (by decide)))
  have hdram : (s.recordOverrun false c).dram = s.dram := rfl
  have hraised : (s.recordOverrun false c).raised = s.raised := rfl
  refine ⟨?_, hdram, ⟨0x044, [d1 c, d4 excess], s.bar, []⟩, ?_, rfl, rfl⟩
  · rw [State.recorded, State.raise_get, hcount, State.get_count_self, satW_mod]
    rfl
  · rw [State.recorded, State.raise_raised, hraised]
    rfl

theorem State.each_recorded (c : Nat) (l : List Nat) (s : State) :
    (s.get Reg.SCORE_OVERRUN_COUNT + l.length < 256 →
      (s.each l fun s e => s.recorded c e).get Reg.SCORE_OVERRUN_COUNT = s.get Reg.SCORE_OVERRUN_COUNT + l.length) ∧
    (s.each l fun s e => s.recorded c e).dram = s.dram ∧
    (∀ e ∈ s.raised, e ∈ (s.each l fun s e => s.recorded c e).raised) ∧
    ∀ x ∈ l, ∃ e ∈ (s.each l fun s e => s.recorded c e).raised, e.src = 0x044 ∧ ∃ d ∈ e.detail, d.val = x := by
  induction l generalizing s with
  | nil => exact ⟨fun _ => rfl, rfl, fun _ h => h, by simp⟩
  | cons x l ih =>
    obtain ⟨hcount, hdram, e, hraised, hsrc, hdetail⟩ := s.recorded_outcome c x
    obtain ⟨ihcount, ihdram, ihkeep, ihraised⟩ := ih (s.recorded c x)
    rw [State.each, List.foldl_cons]
    refine ⟨fun hlt => ?_, ihdram.trans hdram, fun y hy => ihkeep y (by rw [hraised]; exact List.mem_append_left _ hy), fun y hy => ?_⟩
    · rw [List.length_cons] at hlt ⊢
      rw [hcount] at ihcount
      have := ihcount (by omega)
      rw [State.each] at this
      omega
    · obtain rfl | hy := List.mem_cons.mp hy
      · refine ⟨e, ihkeep e (by rw [hraised]; simp), hsrc, d4 y, by rw [hdetail]; simp, rfl⟩
      · exact ihraised y hy

theorem State.dramRestBar_outcome {c : Nat} (hc : c < 8) (hlt : s.get Reg.SCORE_OVERRUN_COUNT + (s.ch c).overruns.length < 256) :
    (s.dramRestBar c).get Reg.SCORE_OVERRUN_COUNT = s.get Reg.SCORE_OVERRUN_COUNT + (s.ch c).overruns.length ∧
    ((s.dramRestBar c).ch c).overruns = [] ∧
    (∀ x ∈ (s.ch c).overruns, ∃ e ∈ (s.dramRestBar c).raised, e.src = 0x044 ∧ ∃ d ∈ e.detail, d.val = x) ∧
    ((s.ch c).overruns ≠ [] → (s.ch c).restBars < 256 → ((s.dramRestBar c).ch c).restBars = (s.ch c).restBars + 1) := by
  obtain ⟨hcount, hdram, -, hraised⟩ := s.each_recorded c (s.ch c).overruns
  unfold State.dramRestBar
  extract_lets x k s1 s2
  have h1 : s1 = s.each (s.ch c).overruns fun s e => s.recorded c e := rfl
  rw [← h1] at hcount hraised
  clear_value s1
  have hch : s2.ch c = { s1.ch c with overruns := [], restBars := k.1, busy := k.2.1 } := State.ch_updCh_self _ _ hc
  have hget : s2.get Reg.SCORE_OVERRUN_COUNT = s1.get Reg.SCORE_OVERRUN_COUNT := rfl
  have hsame : s2.raised = s1.raised := rfl
  clear_value s2
  have hrest : (s.ch c).overruns ≠ [] → (s.ch c).restBars < 256 → k.1 = (s.ch c).restBars + 1 := fun hnew hbars => by
    have hisnew : (!(s.ch c).overruns.isEmpty) = true := by simpa using hnew
    have hk : k = restBarStep (s.ch c).restBars (s.ch c).busy (!(s.ch c).overruns.isEmpty) := rfl
    rw [hk, hisnew, restBarStep, if_neg (by omega), if_pos rfl]
  have hall : s2.get Reg.SCORE_OVERRUN_COUNT = s.get Reg.SCORE_OVERRUN_COUNT + (s.ch c).overruns.length ∧
      (s2.ch c).overruns = [] ∧ (∀ x ∈ (s.ch c).overruns, ∃ e ∈ s2.raised, e.src = 0x044 ∧ ∃ d ∈ e.detail, d.val = x) ∧
      ((s.ch c).overruns ≠ [] → (s.ch c).restBars < 256 → (s2.ch c).restBars = (s.ch c).restBars + 1) := by
    rw [hget, hch, hsame]
    exact ⟨hcount hlt, rfl, hraised, hrest⟩
  split
  · obtain ⟨hget, hover, hevents, hbars⟩ := hall
    refine ⟨hget, hover, fun x hx => ?_, hbars⟩
    obtain ⟨e, he, hsrc⟩ := hevents x hx
    exact ⟨e, List.mem_append_left _ he, hsrc⟩
  · exact hall

/-! ### An overrun of a DRAM channel (R61, R66, R116) -/

theorem State.overrunDram_outcome {c : Nat} (hc : c < 8) (s : State) (excess busy : Nat) :
    (s.overrunDram c excess busy).ch c = { s.ch c with
      overruns := (s.ch c).overruns ++ [excess]
      busy := max (s.ch c).busy (if (s.ch c).restBars = 0 then busy else busy + 1) } ∧
    (∀ d < 8, d ≠ c → (s.overrunDram c excess busy).ch d = s.ch d) ∧
    (s.overrunDram c excess busy).get Reg.SCORE_STAT_BOUND_VOID = 1 ∧
    (∀ d < 8, bitAt ((s.overrunDram c excess busy).get Reg.SCORE_STAT_VOID_MASK) d =
      (bitAt (s.get Reg.SCORE_STAT_VOID_MASK) d || decide (d = c))) ∧
    { s.overrunDram c excess busy with regs := s.regs
                                       dram := { (s.overrunDram c excess busy).dram with chans := s.dram.chans } } = s := by
  unfold State.overrunDram
  extract_lets s1 m
  have hself : s1.ch c = { s.ch c with
      overruns := (s.ch c).overruns ++ [excess]
      busy := max (s.ch c).busy (if (s.ch c).restBars = 0 then busy else busy + 1) } := State.ch_updCh_self _ _ hc
  have hother : ∀ d < 8, d ≠ c → s1.ch d = s.ch d := fun d hd hne => State.ch_updCh_ne _ _ hd hne
  have hm : m = s.get Reg.SCORE_STAT_VOID_MASK := rfl
  refine ⟨hself, hother, State.get_set_self _ _ _, fun d hd => ?_, rfl⟩
  rw [State.get_set_ne _ _ (by decide), State.get_set_self, bitAt_mod (w := 8) hd, hm]
  simp only [bitAt_eq_testBit]
  refine (Nat.testBit_or _ _ d).trans ?_
  rw [Nat.testBit_two_pow]
  exact congrArg _ (decide_eq_decide.mpr eq_comm)

/-! ### The temperature of a channel (R120, R121, R158) -/

section Temperature

variable {c : Nat}

theorem State.updHot_outcome (s : State) (c : Nat) : (s.updHot c).get (Reg.DCH_STAT_HOT c) = bit (s.reportsHot c) ∧
    (∀ a, a ≠ 0x40000 + 0x4000 * c → State.KeepsWord a s (s.updHot c)) ∧ (s.updHot c).dram = s.dram ∧ (s.updHot c).tile = s.tile ∧
    ∀ e ∈ s.raised, e ∈ (s.updHot c).raised := by
  have hself : (s.setB (Reg.DCH_STAT_HOT c) (s.reportsHot c)).get (Reg.DCH_STAT_HOT c) = bit (s.reportsHot c) :=
    (State.get_set_self _ _ _).trans (by cases s.reportsHot c <;> rfl)
  have hother (a : Nat) (ha : a ≠ 0x40000 + 0x4000 * c) : State.KeepsWord a s (s.setB (Reg.DCH_STAT_HOT c) (s.reportsHot c)) :=
    (State.KeepsWord.refl a s).set _ _ (by simp) ha.symm
  unfold State.updHot
  dsimp only
  split
  · exact ⟨hself, hother, rfl, rfl, fun _ => List.mem_append_left _⟩
  · exact ⟨hself, hother, rfl, rfl, fun _ h => h⟩

/-- What the report says rests on DCH_n_TEMP alone. -/
theorem State.KeepsWord.reportsHot {t : State} (h : State.KeepsWord (0x40008 + 0x4000 * c) s t) : t.reportsHot c = s.reportsHot c := by
  have hvalid := h (Reg.DCH_TEMP_VALID c) (by simp) rfl
  have hmr4 := h (Reg.DCH_TEMP_MR4_2X c) (by simp) rfl
  have htemp := h (Reg.DCH_TEMP_TEMP_C c) (by simp) rfl
  unfold State.reportsHot State.flag State.tempC
  rw [hvalid, hmr4, htemp]

/-- DCH_n_TEMP once a read has completed. -/
def State.tempShown (s : State) (c temp peak rank sub : Nat) (mr4 : Bool) : State :=
  let s' := ((s.set (Reg.DCH_TEMP_TEMP_C c) temp).set (Reg.DCH_TEMP_PEAK_C c) peak).set (Reg.DCH_TEMP_VALID c) 1
  ((((s'.setRisen (Reg.DCH_TEMP_PEAK_C c) ((s.risen (Reg.DCH_TEMP_PEAK_C c)).1, 1))).set (Reg.DCH_TEMP_HOT_RANK c) rank).set
    (Reg.DCH_TEMP_HOT_SUB c) sub).setB (Reg.DCH_TEMP_MR4_2X c) mr4

theorem State.get_setRisen (s : State) (f : Field) (e : Nat × Nat) (g : Field) : (s.setRisen f e).get g = s.get g := rfl

theorem State.tempShown_outcome (s : State) (c temp peak rank sub : Nat) (mr4 : Bool) :
    (s.tempShown c temp peak rank sub mr4).get (Reg.DCH_TEMP_VALID c) = 1 ∧
    (s.tempShown c temp peak rank sub mr4).get (Reg.DCH_TEMP_TEMP_C c) = temp % 256 ∧
    (s.tempShown c temp peak rank sub mr4).get (Reg.DCH_TEMP_HOT_RANK c) = rank % 2 ∧
    (s.tempShown c temp peak rank sub mr4).get (Reg.DCH_TEMP_HOT_SUB c) = sub % 2 ∧
    (s.tempShown c temp peak rank sub mr4).get (Reg.DCH_TEMP_MR4_2X c) = bit mr4 ∧
    (s.tempShown c temp peak rank sub mr4).get (Reg.DCH_TEMP_PEAK_C c) = peak % 256 := by
  unfold State.tempShown
  simp only [State.setB, State.get_set, State.get_setRisen, Field.key]
  cases mr4 <;> simp [bit]

theorem State.tempShown_frame (s : State) (c temp peak rank sub : Nat) (mr4 : Bool) :
    (s.tempShown c temp peak rank sub mr4).dram = s.dram ∧ (s.tempShown c temp peak rank sub mr4).tile = s.tile := ⟨rfl, rfl⟩

/-- The peak after a read: the first reading, whatever its sign, and then the highest (R158). -/
def State.peakOf (s : State) (c : Nat) (h : TempReading) : Nat :=
  if (!(s.flag (Reg.DCH_TEMP_VALID c)) && !(s.ch c).stale) || signed8 (s.get (Reg.DCH_TEMP_PEAK_C c)) < h.celsius then byteOfInt h.celsius
  else s.get (Reg.DCH_TEMP_PEAK_C c)

theorem State.peakOf_eq (s : State) (c : Nat) (h : TempReading) : s.peakOf c h =
    if (s.flag (Reg.DCH_TEMP_VALID c) = false ∧ (s.ch c).stale = false) ∨ signed8 (s.get (Reg.DCH_TEMP_PEAK_C c)) < h.celsius then
      byteOfInt h.celsius else s.get (Reg.DCH_TEMP_PEAK_C c) := by
  simp only [State.peakOf, Bool.or_eq_true, Bool.and_eq_true, Bool.not_eq_true', decide_eq_true_eq]

theorem State.tempRead_none {l : List TempReading} (h : hottest l = none) (s : State) : s.tempRead c l = s := by
  unfold State.tempRead
  rw [h]

theorem State.tempRead_some {l : List TempReading} {h : TempReading} (hh : hottest l = some h) (s : State) : s.tempRead c l =
    ((s.tempShown c (byteOfInt h.celsius) (s.peakOf c h) h.rank h.sub (l.any (·.mr4))).updCh c fun x =>
      { x with tempSlot := s.now, stale := false }).updHot c := by
  unfold State.tempRead
  rw [hh]
  rfl

/-- A completed read shows its readings, the report follows, and the channel is not stale. -/
theorem State.tempRead_outcome (hc : c < 8) {l : List TempReading} {h : TempReading} (hh : hottest l = some h) (s : State) :
    (s.tempRead c l).get (Reg.DCH_TEMP_VALID c) = 1 ∧ (s.tempRead c l).get (Reg.DCH_TEMP_TEMP_C c) = byteOfInt h.celsius % 256 ∧
    (s.tempRead c l).get (Reg.DCH_TEMP_HOT_RANK c) = h.rank ∧ (s.tempRead c l).get (Reg.DCH_TEMP_HOT_SUB c) = h.sub ∧
    (s.tempRead c l).get (Reg.DCH_TEMP_MR4_2X c) = bit (l.any (·.mr4)) ∧
    (s.tempRead c l).get (Reg.DCH_TEMP_PEAK_C c) = s.peakOf c h % 256 ∧
    (s.tempRead c l).get (Reg.DCH_STAT_HOT c) = bit ((s.tempRead c l).reportsHot c) ∧
    (s.tempRead c l).ch c = { s.ch c with tempSlot := s.now, stale := false } ∧ (s.tempRead c l).dram.bytes = s.dram.bytes ∧
    (s.tempRead c l).dram.poison = s.dram.poison ∧ (s.tempRead c l).tile = s.tile := by
  obtain ⟨hvalid, htemp, hrank, hsub, hmr4, hpeak⟩ :=
    s.tempShown_outcome c (byteOfInt h.celsius) (s.peakOf c h) h.rank h.sub (l.any (·.mr4))
  obtain ⟨hdram, htile⟩ := s.tempShown_frame c (byteOfInt h.celsius) (s.peakOf c h) h.rank h.sub (l.any (·.mr4))
  rw [Nat.mod_eq_of_lt h.rank.isLt] at hrank
  rw [Nat.mod_eq_of_lt h.sub.isLt] at hsub
  rw [State.tempRead_some hh]
  generalize s.tempShown c (byteOfInt h.celsius) (s.peakOf c h) h.rank h.sub (l.any (·.mr4)) = u at *
  obtain ⟨hhot, hkeep, hupdram, huptile, -⟩ := (u.updCh c fun x => { x with tempSlot := s.now, stale := false }).updHot_outcome c
  have hword := hkeep (0x40008 + 0x4000 * c) (by omega)
  refine ⟨(hword _ (by simp) rfl).trans hvalid, (hword _ (by simp) rfl).trans htemp, (hword _ (by simp) rfl).trans hrank,
    (hword _ (by simp) rfl).trans hsub, (hword _ (by simp) rfl).trans hmr4, (hword _ (by simp) rfl).trans hpeak, ?_, ?_, ?_, ?_,
    huptile.trans htile⟩
  · rw [hhot, hword.reportsHot]
  · rw [State.updHot_ch, State.ch_updCh_self _ _ hc, State.ch, hdram]
    rfl
  · rw [hupdram]
    have hbytes : u.dram.bytes = s.dram.bytes := by rw [hdram]
    exact hbytes
  · rw [hupdram]
    have hpoison : u.dram.poison = s.dram.poison := by rw [hdram]
    exact hpoison

theorem exec_temperatureRead (hrun : s.running = true) (c : Fin 8) (l : List TempReading) : exec (.temperatureRead c l) s =
    if s.hasTask c (.maint .temp) then .next ((s.takeTask c (.maint .temp)).tempRead c l) else .next s :=
  State.engines_of_running hrun

/-- No read has completed for 256 bars on a channel that plays a table, outside self-refresh (R121). -/
def State.staleDue (s : State) (c : Nat) : Bool :=
  decide (chInService ≤ s.chState c) && !(s.ch c).stale && !(s.flag (Reg.DCH_STAT_SELF_REFRESH c))
    && decide ((s.ch c).tempSlot + 256 * 6240 ≤ s.now)

theorem State.staleDue_at (s : State) (slot c : Nat) : (s.at slot).staleDue c = true ↔
    chInService ≤ s.chState c ∧ s.flag (Reg.DCH_STAT_SELF_REFRESH c) = false ∧ (s.ch c).stale = false ∧
      (s.ch c).tempSlot + 256 * 6240 ≤ s.bar * 6240 + slot := by
  have hstate : (s.at slot).chState c = s.chState c := State.at_get s slot _
  have hflag : (s.at slot).flag (Reg.DCH_STAT_SELF_REFRESH c) = s.flag (Reg.DCH_STAT_SELF_REFRESH c) := by
    rw [State.flag, State.flag, State.at_get]
  rw [State.staleDue, hstate, hflag, State.at_ch, State.now_at]
  simp only [Bool.and_eq_true, decide_eq_true_eq, Bool.not_eq_true']
  tauto

/-- The channel shows no valid temperature. -/
def State.invalid (s : State) (c : Nat) : State := (s.set (Reg.DCH_TEMP_VALID c) 0).updCh c fun x => { x with stale := true }

theorem State.get_invalid (s : State) (c : Nat) (f : Field) : (s.invalid c).get f = (s.set (Reg.DCH_TEMP_VALID c) 0).get f := rfl

/-- A channel whose temperature grows stale; one that serves says so. -/
def State.grownStale (s : State) (c : Nat) : State :=
  if (s.invalid c).serving c then
    ((s.invalid c).raise (srcDram c 5) [d1 ((s.invalid c).get (Reg.DCH_TEMP_TEMP_C c))]).updHot c
  else s.invalid c

theorem exec_temperatureStale (hrun : s.running = true) (c : Fin 8) (slot : Fin 6240) : exec (.temperatureStale c slot) s =
    if (s.at slot).staleDue c then .next ((s.at slot).grownStale c) else .next (s.at slot) := State.engines_of_running hrun

theorem State.updHot_frame (s : State) (c : Nat) : ∃ regs raised, s.updHot c = { s with regs := regs, raised := raised } := by
  unfold State.updHot
  dsimp only
  split
  · exact ⟨_, _, rfl⟩
  · exact ⟨_, _, rfl⟩

theorem State.grownStale_frame (s : State) (c : Nat) : ∃ regs raised, s.grownStale c =
    { s with regs := regs, raised := raised, dram := (s.invalid c).dram } := by
  unfold State.grownStale
  split
  · obtain ⟨regs, raised, h⟩ := ((s.invalid c).raise (srcDram c 5) [d1 ((s.invalid c).get (Reg.DCH_TEMP_TEMP_C c))]).updHot_frame c
    exact ⟨regs, raised, h.trans rfl⟩
  · exact ⟨_, _, rfl⟩

theorem State.serving_invalid (s : State) (c : Nat) : (s.invalid c).serving c = s.serving c := by
  have hstate : (s.invalid c).chState c = s.chState c :=
    (s.get_invalid c _).trans (State.get_set_ne _ _ (key_ne_of_addr_ne (by simp) (by simp) (by simp)))
  rw [State.serving, State.serving, hstate]

theorem State.reportsHot_of_invalid {t : State} (h : t.get (Reg.DCH_TEMP_VALID c) = 0) : t.reportsHot c = true := by
  simp [State.reportsHot, State.flag, h]

theorem State.keepsWord_grownStale {a : Nat} (hstat : a ≠ 0x40000 + 0x4000 * c) (htemp : a ≠ 0x40008 + 0x4000 * c) (s : State) :
    State.KeepsWord a s (s.grownStale c) := by
  have hinvalid : State.KeepsWord a s (s.invalid c) :=
    ((State.KeepsWord.refl a s).set (Reg.DCH_TEMP_VALID c) 0 (by simp) htemp.symm).trans (.of_regs rfl)
  unfold State.grownStale
  obtain ⟨-, hkeep, -⟩ := ((s.invalid c).raise (srcDram c 5) [d1 ((s.invalid c).get (Reg.DCH_TEMP_TEMP_C c))]).updHot_outcome c
  exact .ite (hinvalid.trans (hkeep a hstat)) hinvalid _

theorem State.grownStale_outcome (hc : c < 8) (s : State) : (s.grownStale c).get (Reg.DCH_TEMP_VALID c) = 0 ∧
    ((s.grownStale c).ch c).stale = true ∧ (s.grownStale c).reportsHot c = true ∧
    (s.serving c = true → (s.grownStale c).get (Reg.DCH_STAT_HOT c) = 1 ∧ ∃ e ∈ (s.grownStale c).raised, e.src = srcDram c 5) ∧
    (s.serving c = false → (s.grownStale c).raised = s.raised ∧
      (s.grownStale c).get (Reg.DCH_STAT_HOT c) = s.get (Reg.DCH_STAT_HOT c)) := by
  have hvalid : (s.invalid c).get (Reg.DCH_TEMP_VALID c) = 0 := (s.get_invalid c _).trans (State.get_set_self _ _ _)
  have hstale : ((s.invalid c).ch c).stale = true := congrArg DramCh.stale
    (State.ch_updCh_self (s.set (Reg.DCH_TEMP_VALID c) 0) (fun x => { x with stale := true }) hc)
  have hraised : (s.invalid c).raised = s.raised := rfl
  have hhot : (s.invalid c).get (Reg.DCH_STAT_HOT c) = s.get (Reg.DCH_STAT_HOT c) :=
    (s.get_invalid c _).trans (State.get_set_ne _ _ (key_ne_of_addr_ne (by simp) (by simp) (by simp)))
  cases hserves : s.serving c with
  | false =>
    rw [State.grownStale, if_neg (by rw [s.serving_invalid, hserves]; decide)]
    exact ⟨hvalid, hstale, State.reportsHot_of_invalid hvalid, by simp, fun _ => ⟨hraised, hhot⟩⟩
  | true =>
    rw [State.grownStale, if_pos (by rw [s.serving_invalid, hserves])]
    generalize s.invalid c = u at *
    obtain ⟨huphot, hkeep, hdram, -, hevents⟩ := (u.raise (srcDram c 5) [d1 (u.get (Reg.DCH_TEMP_TEMP_C c))]).updHot_outcome c
    have hvalid' := (hkeep (0x40008 + 0x4000 * c) (by omega) (Reg.DCH_TEMP_VALID c) (by simp) rfl).trans hvalid
    refine ⟨hvalid', by rw [State.updHot_ch]; exact hstale, State.reportsHot_of_invalid hvalid', fun _ => ⟨?_, ?_⟩, by simp⟩
    · rw [huphot, State.reportsHot_of_invalid ((State.raise_get _ _ _ _ _).trans hvalid)]
      rfl
    · exact ⟨_, hevents _ (List.mem_append_right _ List.mem_cons_self), rfl⟩

/-- A channel whose temperature has grown stale does not grow stale again. -/
theorem exec_temperatureStale_again (hrun : s.running = true) (c : Fin 8) (slot : Fin 6240) :
    exec (.temperatureStale c slot) ((s.at slot).grownStale c) = .next ((s.at slot).grownStale c) := by
  obtain ⟨regs, raised, hframe⟩ := (s.at slot).grownStale_frame c
  have hpower := (s.at slot).keepsWord_grownStale (c := c) (a := Reg.SYS_PWR_STATE_STATE.addr) (by simp; omega) (by simp; omega)
    Reg.SYS_PWR_STATE_STATE (by simp) rfl
  have hstale := ((s.at slot).grownStale_outcome c.isLt).2.1
  have hslot : ((s.at slot).grownStale c).at slot = (s.at slot).grownStale c := if_pos (by rw [hframe]; simp)
  have hrunning : ((s.at slot).grownStale c).running = true := by
    have hpower' : ((s.at slot).grownStale c).get Reg.SYS_PWR_STATE_STATE = s.get Reg.SYS_PWR_STATE_STATE :=
      hpower.trans (State.at_get s slot _)
    have hsys : ((s.at slot).grownStale c).sys = s.sys := by
      rw [hframe]
      exact s.at_sys slot
    have hcard : ((s.at slot).grownStale c).card = s.card := by
      rw [hframe]
      exact s.at_card slot
    rw [State.running, State.on, State.clocked, hpower', hsys, hcard]
    exact hrun
  rw [exec_temperatureStale hrunning, hslot, if_neg]
  simp [State.staleDue, hstale]

end Temperature

end Overruns

/-- Settles O34: overruns wait, are recorded and void the bar; the limit fails a channel; temperatures are read and grow stale. -/
theorem engineOverruns : Obligations.EngineOverruns := by
  unfold Obligations.EngineOverruns
  refine ⟨fun s hrun => ⟨fun n die excess busy => ⟨fun h => ?_, fun o ho hup => ?_⟩,
      fun hdown e => exec_engineRestLimit_later hrun hdown e,
      fun c => ⟨fun h => ?_, fun hdown hbars hserves => ?_⟩, fun n => ⟨fun h => ?_, fun hdown hbars hup => ?_⟩⟩,
    fun c s hlt => State.dramRestBar_outcome c.isLt hlt,
    fun c s hrun => ⟨fun excess busy => ?_, fun l => ⟨fun hnone => ?_, fun htask hnone => ?_, fun h htask hh => ?_⟩,
      fun slot => ⟨fun hdue => ?_, fun hdue => ?_⟩⟩⟩
  · cases ho : (s.nch n).ops.find? fun x => x.die = die.val with
    | none => exact exec_nandContractOverrun_none hrun ho excess busy
    | some o =>
      have hup : s.nchUp n = false := h.resolve_left (by rw [ho]; simp)
      rw [exec_nandContractOverrun_some hrun ho, hup]
      rfl
  · rw [exec_nandContractOverrun_some hrun ho, if_pos hup]
    exact ⟨_, rfl, State.nch_updNch_self _ _ n.isLt, fun m hm => State.nch_updNch_ne _ _ m.isLt (Fin.val_ne_of_ne hm), rfl⟩
  · cases hdown : s.atDownbeat with
    | false => exact exec_engineRestLimit_later hrun hdown _
    | true =>
      rw [exec_engineRestLimit_dram hrun hdown]
      refine if_neg ?_
      rw [Bool.and_eq_true, decide_eq_true_eq]
      rintro ⟨hbars, hserves⟩
      rcases h with h | h
      · omega
      · exact absurd (h.symm.trans hserves) (by decide)
  · rw [exec_engineRestLimit_dram hrun hdown, if_pos (by simp [hbars, hserves])]
    exact ⟨_, rfl, s.failChannel_outcome c.isLt (by decide)⟩
  · cases hdown : s.atDownbeat with
    | false => exact exec_engineRestLimit_later hrun hdown _
    | true =>
      rw [exec_engineRestLimit_nand hrun hdown]
      refine if_neg ?_
      rw [Bool.and_eq_true, decide_eq_true_eq]
      rintro ⟨hbars, hup⟩
      rcases h with h | h
      · omega
      · exact absurd (h.symm.trans hup) (by decide)
  · rw [exec_engineRestLimit_nand hrun hdown, if_pos (by simp [hbars, hup])]
    exact ⟨_, rfl, State.failNand_outcome n.isLt (by decide) s⟩
  · obtain ⟨hself, hother, hvoid, hmask, hframe⟩ := s.overrunDram_outcome c.isLt excess busy
    exact ⟨_, State.engines_of_running hrun, hself, fun d hd => hother d d.isLt (Fin.val_ne_of_ne hd), hvoid, hframe,
      fun sub rank kind => State.engines_of_running hrun, fun d => (hmask d d.isLt).trans (by simp [Fin.ext_iff])⟩
  · rw [exec_temperatureRead hrun, hnone]
    rfl
  · rw [exec_temperatureRead hrun, if_pos htask, State.tempRead_none hnone]
  · rw [exec_temperatureRead hrun, if_pos htask]
    obtain ⟨hvalid, htemp, hrank, hsub, hmr4, hpeak, hhot, hch, hbytes, hpoison, htile⟩ :=
      (s.takeTask c (.maint .temp)).tempRead_outcome c.isLt hh
    have htake : (s.takeTask c (.maint .temp)).ch c = { s.ch c with tasks := (s.ch c).tasks.erase (.maint .temp) } :=
      State.ch_updCh_self _ _ c.isLt
    refine ⟨_, rfl, hvalid, htemp, hrank, hsub, hmr4, hpeak.trans ?_, hhot, by rw [hch, htake]; rfl, hbytes, hpoison, htile⟩
    have hsame : (s.takeTask c (.maint .temp)).peakOf c h = s.peakOf c h := by
      rw [State.peakOf, State.peakOf, htake]
      rfl
    rw [hsame, State.peakOf_eq]
  · rw [exec_temperatureStale hrun]
    exact if_neg fun h => hdue ((s.staleDue_at slot c).mp h)
  · rw [exec_temperatureStale hrun, if_pos ((s.staleDue_at slot c).mpr hdue)]
    obtain ⟨hvalid, hstale, hreports, hserves, hidle⟩ := (s.at slot).grownStale_outcome c.isLt
    have hserving : (s.at slot).serving c = s.serving c := by
      have hstate : (s.at slot).chState c = s.chState c := State.at_get s slot _
      rw [State.serving, State.serving, hstate]
    rw [hserving] at hserves hidle
    exact ⟨_, rfl, hvalid, hstale, hreports, hserves,
      fun h => ⟨(hidle h).1.trans (s.at_raised slot), (hidle h).2.trans (State.at_get s slot _)⟩,
      exec_temperatureStale_again hrun c slot⟩

end Sys2Proof.Machine
end

section
/-! PROOFS. NAND operations start: programs, reads and erases at the slots of their windows (R47, R79, R258, R265, R375). -/

namespace Sys2Proof.Machine

section Starts

variable {s u : State} {n w d : Nat} {k : NandWork}

/-! ### An operation starts (R47, R79) -/

theorem State.dieFree_of_op (h : (⟨d, k, s.bar⟩ : NandOp) ∈ (u.nch n).ops) : u.dieFree n d = false := by
  have hbusy : ((u.nch n).ops.any fun o => o.die = d) = true := List.any_eq_true.mpr ⟨_, h, decide_eq_true rfl⟩
  rw [State.dieFree, hbusy]
  rfl

/-- What a start leaves: the operation after those that run, its die not free and held, the budget used; the Deck changes alone. -/
theorem State.startOp_outcome (hn : n < 16) (u : State) (w d : Nat) (k : NandWork) (bars : Nat) :
    ((u.startOp n w d k bars).nch n).ops = (u.nch n).ops ++ [⟨d, k, u.bar⟩] ∧ (u.startOp n w d k bars).dieFree n d = false ∧
    (d, u.now + 6240 * bars) ∈ ((u.startOp n w d k bars).nch n).held ∧ { u.startOp n w d k bars with deck := u.deck } = u := by
  have hnch : (u.startOp n w d k bars).nch n = { u.nch n with
      ops := (u.nch n).ops ++ [⟨d, k, u.bar⟩]
      held := ((u.nch n).held.filter fun h => h.1 ≠ d) ++ [(d, u.now + 6240 * bars)]
      used := (u.nch n).used.set w ((u.nch n).used.getD w 0 + 1) } := State.nch_updNch_self _ _ hn
  have hop : (⟨d, k, u.bar⟩ : NandOp) ∈ ((u.startOp n w d k bars).nch n).ops := by
    rw [hnch]
    exact List.mem_append_right _ List.mem_cons_self
  refine ⟨by rw [hnch], State.dieFree_of_op hop, ?_, rfl⟩
  rw [hnch]
  exact List.mem_append_right _ List.mem_cons_self

/-- The Deck changes alone. -/
def State.onlyDeck (s t : State) : Prop := ∃ deck, t = { s with deck := deck }

theorem State.onlyDeck_refl (s : State) : s.onlyDeck s := ⟨_, rfl⟩

theorem State.onlyDeck_trans {t : State} (h : s.onlyDeck t) (h' : t.onlyDeck u) : s.onlyDeck u := by
  obtain ⟨_, rfl⟩ := h
  obtain ⟨deck, rfl⟩ := h'
  exact ⟨deck, rfl⟩

theorem State.onlyDeck_placeWaiting (s : State) : s.onlyDeck s.placeWaiting := by
  unfold State.placeWaiting
  split
  · exact s.onlyDeck_refl
  · refine State.each_related State.onlyDeck_refl State.onlyDeck_trans (fun u i => ?_) _ s
    split
    · exact u.onlyDeck_refl
    · split
      · exact u.onlyDeck_refl
      · exact ⟨_, rfl⟩

theorem State.placeWaiting_gateOpen (s : State) (n : Nat) : s.placeWaiting.gateOpen n = s.gateOpen n := by
  obtain ⟨_, h⟩ := s.onlyDeck_placeWaiting
  rw [h]
  rfl

theorem State.placeWaiting_clock (s : State) : s.placeWaiting.bar = s.bar ∧ s.placeWaiting.now = s.now := by
  obtain ⟨_, h⟩ := s.onlyDeck_placeWaiting
  rw [h]
  exact ⟨rfl, rfl⟩

theorem State.at_gateOpen (s : State) (slot n : Nat) : (s.at slot).gateOpen n = s.gateOpen n := by
  rw [State.gateOpen, State.gateOpen, State.at_get]

/-! ### Programs (R47, R375) -/

section Programs

variable {n : Fin 16} {slot : Fin 6240}

theorem exec_nandProgramStart_shut (hon : s.on = true) (h : s.gateOpen n = false) :
    exec (.nandProgramStart ⟨n, slot⟩) s = .next (s.at slot).placeWaiting := by
  refine (s.powered_of_on hon).trans (if_pos ?_)
  rw [State.placeWaiting_gateOpen, State.at_gateOpen, h]
  rfl

theorem exec_nandProgramStart_open (hon : s.on = true) (h : s.gateOpen n = true) :
    exec (.nandProgramStart ⟨n, slot⟩) s = match (s.at slot).placeWaiting.windowFor n .program with
    | none => .next (s.at slot).placeWaiting
    | some w => match (s.at slot).placeWaiting.pickDie n w ((s.at slot).placeWaiting.programWork n) with
      | some (d, k) => .next ((s.at slot).placeWaiting.startOp n w d k 77)
      | none => .next (s.at slot).placeWaiting := by
  refine (s.powered_of_on hon).trans (if_neg ?_)
  rw [State.placeWaiting_gateOpen, State.at_gateOpen, h]
  decide

end Programs

/-! ### Reads (R258) -/

/-- What background restore and compaction take up at a window. -/
def State.taken (s : State) (n w : Nat) : State := (s.bgTake n (s.freeIn n w)).gcTake

theorem State.taken_clock (s : State) (n w : Nat) : (s.taken n w).bar = s.bar ∧ (s.taken n w).now = s.now := by
  have hbg : (s.bgTake n (s.freeIn n w)).bar = s.bar ∧ (s.bgTake n (s.freeIn n w)).now = s.now := by
    unfold State.bgTake
    split
    · exact ⟨rfl, rfl⟩
    · dsimp only
      split
      · exact ⟨rfl, rfl⟩
      · exact ⟨rfl, rfl⟩
  have hgc (u : State) : u.gcTake.bar = u.bar ∧ u.gcTake.now = u.now := by
    unfold State.gcTake
    split
    · exact ⟨rfl, rfl⟩
    · split
      · exact ⟨rfl, rfl⟩
      · exact ⟨rfl, rfl⟩
  exact ⟨(hgc _).1.trans hbg.1, (hgc _).2.trans hbg.2⟩

section Reads

variable {n : Fin 16} {slot : Fin 6240}

theorem exec_nandReadStart_shut (hon : s.on = true) (hw : (s.at slot).windowFor n .read = none) :
    exec (.nandReadStart ⟨n, slot⟩) s = .next (s.at slot) := (s.powered_of_on hon).trans (by simp only [hw])

/-- A read of a fetch or of compaction, or one of patrol that is to be made again. -/
theorem exec_nandReadStart_work (hon : s.on = true) (hw : (s.at slot).windowFor n .read = some w) (hu : u = (s.at slot).taken n w)
    (h : u.readWork n (u.freeIn n w) = some (d, k) ∨
      (u.readWork n (u.freeIn n w) = none ∧ u.pickDie n w (u.patrolRetry n) = some (d, k))) :
    exec (.nandReadStart ⟨n, slot⟩) s = .next (u.startOp n w d k 12) := by
  refine (s.powered_of_on hon).trans ?_
  rw [State.taken] at hu
  obtain h | ⟨hnone, h⟩ := h
  · simp only [hw, ← hu, h]
  · simp only [hw, ← hu, hnone, h]

/-- The next share of the patrol. -/
theorem exec_nandReadStart_patrol (hon : s.on = true) (hw : (s.at slot).windowFor n .read = some w) (hu : u = (s.at slot).taken n w)
    (hwork : u.readWork n (u.freeIn n w) = none) (hretry : u.pickDie n w (u.patrolRetry n) = none) :
    (u.pickDie n w (fun d => (u.patrolNext n d).map (·.2)) = none → exec (.nandReadStart ⟨n, slot⟩) s = .next u) ∧
    ∀ d k, u.pickDie n w (fun d => (u.patrolNext n d).map (·.2)) = some (d, k) →
      exec (.nandReadStart ⟨n, slot⟩) s = .next ((u.startOp n w d k 12).patrolStep (((u.patrolNext n d).map (·.1)).getD 0)) := by
  rw [State.taken] at hu
  refine ⟨fun h => (s.powered_of_on hon).trans ?_, fun d k h => (s.powered_of_on hon).trans ?_⟩
  · simp only [hw, ← hu, hwork, hretry, h]
  · simp only [hw, ← hu, hwork, hretry, h]

/-- The patrol's place changes no channel. -/
theorem State.patrolStep_outcome (u : State) (i : Nat) : (u.patrolStep i).nch n = u.nch n ∧ (u.patrolStep i).dieFree n d = u.dieFree n d ∧
    { u.patrolStep i with deck := u.deck } = u := by
  have hchans : (u.patrolStep i).deck.chans = u.deck.chans := by
    unfold State.patrolStep State.updDeck
    dsimp only
    split <;> rfl
  have hnch : (u.patrolStep i).nch n = u.nch n := by rw [State.nch, hchans]; rfl
  exact ⟨hnch, by rw [State.dieFree, hnch]; rfl, rfl⟩

end Reads

/-! ### Erases (R265, R293, R375) -/

section Erases

variable {n : Fin 16} {slot : Fin 6240}

theorem State.at_anyAbsent (s : State) (slot : Nat) : (s.at slot).anyAbsent = s.anyAbsent := by
  rw [State.anyAbsent, State.anyAbsent, State.tilesWith, State.tilesWith, State.at_tile]

theorem exec_nandEraseStart_shut (hon : s.on = true)
    (h : s.gateOpen n = false ∨ s.anyAbsent = true ∨ (s.at slot).windowFor n .erase = none) :
    exec (.nandEraseStart ⟨n, slot⟩) s = .next (s.at slot) := by
  refine (s.powered_of_on hon).trans ?_
  dsimp only
  rw [State.at_anyAbsent, State.at_gateOpen]
  by_cases hshut : (s.anyAbsent || !(s.gateOpen n)) = true
  · rw [if_pos hshut]
  · obtain ⟨habsent, hopen⟩ : s.anyAbsent = false ∧ s.gateOpen n = true := by simpa using hshut
    have hw := (h.resolve_left (by simp [hopen])).resolve_left (by simp [habsent])
    rw [if_neg hshut, hw]

/-- The stripes of a band whose erase begins are gone. -/
theorem State.beginErase_outcome (u : State) (b : Nat) : u.onlyDeck (u.beginErase b) ∧ ((u.beginErase b).nch n) = u.nch n ∧
    ∀ x ∈ (u.beginErase b).deck.stripes, (∃ l, u.band b = .erasing l) ∨ u.bandOf x.die x.sb ≠ b := by
  unfold State.beginErase
  split
  · next l hl => exact ⟨u.onlyDeck_refl, rfl, fun x _ => .inl ⟨l, hl⟩⟩
  · refine ⟨⟨_, rfl⟩, rfl, fun x hx => .inr ?_⟩
    exact of_decide_eq_true (List.mem_filter.mp hx).2

/-- What a channel may erase on a die: its ring, or its share of a band. -/
def State.eraseOn? (s : State) (n d : Nat) : Option NandWork := s.ringWork n d <|> (s.eraseWork n d).map NandWork.band

/-- The erase of a band begins. -/
def State.begun (s : State) : NandWork → State
  | .band b => s.beginErase b
  | _ => s

theorem exec_nandEraseStart_none (hon : s.on = true) (hw : (s.at slot).windowFor n .erase = some w)
    (h : (s.at slot).pickDie n w ((s.at slot).eraseOn? n) = none) : exec (.nandEraseStart ⟨n, slot⟩) s = .next (s.at slot) := by
  unfold State.eraseOn? at h
  refine (s.powered_of_on hon).trans ?_
  dsimp only
  split
  · rfl
  · rw [hw]
    dsimp only
    rw [h]

theorem exec_nandEraseStart_some (hon : s.on = true) (hopen : s.gateOpen n = true) (habsent : s.anyAbsent = false)
    (hw : (s.at slot).windowFor n .erase = some w) (h : (s.at slot).pickDie n w ((s.at slot).eraseOn? n) = some (d, k)) :
    exec (.nandEraseStart ⟨n, slot⟩) s = .next (((s.at slot).begun k).startOp n w d k 2052) := by
  unfold State.eraseOn? at h
  refine (s.powered_of_on hon).trans ?_
  dsimp only
  rw [State.at_anyAbsent, State.at_gateOpen, if_neg (by simp [hopen, habsent]), hw]
  dsimp only
  rw [h]
  cases k <;> rfl

theorem State.begun_outcome (u : State) (n : Fin 16) (k : NandWork) : u.onlyDeck (u.begun k) ∧ (u.begun k).nch n = u.nch n ∧
    ∀ b, k = .band b → ∀ x ∈ (u.begun k).deck.stripes, (∃ l, u.band b = .erasing l) ∨ u.bandOf x.die x.sb ≠ b := by
  cases k with
  | band b =>
    obtain ⟨hdeck, hnch, hstripes⟩ := u.beginErase_outcome (n := n) b
    exact ⟨hdeck, hnch, fun c hc => by cases hc; exact hstripes⟩
  | _ => exact ⟨u.onlyDeck_refl, rfl, by simp⟩

/-- An erase starts; the stripes of a band whose erase begins with it are gone. -/
theorem State.eraseStarted_outcome (n : Fin 16) (u : State) (w d : Nat) (k : NandWork) :
    (((u.begun k).startOp n w d k 2052).nch n).ops = (u.nch n).ops ++ [⟨d, k, u.bar⟩] ∧
    ((u.begun k).startOp n w d k 2052).dieFree n d = false ∧
    { (u.begun k).startOp n w d k 2052 with deck := u.deck } = u ∧
    (d, u.now + 6240 * 2052) ∈ (((u.begun k).startOp n w d k 2052).nch n).held ∧
    ∀ b, k = .band b → ∀ x ∈ ((u.begun k).startOp n w d k 2052).deck.stripes,
      (∃ l, u.band b = .erasing l) ∨ u.bandOf x.die x.sb ≠ b := by
  obtain ⟨⟨deck, hdeck⟩, hnch, hstripes⟩ := u.begun_outcome n k
  obtain ⟨hops, hfree, hheld, -⟩ := (u.begun k).startOp_outcome n.isLt w d k 2052
  have hsame : ((u.begun k).startOp n w d k 2052).deck.stripes = (u.begun k).deck.stripes := rfl
  have hbar : (u.begun k).bar = u.bar := by rw [hdeck]
  have hnow : (u.begun k).now = u.now := by rw [hdeck]; rfl
  rw [hnch, hbar] at hops
  rw [hnow] at hheld
  refine ⟨hops, hfree, ?_, hheld, fun b hb x hx => hstripes b hb x (hsame ▸ hx)⟩
  generalize u.begun k = v at hdeck ⊢
  subst hdeck
  rfl

end Erases

end Starts

end Sys2Proof.Machine
end

section
/-! PROOFS. NAND operations end: programs, reads and erases, their counts, and what they leave on their channel (R245, R284, R286, R293,
R307). -/

namespace Sys2Proof.Machine

/-! ### What the end of an operation leaves alone -/

/-- The channel's counts of errors read as before, the operations on its dies are as before, what was raised stays, and neither DRAM
nor the tiles change. -/
structure State.NandEnds (n : Nat) (s t : State) : Prop where
  word : State.KeepsWord (0xB0008 + 0x1000 * n) s t
  ops : (t.nch n).ops = (s.nch n).ops
  raised : ∀ e ∈ s.raised, e ∈ t.raised
  dram : t.dram = s.dram
  tile : t.tile = s.tile

section NandEnds

variable {n : Nat} {s t u : State}

theorem State.NandEnds.refl (n : Nat) (s : State) : State.NandEnds n s s := ⟨.refl _ s, rfl, fun _ h => h, rfl, rfl⟩

theorem State.NandEnds.trans (h : State.NandEnds n s t) (h' : State.NandEnds n t u) : State.NandEnds n s u :=
  ⟨h.word.trans h'.word, h'.ops.trans h.ops, fun e he => h'.raised e (h.raised e he), h'.dram.trans h.dram, h'.tile.trans h.tile⟩

/-- A change of the Deck beside its channels. -/
theorem State.NandEnds.of_deck (deck : DeckState) (hchans : deck.chans = s.deck.chans) : State.NandEnds n s { s with deck := deck } :=
  ⟨.of_regs rfl, by rw [State.nch, hchans]; rfl, fun _ h => h, rfl, rfl⟩

theorem State.NandEnds.set (h : State.NandEnds n s t) (f : Field) (v : Nat) (hlo : f.lo < 32) (ha : f.addr ≠ 0xB0008 + 0x1000 * n) :
    State.NandEnds n s (t.set f v) := ⟨h.word.set f v hlo ha, h.ops, h.raised, h.dram, h.tile⟩

theorem State.NandEnds.raise (h : State.NandEnds n s t) (src : Nat) (d : List DField) (l : List CxlRec) :
    State.NandEnds n s (t.raise src d l) :=
  ⟨h.word, h.ops, fun e he => List.mem_append_left _ (h.raised e he), h.dram, h.tile⟩

theorem State.NandEnds.ite (h : State.NandEnds n s t) (h' : State.NandEnds n s u) (p : Prop) [Decidable p] :
    State.NandEnds n s (if p then t else u) := by
  split
  · exact h
  · exact h'

theorem State.NandEnds.each {α : Type} {step : State → α → State} (h : ∀ s x, State.NandEnds n s (step s x)) (l : List α)
    (s : State) : State.NandEnds n s (s.each l step) :=
  State.each_related (State.NandEnds.refl n) State.NandEnds.trans h l s

theorem State.nandEnds_updNch (hn : n < 16) {f : NandCh → NandCh} (hf : ∀ x, (f x).ops = x.ops) (m : Nat) (s : State) :
    State.NandEnds n s (s.updNch m f) := by
  refine ⟨.of_regs rfl, ?_, fun _ h => h, rfl, rfl⟩
  obtain rfl | hne := eq_or_ne n m
  · rw [State.nch_updNch_self s _ hn, hf]
  · rw [State.nch_updNch_ne s _ hn hne]

theorem State.nandEnds_wearSign (hn : n < 16) (s : State) (m : Nat) : State.NandEnds n s (s.wearSign m) := by
  unfold State.wearSign
  dsimp only
  split
  · exact .refl n s
  · refine State.NandEnds.raise (State.nandEnds_updNch hn (fun x => ?_) m s) _ _ _
    rfl

theorem State.nandEnds_markSb (s : State) (m d sb cause : Nat) : State.NandEnds n s (s.markSb m d sb cause) := .of_deck _ rfl

theorem State.nandEnds_updStripe (s : State) (die sb page : Nat) (f : Stripe → Stripe) : State.NandEnds n s (s.updStripe die sb page f) :=
  .of_deck _ rfl

theorem State.nandEnds_newStripe {kind : SegKind} {seg : Nat} (h : s.newStripe kind seg = some t) : State.NandEnds n s t := by
  unfold State.newStripe at h
  obtain ⟨⟨d, b, p⟩, -, rfl⟩ := Option.map_eq_some_iff.mp h
  exact .of_deck _ rfl

theorem State.nandEnds_placeCopy (s : State) (kind : SegKind) (seg : Nat) (k : Copy) : State.NandEnds n s (s.placeCopy kind seg k).1 := by
  have hopen : ∀ v, (if s.deck.stripes.any (·.openFor seg) then some s else s.newStripe kind seg) = some v → State.NandEnds n s v :=
    fun v hv => by
      split at hv
      · exact Option.some.inj hv ▸ .refl n s
      · exact State.nandEnds_newStripe hv
  unfold State.placeCopy
  dsimp only
  split
  · exact .refl n s
  · next v hv =>
    refine (hopen v hv).trans ?_
    split
    · exact .refl n v
    · exact .of_deck _ rfl

theorem State.nandEnds_rewriteStripe (s : State) (x : Stripe) : State.NandEnds n s (s.rewriteStripe x) := by
  unfold State.rewriteStripe
  extract_lets s1 anew s2
  have h1 : State.NandEnds n s s1 := .of_deck _ rfl
  clear_value s1
  have h2 : State.NandEnds n s1 s2 := by
    refine State.NandEnds.each (fun u e => ?_) x.shares s1
    extract_lets copy r
    have hr : State.NandEnds n u r.1 := u.nandEnds_placeCopy _ _ _
    clear_value r
    split
    · exact hr
    · exact hr.trans (.of_deck _ rfl)
  clear_value s2
  refine .ite (h1.trans h2) ((h1.trans h2).trans ?_) _
  exact .of_deck _ rfl

theorem State.NandEnds.peak (h : State.NandEnds n s t) (f : Field) (v : Nat) (hlo : f.lo < 32) (ha : f.addr ≠ 0xB0008 + 0x1000 * n) :
    State.NandEnds n s (t.peak f v) :=
  ⟨fun g hg hga => (State.get_peak_ne _ _ (key_ne_of_addr_ne hg hlo (hga ▸ ha.symm))).trans (h.word g hg hga), h.ops, h.raised, h.dram,
    h.tile⟩

theorem State.nandEnds_programTime (hn : n < 16) (s : State) (m time : Nat) : State.NandEnds n s (s.programTime m time) := by
  unfold State.programTime
  extract_lets l s1
  have h1 : State.NandEnds n s s1 := by
    refine State.NandEnds.peak (State.nandEnds_updNch hn (fun x => ?_) m s) _ _ (by simp) (by simp; omega)
    rfl
  clear_value s1
  exact (h1.set _ _ (by simp) (by simp; omega)).trans (State.nandEnds_wearSign hn _ m)

/-! ### Keystone pages (R245, R249, R295) -/

theorem State.nandEnds_updBands (s : State) : State.NandEnds n s s.updBands := by
  unfold State.updBands
  extract_lets s1 short was s2
  have h1 : State.NandEnds n s s1 :=
    ((State.NandEnds.refl n s).set _ _ (by simp) (by simp; omega)).set _ _ (by simp) (by simp; omega)
  clear_value s1
  have h2 : State.NandEnds n s s2 := (h1.set _ _ (by simp) (by simp; omega)).set _ _ (by simp) (by simp; omega)
  clear_value s2
  exact .ite (h2.raise _ _ _) h2 _

theorem State.nandEnds_adoptKeystone (s : State) (k : Keystone) : State.NandEnds n s (s.adoptKeystone k) := by
  unfold State.adoptKeystone
  extract_lets s1
  have h1 : State.NandEnds n s s1 := .of_deck _ rfl
  clear_value s1
  have hseq : State.NandEnds n s1 (s1.setKeystoneSeq k.seq) :=
    ((State.NandEnds.refl n s1).set _ _ (by simp) (by simp; omega)).set _ _ (by simp) (by simp; omega)
  have hsave (u : State) : State.NandEnds n u (u.updSave fun x => { x with dirtied := false, parent := k.seq }) :=
    ⟨.of_regs rfl, rfl, fun _ h => h, rfl, rfl⟩
  exact ((h1.trans hseq).trans (hsave _)).trans (State.nandEnds_updBands _)

theorem State.nandEnds_epochCommit (s : State) (k : Keystone) : State.NandEnds n s (s.epochCommit k) := by
  refine State.NandEnds.ite (State.NandEnds.raise ?_ _ _ _) (.refl n s) _
  exact (((State.NandEnds.refl n s).set _ _ (by simp) (by simp; omega)).set _ _ (by simp) (by simp; omega)).set _ _ (by simp)
    (by simp; omega)

theorem State.nandEnds_keystoneComplete (s : State) (w : KWrite) : State.NandEnds n s (s.keystoneComplete w) := by
  have hdone : State.NandEnds n s (s.updDeck fun d => { d with writing := none }) := .of_deck _ rfl
  unfold State.keystoneComplete
  extract_lets s1 before s2 s3
  have h1 : State.NandEnds n s s1 := hdone.trans (State.nandEnds_epochCommit _ w.ks)
  clear_value s1
  have h2 : State.NandEnds n s1 s2 := s1.nandEnds_adoptKeystone w.ks
  clear_value s2
  have h3 : State.NandEnds n s2 s3 := (State.NandEnds.refl n s2).set _ _ (by simp) (by simp; omega)
  clear_value s3
  exact .ite h1 (((h1.trans h2).trans h3).raise _ _ _) _

theorem State.nandEnds_verifiedCopy (s : State) (k : Keystone) (chan : Nat) : State.NandEnds n s (s.verifiedCopy k chan) := by
  unfold State.verifiedCopy
  extract_lets s1
  have h1 : State.NandEnds n s s1 := by
    refine .ite (.refl n s) ?_ _
    exact .of_deck _ rfl
  clear_value s1
  exact h1.trans (.of_deck _ rfl)

theorem State.nandEnds_keyPageOk (s : State) (w : KWrite) (i : Nat) : State.NandEnds n s (s.keyPageOk w i) := by
  unfold State.keyPageOk
  extract_lets c w' s1 s2
  have hw : State.NandEnds n s (s.updDeck fun d => { d with writing := some w' }) := .of_deck _ rfl
  have h1 : State.NandEnds n s s1 := hw.trans (State.nandEnds_verifiedCopy _ _ _)
  clear_value s1
  have h2 : State.NandEnds n s1 s2 := by
    refine State.NandEnds.ite (.refl n s1) ?_ _
    exact (State.NandEnds.refl n s1).set _ _ (by simp) (by simp; omega)
  clear_value s2
  refine .ite ?_ (.ite ((h1.trans h2).trans (State.nandEnds_keystoneComplete s2 w')) (h1.trans h2) _) _
  exact .of_deck _ rfl

theorem State.nandEnds_rewriteCopy (hn : n < 16) (s : State) (w : KWrite) (i : Nat) : State.NandEnds n s (s.rewriteCopy w i) := by
  unfold State.rewriteCopy
  extract_lets c s1
  have h1 : State.NandEnds n s s1 := .of_deck _ rfl
  clear_value s1
  split
  · extract_lets s2 s3
    have h2 : State.NandEnds n s1 s2 := by
      refine State.nandEnds_updNch hn (fun x => ?_) _ s1
      rfl
    clear_value s2
    have h3 : State.NandEnds n s2 s3 := .of_deck _ rfl
    clear_value s3
    exact ((h1.trans h2).trans h3).raise _ _ _
  · exact h1.trans (.of_deck _ rfl)

end NandEnds

/-! ### An operation ends -/

section Ends

variable {n d : Nat} {s t u : State}

theorem State.opOn_congr (h : (t.nch n).ops = (s.nch n).ops) : t.opOn n d = s.opOn n d := by rw [State.opOn, State.opOn, h]

/-- The channel without the operation on a die: nothing else of the machine changes. -/
theorem State.nch_endOp (hn : n < 16) (s : State) : (s.endOp n d).nch n = { s.nch n with ops := (s.nch n).ops.filter fun o => o.die ≠ d } :=
  State.nch_updNch_self s _ hn

theorem State.opOn_endOp (hn : n < 16) (s : State) : (s.endOp n d).opOn n d = none := by
  rw [State.opOn, State.nch_endOp hn, List.find?_eq_none]
  intro o ho
  simpa using (List.mem_filter.mp ho).2

theorem State.NandEnds.opOn_none (h : State.NandEnds n (s.endOp n d) t) (hn : n < 16) : t.opOn n d = none :=
  (State.opOn_congr h.ops).trans (s.opOn_endOp hn)

/-- A count of the channel's errors that rises while its operation ends. -/
theorem State.counted_outcome (hn : n < 16) {f : Field} (hlo : f.lo < 32) (ha : f.addr = 0xB0008 + 0x1000 * n) (hw : f.width = 8)
    (h1 : State.NandEnds n (s.endOp n d) u) (h2 : State.NandEnds n (u.count f) t) :
    t.opOn n d = none ∧ t.get f = min (s.get f + 1) 255 := by
  have hops : t.opOn n d = u.opOn n d := State.opOn_congr h2.ops
  have hcount : t.get f = min (u.get f + 1) 255 := by
    rw [h2.word f hlo ha, State.get_count_self, satW_mod, hw]
    rfl
  have hsame : u.get f = s.get f := h1.word f hlo ha
  exact ⟨hops.trans (h1.opOn_none hn), by rw [hcount, hsame]⟩

theorem State.opOn_of_map {w : NandWork} (h : (s.opOn n d).map (·.work) = some w) : ∃ o, s.opOn n d = some o ∧ o.work = w :=
  Option.map_eq_some_iff.mp h

/-! ### Programs (R286, R307) -/

/-- The program of a share that succeeds takes the share off its stripe's list. -/
theorem State.programmed_outcome (die sb page : Nat) (s : State) :
    ∀ x ∈ (s.updStripe die sb page fun x => x.programmed n).deck.stripes,
      x.die = die → x.sb = sb → x.page = page → n ∉ x.todo := by
  intro x hx hdie hsb hpage
  obtain ⟨y, -, rfl⟩ := List.mem_map.mp hx
  by_cases hy : (y.die = die && y.sb = sb && y.page = page) = true
  · rw [if_pos hy]
    simp [Stripe.programmed]
  · rw [if_neg hy] at hdie hsb hpage
    exact absurd (by simp [hdie, hsb, hpage]) hy

/-- The program of a share that fails: counted, and k = 0 raised. -/
theorem State.programFail_outcome (s : State) (n die sb page pos : Nat) : State.NandEnds n (s.count (Reg.NCH_ERR_PROG_FAIL n))
    (s.programFail n die sb page pos) ∧ ∃ e ∈ (s.programFail n die sb page pos).raised, e.src = srcNand n 0 := by
  have hband (u : State) (b : Nat) (x : BandState) : State.NandEnds n u (u.setBand b x) := .of_deck _ rfl
  unfold State.programFail
  extract_lets used s1 s2 s3
  have h1 : State.NandEnds n (s.count (Reg.NCH_ERR_PROG_FAIL n)) s1 := State.nandEnds_markSb _ _ _ _ _
  clear_value s1
  have h2 : State.NandEnds n s1 s2 := (s1.nandEnds_updStripe _ _ _ _).trans (hband _ _ _)
  clear_value s2
  have h3 : State.NandEnds n s2 s3 := (State.NandEnds.refl n s2).raise _ _ _
  have hevent : ∃ e ∈ s3.raised, e.src = srcNand n 0 := ⟨_, List.mem_append_right _ List.mem_cons_self, rfl⟩
  clear_value s3
  split
  · exact ⟨(h1.trans (s1.nandEnds_updStripe _ _ _ _)).raise _ _ _, _, List.mem_append_right _ List.mem_cons_self, rfl⟩
  · have hall := State.NandEnds.each State.nandEnds_rewriteStripe
      (s3.deck.stripes.filter fun x => x.die = die && x.sb = sb && x.page = page && decide (2 < (s3.absent x).length)) s3 (n := n)
    obtain ⟨e, he, hsrc⟩ := hevent
    exact ⟨((h1.trans h2).trans h3).trans hall, e, hall.raised e he, hsrc⟩

/-- The state in which the program of a share ends, before its status counts. -/
def State.shareTimed (s : State) (n d die sb time : Nat) : State :=
  let s := ((s.endOp n d).programTime n time).updDeck fun k => { k with raw := k.raw + 65536 }
  if 2700 < time then s.markSb n die sb 4 else s

theorem State.nandEnds_shareTimed (hn : n < 16) (s : State) (die sb time : Nat) :
    State.NandEnds n (s.endOp n d) (s.shareTimed n d die sb time) := by
  unfold State.shareTimed
  extract_lets s1
  have h1 : State.NandEnds n (s.endOp n d) s1 := (State.nandEnds_programTime hn _ n time).trans (.of_deck _ rfl)
  clear_value s1
  exact .ite (h1.trans (s1.nandEnds_markSb _ _ _ _)) h1 _

theorem State.programDone_share {die sb page pos : Nat} {q : Option Nat} (h : (s.opOn n d).map (·.work) = some (.share die sb page pos q))
    (ok : Bool) (time : Nat) : s.programDone n d ok time =
      if ok then (s.shareTimed n d die sb time).updStripe die sb page fun x => x.programmed n
      else (s.shareTimed n d die sb time).programFail n die sb page pos := by
  obtain ⟨o, ho, hw⟩ := State.opOn_of_map h
  simp only [State.programDone, ho, hw]
  rfl

theorem State.programDone_keyPage {seq i : Nat} (h : (s.opOn n d).map (·.work) = some (.keyPage seq i)) (hn : n < 16) (ok : Bool)
    (time : Nat) : ∃ u, State.NandEnds n (s.endOp n d) u ∧
      State.NandEnds n (if ok then u else u.count (Reg.NCH_ERR_PROG_FAIL n)) (s.programDone n d ok time) := by
  obtain ⟨o, ho, hw⟩ := State.opOn_of_map h
  simp only [State.programDone, ho, hw]
  refine ⟨(s.endOp n d).programTime n time, State.nandEnds_programTime hn _ n time, ?_⟩
  generalize (if ok then (s.endOp n d).programTime n time else ((s.endOp n d).programTime n time).count (Reg.NCH_ERR_PROG_FAIL n)) = v
  split
  · exact .ite (.refl n v) (.ite (v.nandEnds_keyPageOk _ _) (State.nandEnds_rewriteCopy hn v _ _) _) _
  · exact .refl n v

/-! ### Reads (R258, R284) -/

section Reads

variable {tile pos a sb page p0 seg : Nat}

/-- The read of a share of a fetch, whose tile's record names its place. -/
theorem State.readDone_fetch (h : (s.opOn n d).map (·.work) = some (.fetch tile pos)) (hrec : s.recOf tile = .data a sb page p0 seg) :
    (∀ b, s.readDone n d (some b) = (((s.endOp n d).setRetry (.fetch tile pos) 0).readBits n a sb b).shareRead tile pos) ∧
    s.readDone n d none = if (s.endOp n d).retryOf (.fetch tile pos) < 8 then
        (s.endOp n d).setRetry (.fetch tile pos) ((s.endOp n d).retryOf (.fetch tile pos) + 1)
      else ((s.endOp n d).setRetry (.fetch tile pos) 0).shareMissing n a sb page pos := by
  obtain ⟨o, ho, hw⟩ := State.opOn_of_map h
  have hplace : s.readPlace (.fetch tile pos) = some (a, sb, page, pos) := by simp only [State.readPlace, hrec]
  refine ⟨fun b => ?_, ?_⟩
  · simp only [State.readDone, ho, hw, hplace]
  · simp only [State.readDone, ho, hw, hplace, retryLevels]

theorem State.retryOf_endOp (w : NandWork) : (s.endOp n d).retryOf w = s.retryOf w := rfl

theorem State.retryOf_setRetry (s : State) (w : NandWork) (k : Nat) : (s.setRetry w k).retryOf w = k := by
  have hnone : ((s.deck.retries.filter fun e => e.1 ≠ w).find? fun e => e.1 = w) = none :=
    List.find?_eq_none.mpr fun e he => by simpa using (List.mem_filter.mp he).2
  have hfind : (s.setRetry w k).retryOf w =
      ((((s.deck.retries.filter fun e => e.1 ≠ w) ++ if k = 0 then [] else [(w, k)]).find? fun e => e.1 = w).map (·.2)).getD 0 := rfl
  rw [hfind, List.find?_append, hnone, Option.none_or]
  by_cases hk : k = 0
  · rw [if_pos hk, hk]
    rfl
  · rw [if_neg hk]
    simp

theorem State.nandEnds_setRetry (s : State) (w : NandWork) (k : Nat) : State.NandEnds n s (s.setRetry w k) := .of_deck _ rfl

/-- The corrected bits that a share shows. -/
theorem State.readBits_outcome (hn : n < 16) (s : State) (die sb : Nat) {b : Nat} (hb : b < 256) :
    (s.readBits n die sb b).get (Reg.NCH_ERR_CBITS_MAX n) = max (s.get (Reg.NCH_ERR_CBITS_MAX n)) b % 256 ∧
    ((s.readBits n die sb b).nch n).ops = (s.nch n).ops ∧ (s.readBits n die sb b).deck.retries = s.deck.retries := by
  have hpeak : (s.peak (Reg.NCH_ERR_CBITS_MAX n) b).get (Reg.NCH_ERR_CBITS_MAX n) = max (s.get (Reg.NCH_ERR_CBITS_MAX n)) b % 256 := by
    have hsat : satW 8 b = b := by
      unfold satW
      omega
    have hset := State.get_set_self s (Reg.NCH_ERR_CBITS_MAX n) (max (s.get (Reg.NCH_ERR_CBITS_MAX n)) (satW 8 b))
    rw [hsat] at hset
    exact (congrArg (fun v => (s.set (Reg.NCH_ERR_CBITS_MAX n) (max (s.get (Reg.NCH_ERR_CBITS_MAX n)) v)).get
      (Reg.NCH_ERR_CBITS_MAX n)) hsat).trans hset
  have hwear (u : State) : (u.wearSign n).deck.retries = u.deck.retries := by
    unfold State.wearSign
    dsimp only
    split
    · rfl
    · rfl
  have hops : ((s.peak (Reg.NCH_ERR_CBITS_MAX n) b).nch n).ops = (s.nch n).ops := rfl
  have hretries : (s.peak (Reg.NCH_ERR_CBITS_MAX n) b).deck.retries = s.deck.retries := rfl
  unfold State.readBits
  generalize s.peak (Reg.NCH_ERR_CBITS_MAX n) b = u at hpeak hops hretries ⊢
  have hends : State.NandEnds n u (if 24 ≤ b then (u.wearSign n).markSb n die sb 3 else u.wearSign n) :=
    .ite ((State.nandEnds_wearSign hn u n).trans (State.nandEnds_markSb _ _ _ _ _)) (State.nandEnds_wearSign hn u n) _
  have hkept : (if 24 ≤ b then (u.wearSign n).markSb n die sb 3 else u.wearSign n).deck.retries = u.deck.retries := by
    split
    · exact hwear u
    · exact hwear u
  exact ⟨(hends.word _ (by simp) rfl).trans hpeak, hends.ops.trans hops, hkept.trans hretries⟩

/-- No fetch of a tile needs a share. -/
def State.needsNot (s : State) (tile pos : Nat) : Prop := ∀ f ∈ s.tile.fetches, f.tile = tile → pos ∉ f.need

/-- Data in hand is queued: neither the Deck nor the registers change, nor what a fetch needs. -/
theorem State.inHand_outcome (s : State) (f : Fetch) : (s.inHand f).deck = s.deck ∧ (s.inHand f).regs = s.regs ∧
    (s.needsNot tile pos → (s.inHand f).needsNot tile pos) := by
  unfold State.inHand
  split
  · exact ⟨rfl, rfl, fun h => h⟩
  · refine ⟨rfl, rfl, fun h g hg ht => ?_⟩
    obtain ⟨g', hg', rfl⟩ := List.mem_map.mp hg
    by_cases he : g'.tile = f.tile
    · rw [if_pos he] at ht ⊢
      exact h g' hg' ht
    · rw [if_neg he] at ht ⊢
      exact h g' hg' ht

/-- A share that was decoded is no longer needed; the Deck and the registers are as before. -/
theorem State.shareRead_outcome (s : State) (tile pos : Nat) : (s.shareRead tile pos).deck = s.deck ∧
    (s.shareRead tile pos).regs = s.regs ∧ (s.shareRead tile pos).needsNot tile pos := by
  unfold State.shareRead
  cases hf : s.tile.fetches.find? fun f => f.tile = tile with
  | none => exact ⟨rfl, rfl, fun f hin ht => absurd (decide_eq_true ht) (List.find?_eq_none.mp hf f hin)⟩
  | some f =>
    dsimp -zeta only
    extract_lets f' s1
    have hdeck : s1.deck = s.deck := rfl
    have hregs : s1.regs = s.regs := rfl
    have hneeds : s1.needsNot tile pos := fun g hg ht => by
      obtain ⟨g', -, rfl⟩ := List.mem_map.mp hg
      by_cases he : g'.tile = tile
      · rw [if_pos he]
        exact fun hpos => absurd rfl (of_decide_eq_true (List.mem_filter.mp hpos).2)
      · rw [if_neg he] at ht
        exact absurd ht he
    clear_value s1
    obtain ⟨hd, hr, hn⟩ := s1.inHand_outcome f' (tile := tile) (pos := pos)
    split
    · exact ⟨hd.trans hdeck, hr.trans hregs, hn hneeds⟩
    · exact ⟨hdeck, hregs, hneeds⟩

/-- A share of a fetch that was decoded: its bits count, and the fetch no longer needs it. -/
theorem State.decoded_outcome (hn : n < 16) (s : State) (die sb : Nat) {b : Nat} (hb : b < 256) (tile pos : Nat) :
    (((s.readBits n die sb b).shareRead tile pos).nch n).ops = (s.nch n).ops ∧
    (∀ w, ((s.readBits n die sb b).shareRead tile pos).retryOf w = s.retryOf w) ∧
    ((s.readBits n die sb b).shareRead tile pos).get (Reg.NCH_ERR_CBITS_MAX n) = max (s.get (Reg.NCH_ERR_CBITS_MAX n)) b % 256 ∧
    ((s.readBits n die sb b).shareRead tile pos).needsNot tile pos := by
  obtain ⟨hmax, hops, hretries⟩ := s.readBits_outcome hn die sb hb
  obtain ⟨hdeck, hregs, hneeds⟩ := (s.readBits n die sb b).shareRead_outcome tile pos
  refine ⟨?_, fun w => ?_, ?_, hneeds⟩
  · rw [State.nch, hdeck]
    exact hops
  · rw [State.retryOf, hdeck, hretries]
    rfl
  · rw [State.get, hregs]
    exact hmax

/-- A share that is missing after retry: counted, with k = 2. -/
theorem State.shareMissing_outcome (s : State) (n die sb page pos : Nat) :
    (s.shareMissing n die sb page pos).get (Reg.NCH_ERR_READ_FAIL n) = min (s.get (Reg.NCH_ERR_READ_FAIL n) + 1) 255 ∧
    ((s.shareMissing n die sb page pos).nch n).ops = (s.nch n).ops ∧
    ∃ e ∈ (s.shareMissing n die sb page pos).raised, e.src = srcNand n 2 := by
  unfold State.shareMissing
  extract_lets s1 again s2 plan s3
  have h1 : s1.get (Reg.NCH_ERR_READ_FAIL n) = s.get (Reg.NCH_ERR_READ_FAIL n) ∧ (s1.nch n).ops = (s.nch n).ops := ⟨rfl, rfl⟩
  clear_value s1
  have h2 : s2.get (Reg.NCH_ERR_READ_FAIL n) = min (s1.get (Reg.NCH_ERR_READ_FAIL n) + 1) 255 ∧ (s2.nch n).ops = (s1.nch n).ops ∧
      ∃ e ∈ s2.raised, e.src = srcNand n 2 :=
    ⟨(s1.get_count_self _ _).trans (satW_mod _ _), rfl, _, List.mem_append_right _ List.mem_cons_self, rfl⟩
  clear_value s2
  have h3 : s3.regs = s2.regs ∧ (s3.nch n).ops = (s2.nch n).ops ∧ s3.raised = s2.raised := ⟨rfl, rfl, rfl⟩
  clear_value s3
  obtain ⟨hget1, hops1⟩ := h1
  obtain ⟨hget2, hops2, hevent⟩ := h2
  obtain ⟨hregs3, hops3, hraised3⟩ := h3
  refine ⟨?_, hops3.trans (hops2.trans hops1), ?_⟩
  · rw [← hget1, ← hget2]
    exact congrArg (fun r => Store.get 0 r (Reg.NCH_ERR_READ_FAIL n).key) hregs3
  · rw [← hraised3] at hevent
    exact hevent

end Reads

/-! ### Erases (R285, R293, R307) -/

/-- The save rate changes DECK_SAVE_RATE, and no table of the Deck. -/
theorem State.updSaveRate_outcome {a : Nat} (ha : a ≠ 0xA0004) (s : State) (phrase : Bool) :
    State.KeepsWord a s (s.updSaveRate phrase) ∧ (s.updSaveRate phrase).deck = s.deck := by
  unfold State.updSaveRate
  extract_lets s1 old r s2 s3
  have h1 : State.KeepsWord a s s1 ∧ s1.deck = s.deck := ⟨(State.KeepsWord.refl a s).set _ _ (by simp) ha.symm, rfl⟩
  clear_value s1
  have h2 : State.KeepsWord a s1 s2 ∧ s2.deck = s1.deck :=
    ⟨((State.KeepsWord.refl a s1).set _ _ (by simp) ha.symm).set _ _ (by simp) ha.symm, rfl⟩
  clear_value s2
  have h3 : State.KeepsWord a s2 s3 ∧ s3.deck = s2.deck := ⟨(State.KeepsWord.refl a s2).raise _ _ _, rfl⟩
  clear_value s3
  obtain ⟨hw1, hd1⟩ := h1
  obtain ⟨hw2, hd2⟩ := h2
  obtain ⟨hw3, hd3⟩ := h3
  have hword := (hw1.trans hw2).trans hw3
  have hdeck := hd3.trans (hd2.trans hd1)
  split
  · exact ⟨hw1, hd1⟩
  · split
    · exact ⟨hword.trans (.of_regs rfl), hdeck⟩
    · exact ⟨hword, hdeck⟩

theorem exec_nandEraseDone (hon : s.on = true) (n : Fin 16) (die : Fin 8) (ok : Bool) :
    exec (.nandEraseDone n die ok) s = .next ((s.eraseDone n die ok).updSaveRate false) := s.powered_of_on hon

/-- The place of a band on a die. -/
def State.sbOf (s : State) (b : Nat) : Nat := b / s.card.nandDies + 4

/-- An erase of a band on a die, its count risen. -/
def State.worn (s : State) (n d b : Nat) : State :=
  let s := s.endOp n d
  let key := sbKey n d (s.physical n d (s.sbOf b))
  (s.updDeck fun k => { k with wear := Store.set 0 k.wear key (Store.get 0 s.deck.wear key + 1) }).updWear n

/-- The tries of an erase on a die are noted. -/
def State.noted (s : State) (n d sb k : Nat) : State :=
  s.updNch n fun x => { x with tried := Store.set 0 x.tried (d * 65536 + sb) k }

theorem State.nandEnds_noted (hn : n < 16) (s : State) (sb k : Nat) : State.NandEnds n s (s.noted n d sb k) := by
  refine State.nandEnds_updNch hn (fun x => ?_) n s
  rfl

theorem State.nandEnds_worn (s : State) (b : Nat) : State.NandEnds n (s.endOp n d) (s.worn n d b) := by
  unfold State.worn
  extract_lets s1 key
  refine State.NandEnds.trans (t := s1.updDeck fun k => { k with wear := Store.set 0 k.wear key (Store.get 0 s1.deck.wear key + 1) })
    (.of_deck _ rfl) ?_
  exact ((State.NandEnds.refl n _).set _ _ (by simp) (by simp)).set _ _ (by simp) (by simp)

/-- The count of an erase changes neither bands, nor marks, nor what the erase is judged by. -/
theorem State.worn_frame (s : State) (n d b : Nat) : (s.worn n d b).deck.bands = s.deck.bands ∧
    (s.worn n d b).deck.marked = s.deck.marked ∧ (s.worn n d b).ratedCycles = s.ratedCycles ∧ (s.worn n d b).card = s.card :=
  ⟨rfl, rfl, rfl, rfl⟩

/-- A channel's superblock of a band is erased, and it was the last. -/
theorem State.bandErased_last {b : Nat} (h : s.band b = .erasing [n]) : s.bandErased n b = (s.setBand b .erased).updBands := by
  unfold State.bandErased
  rw [h]
  simp

theorem State.deck_updBands (s : State) : s.updBands.deck = s.deck := by
  unfold State.updBands
  extract_lets s1 short was s2
  have h1 : s1.deck = s.deck := rfl
  clear_value s1
  have h2 : s2.deck = s1.deck := rfl
  clear_value s2
  split
  · exact h2.trans h1
  · exact h2.trans h1

/-- The end of an erase that succeeds, of a superblock that is neither marked nor, by its rated cycles, worn out. -/
theorem State.eraseDone_band {b : Nat} (h : (s.opOn n d).map (·.work) = some (.band b)) (hrated : s.ratedCycles = 0)
    (hmark : Store.get 0 s.deck.marked (sbKey n d (s.sbOf b)) = 0) :
    s.eraseDone n d true = ((s.worn n d b).noted n d (s.sbOf b) 0).bandErased n b := by
  obtain ⟨o, ho, hw⟩ := State.opOn_of_map h
  have hdone : s.eraseDone n d true =
      (if Store.get 0 (s.worn n d b).deck.marked (sbKey n d (s.sbOf b)) ≠ 0 then
          ((s.worn n d b).noted n d (s.sbOf b) 0).retireSb n d (s.sbOf b)
            (Store.get 0 (s.worn n d b).deck.marked (sbKey n d (s.sbOf b)))
        else if ((s.worn n d b).noted n d (s.sbOf b) 0).ratedCycles ≠ 0 && ((s.worn n d b).noted n d (s.sbOf b) 0).ratedCycles ≤
            Store.get 0 (s.endOp n d).deck.wear (sbKey n d ((s.endOp n d).physical n d (s.sbOf b))) + 1 then
          ((s.worn n d b).noted n d (s.sbOf b) 0).retireSb n d (s.sbOf b) 5
        else (s.worn n d b).noted n d (s.sbOf b) 0).bandErased n b := by
    simp only [State.eraseDone, ho, hw]
    rfl
  obtain ⟨-, hmarked, hcycles, -⟩ := s.worn_frame n d b
  have hnoted : ((s.worn n d b).noted n d (s.sbOf b) 0).ratedCycles = (s.worn n d b).ratedCycles := rfl
  rw [hdone, hmarked, hnoted, hcycles, hmark, hrated, if_neg (by simp), if_neg (by simp)]

/-- A band whose last superblock is erased. -/
theorem State.eraseDone_erased {b : Nat} (hn : n < 16) (h : (s.opOn n d).map (·.work) = some (.band b)) (hband : s.band b = .erasing [n])
    (hrated : s.ratedCycles = 0) (hmark : Store.get 0 s.deck.marked (sbKey n d (s.sbOf b)) = 0) :
    (s.eraseDone n d true).opOn n d = none ∧ (s.eraseDone n d true).band b = .erased := by
  rw [State.eraseDone_band h hrated hmark]
  have hends : State.NandEnds n (s.endOp n d) ((s.worn n d b).noted n d (s.sbOf b) 0) :=
    (s.nandEnds_worn b).trans (State.nandEnds_noted hn _ _ _)
  have hsame : ((s.worn n d b).noted n d (s.sbOf b) 0).band b = s.band b := rfl
  generalize (s.worn n d b).noted n d (s.sbOf b) 0 = u at hends hsame ⊢
  rw [State.bandErased_last (hsame.trans hband)]
  have hset : State.NandEnds n u (u.setBand b .erased) := .of_deck _ rfl
  refine ⟨((hends.trans hset).trans (State.nandEnds_updBands _)).opOn_none hn, ?_⟩
  rw [State.band, State.deck_updBands]
  exact Store.get_set_self .raw .erased u.deck.bands b

theorem State.nandEnds_retireSb (s : State) (d sb cause : Nat) : State.NandEnds n s (s.retireSb n d sb cause) := by
  unfold State.retireSb
  extract_lets phys left s1 b used s2
  have h1 : State.NandEnds n s s1 := .of_deck _ rfl
  clear_value s1
  have h2 : State.NandEnds n s1 s2 := .of_deck _ rfl
  clear_value s2
  have hband : State.NandEnds n s1 (s1.setBand b .withdrawn) := .of_deck _ rfl
  have hspares : State.NandEnds n s2 (s2.updSpares n) := (State.NandEnds.refl n s2).set _ _ (by simp) (by simp)
  exact .ite ((h1.trans (hband.raise _ _ _)).trans (State.nandEnds_updBands _)) (((h1.trans h2).trans hspares).raise _ _ _) _

/-- An erase that fails is counted. -/
theorem State.eraseDone_failed {b : Nat} (hn : n < 16) (h : (s.opOn n d).map (·.work) = some (.band b)) :
    State.NandEnds n ((s.worn n d b).count (Reg.NCH_ERR_ERASE_FAIL n)) (s.eraseDone n d false) := by
  obtain ⟨o, ho, hw⟩ := State.opOn_of_map h
  have hretired := ((s.worn n d b).count (Reg.NCH_ERR_ERASE_FAIL n)).nandEnds_retireSb (n := n) d (s.sbOf b) 2
  have hdone : ∃ k, s.eraseDone n d false =
      if (decide ((s.worn n d b).sparesLeft n d = 0) &&
          decide (Store.get 0 ((s.worn n d b).nch n).tried (d * 65536 + s.sbOf b) ≠ 0)) = true then
        (((((s.worn n d b).count (Reg.NCH_ERR_ERASE_FAIL n)).retireSb n d (s.sbOf b) 2).noted n d (s.sbOf b) k).updNch n fun x =>
          { x with failNext := x.failNext <|> some 3 }).setBit (Reg.NCH_STAT_DIE_FAIL n) d true
      else (((s.worn n d b).count (Reg.NCH_ERR_ERASE_FAIL n)).retireSb n d (s.sbOf b) 2).noted n d (s.sbOf b) k := by
    simp only [State.eraseDone, ho, hw]
    exact ⟨_, rfl⟩
  obtain ⟨k, hdone⟩ := hdone
  rw [hdone]
  generalize ((s.worn n d b).count (Reg.NCH_ERR_ERASE_FAIL n)).retireSb n d (s.sbOf b) 2 = v at hretired ⊢
  have hnoted := hretired.trans (State.nandEnds_noted (d := d) hn v (s.sbOf b) k)
  generalize v.noted n d (s.sbOf b) k = u at hnoted ⊢
  have hfail : State.NandEnds n u (u.updNch n fun x => { x with failNext := x.failNext <|> some 3 }) := by
    refine State.nandEnds_updNch hn (fun x => ?_) n u
    rfl
  exact .ite ((hnoted.trans hfail).set _ _ (by simp) (by simp)) hnoted _

/-- An erased ring superblock holds no page. -/
theorem State.eraseDone_ring {r : Nat} (hn : n < 16) (h : (s.opOn n d).map (·.work) = some (.ring r)) (ok : Bool) :
    (s.eraseDone n d ok).opOn n d = none ∧ ((s.eraseDone n d ok).nch n).ring.used.getD r 0 = 0 := by
  obtain ⟨o, ho, hw⟩ := State.opOn_of_map h
  simp only [State.eraseDone, ho, hw]
  have hends : State.NandEnds n (s.endOp n d) ((s.endOp n d).forgetCopies n ((s.nch n).ring.seqs.getD r [])) := .of_deck _ rfl
  generalize (s.endOp n d).forgetCopies n ((s.nch n).ring.seqs.getD r []) = u at hends ⊢
  have hring : State.NandEnds n u (u.updNch n fun x => { x with ring := ⟨x.ring.cur, x.ring.used.set r 0, x.ring.seqs.set r []⟩ }) := by
    refine State.nandEnds_updNch hn (fun x => ?_) n u
    rfl
  refine ⟨(hends.trans hring).opOn_none hn, ?_⟩
  rw [State.nch_updNch_self u _ hn]
  by_cases hr : r < (u.nch n).ring.used.length
  · simp [List.getD_eq_getElem?_getD, List.getElem?_set_self hr]
  · simp [List.getD_eq_getElem?_getD, hr]

/-! ### The commands -/

section Commands

variable {n : Fin 16} {die : Fin 8}

theorem exec_nandProgramDone (hon : s.on = true) (n : Fin 16) (die : Fin 8) (ok : Bool) (time : Nat) :
    exec (.nandProgramDone n die ok time) s = .next (s.programDone n die ok time) := s.powered_of_on hon

theorem exec_nandReadDone (hon : s.on = true) (n : Fin 16) (die : Fin 8) (b : Option (Fin 41)) :
    exec (.nandReadDone n die b) s = .next (s.readDone n die b) := s.powered_of_on hon

/-- On a die without an operation none ends. -/
theorem State.done_idle {n d : Nat} (h : s.opOn n d = none) : (∀ ok time, s.programDone n d ok time = s) ∧
    (∀ b, s.readDone n d b = s) ∧ ∀ ok, s.eraseDone n d ok = s :=
  ⟨fun _ _ => by simp only [State.programDone, h], fun _ => by simp only [State.readDone, h], fun _ => by simp only [State.eraseDone, h]⟩

end Commands

end Ends

/-- Settles O35: programs, reads and erases start within windows and gates; then how each ends, by what it was. -/
theorem deckOperations : Obligations.DeckOperations := by
  unfold Obligations.DeckOperations
  refine fun n s hon => ⟨fun slot => ?_, fun slot => ⟨fun hw => exec_nandReadStart_shut hon hw, fun w hw => ?_⟩,
    fun slot => ⟨fun h => ?_, fun w hopen habsent hw => ?_⟩, fun die hidle => ?_, fun die time a sb page pos q hop => ?_,
    fun die time seq i hop ok => ?_, fun die tile pos a sb page p0 seg hop hrec => ?_, fun die b hop => ?_, fun die r hop ok => ?_⟩
  · intro u
    have hu : u = (s.at slot).placeWaiting := rfl
    clear_value u
    obtain ⟨hbar, hnow⟩ := (s.at slot).placeWaiting_clock
    rw [← hu, State.at_bar] at hbar
    rw [← hu, State.now_at] at hnow
    refine ⟨fun hshut => ⟨hu ▸ exec_nandProgramStart_shut hon hshut, exec_nandEraseStart_shut hon (.inl hshut)⟩, fun hw => ?_,
      fun w hopen hw => ⟨fun hpick => ?_, fun d k hpick => ?_⟩⟩
    · cases hopen : s.gateOpen n with
      | false => exact hu ▸ exec_nandProgramStart_shut hon hopen
      | true =>
        rw [exec_nandProgramStart_open hon hopen, ← hu]
        simp only [hw]
    · rw [exec_nandProgramStart_open hon hopen, ← hu]
      simp only [hw, hpick]
    · rw [exec_nandProgramStart_open hon hopen, ← hu]
      simp only [hw, hpick]
      obtain ⟨hops, hfree, hheld, hframe⟩ := u.startOp_outcome n.isLt w d k 77
      rw [hbar] at hops
      rw [hnow] at hheld
      exact ⟨_, rfl, hops, hfree, hheld, hframe⟩
  · intro u
    have hu : u = (s.at slot).taken n w := rfl
    clear_value u
    obtain ⟨hbar, hnow⟩ := (s.at slot).taken_clock n w
    rw [← hu, State.at_bar] at hbar
    rw [← hu, State.now_at] at hnow
    refine ⟨fun d k h => ?_, fun hwork hretry => ?_⟩
    · obtain ⟨hops, hfree, hheld, hframe⟩ := u.startOp_outcome n.isLt w d k 12
      rw [hbar] at hops
      rw [hnow] at hheld
      exact ⟨_, exec_nandReadStart_work hon hw hu h, hops, hfree, hheld, hframe⟩
    · obtain ⟨hnone, hsome⟩ := exec_nandReadStart_patrol hon hw hu hwork hretry
      refine ⟨hnone, fun d k h => ⟨_, hsome d k h, ?_⟩⟩
      obtain ⟨hops, hfree, -, hframe⟩ := u.startOp_outcome n.isLt w d k 12
      rw [hbar] at hops
      obtain ⟨hnch, hdie, -⟩ := (u.startOp n w d k 12).patrolStep_outcome (n := n) (d := d) (((u.patrolNext n d).map (·.1)).getD 0)
      exact ⟨(congrArg NandCh.ops hnch).trans hops, hdie.trans hfree, hframe⟩
  · exact exec_nandEraseStart_shut hon (.inr h)
  · intro pick
    have hpick : (s.at slot).pickDie n w ((s.at slot).eraseOn? n) = pick := rfl
    clear_value pick
    refine ⟨fun h => exec_nandEraseStart_none hon hw (hpick.trans h), fun d k h =>
      ⟨_, exec_nandEraseStart_some hon hopen habsent hw (hpick.trans h), ?_⟩⟩
    obtain ⟨hops, hfree, hframe, hheld, hstripes⟩ := State.eraseStarted_outcome n (s.at slot) w d k
    rw [State.at_bar, State.at_nch] at hops
    rw [State.now_at] at hheld
    rw [State.at_deck] at hframe
    refine ⟨hops, hfree, hframe, hheld, fun b hb x hx => ?_⟩
    have hband : (s.at slot).band b = s.band b := by rw [State.band, State.at_deck]; rfl
    have hplace : (s.at slot).bandOf x.die x.sb = s.bandOf x.die x.sb := by rw [State.bandOf, State.at_card]; rfl
    rw [← hband, ← hplace]
    exact hstripes b hb x hx
  · obtain ⟨hprogram, hread, herase⟩ := State.done_idle hidle
    refine ⟨fun ok time => ?_, fun b => ?_, fun ok => ?_⟩
    · rw [exec_nandProgramDone hon, hprogram]
    · rw [exec_nandReadDone hon, hread]
    · rw [exec_nandEraseDone hon, herase]
  · rw [exec_nandProgramDone hon, exec_nandProgramDone hon, State.programDone_share hop, State.programDone_share hop, if_pos rfl,
      if_neg Bool.false_ne_true]
    have hends := s.nandEnds_shareTimed (d := die) n.isLt a sb time
    generalize s.shareTimed n die a sb time = u at hends ⊢
    have hstripe := hends.trans (u.nandEnds_updStripe a sb page fun x => x.programmed n)
    obtain ⟨hfail, hevent⟩ := u.programFail_outcome n a sb page pos
    obtain ⟨hnone, hcount⟩ := State.counted_outcome n.isLt (by simp) rfl rfl hends hfail
    exact ⟨⟨_, rfl, hstripe.opOn_none n.isLt, hstripe.tile, u.programmed_outcome a sb page⟩, _, rfl, hnone, hcount, hevent⟩
  · obtain ⟨u, hends, hdone⟩ := State.programDone_keyPage hop n.isLt ok time
    rw [exec_nandProgramDone hon]
    refine ⟨_, rfl, ?_⟩
    cases ok with
    | true =>
      have hall := hends.trans hdone
      exact ⟨hall.opOn_none n.isLt, hall.dram, hall.word _ (by simp) rfl⟩
    | false =>
      obtain ⟨hnone, hcount⟩ := State.counted_outcome n.isLt (by simp) rfl rfl hends hdone
      exact ⟨hnone, hdone.dram.trans hends.dram, hcount⟩
  · obtain ⟨hdecoded, hundecoded⟩ := State.readDone_fetch hop hrec
    rw [State.retryOf_endOp] at hundecoded
    refine ⟨fun b => ?_, fun hagain => ?_, fun hlast => ?_⟩
    · rw [exec_nandReadDone hon, hdecoded]
      have hends : State.NandEnds n (s.endOp n die) ((s.endOp n die).setRetry (.fetch tile pos) 0) := State.nandEnds_setRetry _ _ _
      have hretry := (s.endOp n die).retryOf_setRetry (.fetch tile pos) 0
      obtain ⟨hops, hretries, hmax, hneeds⟩ := ((s.endOp n die).setRetry (.fetch tile pos) 0).decoded_outcome n.isLt a sb (b := b)
        (by omega) tile pos
      exact ⟨_, rfl, (State.opOn_congr hops).trans (hends.opOn_none n.isLt), (hretries _).trans hretry, hmax, hneeds⟩
    · rw [exec_nandReadDone hon, hundecoded, if_pos hagain]
      have hends : State.NandEnds n (s.endOp n die) ((s.endOp n die).setRetry (.fetch tile pos) (s.retryOf (.fetch tile pos) + 1)) :=
        State.nandEnds_setRetry _ _ _
      exact ⟨_, rfl, hends.opOn_none n.isLt, State.retryOf_setRetry _ _ _, rfl, rfl⟩
    · rw [exec_nandReadDone hon, hundecoded, if_neg (Nat.not_lt.mpr hlast)]
      have hends : State.NandEnds n (s.endOp n die) ((s.endOp n die).setRetry (.fetch tile pos) 0) := State.nandEnds_setRetry _ _ _
      obtain ⟨hcount, hops, hevent⟩ := ((s.endOp n die).setRetry (.fetch tile pos) 0).shareMissing_outcome n a sb page pos
      exact ⟨_, rfl, (State.opOn_congr hops).trans (hends.opOn_none n.isLt), hcount, hevent⟩
  · rw [exec_nandEraseDone hon, exec_nandEraseDone hon]
    refine ⟨fun hband hrated hmark => ⟨_, rfl, ?_⟩, _, rfl, ?_⟩
    · obtain ⟨hnone, herased⟩ := State.eraseDone_erased n.isLt hop hband hrated hmark
      obtain ⟨-, hdeck⟩ := (s.eraseDone n die true).updSaveRate_outcome (a := 0) (by decide) false
      exact ⟨by rw [State.opOn, State.nch, hdeck]; exact hnone, by rw [State.band, hdeck]; exact herased⟩
    · obtain ⟨hnone, hcount⟩ := State.counted_outcome n.isLt (by simp) rfl rfl (s.nandEnds_worn b) (State.eraseDone_failed n.isLt hop)
      obtain ⟨hword, hdeck⟩ := (s.eraseDone n die false).updSaveRate_outcome (a := 0xB0008 + 0x1000 * n) (by omega) false
      exact ⟨by rw [State.opOn, State.nch, hdeck]; exact hnone, (hword _ (by simp) rfl).trans hcount⟩
  · rw [exec_nandEraseDone hon]
    obtain ⟨hnone, hring⟩ := State.eraseDone_ring n.isLt hop ok
    obtain ⟨-, hdeck⟩ := (s.eraseDone n die ok).updSaveRate_outcome (a := 0) (by decide) false
    exact ⟨_, rfl, by rw [State.opOn, State.nch, hdeck]; exact hnone, by rw [State.nch, hdeck]; exact hring⟩

end Sys2Proof.Machine
end

section
/-! PROOFS. Score images: the packets that load, end, arm and query them, their verification, and the load that is abandoned (R98, R99,
R100, R101, R104). -/

namespace Sys2Proof.Machine

section Loads

variable {p : Pkt} {s : State}

theorem srcNum_lt (src : Src) : srcNum src < 8 := by
  cases src with
  | hport n => exact Nat.lt_trans (Nat.succ_lt_succ n.isLt) (by decide)
  | span => decide
  | warden u => exact Nat.zero_lt_succ 7

/-- STATE stands where another field is written. -/
theorem State.loadState_set_ne (s : State) {f : Field} (v : Nat) (h : Reg.SCORE_LOAD_STAT_STATE.key ≠ f.key) :
    (s.set f v).loadState = s.loadState := s.get_set_ne v h

/-! ### SCORE_LOAD_BEGIN (R98) -/

/-- Another source loads, or an arm waits. -/
def State.loadBusy (s : State) (src : Src) : Prop :=
  ((s.loadState = loadLoading ∨ s.loadState = loadVerifying) ∧ s.get Reg.SCORE_LOAD_STAT_SOURCE ≠ srcNum src) ∨
    s.loadState = loadArmPending

theorem opScoreLoadBegin_busy (h : s.loadBusy p.src) : opScoreLoadBegin p s = .refuse s stBusy := by
  unfold opScoreLoadBegin
  obtain hother | harm := h
  · exact if_pos (by simpa using hother)
  · rw [if_pos harm, ite_self]

theorem opScoreLoadBegin_free (h : ¬ s.loadBusy p.src) : opScoreLoadBegin p s =
    if 8388608 < p.u32 0 ∨ p.u32 0 % 16 ≠ 0 then .refuse s stInvalid
    else .ok (s.loadBegin (srcNum p.src) (p.u32 0) (p.u32 4) (p.u32 8))
      ((s.loadBegin (srcNum p.src) (p.u32 0) (p.u32 4) (p.u32 8)).words [0x20010]) := by
  obtain ⟨hother, harm⟩ := not_or.mp h
  unfold opScoreLoadBegin
  rw [if_neg (by simpa using hother), if_neg harm]
  simp only [Bool.or_eq_true, decide_eq_true_eq]
  rfl

theorem State.loadBegin_outcome {src : Nat} (hsrc : src < 8) (s : State) (total id rev : Nat) :
    let t := s.loadBegin src total id rev
    t.loadState = loadLoading ∧ t.get Reg.SCORE_LOAD_STAT_SOURCE = src ∧ t.get Reg.SCORE_LOAD_BYTES_BYTES = 0 ∧
      t.get Reg.SCORE_LOAD_STAT_PROGRESS = 0 ∧ t.get Reg.SCORE_LOAD_STAT_OWNER_KEY = 0 := by
  simp [State.loadBegin, State.loadState, loadLoading, State.get_set, Field.key, Nat.mod_eq_of_lt hsrc]

/-! ### SCORE_LOAD_DATA (R99) -/

/-- A chunk of the load's own source, within its image and in form. -/
def State.chunkFits (s : State) (p : Pkt) : Prop :=
  s.loadState = loadLoading ∧ s.get Reg.SCORE_LOAD_STAT_SOURCE = srcNum p.src ∧
    p.u32 0 + (p.params.length - 8) ≤ s.seq.staged.img.length ∧ p.u32 0 % 16 = 0 ∧
    ((p.params.length - 8) % 16 = 0 ∨ p.u32 0 + (p.params.length - 8) = s.seq.staged.img.length)

/-- The state after a chunk. -/
def State.chunked (s : State) (p : Pkt) : State :=
  let t := s.updSeq fun q => { q with staged := q.staged.put (p.u32 0) (p.params.drop 8) s.bar }
  t.set Reg.SCORE_LOAD_BYTES_BYTES (min (16 * t.seq.staged.units.length) s.seq.staged.img.length)

theorem opScoreLoadData_misfit (h : ¬ s.chunkFits p) : opScoreLoadData p s = .refuse s stInvalid := by
  unfold opScoreLoadData
  refine if_pos ?_
  unfold State.chunkFits at h
  simp only [List.length_drop, Bool.or_eq_true, Bool.and_eq_true, decide_eq_true_eq]
  omega

theorem opScoreLoadData_fits (h : s.chunkFits p) : opScoreLoadData p s = .ok (s.chunked p) ((s.chunked p).words [0x20018]) := by
  obtain ⟨hload, hsrc, hin, hoff, hform⟩ := h
  unfold opScoreLoadData
  refine if_neg ?_
  simp only [List.length_drop, Bool.or_eq_true, Bool.and_eq_true, decide_eq_true_eq]
  omega

/-- A chunk is stored where it says, and every other byte of the image stands. -/
theorem State.chunked_bytes (s : State) (p : Pkt) (i : Nat) : Store.get 0#8 (s.chunked p).seq.staged.img.bytes i =
    if p.u32 0 ≤ i ∧ i < p.u32 0 + (p.params.length - 8) then p.params.getD (8 + (i - p.u32 0)) 0#8
    else Store.get 0#8 s.seq.staged.img.bytes i := by
  refine (Store.get_setRange 0#8 (p.params.drop 8) s.seq.staged.img.bytes (p.u32 0) i).trans ?_
  rw [List.length_drop, List.getD_eq_getElem?_getD, List.getElem?_drop, ← List.getD_eq_getElem?_getD]

/-! ### SCORE_LOAD_END (R100) -/

/-- The load's own source ends it, with every unit received. -/
def State.loadComplete (s : State) (src : Src) : Prop :=
  s.loadState = loadLoading ∧ s.get Reg.SCORE_LOAD_STAT_SOURCE = srcNum src ∧
    s.seq.staged.img.length ≤ 16 * s.seq.staged.units.length

/-- The state in which verification runs. -/
def State.loadEnded (s : State) : State := (s.set Reg.SCORE_LOAD_STAT_STATE loadVerifying).set Reg.SCORE_LOAD_STAT_PROGRESS 0

theorem opScoreLoadEnd_partial (h : ¬ s.loadComplete p.src) : opScoreLoadEnd p s = .refuse s stInvalid := by
  unfold opScoreLoadEnd
  refine if_pos ?_
  unfold State.loadComplete at h
  simp only [Bool.or_eq_true, decide_eq_true_eq]
  omega

theorem opScoreLoadEnd_complete (h : s.loadComplete p.src) : opScoreLoadEnd p s = .ok s.loadEnded (s.loadEnded.words [0x20010]) := by
  obtain ⟨hload, hsrc, hall⟩ := h
  unfold opScoreLoadEnd
  refine if_neg ?_
  simp only [Bool.or_eq_true, decide_eq_true_eq]
  omega

theorem State.loadEnded_outcome (s : State) : s.loadEnded.loadState = loadVerifying ∧
    s.loadEnded.get Reg.SCORE_LOAD_STAT_PROGRESS = 0 := by
  simp [State.loadEnded, State.loadState, loadVerifying, State.get_set, Field.key]

/-! ### The end of verification (R95, R100) -/

/-- What the end of verification shows whatever the verifier finds. -/
def State.verifyShown (s : State) : State :=
  (s.set Reg.SCORE_LOAD_STAT_PROGRESS 255).setB Reg.SCORE_LOAD_STAT_OWNER_KEY (s.seq.staged.img.keySlot = 1)

/-- The staged image is verified as a score. -/
def State.scoreVerified (s : State) (g : Score) : State :=
  ((s.verifyShown.updSeq fun q => { q with staged := { q.staged with score := some g }, result := stOk }).set
    Reg.SCORE_LOAD_STAT_STATE loadVerified).raise 0x051 [d4 s.seq.staged.id, d4 s.seq.staged.rev]

/-- The registers show a failed check. -/
def State.failShown (s : State) (f : VFail) (result : Nat) : State :=
  ((((s.verifyShown.updSeq fun q => { q with result := result }).set Reg.SCORE_LOAD_STAT_STATE loadRejected).set
    Reg.SCORE_LOAD_STAT_DETAIL f.code).setLoc f.loc)

theorem State.verifyEnd_ok {x : VerifyCtx} {g : Score} (h : s.seq.staged.img.verify x = .ok g) : s.verifyEnd x = s.scoreVerified g := by
  simp only [State.verifyEnd, h]
  rfl

theorem State.verifyEnd_signature {x : VerifyCtx} {f : VFail} (h : s.seq.staged.img.verify x = .error f) (hsig : f.code / 256 = 0x0A) :
    s.verifyEnd x = (((s.failShown f stSignature).count Reg.SEC_SIG_FAIL_SCORE).raise 0x053
      [d2 f.code, d1 s.seq.staged.img.keySlot]).raise 0x1FF [d1 1, d1 s.seq.staged.img.keySlot] := by
  simp only [State.verifyEnd, h, hsig, if_true]
  rfl

theorem State.verifyEnd_error {x : VerifyCtx} {f : VFail} (h : s.seq.staged.img.verify x = .error f) (hsig : f.code / 256 ≠ 0x0A) :
    s.verifyEnd x = (s.failShown f stReject).raise 0x052 [d2 f.code, d4 ((s.failShown f stReject).word 0x20014)] := by
  simp only [State.verifyEnd, h, hsig, if_false]
  rfl

/-- What every end of verification shows, and what it leaves alone. -/
def State.verifyDone (s t : State) : Prop :=
  t.get Reg.SCORE_LOAD_STAT_PROGRESS = 255 ∧ t.seq.play = s.seq.play ∧
    t.get Reg.SCORE_LOAD_STAT_OWNER_KEY = bit (s.seq.staged.img.keySlot = 1) ∧
    { t with regs := s.regs, raised := s.raised, seq := s.seq, slotIncs := s.slotIncs } = s

theorem bit_mod_two (b : Bool) : bit b % 2 = bit b := by cases b <;> rfl

theorem State.scoreVerified_outcome (s : State) (g : Score) : s.verifyDone (s.scoreVerified g) ∧
    (s.scoreVerified g).loadState = loadVerified := by
  refine ⟨⟨?_, rfl, ?_, rfl⟩, ?_⟩ <;>
    simp [State.scoreVerified, State.verifyShown, State.loadState, loadVerified, State.setB, State.get_set, Field.key, bit_mod_two]

/-- What the registers show of a failed check. -/
theorem State.failShown_get (s : State) (f : VFail) (result : Nat) : (s.failShown f result).get Reg.SCORE_LOAD_STAT_PROGRESS = 255 ∧
    (s.failShown f result).get Reg.SCORE_LOAD_STAT_OWNER_KEY = bit (s.seq.staged.img.keySlot = 1) ∧
    (s.failShown f result).loadState = loadRejected ∧ (s.failShown f result).get Reg.SCORE_LOAD_STAT_DETAIL = f.code % 65536 ∧
    (s.failShown f result).get Reg.SCORE_LOAD_LOC_VARIANT = f.loc.variant % 16 ∧
    (s.failShown f result).get Reg.SCORE_LOAD_LOC_BAR = f.loc.bar % 256 := by
  refine ⟨?_, ?_, ?_, ?_, ?_, ?_⟩ <;>
    simp [State.failShown, State.setLoc, State.verifyShown, State.loadState, loadRejected, State.setB, State.get_set,
      Field.key, bit_mod_two]

/-- A failed check reported: the events, and for the signature group SEC_SIG_FAIL. -/
structure State.Reports (s t : State) : Prop where
  get : ∀ r : Field, r.key ≠ Reg.SEC_SIG_FAIL_SCORE.key → t.get r = s.get r
  frame : { t with regs := s.regs, raised := s.raised, slotIncs := s.slotIncs } = s

theorem State.reports_signature (u : State) (d d' : List DField) :
    State.Reports u (((u.count Reg.SEC_SIG_FAIL_SCORE).raise 0x053 d).raise 0x1FF d') := ⟨fun _ hr => u.get_count_ne 1 hr, rfl⟩

theorem State.reports_raise (u : State) (n : Nat) (d : List DField) : State.Reports u (u.raise n d) := ⟨fun _ _ => rfl, rfl⟩

/-- A failed check shows in registers and STAGED_RESULT, and in nothing else. -/
theorem State.failShown_eq (s : State) (f : VFail) (result : Nat) :
    ∃ regs, s.failShown f result = { s with regs := regs, seq := { s.seq with result := result } } := by
  obtain ⟨before, hshown⟩ : s.onlyRegs s.verifyShown := State.onlyRegs_trans (s.onlyRegs_set _ _) (State.onlyRegs_set _ _ _)
  have hloc (u : State) : u.onlyRegs (u.setLoc f.loc) :=
    State.onlyRegs_trans (State.onlyRegs_trans (State.onlyRegs_trans (u.onlyRegs_set _ _) (State.onlyRegs_set _ _ _))
      (State.onlyRegs_set _ _ _)) (State.onlyRegs_set _ _ _)
  obtain ⟨regs, hset⟩ := State.onlyRegs_trans (State.onlyRegs_trans (State.onlyRegs_set (s.verifyShown.updSeq fun q =>
    { q with result := result }) Reg.SCORE_LOAD_STAT_STATE loadRejected) (State.onlyRegs_set _ Reg.SCORE_LOAD_STAT_DETAIL f.code)) (hloc _)
  refine ⟨regs, ?_⟩
  rw [State.failShown, hset, hshown]
  rfl

theorem State.verifyEnd_reports {x : VerifyCtx} {f : VFail} (h : s.seq.staged.img.verify x = .error f) :
    (∃ result, State.Reports (s.failShown f result) (s.verifyEnd x)) ∧
      (f.code / 256 = 0x0A → (s.verifyEnd x).raised.map (·.src) = s.raised.map (·.src) ++ [0x053, 0x1FF]) ∧
      (f.code / 256 ≠ 0x0A → (s.verifyEnd x).raised.map (·.src) = s.raised.map (·.src) ++ [0x052]) := by
  by_cases hsig : f.code / 256 = 0x0A
  · rw [State.verifyEnd_signature h hsig]
    refine ⟨⟨_, State.reports_signature _ _ _⟩, fun _ => ?_, fun hnot => absurd hsig hnot⟩
    obtain ⟨regs, hshown⟩ := s.failShown_eq f stSignature
    simp [hshown]
  · rw [State.verifyEnd_error h hsig]
    refine ⟨⟨_, State.reports_raise _ _ _⟩, fun his => absurd his hsig, fun _ => ?_⟩
    obtain ⟨regs, hshown⟩ := s.failShown_eq f stReject
    simp [hshown]

/-- The image is rejected with the code and the place of the failed check. -/
theorem State.rejected_outcome {x : VerifyCtx} {f : VFail} (h : s.seq.staged.img.verify x = .error f) :
    s.verifyDone (s.verifyEnd x) ∧ (s.verifyEnd x).loadState = loadRejected ∧
      (s.verifyEnd x).get Reg.SCORE_LOAD_STAT_DETAIL = f.code % 65536 ∧ (s.verifyEnd x).seq.staged = s.seq.staged ∧
      (s.verifyEnd x).get Reg.SCORE_LOAD_LOC_VARIANT = f.loc.variant % 16 ∧
      (s.verifyEnd x).get Reg.SCORE_LOAD_LOC_BAR = f.loc.bar % 256 := by
  obtain ⟨⟨result, hget, hreport⟩, -, -⟩ := State.verifyEnd_reports h
  obtain ⟨hprogress, howner, hstate, hdetail, hvariant, hbar⟩ := s.failShown_get f result
  obtain ⟨regs, hshown⟩ := s.failShown_eq f result
  generalize s.verifyEnd x = t at *
  generalize s.failShown f result = u at *
  have hseq : t.seq = { s.seq with result := result } := (congrArg State.seq hreport).trans (by rw [hshown])
  refine ⟨⟨(hget _ (by decide)).trans hprogress, by rw [hseq], (hget _ (by decide)).trans howner, ?_⟩,
    (hget _ (by decide)).trans hstate, (hget _ (by decide)).trans hdetail, by rw [hseq], (hget _ (by decide)).trans hvariant,
    (hget _ (by decide)).trans hbar⟩
  calc { t with regs := s.regs, raised := s.raised, seq := s.seq, slotIncs := s.slotIncs }
    _ = { u with regs := s.regs, raised := s.raised, seq := s.seq, slotIncs := s.slotIncs } := by rw [← hreport]
    _ = s := by rw [hshown]

theorem exec_scoreVerifyDone (hon : s.on = true) : exec .scoreVerifyDone s =
    if s.loadState = loadVerifying ∧ s.get Reg.WARDEN_STAT_ACTIVE ≠ 0 then .next (s.verifyEnd s.verifyCtx) else .next s :=
  (s.powered_of_on hon).trans (by simp only [Bool.and_eq_true, decide_eq_true_eq])

/-! ### SCORE_ARM (R101) -/

/-- The state in which the arm waits. -/
def State.armedWaits (s : State) : State :=
  (s.set Reg.SCORE_LOAD_STAT_STATE loadArmPending).updSeq fun q => { q with armDeferred := false, armAt := s.bar }

theorem opScoreArm_unverified (h : s.loadState ≠ loadVerified) : opScoreArm p s = .refuse s stNotArmed := if_pos h

theorem opScoreArm_verified (h : s.loadState = loadVerified) : opScoreArm p s =
    if p.u32 0 ≠ s.seq.staged.id ∨ p.genOk s.seq.staged.rev = false then .refuse s stStale
    else if s.saving then .refuse s stForbids
    else .ok s.armedWaits (s.armedWaits.words [0x20010]) := by
  unfold opScoreArm
  rw [if_neg (not_not.mpr h)]
  simp only [Bool.or_eq_true, decide_eq_true_eq, Bool.not_eq_true']
  rfl

theorem State.loadState_armedWaits (s : State) : s.armedWaits.loadState = loadArmPending :=
  State.get_set_self s Reg.SCORE_LOAD_STAT_STATE loadArmPending

/-! ### A load abandoned (R99) -/

theorem exec_scoreLoadTimeout (hon : s.on = true) : exec .scoreLoadTimeout s =
    if s.loadState = loadLoading ∧ s.elapsed s.seq.staged.since 10000000 = true then .next s.loadAbandon else .next s :=
  (s.powered_of_on hon).trans (by simp only [Bool.and_eq_true, decide_eq_true_eq])

theorem State.loadState_unstage (s : State) : s.unstage.loadState = loadEmpty :=
  (State.loadState_set_ne _ _ (by decide)).trans (State.get_set_self _ _ _)

/-! ### SCORE_QUERY (R104, R483) -/

theorem State.length_words (s : State) (as : List Nat) : (s.words as).length = 4 * as.length := by
  induction as with
  | nil => rfl
  | cons a as ih =>
    have hcons : s.words (a :: as) = leBytes 4 (s.word a) ++ s.words as := rfl
    rw [hcons, List.length_append, ih, length_leBytes, List.length_cons]
    omega

/-- What SCORE_QUERY answers of a port's bounds: the image's own and those in force (R483). -/
def Score.portBounds (g : Score) (n : Nat) : List Byte :=
  leBytes 4 (g.port n).readBound ++ leBytes 4 (g.port n).writeBound ++ leBytes 4 (g.boundNs n false) ++ leBytes 4 (g.boundNs n true)

/-- What SCORE_QUERY answers between the playing image's identity and the staged one's figures. -/
def State.queryBody (s : State) : List Byte :=
  leBytes 1 s.seq.play.variantMask ++ leBytes 1 0 ++ leBytes 2 s.seq.result ++ s.words [0x20004, 0x20008, 0x20024]
    ++ ports.flatMap s.seq.play.portBounds

/-- What SCORE_QUERY answers of the staged image. -/
def State.queryStaged (s : State) : List Byte :=
  s.words [0x20010, 0x20014, 0x20018] ++ leBytes 4 s.seq.staged.id ++ leBytes 4 s.seq.staged.rev

theorem opScoreQuery_eq (p : Pkt) (s : State) : opScoreQuery p s =
    .ok s ((leBytes 4 s.seq.play.id ++ leBytes 4 s.seq.play.rev) ++ (s.queryBody ++ s.queryStaged)) := by
  simp only [State.queryBody, State.queryStaged, ← List.append_assoc]
  rfl

theorem State.length_queryBody (s : State) : s.queryBody.length = 80 := by
  have hport (n : Nat) : (s.seq.play.portBounds n).length = 16 := by simp [Score.portBounds]
  have hports : (ports.flatMap s.seq.play.portBounds).length = 64 := by
    rw [List.length_flatMap, show (fun n => (s.seq.play.portBounds n).length) = fun _ => 16 from funext hport]
    rfl
  simp [State.queryBody, State.length_words, hports]

end Loads

/-- Settles O22: each packet by its checks in their order, the end of verification by what the verifier answers. -/
theorem scoreLoads : Obligations.ScoreLoads := by
  unfold Obligations.ScoreLoads
  intro p s
  refine ⟨fun h => ?_, fun h => ?_, fun h => ?_, fun hon => ?_, fun h => ?_, fun hon => ?_, fun h => ?_⟩
  · refine ⟨fun hbusy => ?_, fun hfree hform => ?_, fun hfree hsize hunits => ?_⟩
    · exact congrArg _ (PktOp.command_of_refuse h (opScoreLoadBegin_busy hbusy) (by decide))
    · exact congrArg _ (PktOp.command_of_refuse h ((opScoreLoadBegin_free hfree).trans (if_pos hform)) (by decide))
    · obtain ⟨hstate, hsrc, hbytes, hprogress, howner⟩ := State.loadBegin_outcome (srcNum_lt p.src) s (p.u32 0) (p.u32 4) (p.u32 8)
      exact ⟨_, congrArg _ (PktOp.command_of_ok h ((opScoreLoadBegin_free hfree).trans
        (if_neg (not_or.mpr ⟨Nat.not_lt.mpr hsize, not_not.mpr hunits⟩)))), hstate, hsrc, hbytes, hprogress, howner, rfl, rfl, rfl⟩
  · refine ⟨fun hnot => ?_, fun hfits => ?_⟩
    · exact congrArg _ (PktOp.command_of_refuse h (opScoreLoadData_misfit hnot) (by decide))
    · refine ⟨s.chunked p, congrArg _ (PktOp.command_of_ok h (opScoreLoadData_fits hfits)), fun i hi => ?_, fun i hi => ?_, rfl,
        (State.loadState_set_ne _ _ (by decide)).trans hfits.1, rfl, rfl, fun f hf => State.get_set_ne _ _ hf, rfl⟩
      · rw [State.chunked_bytes, if_pos (by omega), Nat.add_sub_cancel_left]
      · rw [State.chunked_bytes, if_neg (by omega)]
  · refine ⟨fun hnot => ?_, fun hcomplete => ?_⟩
    · exact congrArg _ (PktOp.command_of_refuse h (opScoreLoadEnd_partial hnot) (by decide))
    · obtain ⟨hstate, hprogress⟩ := s.loadEnded_outcome
      exact ⟨s.loadEnded, congrArg _ (PktOp.command_of_ok h (opScoreLoadEnd_complete hcomplete)), hstate, hprogress, rfl⟩
  · rw [exec_scoreVerifyDone hon]
    refine ⟨fun hnot => if_neg (by tauto), fun hload hactive => ⟨_, if_pos ⟨hload, hactive⟩, ?_⟩⟩
    cases hv : s.seq.staged.img.verify s.verifyCtx with
    | ok g =>
      obtain ⟨⟨hprogress, hplay, howner, hframe⟩, hstate⟩ := s.scoreVerified_outcome g
      rw [State.verifyEnd_ok hv]
      refine ⟨hprogress, hplay, howner, hframe, fun g' hg => ?_, fun f hf => (by cases hf)⟩
      cases hg
      exact ⟨hstate, rfl, rfl⟩
    | error f =>
      obtain ⟨⟨hprogress, hplay, howner, hframe⟩, hstate, hdetail, hstaged, hvariant, hbar⟩ := State.rejected_outcome hv
      obtain ⟨-, hsignature, hother⟩ := State.verifyEnd_reports hv
      refine ⟨hprogress, hplay, howner, hframe, fun g hg => (by cases hg), fun f' hf => ?_⟩
      cases hf
      exact ⟨hstate, hdetail, hstaged, hvariant, hbar, hsignature, hother⟩
  · refine ⟨fun hnot => ?_, fun hload hstale => ?_, fun hload hid hgen => ⟨fun hsave => ?_, fun hsave => ?_⟩⟩
    · exact congrArg _ (PktOp.command_of_refuse h (opScoreArm_unverified hnot) (by decide))
    · exact congrArg _ (PktOp.command_of_refuse h ((opScoreArm_verified hload).trans (if_pos hstale)) (by decide))
    · refine congrArg _ (PktOp.command_of_refuse h ((opScoreArm_verified hload).trans ?_) (by decide))
      rw [if_neg (by simp [hid, hgen]), if_pos hsave]
    · refine ⟨s.armedWaits, congrArg _ (PktOp.command_of_ok h ((opScoreArm_verified hload).trans ?_)), s.loadState_armedWaits, rfl,
        fun f hf => s.get_set_ne loadArmPending hf, rfl⟩
      rw [if_neg (by simp [hid, hgen]), if_neg (ne_true_of_eq_false hsave)]
  · rw [exec_scoreLoadTimeout hon]
    refine ⟨fun hnot => if_neg ?_, fun hload hlate => ⟨s.loadAbandon, if_pos ⟨hload, hlate⟩, s.loadState_unstage, rfl, rfl, rfl⟩⟩
    rintro ⟨hload, hlate⟩
    simp [hload, hlate] at hnot
  · refine ⟨_, ?_, ?_, ?_, congrArg _ (PktOp.command_of_ok h (opScoreQuery_eq p s))⟩
    · simp [State.length_queryBody, State.queryStaged, State.length_words]
    · exact List.take_left' (by simp)
    · rw [← List.append_assoc]
      exact List.drop_left' (by simp [State.length_queryBody])

end Sys2Proof.Machine
end

section
/-! PROOFS. An armed image starts to play (R71, R101, R112). -/

namespace Sys2Proof.Machine

/-- The fields that say what plays, which image is armed, and which variant is asked for (R71, R109, R112). -/
def swapFields : List Field :=
  [Reg.SCORE_LOAD_STAT_STATE, Reg.SCORE_LOAD_STAT_OWNER_KEY, Reg.SCORE_STAT_ARMED, Reg.SCORE_STAT_BOOT, Reg.SCORE_PLAY_ID_ID,
    Reg.SCORE_PLAY_REV_REV, Reg.SCORE_ARM_BAR_BAR, Reg.SCORE_VARIANT_REQ]

/-- What plays and what is staged stand, the fields that show it read as before, and no event that was raised is lost. -/
structure State.SwapKeeps (s t : State) : Prop where
  get : ∀ f ∈ swapFields, t.get f = s.get f
  play : t.seq.play = s.seq.play
  staged : t.seq.staged = s.seq.staged
  bar : t.bar = s.bar
  raised : ∀ e ∈ s.raised, e ∈ t.raised

section SwapKeeps

variable {s t u : State}

theorem State.SwapKeeps.refl (s : State) : State.SwapKeeps s s := ⟨fun _ _ => rfl, rfl, rfl, rfl, fun _ h => h⟩

theorem State.SwapKeeps.trans (h : State.SwapKeeps s t) (h' : State.SwapKeeps t u) : State.SwapKeeps s u :=
  ⟨fun f hf => (h'.get f hf).trans (h.get f hf), h'.play.trans h.play, h'.staged.trans h.staged, h'.bar.trans h.bar,
    fun e he => h'.raised e (h.raised e he)⟩

/-- A step that leaves registers and events alone. -/
theorem State.SwapKeeps.of_same (h : State.SwapKeeps s t) (hregs : u.regs = t.regs) (hplay : u.seq.play = t.seq.play)
    (hstaged : u.seq.staged = t.seq.staged) (hbar : u.bar = t.bar) (hraised : u.raised = t.raised) : State.SwapKeeps s u :=
  h.trans ⟨fun f _ => by rw [State.get, hregs]; rfl, hplay, hstaged, hbar, fun _ he => hraised ▸ he⟩

theorem State.SwapKeeps.set (h : State.SwapKeeps s t) (f : Field) (v : Nat) (hf : ∀ g ∈ swapFields, g.key ≠ f.key) :
    State.SwapKeeps s (t.set f v) :=
  h.trans ⟨fun g hg => t.get_set_ne v (hf g hg), rfl, rfl, rfl, fun _ he => he⟩

theorem State.SwapKeeps.raise (h : State.SwapKeeps s t) (n : Nat) (d : List DField) (l : List CxlRec) :
    State.SwapKeeps s (t.raise n d l) :=
  h.trans ⟨fun _ _ => rfl, rfl, rfl, rfl, fun _ he => List.mem_append_left _ he⟩

theorem State.SwapKeeps.ite (h : State.SwapKeeps s t) (h' : State.SwapKeeps s u) (p : Prop) [Decidable p] :
    State.SwapKeeps s (if p then t else u) := by
  split
  · exact h
  · exact h'

theorem State.SwapKeeps.each {α : Type} (h : State.SwapKeeps s t) (l : List α) {step : State → α → State}
    (hstep : ∀ u x, State.SwapKeeps u (step u x)) : State.SwapKeeps s (t.each l step) :=
  h.trans (State.each_related State.SwapKeeps.refl State.SwapKeeps.trans hstep l t)

theorem State.onlyLogs.swapKeeps (h : s.onlyLogs t) : State.SwapKeeps s t := by
  obtain ⟨_, _, rfl⟩ := h
  exact ⟨fun _ _ => rfl, rfl, rfl, rfl, fun _ he => List.mem_append_left _ he⟩

/-- The fields lie below address 0x20028. -/
theorem swapFields_key_ne {f : Field} (h : 0x20028 ≤ f.addr) : ∀ g ∈ swapFields, g.key ≠ f.key := by
  have hbelow : ∀ g ∈ swapFields, g.key < 0x20028 * 32 := by decide
  intro g hg
  have hg := hbelow g hg
  unfold Field.key at *
  omega

/-! ### The bar planned, and what follows the swap -/

theorem State.swapKeeps_planPress (s : State) (t : VariantTab) (c : Nat) (fresh : Bool) : State.SwapKeeps s (s.planPress t c fresh) := by
  unfold State.planPress
  split
  · exact (State.SwapKeeps.refl s).of_same rfl rfl rfl rfl rfl
  · have hpress : State.SwapKeeps s (s.updCh c fun x => { x with press := (s.pressOf t c fresh).1 }) :=
      (State.SwapKeeps.refl s).of_same rfl rfl rfl rfl rfl
    exact .ite (hpress.raise _ _ _) hpress _

theorem State.swapKeeps_returnCredits (s : State) (n : Nat) (g : Grant) : State.SwapKeeps s (s.returnCredits n g) := by
  unfold State.returnCredits
  split
  · exact .refl s
  · exact (State.SwapKeeps.refl s).of_same rfl rfl rfl rfl rfl

theorem State.swapKeeps_planBar (s : State) (switched forced saveFirst : Bool) :
    State.SwapKeeps s (s.planBar switched forced saveFirst) := by
  unfold State.planBar
  cases s.playing with
  | none => exact .refl s
  | some t =>
    dsimp -zeta only
    extract_lets s1 again s2 s3 s4 void s5 s6 grants
    have h1 : State.SwapKeeps s s1 := (State.SwapKeeps.refl s).each channels fun u c => u.swapKeeps_planPress t c switched
    clear_value s1
    have h2 : State.SwapKeeps s s2 := by
      subst s2
      split
      · exact h1
      · exact h1.of_same rfl rfl rfl rfl rfl
    clear_value s2
    have h3 : State.SwapKeeps s s3 := h2.each channels fun u c => (State.SwapKeeps.refl u).of_same rfl rfl rfl rfl rfl
    clear_value s3
    have h4 : State.SwapKeeps s s4 := h3.of_same rfl rfl rfl rfl rfl
    clear_value s4
    have h5 : State.SwapKeeps s s5 := (h4.set _ _ (by decide)).set _ _ (by decide)
    clear_value s5
    have h6 : State.SwapKeeps s s6 := (h5.set _ _ (by decide)).set _ _ (by decide)
    exact h6.each ports fun u n => u.swapKeeps_returnCredits n _

theorem State.swapKeeps_linkDown (s : State) (n : Nat) : State.SwapKeeps s (s.linkDown n) := by
  have htrain (u : State) : State.SwapKeeps u (u.trainPort n) := by
    obtain ⟨v, h | h⟩ := u.trainPort_eq n
    · rw [h]
      exact .refl u
    · rw [h]
      exact (State.SwapKeeps.refl u).set _ _ (swapFields_key_ne (by simp; omega))
  unfold State.linkDown
  extract_lets n1 n2 s1 s2
  have h1 : State.SwapKeeps s s1 := (State.SwapKeeps.refl s).of_same rfl rfl rfl rfl rfl
  clear_value s1
  have h2 : State.SwapKeeps s s2 := ((h1.set _ _ (swapFields_key_ne (by simp; omega))).set _ _ (swapFields_key_ne (by simp; omega))).set _ _
    (swapFields_key_ne (by simp; omega))
  exact (h2.trans (htrain s2)).raise _ _ _

theorem State.swapKeeps_publishBounds (s : State) : State.SwapKeeps s s.publishBounds := by
  unfold State.publishBounds
  extract_lets s1 s2 old s3 new
  have h1 : State.SwapKeeps s s1 := (State.SwapKeeps.refl s).set _ _ (by decide)
  clear_value s1
  have h2 : State.SwapKeeps s s2 := h1.set _ _ (by decide)
  clear_value s2
  have h3 : State.SwapKeeps s s3 := by
    subst s3
    cases s2.touchBars with
    | none => exact (h2.set _ _ (by decide)).set _ _ (by decide)
    | some b => exact (h2.set _ _ (by decide)).set _ _ (by decide)
  exact .ite h3 (h3.raise _ _ _) _

theorem State.swapKeeps_updSaveRate (s : State) (phrase : Bool) : State.SwapKeeps s (s.updSaveRate phrase) := by
  unfold State.updSaveRate
  extract_lets s1 old r s2 s3
  have h1 : State.SwapKeeps s s1 := (State.SwapKeeps.refl s).set _ _ (by decide)
  clear_value s1
  have h2 : State.SwapKeeps s s2 := (h1.set _ _ (by decide)).set _ _ (by decide)
  clear_value s2
  have h3 : State.SwapKeeps s s3 := h2.raise _ _ _
  clear_value s3
  split
  · exact h1
  · split
    · exact h3.of_same rfl rfl rfl rfl rfl
    · exact h3

/-- What follows an image that has begun to play: ports it does not present leave, and bounds, figures and the save rate follow. -/
def State.swapFollowed (s : State) : State :=
  let gone := ports.filter fun p => !(s.seq.play.port p).present && s.get (Reg.HPORT_STAT_LINK_STATE p) ≠ 0
  let s := s.each gone State.linkDown
  let s := s.publishBounds.updGpf
  let s := s.each ports fun s p => s.cdatChange p (s.lds p)
  (s.updSaveRate false).updTile fun x => { x with recompute := true }

theorem State.swapKeeps_swapFollowed (s : State) : State.SwapKeeps s s.swapFollowed := by
  unfold State.swapFollowed
  extract_lets gone s1 s2 s3
  have h1 : State.SwapKeeps s s1 := (State.SwapKeeps.refl s).each gone State.swapKeeps_linkDown
  clear_value s1
  have h2 : State.SwapKeeps s s2 := (h1.trans s1.swapKeeps_publishBounds).trans (State.onlyLogs_updGpf _).swapKeeps
  clear_value s2
  have h3 : State.SwapKeeps s s3 := h2.each ports fun u n => (u.onlyLogs_cdatChange n _).swapKeeps
  have h4 := h3.trans (s3.swapKeeps_updSaveRate false)
  generalize s3.updSaveRate false = u at h4
  exact h4.of_same rfl rfl rfl rfl rfl

/-! ### The image begins to play -/

theorem State.swapKeeps_publishScore (s : State) (g : Score) : State.SwapKeeps s (s.publishScore g) := by
  have hpresent : State.SwapKeeps s (s.set Reg.SCORE_VARIANT_PRESENT g.variantMask) := (State.SwapKeeps.refl s).set _ _ (by decide)
  refine hpresent.each ports fun u n => ?_
  extract_lets u1 u2 u3
  have h1 : State.SwapKeeps u u1 :=
    ((State.SwapKeeps.refl u).set _ _ (swapFields_key_ne (by simp; omega))).set _ _ (swapFields_key_ne (by simp; omega))
  clear_value u1
  have h2 : State.SwapKeeps u u2 := (h1.set _ _ (swapFields_key_ne (by simp; omega))).set _ _ (swapFields_key_ne (by simp; omega))
  clear_value u2
  have h3 : State.SwapKeeps u u3 := h2.set _ _ (swapFields_key_ne (by simp; omega))
  exact (h3.set _ _ (swapFields_key_ne (by simp; omega))).set _ _ (swapFields_key_ne (by simp; omega))

/-- REQ falls to 0 where the image lacks its variant. -/
def State.reqChecked (s : State) (g : Score) : State :=
  if (g.tab (s.get Reg.SCORE_VARIANT_REQ)).isNone then
    (s.raise 0x047 [d1 (s.get Reg.SCORE_VARIANT_REQ)]).set Reg.SCORE_VARIANT_REQ 0
  else s

theorem State.reqChecked_outcome (s : State) (g : Score) : (s.reqChecked g).seq = s.seq ∧ (s.reqChecked g).bar = s.bar ∧
    (g.tab (s.get Reg.SCORE_VARIANT_REQ) = none → (s.reqChecked g).get Reg.SCORE_VARIANT_REQ = 0) := by
  unfold State.reqChecked
  split
  · exact ⟨rfl, rfl, fun _ => State.get_set_self _ _ _⟩
  · next h => exact ⟨rfl, rfl, fun hnone => absurd (by rw [hnone]; rfl) h⟩

theorem State.beginScore_eq (s : State) (g : Score) : ∃ v,
    s.beginScore g = (((s.updSeq fun q => { q with play := g }).publishScore g).reqChecked g).switchTo v false := ⟨_, rfl⟩

theorem State.beginScore_outcome (s : State) (g : Score) : (s.beginScore g).seq.play = g ∧ (s.beginScore g).bar = s.bar ∧
    (g.tab (s.get Reg.SCORE_VARIANT_REQ) = none → (s.beginScore g).get Reg.SCORE_VARIANT_REQ = 0) := by
  obtain ⟨v, hbegin⟩ := s.beginScore_eq g
  rw [hbegin]
  have hpublish := (s.updSeq fun q => { q with play := g }).swapKeeps_publishScore g
  generalize (s.updSeq fun q => { q with play := g }).publishScore g = u at *
  obtain ⟨hseq, hbar, hreq⟩ := u.reqChecked_outcome g
  obtain ⟨-, -, -, -, hget, hframe⟩ := (u.reqChecked g).switchTo_unforced_outcome v
  generalize u.reqChecked g = w at *
  have hasked : u.get Reg.SCORE_VARIANT_REQ = s.get Reg.SCORE_VARIANT_REQ := hpublish.get _ (by decide)
  have hplays : (w.switchTo v false).seq = w.seq := (congrArg State.seq hframe :)
  have hsame : (w.switchTo v false).bar = w.bar := (congrArg State.bar hframe :)
  refine ⟨by rw [hplays, hseq, hpublish.play]; rfl, by rw [hsame, hbar, hpublish.bar]; rfl, fun hnone => ?_⟩
  rw [hget _ (by decide) (by decide) (by decide), hreq (by rw [hasked, hnone])]

/-- The swap as the registers show it: the staged image plays, and nothing is staged (R101, R112). -/
def State.swapShown (s : State) (g : Score) : State :=
  let s := (s.updSeq fun q => { q with playDigest := q.staged.img.slice (q.staged.img.length - 160) 48 }).unstage
  let s := (s.set Reg.SCORE_STAT_ARMED 1).set Reg.SCORE_STAT_BOOT 0
  let s := ((s.set Reg.SCORE_PLAY_ID_ID g.id).set Reg.SCORE_PLAY_REV_REV g.rev).set Reg.SCORE_ARM_BAR_BAR s.bar
  s.raise 0x054 [d4 g.id, d4 g.rev, d8 s.bar]

theorem State.armSwap_eq (s : State) (g : Score) : s.armSwap g = ((s.beginScore g).swapShown g).planBar true false false := rfl

theorem State.swapShown_seq (s : State) (g : Score) : (s.swapShown g).seq.play = s.seq.play ∧
    (s.swapShown g).seq.staged = Staged.empty ∧ (s.swapShown g).bar = s.bar ∧
    (⟨0x054, [⟨4, g.id, .plain⟩, ⟨4, g.rev, .plain⟩, ⟨8, s.bar, .plain⟩], s.bar, []⟩ : Event) ∈ (s.swapShown g).raised :=
  ⟨rfl, rfl, rfl, List.mem_append_right _ List.mem_cons_self⟩

theorem State.swapShown_get (s : State) (g : Score) : (s.swapShown g).loadState = loadEmpty ∧
    (s.swapShown g).get Reg.SCORE_LOAD_STAT_OWNER_KEY = 0 ∧ (s.swapShown g).get Reg.SCORE_STAT_ARMED = 1 ∧
    (s.swapShown g).get Reg.SCORE_STAT_BOOT = 0 ∧ (s.swapShown g).get Reg.SCORE_PLAY_ID_ID = g.id % 2 ^ 32 ∧
    (s.swapShown g).get Reg.SCORE_PLAY_REV_REV = g.rev % 2 ^ 32 ∧ (s.swapShown g).get Reg.SCORE_ARM_BAR_BAR = s.bar % 2 ^ 32 ∧
    (s.swapShown g).get Reg.SCORE_VARIANT_REQ = s.get Reg.SCORE_VARIANT_REQ := by
  simp [State.swapShown, State.unstage, State.loadState, loadEmpty, State.get_set, Field.key]

/-! ### The swap (R101) -/

/-- The image staged plays from this bar. -/
def State.swapped (s : State) (g : Score) : State := (s.armSwap g).swapFollowed

theorem State.swapDue_none {s : State} (h : s.seq.staged.score = none) : s.swapDue = s := by
  unfold State.swapDue
  rw [h]
  exact ite_self s

theorem State.swapDue_some {s : State} {g : Score} (h : s.seq.staged.score = some g) : s.swapDue =
    if s.loadState ≠ loadArmPending ∨ s.anyDebt = true ∨ s.saving = true ∨ s.bar ≤ s.seq.armAt then s else s.swapped g := by
  unfold State.swapDue
  rw [h]
  simp only [Bool.or_eq_true, decide_eq_true_eq, or_assoc]
  rfl

theorem exec_scoreArmSwap {s : State} (hrun : s.running = true) : exec .scoreArmSwap s =
    if s.atDownbeat then .next s.swapDue else .next s := s.engines_of_running hrun

theorem State.swapped_keeps (s : State) (g : Score) : State.SwapKeeps ((s.beginScore g).swapShown g) (s.swapped g) := by
  rw [State.swapped, State.armSwap_eq]
  exact (State.swapKeeps_planBar _ true false false).trans (State.swapKeeps_swapFollowed _)

end SwapKeeps

/-- Settles O23: where the swap is due the image begins to play, and nothing that follows touches what shows it. -/
theorem armedScoreStartsToPlay : Obligations.ArmedScoreStartsToPlay := by
  unfold Obligations.ArmedScoreStartsToPlay
  intro s hrun
  rw [exec_scoreArmSwap hrun]
  refine ⟨fun hnot => ?_, fun g hdown hstaged hload hdebt hsave hbar => ?_⟩
  · cases hdown : s.atDownbeat with
    | false => rfl
    | true =>
      cases hstaged : s.seq.staged.score with
      | none => exact congrArg _ (State.swapDue_none hstaged)
      | some g =>
        refine congrArg _ ((State.swapDue_some hstaged).trans (if_pos ?_))
        simpa [hdown, hstaged] using hnot
  · refine ⟨s.swapped g, ?_, ?_⟩
    · rw [if_pos hdown, State.swapDue_some hstaged, if_neg]
      simp [hload, hdebt, hsave, hbar]
    obtain ⟨hbegins, hsame, hreq⟩ := s.beginScore_outcome g
    obtain ⟨hget, hplay, hempty, hbars, hraised⟩ := s.swapped_keeps g
    obtain ⟨hshown, hnone, hshownBar, hevent⟩ := (s.beginScore g).swapShown_seq g
    obtain ⟨hstate, howner, harmed, hboot, hid, hrev, hat, hasked⟩ := (s.beginScore g).swapShown_get g
    rw [hsame] at hevent hat
    exact ⟨hplay.trans (hshown.trans hbegins), (hget _ (by decide)).trans hstate, hempty.trans hnone, (hget _ (by decide)).trans howner,
      (hget _ (by decide)).trans harmed, (hget _ (by decide)).trans hboot, (hget _ (by decide)).trans hid, (hget _ (by decide)).trans hrev,
      (hget _ (by decide)).trans hat, rfl, hbars.trans (hshownBar.trans hsame), hraised _ hevent,
      fun hlacks => (hget _ (by decide)).trans (hasked.trans (hreq hlacks))⟩

end Sys2Proof.Machine
end

section
/-! PROOFS. The packets of the wardens and their time-outs, and what an erase of a firmware bank leaves alone (R393, R394, R395, R396, R410,
R414, R415). -/

namespace Sys2Proof.Machine

/-! ### What the writers of the flash leave alone -/

section Flash

variable {s t u : State}

theorem State.onlyFlash_refl (s : State) : s.onlyFlash s := ⟨rfl, fun _ _ => rfl⟩

theorem State.onlyFlash_trans (h : s.onlyFlash t) (h' : t.onlyFlash u) : s.onlyFlash u := by
  obtain ⟨hframe, hget⟩ := h
  obtain ⟨hframe', hget'⟩ := h'
  refine ⟨?_, fun f hf => (hget' f hf).trans (hget f hf)⟩
  calc { u with regs := s.regs, flash := s.flash, raised := s.raised, slotSets := s.slotSets }
    _ = { t with regs := s.regs, flash := s.flash, raised := s.raised, slotSets := s.slotSets } := by rw [← hframe']
    _ = s := hframe

theorem State.onlyFlash_updFlash (s : State) (f : FlashState → FlashState) : s.onlyFlash (s.updFlash f) := ⟨rfl, fun _ _ => rfl⟩

/-- A field of the flash interface is set. -/
theorem State.onlyFlash_set (s : State) {f : Field} (v : Nat) (h : 0xE0004 ≤ f.key / 32 ∧ f.key / 32 ≤ 0xE0020) :
    s.onlyFlash (s.set f v) := ⟨rfl, fun g hg => s.get_set_ne v fun heq => by omega⟩

theorem State.onlyFlash_latch (s : State) {f : Field} (b : Nat) (h : 0xE0004 ≤ f.key / 32 ∧ f.key / 32 ≤ 0xE0020) :
    s.onlyFlash (s.latch f b) := ⟨rfl, fun g hg => s.get_latch_ne b fun heq => by omega⟩

theorem State.onlyFlash_each {α : Type} (l : List α) {step : State → α → State} (h : ∀ s x, State.onlyFlash s (step s x))
    (s : State) : s.onlyFlash (s.each l step) := State.each_related State.onlyFlash_refl State.onlyFlash_trans h l s

theorem State.onlyFlash_syncJournal (s : State) : s.onlyFlash s.syncJournal := by
  have hsync (a b c : Nat) : s.onlyFlash (((s.set Reg.FL_JOURNAL_SEQ a).set Reg.FL_JOURNAL_USED b).set Reg.FL_JOURNAL_OPEN c) :=
    State.onlyFlash_trans (State.onlyFlash_trans (s.onlyFlash_set a (by decide)) (State.onlyFlash_set _ b (by decide)))
      (State.onlyFlash_set _ c (by decide))
  unfold State.syncJournal
  cases s.journal with
  | none => exact hsync 0 0 0
  | some j => exact hsync _ _ _

theorem State.onlyFlash_switchJournal (s : State) (j : Nat) : s.onlyFlash (s.switchJournal j) := by
  unfold State.switchJournal
  exact State.onlyFlash_trans (State.onlyFlash_trans (s.onlyFlash_updFlash _)
    (State.onlyFlash_each _ (fun u _ => u.onlyFlash_updFlash _) _)) (State.onlyFlash_updFlash _ _)

theorem State.onlyFlash_journalErase {sector : Nat} (h : s.journalErase sector = some t) : s.onlyFlash t := by
  unfold State.journalErase at h
  cases hj : s.journal with
  | none =>
    rw [hj] at h
    cases h
    exact s.onlyFlash_refl
  | some j =>
    rw [hj] at h
    dsimp only at h
    split_ifs at h
    case pos =>
      cases h
      exact s.onlyFlash_refl
    all_goals
      obtain ⟨i, -, rfl⟩ := Option.map_eq_some_iff.mp h
    · exact State.onlyFlash_trans (s.onlyFlash_updFlash _) (State.onlyFlash_syncJournal _)
    · exact State.onlyFlash_trans (State.onlyFlash_trans (s.onlyFlash_switchJournal j) (State.onlyFlash_updFlash _ _))
        (State.onlyFlash_syncJournal _)

theorem State.onlyFlash_eraseVerified (s : State) (sector : Nat) : s.onlyFlash (s.eraseVerified sector) := by
  unfold State.eraseVerified
  extract_lets s1
  have h1 : s.onlyFlash s1 := State.onlyFlash_trans (s.onlyFlash_updFlash _) (State.onlyFlash_updFlash _ _)
  clear_value s1
  cases s1.journal with
  | none => exact h1
  | some j =>
    exact State.onlyFlash_trans (State.onlyFlash_trans h1 (State.onlyFlash_each _ (fun u _ => u.onlyFlash_updFlash _) _))
      (State.onlyFlash_syncJournal _)

/-- An erase by the wardens' own writers changes the flash and its registers alone (R410, R414). -/
theorem State.onlyFlash_eraseNow (s : State) (sector : Nat) : s.onlyFlash (s.eraseNow sector) := by
  unfold State.eraseNow
  cases h : s.journalErase sector with
  | none => exact s.onlyFlash_latch 1 (by decide)
  | some t => exact State.onlyFlash_trans (State.onlyFlash_journalErase h) (t.onlyFlash_eraseVerified sector)

end Flash

/-! ### Where a packet ends -/

section Ends

variable {o : PktOp} {p : Pkt} {s t : State}

/-- A refusal that leaves something behind. -/
theorem PktOp.command_of_refuse_after (h : o.reaches p s = true) {st : Nat} (hrun : o.run (Pkt.as p o.opcode) s = .refuse t st)
    (hst : st ≠ stLater) : o.command p s = t.ended o p st := by
  rw [PktOp.command_of_reaches h, hrun, OpResult.finish_refuse hst]
  rfl

/-- An application whose reply comes later. -/
theorem PktOp.command_of_later (h : o.reaches p s = true) {data : List Byte} (hrun : o.run (Pkt.as p o.opcode) s = ⟨t, stLater, data⟩) :
    o.command p s = t := by
  rw [PktOp.command_of_reaches h, hrun]
  rfl

end Ends

/-! ### The units -/

section Units

variable {s : State}

theorem State.standby_lt (s : State) : s.standby < 2 := by
  unfold State.standby
  split <;> decide

theorem State.unit_updUnit_self (s : State) {u : Nat} (hu : u < 2) (f : WardenUnitState → WardenUnitState) :
    (s.updUnit u f).unit u = f (s.unit u) := setAt_self 2 _ _ _ hu

/-- A unit's state stands in WARDEN_STAT. -/
theorem unitState_cases (u : Nat) : unitState u = Reg.WARDEN_STAT_A_STATE ∨ unitState u = Reg.WARDEN_STAT_B_STATE := by
  unfold unitState
  split
  · exact .inl rfl
  · exact .inr rfl

/-- A field whose key is that of neither unit's state. -/
theorem unitState_key_ne {f : Field} (ha : Reg.WARDEN_STAT_A_STATE.key ≠ f.key) (hb : Reg.WARDEN_STAT_B_STATE.key ≠ f.key) (u : Nat) :
    (unitState u).key ≠ f.key := by
  obtain h | h := unitState_cases u
  · rwa [h]
  · rwa [h]

theorem State.get_set_unitState (s : State) (u : Nat) {v : Nat} (hv : v < 8) : (s.set (unitState u) v).get (unitState u) = v := by
  have hw : (unitState u).width = 3 := by
    obtain h | h := unitState_cases u
    · rw [h]
    · rw [h]
  rw [State.get_set_self, hw]
  exact Nat.mod_eq_of_lt hv

end Units

/-! ### WARDEN_HANDOVER (R393) -/

section Packets

variable {p : Pkt} {s : State}

/-- The handover waits for the phrase start. -/
def State.handoverWaits (s : State) (u : Nat) : State := s.updWarden fun w => { w with handover := some u }

theorem opWardenHandover_stale (h : p.genOk (s.get Reg.WARDEN_GEN_GEN) = false) : opWardenHandover p s = .refuse s stStale := by
  unfold opWardenHandover
  exact if_pos (by rw [h]; rfl)

theorem opWardenHandover_active (hgen : p.genOk (s.get Reg.WARDEN_GEN_GEN) = true) (h : s.get Reg.WARDEN_STAT_ACTIVE = p.u8 0 + 1) :
    opWardenHandover p s = .ok s (s.words [0xD0000]) := by
  unfold opWardenHandover
  rw [hgen]
  exact if_pos h

theorem opWardenHandover_forbidden (hgen : p.genOk (s.get Reg.WARDEN_GEN_GEN) = true)
    (hactive : s.get Reg.WARDEN_STAT_ACTIVE ≠ p.u8 0 + 1)
    (h : s.get (unitState (p.u8 0)) ≠ unitStandby ∨ (s.unit (p.u8 0)).pass = false ∨ s.get Reg.WARDEN_TOLL_GOOD_RUN < 64 ∨
      s.unsettled = true) : opWardenHandover p s = .refuse s stForbids := by
  unfold opWardenHandover
  rw [hgen]
  refine (if_neg hactive).trans ?_
  obtain hstate | hpass | hrun | hunsettled := h
  · exact if_pos (by simp [hstate])
  · exact if_pos (by simp [hpass])
  · exact if_pos (by simp [hrun])
  · rw [hunsettled]
    exact ite_self _

theorem opWardenHandover_waits (hgen : p.genOk (s.get Reg.WARDEN_GEN_GEN) = true)
    (hactive : s.get Reg.WARDEN_STAT_ACTIVE ≠ p.u8 0 + 1) (hstate : s.get (unitState (p.u8 0)) = unitStandby)
    (hpass : (s.unit (p.u8 0)).pass = true) (hrun : 64 ≤ s.get Reg.WARDEN_TOLL_GOOD_RUN) (hsettled : s.unsettled = false) :
    opWardenHandover p s = .ok (s.handoverWaits (p.u8 0)) ((s.handoverWaits (p.u8 0)).words [0xD0000]) := by
  unfold opWardenHandover
  rw [hgen]
  refine (if_neg hactive).trans ((if_neg ?_).trans (if_neg (ne_true_of_eq_false hsettled)))
  simp [hstate, hpass, hrun]

/-! ### FW_UPDATE_BEGIN (R394, R396) -/

/-- An update of another source runs, or one that waits for its toll. -/
def State.updateOfOther (s : State) (src : Src) : Bool := s.warden.update.any fun x => decide (x.src ≠ src) || x.finish.isSome

/-- A unit is held in reset for its update. -/
def State.heldForUpdate (s : State) (u : Nat) : State :=
  (s.updUnit u fun x => { x with held := true, pass := false, claiming := 0 }).set (unitState u) unitUpdate

/-- A unit's bank is erased. -/
def State.bankErased (s : State) (u : Nat) : State := s.each (List.range 2048) fun s i => s.eraseNow (bankBase u / 4096 + i)

/-- WARDEN_FW shows an update that has just begun. -/
def State.updateShown (s : State) (p : Pkt) : State :=
  let s := s.updWarden fun w => { w with update := some ⟨p.src, p.u32 0, [], s.bar, p.u32 4, none⟩ }
  let s := ((s.set Reg.WARDEN_FW_STATE fwLoading).set Reg.WARDEN_FW_SOURCE (srcNum p.src)).set Reg.WARDEN_FW_BYTES 0
  s.fwEvent (p.u32 4) 0

/-- The state after an accepted FW_UPDATE_BEGIN. -/
def State.updateBegun (s : State) (p : Pkt) : State := ((s.heldForUpdate s.standby).bankErased s.standby).updateShown p

theorem opFwUpdateBegin_eq (p : Pkt) (s : State) : opFwUpdateBegin p s =
    if !(p.genOk (s.get Reg.WARDEN_GEN_GEN)) then .refuse s stStale
    else if !(s.get (unitState s.standby) = unitStandby || s.get (unitState s.standby) = unitUpdate) || s.saving || s.restoring
      || s.updateOfOther p.src then .refuse s stForbids
    else if p.u32 0 = 0 || decide (0x800000 < p.u32 0) then .refuse s stInvalid
    else .ok (s.updateBegun p) ((s.updateBegun p).words [wardenFw]) := by
  unfold opFwUpdateBegin State.updateOfOther
  cases s.warden.update with
  | none => rfl
  | some x => rfl

theorem opFwUpdateBegin_stale (h : p.genOk (s.get Reg.WARDEN_GEN_GEN) = false) : opFwUpdateBegin p s = .refuse s stStale := by
  rw [opFwUpdateBegin_eq, h]
  exact if_pos (by decide)

theorem opFwUpdateBegin_forbidden (hgen : p.genOk (s.get Reg.WARDEN_GEN_GEN) = true)
    (h : (s.get (unitState s.standby) ≠ unitStandby ∧ s.get (unitState s.standby) ≠ unitUpdate) ∨ s.saving = true ∨
      s.restoring = true ∨ s.updateOfOther p.src = true) : opFwUpdateBegin p s = .refuse s stForbids := by
  rw [opFwUpdateBegin_eq, hgen]
  exact (if_neg (by decide)).trans (if_pos (by simpa [or_assoc] using h))

theorem opFwUpdateBegin_may (hgen : p.genOk (s.get Reg.WARDEN_GEN_GEN) = true)
    (hstate : s.get (unitState s.standby) = unitStandby ∨ s.get (unitState s.standby) = unitUpdate) (hsave : s.saving = false)
    (hrestore : s.restoring = false) (hother : s.updateOfOther p.src = false) : opFwUpdateBegin p s =
    if p.u32 0 = 0 ∨ 0x800000 < p.u32 0 then .refuse s stInvalid
    else .ok (s.updateBegun p) ((s.updateBegun p).words [wardenFw]) := by
  rw [opFwUpdateBegin_eq, hgen]
  refine (if_neg (by decide)).trans ((if_neg ?_).trans ?_)
  · simpa [hsave, hrestore, hother, or_iff_not_imp_left] using hstate
  · simp only [Bool.or_eq_true, decide_eq_true_eq]

theorem State.updateShown_outcome (s : State) (p : Pkt) (u : Nat) :
    (s.updateShown p).get (unitState u) = s.get (unitState u) ∧ (s.updateShown p).unit u = s.unit u ∧
      (s.updateShown p).get Reg.WARDEN_FW_STATE = fwLoading ∧ (s.updateShown p).get Reg.WARDEN_FW_BYTES = 0 ∧
      (s.updateShown p).warden.update = some ⟨p.src, p.u32 0, [], s.bar, p.u32 4, none⟩ ∧
      ∃ e ∈ (s.updateShown p).raised, e.src = 0x02E := by
  refine ⟨?_, rfl, ?_, ?_, rfl, _, List.mem_append_right _ List.mem_cons_self, rfl⟩
  · unfold State.updateShown
    rw [State.fwEvent, State.raise_get, State.get_set_ne _ _ (unitState_key_ne (by decide) (by decide) u),
      State.get_set_ne _ _ (unitState_key_ne (by decide) (by decide) u), State.get_set_ne _ _ (unitState_key_ne (by decide) (by decide) u),
      State.updWarden_get]
  all_goals simp [State.updateShown, State.fwEvent, fwLoading, State.get_set, Field.key]

/-- A change of the flash leaves the wardens, their states and the bar alone. -/
theorem State.onlyFlash_wardens {t : State} (h : s.onlyFlash t) :
    t.warden = s.warden ∧ t.bar = s.bar ∧ ∀ v, t.get (unitState v) = s.get (unitState v) := by
  obtain ⟨hframe, hget⟩ := h
  refine ⟨(congrArg State.warden hframe :), (congrArg State.bar hframe :), fun v => hget _ (.inl ?_)⟩
  obtain h | h := unitState_cases v
  · rw [h]
    decide
  · rw [h]
    decide

theorem State.onlyFlash_bankErased (s : State) (u : Nat) : s.onlyFlash (s.bankErased u) :=
  State.onlyFlash_each _ (fun s _ => s.onlyFlash_eraseNow _) s

theorem State.updateBegun_outcome (s : State) (p : Pkt) :
    let t := s.updateBegun p
    t.get (unitState s.standby) = unitUpdate ∧ (t.unit s.standby).held = true ∧ t.get Reg.WARDEN_FW_STATE = fwLoading ∧
      t.get Reg.WARDEN_FW_BYTES = 0 ∧ t.warden.update = some ⟨p.src, p.u32 0, [], s.bar, p.u32 4, none⟩ ∧
      ∃ e ∈ t.raised, e.src = 0x02E := by
  obtain ⟨hwarden, hbar, hstate⟩ := State.onlyFlash_wardens ((s.heldForUpdate s.standby).onlyFlash_bankErased s.standby)
  obtain ⟨hshown, hunit, hfw, hbytes, hupdate, hevent⟩ :=
    ((s.heldForUpdate s.standby).bankErased s.standby).updateShown_outcome p s.standby
  refine ⟨?_, ?_, hfw, hbytes, ?_, hevent⟩
  · rw [State.updateBegun, hshown, hstate]
    exact State.get_set_unitState _ _ (by decide)
  · have hheld : ((s.heldForUpdate s.standby).unit s.standby).held = true :=
      congrArg WardenUnitState.held (s.unit_updUnit_self s.standby_lt fun x => { x with held := true, pass := false, claiming := 0 })
    rw [State.updateBegun, hunit, State.unit, hwarden]
    exact hheld
  · rw [State.updateBegun, hupdate, hbar]
    rfl

/-! ### FW_UPDATE_DATA (R99, R394) -/

/-- The update with a chunk received in a bar. -/
def FwUpdate.received (x : FwUpdate) (p : Pkt) (bar : Nat) : FwUpdate :=
  { x with
    units := Store.setRange false x.units (p.u32 0 / 16) (List.replicate (ceilDiv (p.params.drop 8).length 16) true), since := bar }

/-- The state after a chunk. -/
def State.fwChunked (s : State) (p : Pkt) (x : FwUpdate) : State :=
  let y := x.received p s.bar
  ((s.flashPut (bankBase s.standby + p.u32 0) (p.params.drop 8)).updWarden fun w => { w with update := some y }).set
    Reg.WARDEN_FW_BYTES (min (16 * y.units.length) x.length)

theorem opFwUpdateData_none (h : s.warden.update = none) : opFwUpdateData p s = .refuse s stForbids := by
  unfold opFwUpdateData
  rw [h]

variable {x : FwUpdate}

theorem opFwUpdateData_other (h : s.warden.update = some x) (hother : x.src ≠ p.src ∨ x.finish.isSome = true) :
    opFwUpdateData p s = .refuse s stForbids := by
  unfold opFwUpdateData
  rw [h]
  exact if_pos (by simpa using hother)

theorem opFwUpdateData_misfit (h : s.warden.update = some x) (hsrc : x.src = p.src) (hfinish : x.finish = none)
    (hnot : x.length < p.u32 0 + (p.params.length - 8) ∨ p.u32 0 % 16 ≠ 0 ∨
      ((p.params.length - 8) % 16 ≠ 0 ∧ p.u32 0 + (p.params.length - 8) ≠ x.length)) :
    opFwUpdateData p s = .refuse s stInvalid := by
  unfold opFwUpdateData
  rw [h]
  exact (if_neg (by simp [hsrc, hfinish])).trans (if_pos (by simpa [or_assoc] using hnot))

theorem opFwUpdateData_fits (h : s.warden.update = some x) (hsrc : x.src = p.src) (hfinish : x.finish = none)
    (hin : p.u32 0 + (p.params.length - 8) ≤ x.length) (hoff : p.u32 0 % 16 = 0)
    (hform : (p.params.length - 8) % 16 = 0 ∨ p.u32 0 + (p.params.length - 8) = x.length) :
    opFwUpdateData p s = .ok (s.fwChunked p x) ((s.fwChunked p x).words [wardenFw]) := by
  unfold opFwUpdateData
  rw [h]
  refine (if_neg (by simp [hsrc, hfinish])).trans (if_neg ?_)
  simp only [List.length_drop, Bool.or_eq_true, Bool.and_eq_true, decide_eq_true_eq]
  omega

/-! ### The end of an update (R395, R396) -/

/-- Every end of an update leaves none, steps WARDEN_GEN and raises 0x02E; a unit's state stands. -/
theorem State.fwEnd_outcome (s : State) (u rev : Nat) {st : Nat} (hst : st < 16) (result : Nat) :
    let t := s.fwEnd u rev st result
    t.warden.update = none ∧ t.get Reg.WARDEN_GEN_GEN = (s.get Reg.WARDEN_GEN_GEN + 1) % 2 ^ 16 ∧ t.get Reg.WARDEN_FW_STATE = st ∧
      (∀ v, t.get (unitState v) = s.get (unitState v)) ∧ ∃ e ∈ t.raised, e.src = 0x02E := by
  obtain ⟨w, hw⟩ : ∃ w, w = (((s.updWarden fun w => { w with update := none }).bump Reg.WARDEN_GEN_GEN).set Reg.WARDEN_FW_STATE
    st).fwEvent rev result := ⟨_, rfl⟩
  have hends : s.fwEnd u rev st result = if w.get Reg.WARDEN_STAT_PREFERRED = u + 1 then w.set Reg.WARDEN_STAT_REVERT_HELD 0 else w := by
    rw [hw]
    rfl
  have hupdate : w.warden.update = none := by
    rw [hw]
    rfl
  have hgen : w.get Reg.WARDEN_GEN_GEN = (s.get Reg.WARDEN_GEN_GEN + 1) % 2 ^ 16 := by
    rw [hw, State.fwEvent, State.raise_get, State.get_set_ne _ _ (by decide), State.bump, State.get_set_self, State.updWarden_get]
  have hfw : w.get Reg.WARDEN_FW_STATE = st := by
    rw [hw, State.fwEvent, State.raise_get, State.get_set_self]
    exact Nat.mod_eq_of_lt hst
  have hunit (v : Nat) : w.get (unitState v) = s.get (unitState v) := by
    rw [hw, State.fwEvent, State.raise_get, State.get_set_ne _ _ (unitState_key_ne (by decide) (by decide) v), State.bump,
      State.get_set_ne _ _ (unitState_key_ne (by decide) (by decide) v), State.updWarden_get]
  have hevent : ∃ e ∈ w.raised, e.src = 0x02E := by
    rw [hw]
    exact ⟨_, List.mem_append_right _ List.mem_cons_self, rfl⟩
  rw [hends]
  split
  · refine ⟨hupdate, ?_, ?_, fun v => ?_, hevent⟩
    · rw [State.get_set_ne _ _ (by decide), hgen]
    · rw [State.get_set_ne _ _ (by decide), hfw]
    · rw [State.get_set_ne _ _ (unitState_key_ne (by decide) (by decide) v), hunit]
  · exact ⟨hupdate, hgen, hfw, hunit, hevent⟩

/-- An image that fails its check leaves the standby FAILED, and ends the update. -/
def State.fwRejected (s : State) (x : FwUpdate) : State :=
  (s.firmwareFails.set (unitState s.standby) unitFailed).fwEnd s.standby x.rev fwFailed 2

/-- The standby boots its new image; the reply waits for its toll. -/
def State.fwBoots (s : State) (p : Pkt) (x : FwUpdate) : State :=
  ((s.bootUnit s.standby).set Reg.WARDEN_FW_STATE fwBooting).updWarden fun w => { w with
    update := some { x with finish := some p, since := s.bar } }

theorem opFwUpdateEnd_none (h : s.warden.update = none) : opFwUpdateEnd p s = .refuse s stForbids := by
  unfold opFwUpdateEnd
  rw [h]

theorem opFwUpdateEnd_other (h : s.warden.update = some x) (hother : x.src ≠ p.src ∨ x.finish.isSome = true) :
    opFwUpdateEnd p s = .refuse s stForbids := by
  unfold opFwUpdateEnd
  rw [h]
  exact if_pos (by simpa using hother)

theorem opFwUpdateEnd_own (h : s.warden.update = some x) (hsrc : x.src = p.src) (hfinish : x.finish = none) : opFwUpdateEnd p s =
    if 16 * x.units.length < x.length then .refuse s stInvalid
    else if s.imageBad s.standby then .refuse (s.fwRejected x) stSignature
    else ⟨s.fwBoots p x, stLater, []⟩ := by
  unfold opFwUpdateEnd
  rw [h]
  refine (if_neg (by simp [hsrc, hfinish])).trans ?_
  simp only [decide_eq_true_eq]
  rfl

theorem State.fwRejected_outcome (s : State) (x : FwUpdate) :
    let t := s.fwRejected x
    t.get (unitState s.standby) = unitFailed ∧ t.warden.update = none ∧
      t.get Reg.WARDEN_GEN_GEN = (s.get Reg.WARDEN_GEN_GEN + 1) % 2 ^ 16 ∧ ∃ e ∈ t.raised, e.src = 0x02E := by
  intro t
  obtain ⟨v, hv⟩ : ∃ v, v = s.firmwareFails.set (unitState s.standby) unitFailed := ⟨_, rfl⟩
  have hunit : v.get (unitState s.standby) = unitFailed := hv ▸ State.get_set_unitState _ _ (by decide)
  have hgen : v.get Reg.WARDEN_GEN_GEN = s.get Reg.WARDEN_GEN_GEN := by
    rw [hv, State.get_set_ne _ _ (unitState_key_ne (by decide) (by decide) _).symm, State.firmwareFails, State.raise_get,
      State.get_count_ne _ _ (by decide)]
  have ht : t = v.fwEnd s.standby x.rev fwFailed 2 := by
    rw [hv]
    rfl
  obtain ⟨hupdate, hadvance, -, hkeeps, hevent⟩ := v.fwEnd_outcome s.standby x.rev (st := fwFailed) (by decide) 2
  rw [ht]
  exact ⟨(hkeeps _).trans hunit, hupdate, by rw [hadvance, hgen], hevent⟩

theorem State.fwBoots_outcome (s : State) (p : Pkt) (x : FwUpdate) :
    let t := s.fwBoots p x
    t.get (unitState s.standby) = unitBooting ∧ (t.unit s.standby).held = false ∧ t.cmd = s.cmd ∧ t.outs = s.outs ∧
      t.get Reg.WARDEN_FW_STATE = fwBooting := by
  refine ⟨?_, ?_, rfl, rfl, ?_⟩
  · rw [State.fwBoots, State.updWarden_get, State.get_set_ne _ _ (unitState_key_ne (by decide) (by decide) _)]
    exact State.get_set_unitState _ _ (by decide)
  · exact congrArg WardenUnitState.held (s.unit_updUnit_self s.standby_lt fun x =>
      { WardenUnitState.init with missed := x.missed, failedAt := x.failedAt })
  · rw [State.fwBoots, State.updWarden_get, State.get_set_self]
    rfl

/-! ### Time-outs (R394, R395) -/

/-- The update is abandoned. -/
def State.fwAbandoned (s : State) (x : FwUpdate) : State :=
  ((s.updWarden fun w => { w with update := none }).set Reg.WARDEN_FW_STATE fwIdle).fwEvent x.rev 4

theorem exec_fwUpdateTimeout (hon : s.on = true) (h : s.warden.update = some x) (hfinish : x.finish = none) :
    exec .fwUpdateTimeout s = if 100000000 ≤ (s.bar - x.since) * 39 then .next (s.fwAbandoned x) else .next s := by
  have hlate : s.elapsed x.since 10000000 = decide (100000000 ≤ (s.bar - x.since) * 39) := rfl
  have habandon : s.fwAbandon = s.fwAbandoned x := by
    unfold State.fwAbandon
    simp only [h, hfinish]
    rfl
  refine (s.powered_of_on hon).trans ?_
  simp only [h, hfinish, hlate, habandon, Option.isNone_none, Bool.true_and, decide_eq_true_eq]

theorem State.fwAbandoned_outcome (s : State) (x : FwUpdate) : (s.fwAbandoned x).warden.update = none ∧
    (s.fwAbandoned x).get Reg.WARDEN_FW_STATE = fwIdle ∧ ∃ e ∈ (s.fwAbandoned x).raised, e.src = 0x02E := by
  refine ⟨rfl, ?_, _, List.mem_append_right _ List.mem_cons_self, rfl⟩
  rw [State.fwAbandoned, State.fwEvent, State.raise_get, State.get_set_self]
  rfl

theorem exec_fwUpdateBootTimeout (hon : s.on = true) (h : s.warden.update = some x) (hfinish : x.finish = some p) :
    exec .fwUpdateBootTimeout s =
      if x.since + 65536 ≤ s.bar then .next ((s.fwEnd s.standby x.rev fwFailed 3).answer p stTimeout []) else .next s := by
  refine (s.powered_of_on hon).trans ?_
  simp only [h, hfinish]

end Packets

/-- Settles O48: each packet by its checks in their order, and an update's ends by what they leave. -/
theorem wardenPackets : Obligations.WardenPackets := by
  unfold Obligations.WardenPackets
  refine ⟨fun p s => ⟨fun h => ?_, fun h => ?_, fun h => ?_, fun h => ?_, fun h => ?_⟩, fun s x hon hx => ⟨fun hfinish => ?_,
    fun p hfinish => ?_⟩⟩
  · exact congrArg _ (PktOp.command_of_ok h rfl)
  · refine ⟨fun hgen => ?_, fun hgen => ⟨fun hactive => ?_, fun hactive => ⟨fun hnot => ?_, fun hstate hpass hrun hsettled => ?_⟩⟩⟩
    · exact congrArg _ (PktOp.command_of_refuse h (opWardenHandover_stale hgen) (by decide))
    · exact congrArg _ (PktOp.command_of_ok h (opWardenHandover_active hgen hactive))
    · exact congrArg _ (PktOp.command_of_refuse h (opWardenHandover_forbidden hgen hactive hnot) (by decide))
    · exact ⟨s.handoverWaits (p.u8 0), _,
        congrArg _ (PktOp.command_of_ok h (opWardenHandover_waits hgen hactive hstate hpass hrun hsettled)), rfl, rfl⟩
  · refine ⟨fun hgen => ?_, fun hgen => ⟨fun hnot => ?_, fun hstate hsave hrestore hother => ?_⟩⟩
    · exact congrArg _ (PktOp.command_of_refuse h (opFwUpdateBegin_stale hgen) (by decide))
    · exact congrArg _ (PktOp.command_of_refuse h (opFwUpdateBegin_forbidden hgen hnot) (by decide))
    · have hrun := opFwUpdateBegin_may (p := Pkt.as p fwUpdateBeginOp.opcode) hgen hstate hsave hrestore hother
      refine ⟨fun hsize => congrArg _ (PktOp.command_of_refuse h (hrun.trans (if_pos hsize)) (by decide)), fun hlo hhi => ?_⟩
      have hsize : ¬ (p.u32 0 = 0 ∨ 0x800000 < p.u32 0) := not_or.mpr ⟨Nat.ne_of_gt hlo, Nat.not_lt.mpr hhi⟩
      exact ⟨s.updateBegun p, _, congrArg _ (PktOp.command_of_ok h (hrun.trans (if_neg hsize))), s.updateBegun_outcome p⟩
  · refine ⟨fun hnone => ?_, fun x hx => ⟨fun hother => ?_, fun hsrc hfinish => ⟨fun hnot => ?_, fun hin hoff hform => ?_⟩⟩⟩
    · exact congrArg _ (PktOp.command_of_refuse h (opFwUpdateData_none hnone) (by decide))
    · exact congrArg _ (PktOp.command_of_refuse h (opFwUpdateData_other hx hother) (by decide))
    · exact congrArg _ (PktOp.command_of_refuse h (opFwUpdateData_misfit hx hsrc hfinish hnot) (by decide))
    · exact ⟨s.fwChunked p x, _, congrArg _ (PktOp.command_of_ok h (opFwUpdateData_fits hx hsrc hfinish hin hoff hform)),
        x.received p s.bar, rfl, rfl, rfl, State.get_set_self _ _ _⟩
  · refine ⟨fun hnone => ?_, fun x hx hother => ?_, fun x hx hsrc hfinish => ?_⟩
    · exact congrArg _ (PktOp.command_of_refuse h (opFwUpdateEnd_none hnone) (by decide))
    · exact congrArg _ (PktOp.command_of_refuse h (opFwUpdateEnd_other hx hother) (by decide))
    · have hrun := opFwUpdateEnd_own (p := Pkt.as p fwUpdateEndOp.opcode) hx hsrc hfinish
      refine ⟨fun hmissing => congrArg _ (PktOp.command_of_refuse h (hrun.trans (if_pos hmissing)) (by decide)), fun hall => ?_⟩
      rw [if_neg (Nat.not_lt.mpr hall)] at hrun
      refine ⟨fun hbad => ?_, fun hgood => ?_⟩
      · exact ⟨s.fwRejected x, congrArg _ (PktOp.command_of_refuse_after h (hrun.trans (if_pos hbad)) (by decide)),
          s.fwRejected_outcome x⟩
      · exact ⟨s.fwBoots (Pkt.as p fwUpdateEndOp.opcode) x,
          congrArg _ (PktOp.command_of_later h (hrun.trans (if_neg (ne_true_of_eq_false hgood)))), s.fwBoots_outcome _ x⟩
  · rw [exec_fwUpdateTimeout hon hx hfinish]
    exact ⟨fun hsoon => if_neg (Nat.not_le.mpr hsoon), fun hlate => ⟨s.fwAbandoned x, if_pos hlate, s.fwAbandoned_outcome x⟩⟩
  · obtain ⟨hupdate, hgen, hfw, -, -⟩ := s.fwEnd_outcome s.standby x.rev (st := fwFailed) (by decide) 3
    rw [exec_fwUpdateBootTimeout hon hx hfinish]
    exact ⟨fun hsoon => if_neg (Nat.not_le.mpr hsoon), fun hlate => ⟨_, if_pos hlate, hupdate, hfw, hgen⟩⟩

end Sys2Proof.Machine
end

section
/-! PROOFS. The place of a line is one-to-one: its channel, rank, bank, row and column give back its frame and its number (R117, R118). -/

namespace Sys2Proof.Machine

theorem eq_of_div_mod_eq {a b n : Nat} (hd : a / n = b / n) (hm : a % n = b % n) : a = b := by
  rw [← Nat.div_add_mod a n, ← Nat.div_add_mod b n, hd, hm]

/-- Two lines at one place are one line: each of the two numbers is put together again from its quotient and its rest. -/
theorem mapLine_injective {fpr rows f i f' i' : Nat} (hi : i < 1024) (hi' : i' < 1024) (h : mapLine fpr rows f' i' = mapLine fpr rows f i) :
    f' = f ∧ i' = i := by
  obtain ⟨hchannel, hrank, hsub, hgroup, hbank, hrow, hcolumn⟩ := LineAddr.mk.inj h
  have hcolumns : f' / 8 % fpr = f / 8 % fpr ∧ i' / 2 / 32 = i / 2 / 32 := by omega
  have hbanks : i' / 2 % 32 = i / 2 % 32 := by omega
  have hrows : f' / 8 % (fpr * rows) = f / 8 % (fpr * rows) :=
    eq_of_div_mod_eq (n := fpr) hrow (by simpa only [Nat.mod_mul_right_mod] using hcolumns.1)
  exact ⟨eq_of_div_mod_eq (eq_of_div_mod_eq hrank hrows) hchannel, eq_of_div_mod_eq (eq_of_div_mod_eq hcolumns.2 hbanks) hsub⟩

/-- Settles O60: each part of a place is a quotient or a rest, and together they give the line back. -/
theorem linesHaveOnePlace : Obligations.LinesHaveOnePlace := by
  unfold Obligations.LinesHaveOnePlace
  intro fpr rows ranks f i hfpr hrows hf hi
  have hrow : 0 < fpr * rows := Nat.mul_pos (by omega) (by omega)
  have hcolumn : f / 8 % fpr < fpr := Nat.mod_lt _ (by omega)
  refine ⟨Nat.mod_lt _ (by decide), ?_, Nat.mod_lt _ (by decide), Nat.mod_lt _ (by decide), Nat.mod_lt _ (by decide), ?_, ?_,
    Nat.mul_mod_left _ _, fun f' i' hi' h => mapLine_injective hi hi' h⟩
  · refine (Nat.div_lt_iff_lt_mul hrow).mpr (Nat.div_lt_of_lt_mul ?_)
    rwa [← Nat.mul_assoc ranks]
  · exact (Nat.div_lt_iff_lt_mul (by omega)).mpr (by rw [Nat.mul_comm rows]; exact Nat.mod_lt _ hrow)
  · show (f / 8 % fpr * 16 + i / 2 / 32) * 16 < fpr * 256
    omega
end Sys2Proof.Machine
end

section
/-! PROOFS. What an error of a read may change: the registers and the tables that note it, and nothing else (R131 to R137, R150). -/

namespace Sys2Proof.Machine

/-- A channel's update leaves the list of the eight channels. -/
theorem State.size_updCh (s : State) (c : Nat) (g : DramCh → DramCh) : (s.updCh c g).dram.chans.length = 8 :=
  List.length_map _

section Noted

variable {s t u : State} {c : Nat} {keys : List Nat} {look : DramCh → DramCh}

/-- A step that keeps what `look` shows of one channel, the other channels, DRAM's contents and every register but those of `keys`; it
may raise events. -/
structure State.Noted (look : DramCh → DramCh) (keys : List Nat) (c : Nat) (s t : State) : Prop where
  get : ∀ f : Field, f.key ∉ keys → t.get f = s.get f
  self : look (t.ch c) = look (s.ch c)
  other : ∀ d < 8, d ≠ c → t.ch d = s.ch d
  size : s.dram.chans.length = 8 → t.dram.chans.length = 8
  raised : ∀ e ∈ s.raised, e ∈ t.raised
  rest : ∃ regs slotIncs raised chans,
    t = { s with regs := regs, slotIncs := slotIncs, raised := raised, dram := { s.dram with chans := chans } }

theorem State.Noted.refl (s : State) : s.Noted look keys c s := ⟨fun _ _ => rfl, rfl, fun _ _ _ => rfl, id, fun _ h => h, _, _, _, _, rfl⟩

theorem State.Noted.trans (h : s.Noted look keys c t) (h' : t.Noted look keys c u) : s.Noted look keys c u where
  get f hf := (h'.get f hf).trans (h.get f hf)
  self := h'.self.trans h.self
  other d hd hne := (h'.other d hd hne).trans (h.other d hd hne)
  size hs := h'.size (h.size hs)
  raised e he := h'.raised e (h.raised e he)
  rest := by
    obtain ⟨_, _, _, _, rfl⟩ := h.rest
    obtain ⟨_, _, _, _, rfl⟩ := h'.rest
    exact ⟨_, _, _, _, rfl⟩

theorem State.Noted.mono {keys' : List Nat} (h : s.Noted look keys c t) (hsub : ∀ k ∈ keys, k ∈ keys') : s.Noted look keys' c t :=
  ⟨fun f hf => h.get f fun hk => hf (hsub _ hk), h.self, h.other, h.size, h.raised, h.rest⟩

/-- A coarser look at the channel. -/
theorem State.Noted.coarse {look' : DramCh → DramCh} (h : s.Noted look keys c t) (g : DramCh → DramCh) (hg : ∀ x, look' x = g (look x)) :
    s.Noted look' keys c t :=
  ⟨h.get, by rw [hg, hg, h.self], h.other, h.size, h.raised, h.rest⟩

/-- What the look shows stays. -/
theorem State.Noted.field {β : Type} (h : s.Noted look keys c t) (p : DramCh → β) (hp : ∀ x, p (look x) = p x) :
    p (t.ch c) = p (s.ch c) := by rw [← hp, h.self, hp]

theorem State.Noted.bytes (h : s.Noted look keys c t) : t.dram.bytes = s.dram.bytes := by
  obtain ⟨_, _, _, _, rfl⟩ := h.rest
  rfl

theorem State.Noted.poison (h : s.Noted look keys c t) : t.dram.poison = s.dram.poison := by
  obtain ⟨_, _, _, _, rfl⟩ := h.rest
  rfl

theorem State.Noted.tile (h : s.Noted look keys c t) : t.tile = s.tile := by
  obtain ⟨_, _, _, _, rfl⟩ := h.rest
  rfl

theorem State.Noted.outs (h : s.Noted look keys c t) : t.outs = s.outs := by
  obtain ⟨_, _, _, _, rfl⟩ := h.rest
  rfl

theorem State.Noted.portState (h : s.Noted look keys c t) (p : Nat) : t.portState p = s.portState p := by
  obtain ⟨_, _, _, _, rfl⟩ := h.rest
  rfl

theorem State.Noted.bar (h : s.Noted look keys c t) : t.bar = s.bar := by
  obtain ⟨_, _, _, _, rfl⟩ := h.rest
  rfl

/-- A step on the DRAM side is one beside any tile state. -/
theorem State.Noted.withTile (h : s.Noted look keys c t) (x : TileState) :
    ({ s with tile := x } : State).Noted look keys c { t with tile := x } :=
  ⟨h.get, h.self, h.other, h.size, h.raised, by
    obtain ⟨_, _, _, _, rfl⟩ := h.rest
    exact ⟨_, _, _, _, rfl⟩⟩

theorem State.Noted.zeroQueue (h : s.Noted look keys c t) : t.dram.zeroQueue = s.dram.zeroQueue := by
  obtain ⟨_, _, _, _, rfl⟩ := h.rest
  rfl

theorem State.Noted.set (h : s.Noted look keys c t) {f : Field} (hf : f.key ∈ keys) (v : Nat) : s.Noted look keys c (t.set f v) :=
  h.trans ⟨fun _ hg => State.get_set_ne _ _ fun he => hg (he ▸ hf), rfl, fun _ _ _ => rfl, id, fun _ h => h, _, _, _, _, rfl⟩

theorem State.Noted.count (h : s.Noted look keys c t) {f : Field} (hf : f.key ∈ keys) (n : Nat) : s.Noted look keys c (t.count f n) :=
  h.trans ⟨fun _ hg => State.get_count_ne _ _ fun he => hg (he ▸ hf), rfl, fun _ _ _ => rfl, id, fun _ h => h, _, _, _, _, rfl⟩

theorem State.Noted.raise (h : s.Noted look keys c t) (n : Nat) (d : List DField) (l : List CxlRec) :
    s.Noted look keys c (t.raise n d l) :=
  h.trans ⟨fun _ _ => rfl, rfl, fun _ _ _ => rfl, id, fun _ h => List.mem_append_left _ h, _, _, _, _, rfl⟩

theorem State.Noted.updCh (h : s.Noted look keys c t) (hc : c < 8) {g : DramCh → DramCh} (hg : ∀ x, look (g x) = look x) :
    s.Noted look keys c (t.updCh c g) :=
  h.trans ⟨fun _ _ => rfl, by rw [State.ch_updCh_self _ _ hc, hg], fun _ hd hne => State.ch_updCh_ne _ _ hd hne,
    fun _ => State.size_updCh t c g, fun _ h => h, _, _, _, _, rfl⟩

theorem State.Noted.ite {p : Prop} [Decidable p] (h : s.Noted look keys c t) (h' : s.Noted look keys c u) :
    s.Noted look keys c (if p then t else u) := by
  split
  · exact h
  · exact h'

end Noted

section Errors

variable {s : State} {c f i : Nat}

/-- A channel but for its error tables, its counts towards an event or a failure, and its failure to come. -/
def DramCh.unnoted (x : DramCh) : DramCh := { x with
  rows := [], pendingRows := [], recordDue := false, ceCount := 0, cePhrase := 0, ueCount := 0, ueWindow := 0, failNext := none }

/-- And but for the lines that wait for a marker or a write-back. -/
def DramCh.bare (x : DramCh) : DramCh := { x.unnoted with marks := [], writebacks := [] }

/-- The registers that note where an error lay and that a row is pending. -/
def noteKeys (c : Nat) : List Nat := [(Reg.DCH_ECC_LAST_UE c).key, (Reg.DCH_ECC_LAST_SUB c).key, (Reg.DCH_ECC_LAST_RANK c).key,
  (Reg.DCH_ECC_LAST_BANK c).key, (Reg.DCH_ECC_LAST_DEVICE c).key, (Reg.DCH_ECC_LAST_ROW c).key, (Reg.DCH_ECC_LAST_LINE_G c).key,
  (Reg.DCH_ECC_LAST_LINE_LINE c).key, (Reg.DCH_STAT_PPR_PENDING c).key, (Reg.DCH_REPAIR_PENDING c).key]

/-- Those, and the two counts of errors. -/
def errorKeys (c : Nat) : List Nat := (Reg.DCH_ECC_CE_COUNT c).key :: (Reg.DCH_ECC_UE_COUNT c).key :: noteKeys c

theorem mem_errorKeys_of_noteKeys {k : Nat} (h : k ∈ noteKeys c) : k ∈ errorKeys c := List.mem_cons_of_mem _ (List.mem_cons_of_mem _ h)

theorem State.noted_errorLocation (s : State) (device : Nat) (ue : Bool) :
    s.Noted DramCh.unnoted (noteKeys c) c (s.errorLocation c f i device ue) := by
  refine (((((((State.Noted.set (.refl s) ?_ _).set ?_ _).set ?_ _).set ?_ _).set ?_ _).set ?_ _).set ?_ _).set ?_ _ <;> simp [noteKeys]

theorem State.noted_pendRow (hc : c < 8) (s : State) (e : RowEntry) : s.Noted DramCh.unnoted (noteKeys c) c (s.pendRow c e) := by
  refine State.Noted.ite (.refl s) ?_
  refine .raise (.set (.set (.updCh (.refl s) hc ?_) ?_ _) ?_ _) _ _ _
  · exact fun _ => rfl
  · simp [noteKeys]
  · simp [noteKeys]

theorem State.noted_rowTable (hc : c < 8) (s : State) (ue : Bool) : s.Noted DramCh.unnoted (noteKeys c) c (s.rowTable c f i ue) := by
  have hrow (x : List RowEntry) : s.Noted DramCh.unnoted (noteKeys c) c (s.updCh c fun y => { y with rows := x }) := by
    refine .updCh (.refl s) hc ?_
    exact fun _ => rfl
  exact State.Noted.ite ((hrow _).trans (State.noted_pendRow hc _ _)) (hrow _)

/-- A corrected line waits for its write-back where the channel writes corrected lines back. -/
def State.keepsLine (s : State) (c : Nat) (x : LineRef) : State :=
  if s.flag (Reg.DCH_SCRUB_CTL_WRITEBACK c) then s.updCh c fun y => { y with writebacks := y.writebacks ++ [x] } else s

/-- One more correctable error of the phrase. -/
def State.cePhraseCounted (s : State) (c : Nat) : State :=
  let n := if (s.ch c).cePhrase = s.bar / 256 then (s.ch c).ceCount + 1 else 1
  let s := s.updCh c fun x => { x with cePhrase := s.bar / 256, ceCount := n }
  if n = s.get (Reg.DCH_ECC_CFG_CE_EVT_LIMIT c) then
    s.raise (srcDram c 0) [d4 n, d4 (s.word (0x40014 + 0x4000 * c)), d4 (s.word (0x40018 + 0x4000 * c))]
      [⟨none, .informational, .dram, 0⟩]
  else s

/-- One more uncorrectable error of the window of R150. -/
def State.ueWindowCounted (s : State) (c : Nat) : State :=
  let w := s.bar / 262144
  let n := if (s.ch c).ueWindow = w then (s.ch c).ueCount + 1 else 1
  let s := s.updCh c fun x => { x with ueWindow := w, ueCount := n }
  s.when (decide (s.get (Reg.DCH_ECC_CFG_UE_FAIL_LIMIT c) < n) && s.serving c) fun s => s.failCause c 3

theorem State.correctable_eq (s : State) (device : Nat) (data : List Byte) : s.correctable c f i device data =
    ((((s.count (Reg.DCH_ECC_CE_COUNT c)).errorLocation c f i device false).rowTable c f i false).keepsLine c
      { frame := f, line := i, data := data }).cePhraseCounted c := rfl

theorem State.uncorrectable_eq (s : State) (who : Requester) (l : List CxlRec) : s.uncorrectable c f i who l =
    ((((s.count (Reg.DCH_ECC_UE_COUNT c)).errorLocation c f i 15 true).rowTable c f i true).ueWindowCounted c).raise (srcDram c 1)
      [d4 (f / 8), d2 i, d1 who] l := rfl

theorem State.noted_keepsLine (hc : c < 8) (s : State) (x : LineRef) : s.Noted DramCh.bare (noteKeys c) c (s.keepsLine c x) := by
  refine .ite (.updCh (.refl s) hc ?_) (.refl s)
  exact fun _ => rfl

theorem State.noted_cePhraseCounted (hc : c < 8) (s : State) : s.Noted DramCh.bare (noteKeys c) c (s.cePhraseCounted c) := by
  unfold State.cePhraseCounted
  extract_lets n u
  have hu : s.Noted DramCh.bare (noteKeys c) c u := .updCh (.refl s) hc fun _ => rfl
  exact .ite (hu.raise _ _ _) hu

theorem State.noted_ueWindowCounted (hc : c < 8) (s : State) : s.Noted DramCh.unnoted (noteKeys c) c (s.ueWindowCounted c) := by
  unfold State.ueWindowCounted
  extract_lets w n u
  have hu : s.Noted DramCh.unnoted (noteKeys c) c u := .updCh (.refl s) hc fun _ => rfl
  refine .ite (hu.updCh hc ?_) hu
  exact fun _ => rfl

/-- A correctable error counts once; the rest of what it changes are its notes and the line that waits for its write-back. -/
theorem State.noted_correctable (hc : c < 8) (s : State) (device : Nat) (data : List Byte) :
    (s.count (Reg.DCH_ECC_CE_COUNT c)).Noted DramCh.bare (noteKeys c) c (s.correctable c f i device data) := by
  have hnoted := ((State.noted_errorLocation (c := c) (f := f) (i := i) (s.count (Reg.DCH_ECC_CE_COUNT c)) device false).trans
    (State.noted_rowTable (f := f) (i := i) hc _ false)).coarse DramCh.bare (look' := DramCh.bare) fun _ => rfl
  rw [State.correctable_eq]
  exact hnoted.trans ((State.noted_keepsLine hc _ _).trans (State.noted_cePhraseCounted hc _))

/-- An uncorrectable error counts once; the rest of what it changes are its notes. -/
theorem State.noted_uncorrectable (hc : c < 8) (s : State) (who : Requester) (l : List CxlRec) :
    (s.count (Reg.DCH_ECC_UE_COUNT c)).Noted DramCh.unnoted (noteKeys c) c (s.uncorrectable c f i who l) := by
  rw [State.uncorrectable_eq]
  exact ((State.noted_errorLocation _ 15 true).trans ((State.noted_rowTable hc _ true).trans (State.noted_ueWindowCounted hc _))).raise
    _ _ _

/-- An error changes its counts and its notes alone. -/
theorem State.errs_correctable (hc : c < 8) (s : State) (device : Nat) (data : List Byte) :
    s.Noted DramCh.bare (errorKeys c) c (s.correctable c f i device data) :=
  (State.Noted.count (.refl s) List.mem_cons_self 1).trans ((State.noted_correctable hc s device data).mono fun _ => mem_errorKeys_of_noteKeys)

theorem State.errs_uncorrectable (hc : c < 8) (s : State) (who : Requester) (l : List CxlRec) :
    s.Noted DramCh.unnoted (errorKeys c) c (s.uncorrectable c f i who l) :=
  (State.Noted.count (.refl s) (List.mem_cons_of_mem _ List.mem_cons_self) 1).trans
    ((State.noted_uncorrectable hc s who l).mono fun _ => mem_errorKeys_of_noteKeys)

theorem State.noted_wantMark (hc : c < 8) (s : State) (f i : Nat) (port : Option (Fin 4)) (data : List Byte) :
    s.Noted DramCh.bare [] c (s.wantMark c f i port data) := by
  refine .ite (.refl s) (.updCh (.refl s) hc ?_)
  exact fun _ => rfl

theorem get_count_once (s : State) (f : Field) : (s.count f).get f = min (s.get f + 1) (2 ^ f.width - 1) :=
  (s.get_count_self f 1).trans (satW_mod _ _)

end Errors

end Sys2Proof.Machine
end

section
/-! PROOFS. What the code corrects, how a read returns, and how a poison marker is written (R128 to R133, R165). -/

namespace Sys2Proof

/-! ### The code (R128 to R130) -/

section Code

variable {x8 : Bool} {e : LineRead}

/-- The wrong symbols that the configuration has. -/
def LineRead.errors (x8 : Bool) (e : LineRead) : List SymErr := e.wrong.filter (SymErr.exists x8)

theorem LineRead.decode_other (h : e.other = true) : e.decode x8 = .uncorrectable := if_pos h

theorem LineRead.decode_clean (h : e.other = false) (hnone : e.errors x8 = []) : e.decode x8 = .clean := by
  unfold LineRead.errors at hnone
  simp only [LineRead.decode, h, Bool.false_eq_true, if_false, hnone]

theorem LineRead.decode_within (h : e.other = false) (hin : withinCode x8 (e.errors x8) = true) (hsome : e.errors x8 ≠ []) :
    ∃ d, e.decode x8 = .corrected d := by
  obtain ⟨a, l, hl⟩ := List.exists_cons_of_ne_nil hsome
  unfold LineRead.errors at hl hin
  rw [hl] at hin
  simp only [LineRead.decode, h, Bool.false_eq_true, if_false, hl, hin, Bool.not_true]
  exact ⟨_, rfl⟩

theorem LineRead.given_within (h : e.other = false) (hin : withinCode x8 (e.errors x8) = true) (own : List Byte) :
    e.given x8 own = own := by
  unfold LineRead.errors at hin
  simp only [LineRead.given, LineRead.astray, h, hin, Bool.not_true, Bool.or_self, Bool.false_eq_true, if_false]

/-- A device has two symbols of a codeword, which is what the x4 code corrects. -/
theorem withinCode_of_device {d : Nat} {l : List SymErr} (h : ∀ a ∈ l, a.device = d) : withinCode false l = true := by
  refine List.all_eq_true.mpr fun k _ => decide_eq_true ?_
  rw [← List.card_toFinset]
  refine (Finset.card_le_card_of_injOn (t := {2 * d, 2 * d + 1}) (fun a => a.symbol.val) (fun a ha => ?_)
    fun a ha b hb hab => ?_).trans Finset.card_le_two
  · have hdev : a.symbol.val / 2 = d := h a (List.mem_of_mem_filter (List.mem_toFinset.mp ha))
    have hsym : a.symbol.val = 2 * d ∨ a.symbol.val = 2 * d + 1 := by omega
    simpa using hsym
  · have hk {a : SymErr} (ha : a ∈ (l.filter fun a => a.codeword.val = k).toFinset) : a.codeword.val = k := by
      simpa using (List.mem_filter.mp (List.mem_toFinset.mp ha)).2
    obtain ⟨cw, sym⟩ := a
    obtain ⟨cw', sym'⟩ := b
    obtain rfl : cw = cw' := Fin.ext ((hk ha).trans (hk hb).symm)
    obtain rfl : sym = sym' := Fin.ext hab
    rfl

end Code

end Sys2Proof

namespace Sys2Proof.Machine

variable {s u : State} {c : Nat} {e : LineRead} {r : HostReq} {l : List HostReq}

/-! ### A read returns (R131 to R133, R165) -/

/-- The response of a read. -/
def State.answersRead (s : State) (r : HostReq) (poison : Bool) (data : List Byte) : State :=
  s.respond r.port r.stamp (.readData r.port r.ld r.tag data poison)

/-- The channel once its oldest issued read is taken up. -/
def State.takesRead (s : State) (c : Nat) (l : List HostReq) : State := s.updCh c fun x => { x with issued := l }

theorem State.ch_takesRead_self (hc : c < 8) (s : State) (l : List HostReq) :
    (s.takesRead c l).ch c = { s.ch c with issued := l } := State.ch_updCh_self s _ hc

theorem State.readReturn_nil (h : (s.ch c).issued = []) : s.readReturn c e = s := by
  simp only [State.readReturn, h]

theorem State.readReturn_marked (h : (s.ch c).issued = r :: l) (hp : r.poison = true) : s.readReturn c e =
    (State.logOnly (s.takesRead c l) ⟨some (r.port, r.ld), .failure, .generalMedia, s.dpaOf r.tile (r.line * 64)⟩).answersRead
      r true r.result := by
  simp only [State.readReturn, h, hp, if_true]
  rfl

theorem State.readReturn_clean (h : (s.ch c).issued = r :: l) (hp : r.poison = false) (he : e.decode (s.x8 c) = .clean) :
    s.readReturn c e = (s.takesRead c l).answersRead r false (e.given (s.x8 c) r.result) := by
  have hx : e.decode ((s.updCh c fun x => { x with issued := l }).x8 c) = .clean := he
  simp only [State.readReturn, h, hp, Bool.false_eq_true, if_false, hx]
  rfl

theorem State.readReturn_corrected {d : Fin 16} (h : (s.ch c).issued = r :: l) (hp : r.poison = false)
    (he : e.decode (s.x8 c) = .corrected d) : s.readReturn c e =
      ((s.takesRead c l).correctable c r.frame r.line d (e.kept (s.x8 c))).answersRead r false (e.given (s.x8 c) r.result) := by
  have hx : e.decode ((s.updCh c fun x => { x with issued := l }).x8 c) = .corrected d := he
  simp only [State.readReturn, h, hp, Bool.false_eq_true, if_false, hx]
  rfl

theorem State.readReturn_uncorrectable (h : (s.ch c).issued = r :: l) (hp : r.poison = false)
    (he : e.decode (s.x8 c) = .uncorrectable) : s.readReturn c e =
      (((s.takesRead c l).uncorrectable c r.frame r.line r.port ((s.takesRead c l).mediaRecord r)).wantMark c r.frame r.line
        (some r.port) (e.kept (s.x8 c))).answersRead r true (e.given (s.x8 c) r.result) := by
  have hx : e.decode ((s.updCh c fun x => { x with issued := l }).x8 c) = .uncorrectable := he
  simp only [State.readReturn, h, hp, Bool.false_eq_true, if_false, hx]
  rfl

/-- A read's response leaves the channels as they are and every register of DRAM. -/
theorem State.answersRead_outs (u : State) (r : HostReq) (poison : Bool) (data : List Byte) :
    ((u.portState r.port).dropBefore ≤ r.stamp →
      (u.answersRead r poison data).outs = u.outs ++ [.readData r.port r.ld r.tag data poison]) ∧
    (r.stamp < (u.portState r.port).dropBefore → (u.answersRead r poison data).outs = u.outs) := by
  refine ⟨fun h => State.respond_outs _ h _, fun h => ?_⟩
  obtain ⟨-, _, heq⟩ | ⟨hle, -⟩ := u.respond_cases r.port r.stamp (.readData r.port r.ld r.tag data poison)
  · rw [State.answersRead, heq]
    rfl
  · omega

theorem State.answersRead_dram (u : State) (r : HostReq) (poison : Bool) (data : List Byte) :
    (u.answersRead r poison data).dram = u.dram := State.respond_dram _ _ _ _

theorem State.get_answersRead (u : State) (r : HostReq) (poison : Bool) (data : List Byte) {f : Field}
    (hlo : f.lo < 32) (hf : f.addr < 0x60000) : (u.answersRead r poison data).get f = u.get f :=
  State.get_respond_ne _ (key_ne_of_addr_ne hlo (by simp) (by simp; omega)) (key_ne_of_addr_ne hlo (by simp) (by simp; omega))

theorem ceCount_not_noteKey (c : Nat) : (Reg.DCH_ECC_CE_COUNT c).key ∉ noteKeys c := by
  simp [noteKeys, Field.key]
  omega

theorem ueCount_not_noteKey (c : Nat) : (Reg.DCH_ECC_UE_COUNT c).key ∉ noteKeys c := by
  simp [noteKeys, Field.key]
  omega

/-- What a read does before its response leaves, by what the decoder makes of it. -/
structure State.ReadMeets (s : State) (c : Nat) (e : LineRead) (r : HostReq) (l : List HostReq) (u : State) : Prop where
  noted : (s.takesRead c l).Noted DramCh.bare (errorKeys c) c u
  clean : r.poison = true ∨ e.decode (s.x8 c) = .clean → u.get (Reg.DCH_ECC_CE_COUNT c) = s.get (Reg.DCH_ECC_CE_COUNT c) ∧
    u.get (Reg.DCH_ECC_UE_COUNT c) = s.get (Reg.DCH_ECC_UE_COUNT c)
  corrected : ∀ d, r.poison = false → e.decode (s.x8 c) = .corrected d →
    u.get (Reg.DCH_ECC_CE_COUNT c) = min (s.get (Reg.DCH_ECC_CE_COUNT c) + 1) (2 ^ (Reg.DCH_ECC_CE_COUNT c).width - 1)
  uncorrectable : r.poison = false → e.decode (s.x8 c) = .uncorrectable →
    u.get (Reg.DCH_ECC_UE_COUNT c) = min (s.get (Reg.DCH_ECC_UE_COUNT c) + 1) (2 ^ (Reg.DCH_ECC_UE_COUNT c).width - 1) ∧
    ((∀ x ∈ (s.ch c).marks, x.frame = r.frame → x.line ≠ r.line) → (u.ch c).marks = (s.ch c).marks ++
      [{ frame := r.frame, line := r.line, zero := false, port := some r.port, data := e.kept (s.x8 c) }])

theorem State.wantMark_new (hc : c < 8) {f i : Nat} (h : ∀ x ∈ (s.ch c).marks, x.frame = f → x.line ≠ i) (port : Option (Fin 4))
    (data : List Byte) : ((s.wantMark c f i port data).ch c).marks = (s.ch c).marks ++
      [{ frame := f, line := i, zero := false, port := port, data := data }] := by
  have hnone : (s.ch c).marks.any (fun x => x.frame = f && x.line = i) = false := by simpa using h
  rw [State.wantMark, if_neg (ne_true_of_eq_false hnone), State.ch_updCh_self _ _ hc]

theorem State.readReturn_meets (hc : c < 8) (e : LineRead) (h : (s.ch c).issued = r :: l) : ∃ u, s.ReadMeets c e r l u ∧
    s.readReturn c e = u.answersRead r (r.poison || decide (e.decode (s.x8 c) = .uncorrectable))
      (if r.poison = true then r.result else e.given (s.x8 c) r.result) := by
  cases hp : r.poison with
  | true =>
    rw [State.readReturn_marked h hp]
    refine ⟨_, ⟨.raise (.refl _) 0x200 [] _, fun _ => ⟨rfl, rfl⟩, fun _ hno => ?_, fun hno => ?_⟩, rfl⟩ <;> simp [hp] at hno
  | false =>
    rw [Bool.false_or, if_neg Bool.false_ne_true]
    cases he : e.decode (s.x8 c) with
    | clean =>
      rw [State.readReturn_clean h hp he]
      refine ⟨_, ⟨.refl _, fun _ => ⟨rfl, rfl⟩, fun _ _ hno => ?_, fun _ hno => ?_⟩, rfl⟩ <;> simp [he] at hno
    | corrected d =>
      have hnoted := State.noted_correctable (f := r.frame) (i := r.line) hc (s.takesRead c l) d.val (e.kept (s.x8 c))
      rw [State.readReturn_corrected h hp he]
      refine ⟨_, ⟨?_, fun hno => ?_, fun _ _ _ => ?_, fun _ hno => ?_⟩, rfl⟩
      · exact State.errs_correctable hc _ _ _
      · simp [hp, he] at hno
      · exact (hnoted.get _ (ceCount_not_noteKey c)).trans (get_count_once _ _)
      · simp [he] at hno
    | uncorrectable =>
      have hnoted := State.noted_uncorrectable (f := r.frame) (i := r.line) hc (s.takesRead c l) r.port.val
        ((s.takesRead c l).mediaRecord r)
      have hmark := State.noted_wantMark hc ((s.takesRead c l).uncorrectable c r.frame r.line r.port
        ((s.takesRead c l).mediaRecord r)) r.frame r.line (some r.port) (e.kept (s.x8 c))
      have hmarks := hnoted.field DramCh.marks fun _ => rfl
      rw [State.count_ch, State.ch_takesRead_self hc] at hmarks
      rw [State.readReturn_uncorrectable h hp he]
      refine ⟨_, ⟨?_, fun hno => ?_, fun _ _ hno => ?_, fun _ _ => ⟨?_, fun hnew => ?_⟩⟩, rfl⟩
      · exact ((State.errs_uncorrectable hc _ _ _).coarse DramCh.bare fun _ => rfl).trans (hmark.mono fun _ hk => nomatch hk)
      · simp [hp, he] at hno
      · simp [he] at hno
      · exact (hmark.get _ List.not_mem_nil).trans ((hnoted.get _ (ueCount_not_noteKey c)).trans (get_count_once _ _))
      · rw [← hmarks] at hnew ⊢
        exact State.wantMark_new hc hnew _ _

/-! ### A marker is written (R133) -/

/-- The marker that a task is. -/
def Task.mark? : Task → Option LineRef
  | .marker x => some x
  | _ => none

theorem Task.eq_of_mark? (k : Task) (x : LineRef) (h : k.mark? = some x) : k = .marker x := by
  cases k with
  | marker y => exact congrArg Task.marker (Option.some.inj h)
  | _ => cases h

/-- The line of a marker gets the data as read, where that is not what DRAM holds. -/
def State.refilled (s : State) (x : LineRef) : State :=
  if x.data.length = 64 then s.writeFrame x.frame (x.line * 64) x.data else s

theorem State.markWritten_eq (s : State) (c : Nat) : s.markWritten c = match (s.ch c).tasks.findSome? Task.mark? with
    | none => s
    | some x => ((s.takeTask c (.marker x)).refilled x).mark c x.frame x.line := by
  have hpick : s.markWritten c = match pickTask (s.ch c).tasks Task.mark? with
      | none => s
      | some (k, x) => ((s.takeTask c k).refilled x).mark c x.frame x.line := rfl
  rw [hpick, pickTask_eq Task.eq_of_mark?]
  cases (s.ch c).tasks.findSome? Task.mark? <;> rfl

theorem State.refilled_outcome (s : State) (x : LineRef) : (x.data.length = 64 → (s.refilled x).readLine x.frame x.line = x.data) ∧
    (x.data.length ≠ 64 → (s.refilled x).dram.bytes = s.dram.bytes) ∧
    ∃ bytes, s.refilled x = { s with dram := { s.dram with bytes := bytes } } := by
  unfold State.refilled
  by_cases h : x.data.length = 64
  · rw [if_pos h]
    exact ⟨fun _ => State.readLine_writeFrame h s, fun hne => absurd h hne, _, rfl⟩
  · rw [if_neg h]
    exact ⟨fun heq => absurd heq h, fun _ => rfl, _, rfl⟩

theorem State.markWritten_outcome (hc : c < 8) {x : LineRef} (h : (s.ch c).tasks.findSome? Task.mark? = some x) :
    ((s.markWritten c).ch c).tasks = (s.ch c).tasks.erase (.marker x) ∧ (s.markWritten c).poisoned x.frame x.line = true ∧
    (∀ f i, f * 1024 + i ≠ x.frame * 1024 + x.line → (s.markWritten c).poisoned f i = s.poisoned f i) ∧
    (x.data.length = 64 → (s.markWritten c).readLine x.frame x.line = x.data) ∧
    (x.data.length ≠ 64 → (s.markWritten c).dram.bytes = s.dram.bytes) ∧
    (s.markWritten c).get (Reg.DCH_ECC_UE_MARKS c) =
      min (s.get (Reg.DCH_ECC_UE_MARKS c) + 1) (2 ^ (Reg.DCH_ECC_UE_MARKS c).width - 1) ∧
    (∀ f : Field, f.key ≠ (Reg.DCH_ECC_UE_MARKS c).key → (s.markWritten c).get f = s.get f) ∧
    (s.markWritten c).raised = s.raised ++ [⟨srcDram c 2, [⟨4, x.frame / 8, .plain⟩, ⟨2, x.line, .plain⟩], s.bar, []⟩] ∧
    { s.markWritten c with regs := s.regs, slotIncs := s.slotIncs, raised := s.raised, dram := s.dram } = s := by
  obtain ⟨hread, hbytes, bytes, hframe⟩ := (s.takeTask c (.marker x)).refilled_outcome x
  have heq : s.markWritten c = ((s.takeTask c (.marker x)).refilled x).mark c x.frame x.line := by rw [State.markWritten_eq, h]
  rw [heq]
  refine ⟨?_, Store.get_set_self false true _ _, fun f i hne => ?_, hread, hbytes, ?_, fun f hf => ?_, ?_, ?_⟩
  · have hch : (((s.takeTask c (.marker x)).refilled x).mark c x.frame x.line).ch c = (s.takeTask c (.marker x)).ch c := by
      rw [hframe]
      rfl
    rw [hch, State.takeTask, State.ch_updCh_self _ _ hc]
  · refine (Store.get_set_ne false true _ hne).trans ?_
    rw [hframe]
    rfl
  · refine (get_count_once _ _).trans ?_
    rw [hframe]
    rfl
  · refine (State.get_count_ne _ 1 hf).trans ?_
    rw [hframe]
    rfl
  · rw [hframe]
    rfl
  · rw [hframe]
    rfl

/-- Settles O15: a read by what its decoder makes of it, a marker by what it writes, and the code by the symbols it corrects. -/
theorem dramReadsReturn : Obligations.DramReadsReturn := by
  unfold Obligations.DramReadsReturn
  refine ⟨fun c e s hrun => ⟨fun h => ?_, fun r l h => ?_, fun h => ?_, fun x h => ?_⟩, fun x8 e => ⟨LineRead.decode_other,
    LineRead.decode_clean, fun ho hin own => ⟨LineRead.given_within ho hin own, LineRead.decode_within ho hin⟩, fun d hx hd => ?_⟩⟩
  · exact (State.engines_of_running hrun).trans (congrArg _ (State.readReturn_nil h))
  · obtain ⟨u, ⟨hnoted, hclean, hcorrected, hbad⟩, heq⟩ := State.readReturn_meets c.isLt e h
    have hout := u.answersRead_outs r (r.poison || decide (e.decode (s.x8 c) = .uncorrectable))
      (if r.poison = true then r.result else e.given (s.x8 c) r.result)
    rw [hnoted.portState, hnoted.outs] at hout
    have hlt := c.isLt
    have hce : (s.readReturn c e).get (Reg.DCH_ECC_CE_COUNT c) = u.get (Reg.DCH_ECC_CE_COUNT c) := by
      rw [heq]
      exact State.get_answersRead _ _ _ _ (by simp) (by simp; omega)
    have hue : (s.readReturn c e).get (Reg.DCH_ECC_UE_COUNT c) = u.get (Reg.DCH_ECC_UE_COUNT c) := by
      rw [heq]
      exact State.get_answersRead _ _ _ _ (by simp) (by simp; omega)
    have hdram : (s.readReturn c e).dram = u.dram := by rw [heq, State.answersRead_dram]
    have hch (d : Nat) : (s.readReturn c e).ch d = u.ch d := congrArg (fun x : DramState => x.chans.getD d .init) hdram
    have hmarks := congrArg DramCh.marks (hch c)
    refine ⟨_, State.engines_of_running hrun, ?_, ?_, fun d hd => ?_, ?_, ?_, ?_, ?_, ?_, ?_, ?_, ?_⟩
    · rw [hch, hnoted.field DramCh.issued fun _ => rfl, State.ch_takesRead_self c.isLt]
    · rw [hch, hnoted.field DramCh.reqs fun _ => rfl, State.ch_takesRead_self c.isLt]
    · have hne : d.val ≠ c.val := fun he => hd (Fin.ext he)
      exact (hch d).trans ((hnoted.other d d.isLt hne).trans (State.ch_updCh_ne _ _ d.isLt hne))
    · exact (congrArg DramState.bytes hdram).trans hnoted.bytes
    · exact (congrArg DramState.poison hdram).trans hnoted.poison
    · rw [heq]
      exact (State.respond_tile _ _ _ _).trans hnoted.tile
    · rw [heq]
      exact hout.1
    · rw [heq]
      exact hout.2
    · rw [hce, hue]
      exact hclean
    · rw [hce]
      exact hcorrected
    · rw [hue, hmarks]
      exact hbad
  · have hnone : (s.ch c).tasks.findSome? Task.mark? = none := h
    refine (State.engines_of_running hrun).trans ?_
    rw [State.markWritten_eq, hnone]
  · exact ⟨_, State.engines_of_running hrun, State.markWritten_outcome c.isLt h⟩
  · subst hx
    exact withinCode_of_device fun a ha => hd a (List.mem_of_mem_filter ha)

end Sys2Proof.Machine
end

section
/-! PROOFS. Patrol: the line it reads, what becomes of an uncorrectable one, and the end of a pass (R131, R136, R137). -/

namespace Sys2Proof.Machine

variable {s t u : State} {c f i : Nat} {e : LineRead}

/-! ### Frames of the pool -/

theorem State.mem_copies {d : Nat} {k : Reloc} (h : (s.ch d).copying = some k) :
    k.dst ∈ s.dram.chans.filterMap fun x => x.copying.map (·.dst) := by
  by_cases hd : d < s.dram.chans.length
  · refine List.mem_filterMap.mpr ⟨s.dram.chans[d], List.getElem_mem hd, ?_⟩
    rw [State.ch, List.getD_eq_getElem _ _ hd] at h
    rw [h]
    rfl
  · rw [State.ch, List.getD_eq_default _ _ (Nat.not_lt.mp hd)] at h
    cases h

theorem State.exists_of_mem_copies (hsize : s.dram.chans.length = 8) {g : Nat}
    (h : g ∈ s.dram.chans.filterMap fun x => x.copying.map (·.dst)) : ∃ d < 8, ∃ k : Reloc, (s.ch d).copying = some k ∧ k.dst = g := by
  obtain ⟨x, hx, hk⟩ := List.mem_filterMap.mp h
  obtain ⟨d, hd, rfl⟩ := List.mem_iff_getElem.mp hx
  obtain ⟨k, hk, hg⟩ := Option.map_eq_some_iff.mp hk
  exact ⟨d, hsize ▸ hd, k, by rwa [State.ch, List.getD_eq_getElem _ _ hd], hg⟩

/-- A frame of the pool stays in it where no frame becomes mapped, busy or retired. -/
theorem State.inPool_of (hsize : t.dram.chans.length = 8) (hcopy : ∀ d < 8, (t.ch d).copying = (s.ch d).copying)
    (hzero : t.dram.zeroQueue = s.dram.zeroQueue) (htile : t.tile = s.tile) (hret : (t.ch (f % 8)).retired = (s.ch (f % 8)).retired)
    (h : s.inPool f = true) : t.inPool f = true := by
  have hbusy : ∀ g ∈ t.busyFrames, g ∈ s.busyFrames := fun g hg => by
    simp only [State.busyFrames, List.mem_append, hzero, htile] at hg ⊢
    refine hg.imp_right fun hg => ?_
    obtain ⟨d, hd, k, hk, rfl⟩ := State.exists_of_mem_copies hsize hg
    exact State.mem_copies ((hcopy d hd).symm.trans hk)
  simp only [State.inPool, State.takenFrames, State.mappedFrames, hret, htile, Bool.not_eq_true', List.contains_eq_mem,
    decide_eq_false_iff_not, List.mem_append, List.mem_map, List.mem_filter, not_or] at h ⊢
  refine ⟨fun hg => h.1 ?_, h.2⟩
  obtain ⟨g, hg, hdiv⟩ := hg
  exact ⟨g, hg.imp_right fun hb => ⟨hbusy g hb.1, hb.2⟩, hdiv⟩

/-! ### An uncorrectable line (R137) -/

/-- The line of a frame is to be rewritten with zeros. -/
def State.wantZero (s : State) (c f i : Nat) : State :=
  s.updCh c fun x => { x with writebacks := x.writebacks ++ [{ frame := f, line := i, zero := true }] }

/-- What patrol does with an uncorrectable line once the error is noted. -/
def State.patrolSettles (s : State) (c f i : Nat) (data : List Byte) : State :=
  match s.tileOfFrame f with
  | none => if s.inPool f then s.wantZero c f i else s
  | some t =>
    let k := s.code t
    if k = codeClean then (s.setCode t codeAbsent).raise (srcDram c 13) [dTile t, d4 (f / 8)]
    else if k = codeZero then s.wantZero c f i
    else if inD k then s.wantMark c f i none data
    else s

theorem State.patrolUe_eq (s : State) (data : List Byte) :
    s.patrolUe c f i data = (s.uncorrectable c f i 5).patrolSettles c f i data := rfl

theorem State.noted_wantZero (hc : c < 8) (s : State) : s.Noted DramCh.bare [] c (s.wantZero c f i) := by
  refine .updCh (.refl s) hc ?_
  exact fun _ => rfl

theorem State.wantMark_has (hc : c < 8) (s : State) (f i : Nat) (port : Option (Fin 4)) (data : List Byte) :
    ∃ x ∈ ((s.wantMark c f i port data).ch c).marks, x.frame = f ∧ x.line = i := by
  unfold State.wantMark
  split
  · next h =>
    obtain ⟨x, hx, hfi⟩ := List.any_eq_true.mp h
    exact ⟨x, hx, by simpa using hfi⟩
  · rw [State.ch_updCh_self _ _ hc]
    exact ⟨_, List.mem_append_right _ List.mem_cons_self, rfl, rfl⟩

/-- What becomes of the line, by the tile that holds its frame. -/
structure State.LineSettles (c f i : Nat) (s u : State) : Prop where
  clean : ∀ tile, s.tileOfFrame f = some tile → s.code tile = codeClean → u.code tile = codeAbsent
  dirty : ∀ tile, s.tileOfFrame f = some tile → inD (s.code tile) = true → u.code tile = s.code tile ∧
    ∃ x ∈ (u.ch c).marks, x.frame = f ∧ x.line = i
  zero : ∀ tile, s.tileOfFrame f = some tile → s.code tile = codeZero →
    (u.ch c).writebacks = (s.ch c).writebacks ++ [{ frame := f, line := i, zero := true }]
  pool : s.tileOfFrame f = none → s.inPool f = true →
    (u.ch c).writebacks = (s.ch c).writebacks ++ [{ frame := f, line := i, zero := true }]

theorem State.code_of_tile (h : t.tile = s.tile) (k : Nat) : t.code k = s.code k := by rw [State.code, State.code, h]

theorem State.LineSettles.of_left (h : State.LineSettles c f i t u) (htile : t.tile = s.tile)
    (hlines : (t.ch c).writebacks = (s.ch c).writebacks) (hpool : s.inPool f = true → t.inPool f = true) :
    State.LineSettles c f i s u := by
  have htileOf : t.tileOfFrame f = s.tileOfFrame f := by rw [State.tileOfFrame, State.tileOfFrame, htile]
  have hcode := State.code_of_tile htile
  obtain ⟨hclean, hdirty, hzero, hin⟩ := h
  rw [htileOf] at hclean hdirty hzero hin
  rw [hlines] at hzero hin
  simp only [hcode] at hclean hdirty hzero
  exact ⟨hclean, hdirty, hzero, fun hno hp => hin hno (hpool hp)⟩

theorem State.LineSettles.of_right (h : State.LineSettles c f i s t) (htile : u.tile = t.tile)
    (hlines : (u.ch c).writebacks = (t.ch c).writebacks) (hmarks : (u.ch c).marks = (t.ch c).marks) : State.LineSettles c f i s u := by
  have hcode := State.code_of_tile htile
  obtain ⟨hclean, hdirty, hzero, hin⟩ := h
  simp only [← hcode] at hclean hdirty
  rw [← hlines] at hzero hin
  rw [← hmarks] at hdirty
  exact ⟨hclean, hdirty, hzero, hin⟩

theorem State.wantZero_writebacks (hc : c < 8) (s : State) :
    ((s.wantZero c f i).ch c).writebacks = (s.ch c).writebacks ++ [{ frame := f, line := i, zero := true }] := by
  rw [State.wantZero, State.ch_updCh_self _ _ hc]

theorem State.patrolSettles_outcome (hc : c < 8) (s : State) (data : List Byte) : State.LineSettles c f i s (s.patrolSettles c f i data) := by
  unfold State.patrolSettles
  cases ht : s.tileOfFrame f with
  | none =>
    have hno {p : Prop} {tile : Nat} (h : s.tileOfFrame f = some tile) : p := nomatch ht.symm.trans h
    refine ⟨fun _ h => hno h, fun _ h => hno h, fun _ h => hno h, fun _ hpool => ?_⟩
    rw [if_pos hpool]
    exact State.wantZero_writebacks hc s
  | some tile =>
    have hsame {tile' : Nat} (h : s.tileOfFrame f = some tile') : tile = tile' := Option.some.inj (ht.symm.trans h)
    refine ⟨fun _ h hk => ?_, fun _ h hk => ?_, fun _ h hk => ?_, fun h => nomatch ht.symm.trans h⟩
    · obtain rfl := hsame h
      simp only [hk, if_true]
      exact State.code_setCode_self _ _ _
    · obtain rfl := hsame h
      have hclean : s.code tile ≠ codeClean := fun he => by simp [he, inD, codeClean] at hk
      have hzero : s.code tile ≠ codeZero := fun he => by simp [he, inD, codeZero] at hk
      simp only [hclean, hzero, hk, if_false, if_true]
      exact ⟨State.code_of_tile (State.noted_wantMark hc s f i none data).tile tile, State.wantMark_has hc s f i none data⟩
    · obtain rfl := hsame h
      have hclean : s.code tile ≠ codeClean := fun he => by simp [he, codeZero, codeClean] at hk
      simp only [hk, if_true]
      exact State.wantZero_writebacks hc s

/-- Settling a line changes the tile's code, or what waits on the channel. -/
theorem State.noted_patrolSettles (hc : c < 8) (s : State) (data : List Byte) :
    ({ s with tile := (s.patrolSettles c f i data).tile } : State).Noted DramCh.bare [] c (s.patrolSettles c f i data) := by
  have hwhole {u : State} (h : s.Noted DramCh.bare [] c u) : ({ s with tile := u.tile } : State).Noted DramCh.bare [] c u := by
    rw [h.tile]
    exact h
  unfold State.patrolSettles
  split
  · split_ifs
    · exact hwhole (State.noted_wantZero hc s)
    · exact .refl s
  · dsimp only
    split_ifs
    · exact .raise (.refl _) _ _ _
    · exact hwhole (State.noted_wantZero hc s)
    · exact hwhole (State.noted_wantMark hc s f i none data)
    · exact .refl s

/-! ### One line of the walk (R136) -/

/-- One more error of the pass. -/
def State.patrolCounts (s : State) (c : Nat) : State := s.updCh c fun x => { x with patrolErrors := x.patrolErrors + 1 }

/-- A channel but for what patrol notes there. -/
def DramCh.unpatrolled (x : DramCh) : DramCh := { x.bare with patrolErrors := 0 }

theorem State.noted_patrolCounts (hc : c < 8) (s : State) : s.Noted DramCh.unpatrolled [] c (s.patrolCounts c) := by
  refine .updCh (.refl s) hc ?_
  exact fun _ => rfl

theorem State.ch_patrolCounts (hc : c < 8) (s : State) :
    (s.patrolCounts c).ch c = { s.ch c with patrolErrors := (s.ch c).patrolErrors + 1 } := State.ch_updCh_self _ _ hc

@[simp] theorem State.get_patrolCounts (s : State) (g : Field) : (s.patrolCounts c).get g = s.get g := rfl

@[simp] theorem State.patrolCounts_tile (s : State) : (s.patrolCounts c).tile = s.tile := rfl

/-- What patrol meets at a line. -/
def State.patrolMet (s : State) (c f i : Nat) (e : LineRead) : State :=
  if s.poisoned f i then s else match e.decode (s.x8 c) with
  | .clean => s
  | .corrected d => (s.correctable c f i d (e.kept (s.x8 c))).patrolCounts c
  | .uncorrectable => (s.patrolUe c f i (e.kept (s.x8 c))).patrolCounts c

/-- Patrol goes on to the line after `pos`, or ends its pass. -/
def State.patrolGoesOn (s : State) (c pos total : Nat) : State :=
  let next := (s.ch c).patrolPlace (pos + 1)
  if next < total then
    (s.updCh c fun x => { x with patrolLine := next }).set (Reg.DCH_SCRUB_PROGRESS c) (next * 65536 / total)
  else
    let s := (s.bump (Reg.DCH_SCRUB_PASSES c)).set (Reg.DCH_SCRUB_PROGRESS c) 0
    let s := s.raise (srcDram c 3) [d4 (s.get (Reg.DCH_SCRUB_PASSES c)), d4 (s.ch c).patrolErrors]
    s.updCh c fun x => { x with patrolLine := 0, patrolErrors := 0 }

theorem State.patrol_eq {pos : Nat} (hpos : pos = (s.ch c).patrolPlace (s.ch c).patrolLine) (e : LineRead) :
    s.patrol c e = (s.patrolMet c (8 * (pos / 1024) + c) (pos % 1024) e).patrolGoesOn c pos (s.framesPerChannel * 1024) := by
  subst hpos
  rfl

/-- The errors that a line adds to a pass. -/
def State.patrolFinds (s : State) (c f i : Nat) (e : LineRead) : Nat :=
  if s.poisoned f i = true ∨ e.decode (s.x8 c) = .clean then 0 else 1

/-- What the line changes before patrol goes on. -/
structure State.PatrolMeets (c f i : Nat) (e : LineRead) (s u : State) : Prop where
  noted : ({ s with tile := u.tile } : State).Noted DramCh.unpatrolled (errorKeys c) c u
  errors : (u.ch c).patrolErrors = (s.ch c).patrolErrors + s.patrolFinds c f i e
  clean : s.poisoned f i = true ∨ e.decode (s.x8 c) = .clean → u.get (Reg.DCH_ECC_CE_COUNT c) = s.get (Reg.DCH_ECC_CE_COUNT c) ∧
    u.get (Reg.DCH_ECC_UE_COUNT c) = s.get (Reg.DCH_ECC_UE_COUNT c) ∧ u.tile = s.tile
  corrected : ∀ d, s.poisoned f i = false → e.decode (s.x8 c) = .corrected d → u.tile = s.tile ∧
    u.get (Reg.DCH_ECC_CE_COUNT c) = min (s.get (Reg.DCH_ECC_CE_COUNT c) + 1) (2 ^ (Reg.DCH_ECC_CE_COUNT c).width - 1)
  uncorrectable : s.poisoned f i = false → e.decode (s.x8 c) = .uncorrectable →
    u.get (Reg.DCH_ECC_UE_COUNT c) = min (s.get (Reg.DCH_ECC_UE_COUNT c) + 1) (2 ^ (Reg.DCH_ECC_UE_COUNT c).width - 1) ∧
    State.LineSettles c f i s u

/-- An uncorrectable line, once its error is noted. -/
theorem State.patrolMeets_of_uncorrectable {v : State} (hc : c < 8) (hsize : s.dram.chans.length = 8) (hf : f % 8 = c)
    (hp : ¬ s.poisoned f i = true) (he : e.decode (s.x8 c) = .uncorrectable)
    (hnoted : (s.count (Reg.DCH_ECC_UE_COUNT c)).Noted DramCh.unnoted (noteKeys c) c v)
    (herrs : s.Noted DramCh.unnoted (errorKeys c) c v) {data : List Byte} :
    State.PatrolMeets c f i e s ((v.patrolSettles c f i data).patrolCounts c) := by
  have hfinds : s.patrolFinds c f i e = 1 := if_neg (by simp [hp, he])
  have hsettled := State.noted_patrolSettles (f := f) (i := i) hc v data
  have hcopy : ∀ d < 8, (v.ch d).copying = (s.ch d).copying := fun d hd => by
    obtain rfl | hne := eq_or_ne d c
    · exact herrs.field DramCh.copying fun _ => rfl
    · exact congrArg DramCh.copying (herrs.other d hd hne)
  have hpool : s.inPool f = true → v.inPool f = true :=
    State.inPool_of (herrs.size hsize) hcopy herrs.zeroQueue herrs.tile (hf ▸ herrs.field DramCh.retired fun _ => rfl)
  have hlines := (State.patrolSettles_outcome (f := f) (i := i) hc v data).of_left herrs.tile
    (herrs.field DramCh.writebacks fun _ => rfl) hpool
  refine ⟨?_, ?_, fun hno => ?_, fun _ _ hno => ?_, fun _ _ => ⟨?_, hlines.of_right (State.patrolCounts_tile _) ?_ ?_⟩⟩
  · have hbeside := (herrs.withTile (v.patrolSettles c f i data).tile).coarse DramCh.unpatrolled (look' := DramCh.unpatrolled)
      fun _ => rfl
    exact (hbeside.trans ((hsettled.coarse DramCh.unpatrolled fun _ => rfl).mono fun _ h => nomatch h)).trans
      ((State.noted_patrolCounts hc _).mono fun _ h => nomatch h)
  · rw [State.ch_patrolCounts hc, hfinds, hsettled.field DramCh.patrolErrors fun _ => rfl]
    exact congrArg (· + 1) (herrs.field DramCh.patrolErrors fun _ => rfl)
  · simp [hp, he] at hno
  · simp [he] at hno
  · rw [State.get_patrolCounts, hsettled.get _ List.not_mem_nil]
    exact (hnoted.get _ (ueCount_not_noteKey c)).trans (get_count_once _ _)
  · rw [State.ch_patrolCounts hc]
  · rw [State.ch_patrolCounts hc]

theorem State.patrolMet_outcome (hc : c < 8) (hsize : s.dram.chans.length = 8) (hf : f % 8 = c) (e : LineRead) :
    State.PatrolMeets c f i e s (s.patrolMet c f i e) := by
  by_cases hp : s.poisoned f i = true
  · have hfinds : s.patrolFinds c f i e = 0 := if_pos (.inl hp)
    rw [State.patrolMet, if_pos hp]
    refine ⟨.refl s, by rw [hfinds]; rfl, fun _ => ⟨rfl, rfl, rfl⟩, fun _ hno => ?_, fun hno => ?_⟩ <;> simp [hp] at hno
  rw [State.patrolMet, if_neg hp]
  cases he : e.decode (s.x8 c) with
  | clean =>
    have hfinds : s.patrolFinds c f i e = 0 := if_pos (.inr he)
    refine ⟨.refl s, by rw [hfinds]; rfl, fun _ => ⟨rfl, rfl, rfl⟩, fun _ _ hno => ?_, fun _ hno => ?_⟩ <;> simp [he] at hno
  | corrected d =>
    have hfinds : s.patrolFinds c f i e = 1 := if_neg (by simp [hp, he])
    have hnoted := State.noted_correctable (f := f) (i := i) hc s d.val (e.kept (s.x8 c))
    have hmet := ((State.errs_correctable (f := f) (i := i) hc s d.val (e.kept (s.x8 c))).coarse DramCh.unpatrolled
      (look' := DramCh.unpatrolled) fun _ => rfl).trans ((State.noted_patrolCounts hc _).mono fun _ h => nomatch h)
    refine ⟨?_, ?_, fun hno => ?_, fun _ _ _ => ⟨hmet.tile, ?_⟩, fun _ hno => ?_⟩
    · rw [hmet.tile]
      exact hmet
    · rw [State.ch_patrolCounts hc, hfinds, hnoted.field DramCh.patrolErrors fun _ => rfl]
      rfl
    · simp [hp, he] at hno
    · rw [State.get_patrolCounts, hnoted.get _ (ceCount_not_noteKey c), get_count_once]
    · simp [he] at hno
  | uncorrectable =>
    rw [State.patrolUe_eq]
    exact State.patrolMeets_of_uncorrectable hc hsize hf hp he (State.noted_uncorrectable hc s 5 []) (State.errs_uncorrectable hc s 5 [])

/-! ### The walk goes on (R136) -/

/-- A channel but for patrol's place and the errors of its pass. -/
def DramCh.unwalked (x : DramCh) : DramCh := { x with patrolLine := 0, patrolErrors := 0 }

/-- The registers of the walk. -/
def walkKeys (c : Nat) : List Nat := [(Reg.DCH_SCRUB_PASSES c).key, (Reg.DCH_SCRUB_PROGRESS c).key]

theorem State.patrolGoesOn_next {pos total : Nat} (h : (s.ch c).patrolPlace (pos + 1) < total) : s.patrolGoesOn c pos total =
    (s.updCh c fun x => { x with patrolLine := (s.ch c).patrolPlace (pos + 1) }).set (Reg.DCH_SCRUB_PROGRESS c)
      ((s.ch c).patrolPlace (pos + 1) * 65536 / total) := if_pos h

/-- A pass that has ended counts. -/
def State.passEnds (s : State) (c : Nat) : State := (s.bump (Reg.DCH_SCRUB_PASSES c)).set (Reg.DCH_SCRUB_PROGRESS c) 0

theorem State.patrolGoesOn_end {pos total : Nat} (h : total ≤ (s.ch c).patrolPlace (pos + 1)) : s.patrolGoesOn c pos total =
    ((s.passEnds c).raise (srcDram c 3) [d4 ((s.passEnds c).get (Reg.DCH_SCRUB_PASSES c)), d4 (s.ch c).patrolErrors]).updCh c
      fun x => { x with patrolLine := 0, patrolErrors := 0 } := if_neg (Nat.not_lt.mpr h)

theorem State.noted_patrolGoesOn (hc : c < 8) (s : State) (pos total : Nat) :
    s.Noted DramCh.unwalked (walkKeys c) c (s.patrolGoesOn c pos total) := by
  by_cases h : (s.ch c).patrolPlace (pos + 1) < total
  · rw [State.patrolGoesOn_next h]
    refine .set (.updCh (.refl s) hc ?_) (by simp [walkKeys]) _
    exact fun _ => rfl
  · rw [State.patrolGoesOn_end (Nat.not_lt.mp h)]
    refine .updCh (.raise (.set (.set (.refl s) (by simp [walkKeys]) _) (by simp [walkKeys]) _) _ _ _) hc ?_
    exact fun _ => rfl

theorem progress_ne_passes (c : Nat) : (Reg.DCH_SCRUB_PASSES c).key ≠ (Reg.DCH_SCRUB_PROGRESS c).key := key_ne_of_lo_ne (by decide)

theorem State.get_passEnds (s : State) (c : Nat) :
    (s.passEnds c).get (Reg.DCH_SCRUB_PASSES c) = (s.get (Reg.DCH_SCRUB_PASSES c) + 1) % 2 ^ (Reg.DCH_SCRUB_PASSES c).width :=
  (State.get_set_ne _ _ (progress_ne_passes c)).trans (State.get_set_self _ _ _)

theorem State.patrolGoesOn_outcome (hc : c < 8) (s : State) (pos total : Nat) :
    ((s.ch c).patrolPlace (pos + 1) < total →
      ((s.patrolGoesOn c pos total).ch c).patrolLine = (s.ch c).patrolPlace (pos + 1) ∧
      (s.patrolGoesOn c pos total).get (Reg.DCH_SCRUB_PASSES c) = s.get (Reg.DCH_SCRUB_PASSES c) ∧
      ((s.patrolGoesOn c pos total).ch c).patrolErrors = (s.ch c).patrolErrors) ∧
    (total ≤ (s.ch c).patrolPlace (pos + 1) →
      ((s.patrolGoesOn c pos total).ch c).patrolLine = 0 ∧ ((s.patrolGoesOn c pos total).ch c).patrolErrors = 0 ∧
      (s.patrolGoesOn c pos total).get (Reg.DCH_SCRUB_PASSES c) =
        (s.get (Reg.DCH_SCRUB_PASSES c) + 1) % 2 ^ (Reg.DCH_SCRUB_PASSES c).width ∧
      (s.patrolGoesOn c pos total).raised.getLast? = some ⟨srcDram c 3, [⟨4, (s.patrolGoesOn c pos total).get
        (Reg.DCH_SCRUB_PASSES c), .plain⟩, ⟨4, (s.ch c).patrolErrors, .plain⟩], s.bar, []⟩) := by
  refine ⟨fun h => ?_, fun h => ?_⟩
  · rw [State.patrolGoesOn_next h, State.set_ch, State.ch_updCh_self _ _ hc]
    exact ⟨rfl, State.get_set_ne _ _ (progress_ne_passes c), rfl⟩
  · rw [State.patrolGoesOn_end h, State.ch_updCh_self _ _ hc]
    refine ⟨rfl, rfl, ?_, List.getLast?_concat⟩
    exact s.get_passEnds c

theorem exec_patrolRead_none (hrun : s.running = true) (c : Fin 8) (h : s.hasTask c .patrol = false) (e : LineRead) :
    exec (.patrolRead c e) s = .next s :=
  (State.engines_of_running hrun).trans (if_neg (ne_true_of_eq_false h))

theorem exec_patrolRead (hrun : s.running = true) (c : Fin 8) (h : s.hasTask c .patrol = true) (e : LineRead) :
    exec (.patrolRead c e) s = .next (((s.takeTask c .patrol).patrol c e).updSys fun x => { x with patrolBar := s.bar }) :=
  (State.engines_of_running hrun).trans (if_pos h)

/-- The state beside other channels. -/
def State.withChans (s : State) (chans : List DramCh) : State := { s with dram := { s.dram with chans := chans } }

theorem State.ch_takeTask_self (hc : c < 8) (s : State) (k : Task) :
    (s.takeTask c k).ch c = { s.ch c with tasks := (s.ch c).tasks.erase k } := State.ch_updCh_self _ _ hc

theorem DramCh.patrolPlace_congr {x y : DramCh} (h : x.retired = y.retired) (pos : Nat) : x.patrolPlace pos = y.patrolPlace pos := by
  rw [DramCh.patrolPlace, DramCh.patrolPlace, h]

theorem walkKeys_not_error (c : Nat) : (Reg.DCH_SCRUB_PASSES c).key ∉ errorKeys c := by
  simp [errorKeys, noteKeys, Field.key]
  omega

theorem ceCount_not_walkKey (c : Nat) : (Reg.DCH_ECC_CE_COUNT c).key ∉ walkKeys c := by
  simp [walkKeys, Field.key]
  omega

theorem ueCount_not_walkKey (c : Nat) : (Reg.DCH_ECC_UE_COUNT c).key ∉ walkKeys c := by
  simp [walkKeys, Field.key]
  omega

/-- Settles O18: the line by what its decoder finds, the frame by the tile that holds it, and the walk by the line that comes next. -/
theorem patrolWalksTheLines : Obligations.PatrolWalksTheLines := by
  unfold Obligations.PatrolWalksTheLines
  intro c e s pos next f i hrun hpos hnext hf hi
  refine ⟨fun h => exec_patrolRead_none hrun c h e, fun h => ⟨_, exec_patrolRead hrun c h e, rfl, ?_⟩⟩
  obtain ⟨chans, htake⟩ : ∃ chans, s.takeTask c .patrol = s.withChans chans := ⟨_, rfl⟩
  have hsize : (s.takeTask c .patrol).dram.chans.length = 8 := State.size_updCh _ _ _
  have hself := State.ch_takeTask_self c.isLt s .patrol
  have hother (d : Nat) (hd : d < 8) (hne : d ≠ c) : (s.takeTask c .patrol).ch d = s.ch d := State.ch_updCh_ne _ _ hd hne
  rw [htake] at hsize hself hother
  have hmet := State.patrolMet_outcome (f := f) (i := i) c.isLt hsize (by omega) e
  have hpos' : pos = ((s.withChans chans).ch c).patrolPlace
      ((s.withChans chans).ch c).patrolLine := by
    rw [hself]
    exact hpos
  have hcopy (d : Nat) (hd : d < 8) :
      ((s.withChans chans).ch d).copying = (s.ch d).copying := by
    obtain rfl | hne := eq_or_ne d c
    · rw [hself]
    · rw [hother d hd hne]
  have hpool : s.inPool f = true → (s.withChans chans).inPool f = true := by
    refine State.inPool_of hsize hcopy rfl rfl ?_
    rw [show f % 8 = c by omega, hself]
  rw [htake, State.patrol_eq hpos' e, ← hf, ← hi]
  generalize (s.withChans chans).patrolMet c f i e = u at hmet
  obtain ⟨hnoted, herrors, hclean, hcorrected, hbad⟩ := hmet
  have hfields {β : Type} (p : DramCh → β) (hp : ∀ x, p x.unpatrolled = p x) :
      p (u.ch c) = p { s.ch c with tasks := (s.ch c).tasks.erase .patrol } := (hnoted.field p hp).trans (congrArg p hself)
  have hplace : (u.ch c).patrolPlace (pos + 1) = next := by
    rw [hnext]
    exact DramCh.patrolPlace_congr (hfields DramCh.retired fun _ => rfl) _
  have hwalk := State.noted_patrolGoesOn c.isLt u pos (s.framesPerChannel * 1024)
  have hend := State.patrolGoesOn_outcome c.isLt u pos (s.framesPerChannel * 1024)
  have hpasses : u.get (Reg.DCH_SCRUB_PASSES c) = s.get (Reg.DCH_SCRUB_PASSES c) := hnoted.get _ (walkKeys_not_error c)
  rw [hplace, herrors, hself, hpasses, hnoted.bar] at hend
  rw [show (s.withChans chans).framesPerChannel = s.framesPerChannel from rfl]
  generalize u.patrolGoesOn c pos (s.framesPerChannel * 1024) = v at hwalk hend
  have hce := hwalk.get _ (ceCount_not_walkKey c)
  have hue := hwalk.get _ (ueCount_not_walkKey c)
  refine ⟨?_, fun d hd => ?_, ?_, ?_, ?_, fun hlt => ?_, fun hle => ?_, fun h => ?_, fun d hp he => ?_, fun hp he => ?_⟩
  · exact (hwalk.field DramCh.tasks fun _ => rfl).trans (hfields DramCh.tasks fun _ => rfl)
  · have hne : d.val ≠ c.val := fun he => hd (Fin.ext he)
    exact (hwalk.other d d.isLt hne).trans ((hnoted.other d d.isLt hne).trans (hother d d.isLt hne))
  · exact hwalk.bytes.trans hnoted.bytes
  · exact hwalk.poison.trans hnoted.poison
  · exact hwalk.outs.trans hnoted.outs
  · exact hend.1 hlt
  · exact hend.2 hle
  · obtain ⟨hce', hue', htile⟩ := hclean h
    exact ⟨hce.trans hce', hue.trans hue', hwalk.tile.trans htile⟩
  · obtain ⟨htile, hce'⟩ := hcorrected d hp he
    exact ⟨hwalk.tile.trans htile, hce.trans hce'⟩
  · obtain ⟨hue', hlines⟩ := hbad hp he
    obtain ⟨h1, h2, h3, h4⟩ := (hlines.of_left (s := s) rfl (by rw [hself]) hpool).of_right hwalk.tile
      (hwalk.field DramCh.writebacks fun _ => rfl) (hwalk.field DramCh.marks fun _ => rfl)
    exact ⟨hue.trans hue', h1, h2, h3, h4⟩

end Sys2Proof.Machine
end

section
/-! PROOFS. Training: its temperature read, the seed it takes, its end, and the repairs that go with it (R115, R121, R123 to R125, R140,
R141). -/

namespace Sys2Proof.Machine

variable {s t u : State} {c : Nat} {o : TrainOutcome}

/-! ### Repairs (R140, R141) -/

/-- A pending row that is dealt with. -/
def State.rowSettled (s : State) (c : Nat) (e : RowEntry) : State :=
  s.updCh c fun x => { x with pendingRows := x.pendingRows.erase e, recordDue := true }

/-- The frames of a row that are not yet retired. -/
def State.newFrames (s : State) (c : Nat) (e : RowEntry) : List Nat := (s.rowFrames e).filter fun g => !((s.ch c).retired.contains g)

theorem State.repairRow_spare (s : State) (c : Nat) (e : RowEntry) (failed : Bool) : State.repairRow c (s, failed) (e, true) =
    (((s.rowSettled c e).count (Reg.DCH_REPAIR_PPR_DONE c)).raise (srcDram c 14) [d4 e.row, d1 1], failed) := rfl

/-- A row whose frames are retired with it. -/
def State.rowRetired (s : State) (c : Nat) (e : RowEntry) : State :=
  ((s.rowSettled c e).updCh c fun y => { y with retired := y.retired ++ s.newFrames c e }).raise (srcDram c 14) [d4 e.row, d1 2]

theorem State.ch_rowRetired (hc : c < 8) (s : State) (e : RowEntry) : (s.rowRetired c e).ch c = { s.ch c with
    pendingRows := (s.ch c).pendingRows.erase e, recordDue := true, retired := (s.ch c).retired ++ s.newFrames c e } := by
  rw [State.rowRetired, State.raise_ch, State.ch_updCh_self _ _ hc, State.rowSettled, State.ch_updCh_self _ _ hc]

theorem State.repairRow_noSpare (s : State) (c : Nat) (e : RowEntry) (failed : Bool) : State.repairRow c (s, failed) (e, false) =
    if 1024 < (s.ch c).retired.length + (s.newFrames c e).length then (s, true) else (s.rowRetired c e, failed) := rfl

theorem State.repairRow_retire {e : RowEntry} (h : (s.ch c).retired.length + (s.newFrames c e).length ≤ 1024) (failed : Bool) :
    State.repairRow c (s, failed) (e, false) = (s.rowRetired c e, failed) := by
  rw [State.repairRow_noSpare, if_neg (Nat.not_lt.mpr h)]

theorem State.repairRow_past {e : RowEntry} (h : 1024 < (s.ch c).retired.length + (s.newFrames c e).length) (failed : Bool) :
    State.repairRow c (s, failed) (e, false) = (s, true) := by
  rw [State.repairRow_noSpare, if_pos h]

/-- A channel but for its pending and retired rows. -/
def DramCh.unrepaired (x : DramCh) : DramCh := { x with pendingRows := [], retired := [], recordDue := false }

/-- The registers of repairs. -/
def repairKeys (c : Nat) : List Nat := [(Reg.DCH_REPAIR_PPR_DONE c).key, (Reg.DCH_STAT_PPR_PENDING c).key,
  (Reg.DCH_REPAIR_PENDING c).key, (Reg.DCH_REPAIR_RETIRED c).key]

theorem State.noted_rowSettled (hc : c < 8) (s : State) (e : RowEntry) :
    s.Noted DramCh.unrepaired (repairKeys c) c (s.rowSettled c e) := by
  refine .updCh (.refl s) hc ?_
  exact fun _ => rfl

theorem State.noted_repairRow (hc : c < 8) (s : State) (failed : Bool) (x : RowEntry × Bool) :
    s.Noted DramCh.unrepaired (repairKeys c) c (State.repairRow c (s, failed) x).1 := by
  obtain ⟨e, spare⟩ := x
  have hrow := State.noted_rowSettled hc s e
  cases spare with
  | true =>
    rw [State.repairRow_spare]
    exact .raise (hrow.count (by simp [repairKeys]) 1) _ _ _
  | false =>
    by_cases h : (s.ch c).retired.length + (s.newFrames c e).length ≤ 1024
    · rw [State.repairRow_retire h]
      refine .raise (hrow.updCh hc ?_) _ _ _
      exact fun _ => rfl
    · rw [State.repairRow_past (Nat.not_le.mp h)]
      exact .refl s

theorem State.noted_repairRows (hc : c < 8) (l : List (RowEntry × Bool)) (st : State × Bool) :
    st.1.Noted DramCh.unrepaired (repairKeys c) c (l.foldl (State.repairRow c) st).1 := by
  induction l generalizing st with
  | nil => exact .refl _
  | cons x l ih => exact (State.noted_repairRow hc st.1 st.2 x).trans (ih _)

theorem State.noted_showRepairs (s : State) : s.Noted DramCh.unrepaired (repairKeys c) c (s.showRepairs c) := by
  unfold State.showRepairs State.setB
  refine .set (.set (.set (.refl s) ?_ _) ?_ _) ?_ _ <;> simp [repairKeys]

theorem State.noted_repair (hc : c < 8) (s : State) (spares : List Bool) :
    s.Noted DramCh.unrepaired (repairKeys c) c (s.repair c spares).1 :=
  (State.noted_repairRows hc _ (s, false)).trans (State.noted_showRepairs _)

theorem State.repair_nil (h : (s.ch c).pendingRows = []) (spares : List Bool) : s.repair c spares = (s.showRepairs c, false) := by
  rw [State.repair, h]
  rfl

/-! ### The temperature read of a training (R121) -/

/-- A channel but for what a training reads and takes. -/
def DramCh.untrained (x : DramCh) : DramCh := { x with tempSlot := 0, stale := false, seedNew := none, recordDue := false }

/-- The registers of a temperature read. -/
def tempKeys (c : Nat) : List Nat := [(Reg.DCH_TEMP_TEMP_C c).key, (Reg.DCH_TEMP_PEAK_C c).key, (Reg.DCH_TEMP_VALID c).key,
  (Reg.DCH_TEMP_HOT_RANK c).key, (Reg.DCH_TEMP_HOT_SUB c).key, (Reg.DCH_TEMP_MR4_2X c).key, (Reg.DCH_STAT_HOT c).key]

theorem State.Noted.setRisen {look : DramCh → DramCh} {keys : List Nat} (h : s.Noted look keys c t) (f : Field) (e : Nat × Nat) :
    s.Noted look keys c (t.setRisen f e) :=
  h.trans ⟨fun _ _ => rfl, rfl, fun _ _ _ => rfl, id, fun _ h => h, _, _, _, _, rfl⟩

theorem State.noted_tempShown (s : State) (temp peak rank sub : Nat) (mr4 : Bool) :
    s.Noted DramCh.untrained (tempKeys c) c (s.tempShown c temp peak rank sub mr4) := by
  unfold State.tempShown State.setB
  refine .set (.set (.set (.setRisen (.set (.set (.set (.refl s) ?_ _) ?_ _) ?_ _) _ _) ?_ _) ?_ _) ?_ _ <;> simp [tempKeys]

theorem State.noted_updHot (s : State) : s.Noted DramCh.untrained (tempKeys c) c (s.updHot c) := by
  have hset : s.Noted DramCh.untrained (tempKeys c) c (s.setB (Reg.DCH_STAT_HOT c) (s.reportsHot c)) :=
    .set (.refl s) (by simp [tempKeys]) _
  exact .ite (hset.raise _ _ _) hset

theorem State.noted_tempRead (hc : c < 8) (s : State) (l : List TempReading) :
    s.Noted DramCh.untrained (tempKeys c) c (s.tempRead c l) := by
  cases h : hottest l with
  | none =>
    rw [State.tempRead_none h]
    exact .refl s
  | some r =>
    rw [State.tempRead_some h]
    refine .trans (.updCh (State.noted_tempShown s _ _ _ _ _) hc ?_) (State.noted_updHot _)
    exact fun _ => rfl

theorem isSome_foldl {α β : Type} {f : Option α → β → Option α} (hf : ∀ b x, (f b x).isSome = true) (l : List β) {b : Option α}
    (hb : b.isSome = true) : (l.foldl f b).isSome = true := by
  induction l generalizing b with
  | nil => exact hb
  | cons x l ih => exact ih (hf b x)

/-- Of one reading and more, one is the hottest. -/
theorem hottest_cons (a : TempReading) (l : List TempReading) : ∃ h, hottest (a :: l) = some h := by
  refine Option.isSome_iff_exists.mp (isSome_foldl (fun b x => ?_) l rfl)
  cases b with
  | none => rfl
  | some y =>
    dsimp only
    split <;> rfl

/-! ### The end of a training (R121, R123 to R125) -/

/-- The registers that a training writes before its repairs. -/
def trainKeys (c : Nat) : List Nat := [(Reg.DCH_TRAIN_LAST_MS c).key, (Reg.DCH_TRAIN_MARGIN c).key, (Reg.DCH_TRAIN_RESULT c).key,
  (Reg.DCH_STAT_SEEDED c).key]

/-- The margin and the time of a training, and an event where its seed was no good. -/
def State.trainShown (s : State) (c : Nat) (o : TrainOutcome) (seeded quick : Bool) : State :=
  ((if seeded && !quick then s.raise (srcDram c 8) [d1 o.margin, d1 o.lane] else s).set (Reg.DCH_TRAIN_LAST_MS c) (satW 16 o.ms)).set
    (Reg.DCH_TRAIN_MARGIN c) o.margin

/-- A full training leaves a new seed. -/
def State.seeds (s : State) (c : Nat) (o : TrainOutcome) (quick : Bool) : State :=
  if quick then s else s.updCh c fun x => { x with
    seedNew := some ⟨o.spd, s.tempC c, s.get Reg.OP_SECONDS_SECONDS⟩, recordDue := true }

def State.trainPassed (s : State) (c : Nat) (o : TrainOutcome) (result : Nat) (quick : Bool) : State :=
  (((s.set (Reg.DCH_TRAIN_RESULT c) result).setB (Reg.DCH_STAT_SEEDED c) quick).raise (srcDram c 6)
    [d1 result, d2 o.ms, d1 o.margin]).seeds c o quick

/-- A training that fails at a step. -/
def State.trainFails (s : State) (c : Nat) (step : Fin 9) : State :=
  ((s.set (Reg.DCH_TRAIN_RESULT c) 4).set (Reg.DCH_TRAIN_FAIL_STEP c) step).trainFail c 1 step

/-- The repairs of a channel decide whether it is trained or fails. -/
def State.repaired (s : State) (c : Nat) (spares : List Bool) : State :=
  if (s.repair c spares).2 then ((s.repair c spares).1.set (Reg.DCH_STAT_FAIL_CAUSE c) 6).setChState c chFailed
  else (s.repair c spares).1.updCh c fun x => { x with trained := true }

theorem State.trainEnd_spd (h : o.spdOk = false) : s.trainEnd c o = s.trainFail c 5 5 := if_pos (by rw [h]; rfl)

section Trains

variable {seeded quick : Bool} (hspd : o.spdOk = true) (hseeded : seeded = (s.tempRead c (o.temp :: o.temps)).seedValid c o.spd)
  (hquick : quick = (seeded && o.seededPass && decide (12 ≤ o.margin.val)))
include hspd hseeded hquick

theorem State.trainEnd_pass (h : quick = true ∨ o.fullPass = true) : s.trainEnd c o =
    ((((s.tempRead c (o.temp :: o.temps)).trainShown c o seeded quick).trainPassed c o
      (if quick = true then 2 else if seeded = true then 3 else 1) quick).repaired c o.spares) := by
  subst hseeded hquick
  have hno : ¬ (!o.spdOk) = true := by simp [hspd]
  exact (if_neg hno).trans (if_pos (Bool.or_eq_true_iff.mpr h))

theorem State.trainEnd_fail (h : quick = false) (hfull : o.fullPass = false) : s.trainEnd c o =
    ((s.tempRead c (o.temp :: o.temps)).trainShown c o seeded quick).trainFails c o.failStep := by
  subst hseeded hquick
  have hno : ¬ (!o.spdOk) = true := by simp [hspd]
  exact (if_neg hno).trans (if_neg (by rw [h, hfull]; exact Bool.false_ne_true))

end Trains

theorem State.trainFail_outcome (s : State) (c : Nat) {cause : Nat} (hcause : cause < 16) (detail : Nat) :
    (s.trainFail c cause detail).chState c = chFailed ∧ (s.trainFail c cause detail).get (Reg.DCH_STAT_FAIL_CAUSE c) = cause := by
  refine ⟨State.chState_setChState (by decide) _ c, ?_⟩
  refine (State.get_setChState_ne (key_ne_of_lo_ne (by decide)) (key_ne_of_addr_ne (by simp) (by simp) (by simp)) _ _).trans ?_
  exact (State.get_set_self _ _ _).trans (Nat.mod_eq_of_lt hcause)

theorem State.get_trainFail_ne {f : Field} (hstate : f.key ≠ (Reg.DCH_STAT_STATE c).key) (hgen : f.key ≠ (Reg.DCH_GEN_GEN c).key)
    (hcause : f.key ≠ (Reg.DCH_STAT_FAIL_CAUSE c).key) (s : State) (cause detail : Nat) :
    (s.trainFail c cause detail).get f = s.get f :=
  (State.get_setChState_ne hstate hgen _ _).trans (State.get_set_ne _ _ hcause)

theorem State.trainFails_outcome (s : State) (c : Nat) (step : Fin 9) : (s.trainFails c step).get (Reg.DCH_TRAIN_RESULT c) = 4 ∧
    (s.trainFails c step).get (Reg.DCH_TRAIN_FAIL_STEP c) = step.val := by
  have hword {f : Field} (hlo : f.lo < 32) (ha : f.addr = 0x40028 + 0x4000 * c) : (s.trainFails c step).get f =
      ((s.set (Reg.DCH_TRAIN_RESULT c) 4).set (Reg.DCH_TRAIN_FAIL_STEP c) step).get f :=
    State.get_trainFail_ne (key_ne_of_addr_ne hlo (by simp) (by simp; omega)) (key_ne_of_addr_ne hlo (by simp) (by simp; omega))
      (key_ne_of_addr_ne hlo (by simp) (by simp; omega)) _ _ _
  refine ⟨(hword (by simp) rfl).trans ?_, (hword (by simp) rfl).trans ?_⟩
  · exact (State.get_set_ne _ _ (key_ne_of_lo_ne (by decide))).trans (State.get_set_self _ _ _)
  · exact (State.get_set_self _ _ _).trans (Nat.mod_eq_of_lt (by have := step.isLt; simp; omega))

theorem State.noted_trainShown (s : State) (o : TrainOutcome) (seeded quick : Bool) :
    s.Noted DramCh.untrained (trainKeys c) c (s.trainShown c o seeded quick) := by
  unfold State.trainShown
  refine .set (.set (.ite (.raise (.refl s) _ _ _) (.refl s)) ?_ _) ?_ _ <;> simp [trainKeys]

theorem State.get_seeds (s : State) (c : Nat) (o : TrainOutcome) (quick : Bool) (f : Field) : (s.seeds c o quick).get f = s.get f := by
  cases quick <;> rfl

theorem State.noted_seeds (hc : c < 8) (s : State) (o : TrainOutcome) (quick : Bool) :
    s.Noted DramCh.untrained (trainKeys c) c (s.seeds c o quick) := by
  refine .ite (.refl s) (.updCh (.refl s) hc ?_)
  exact fun _ => rfl

theorem State.noted_trainPassed (hc : c < 8) (s : State) (o : TrainOutcome) (result : Nat) (quick : Bool) :
    s.Noted DramCh.untrained (trainKeys c) c (s.trainPassed c o result quick) := by
  have hset : s.Noted DramCh.untrained (trainKeys c) c ((s.set (Reg.DCH_TRAIN_RESULT c) result).setB (Reg.DCH_STAT_SEEDED c) quick) := by
    unfold State.setB
    refine .set (.set (.refl s) ?_ _) ?_ _ <;> simp [trainKeys]
  exact (hset.raise _ _ _).trans (State.noted_seeds hc _ o quick)

/-- What stands once a training has passed. -/
theorem State.trainPassed_outcome (hc : c < 8) (s : State) (o : TrainOutcome) (quick : Bool) {result : Nat} (hr : result < 16) :
    (s.trainPassed c o result quick).get (Reg.DCH_TRAIN_RESULT c) = result ∧
    (s.trainPassed c o result quick).get (Reg.DCH_STAT_SEEDED c) = bit quick ∧
    (s.trainPassed c o result quick).get (Reg.DCH_TRAIN_MARGIN c) = s.get (Reg.DCH_TRAIN_MARGIN c) ∧
    (quick = false → ((s.trainPassed c o result quick).ch c).seedNew.isSome = true) := by
  have hresult : (Reg.DCH_TRAIN_RESULT c).key ≠ (Reg.DCH_STAT_SEEDED c).key := key_ne_of_addr_ne (by simp) (by simp) (by simp)
  refine ⟨?_, ?_, ?_, fun h => ?_⟩
  · rw [State.trainPassed, State.get_seeds, State.raise_get, State.setB, State.get_set_ne _ _ hresult, State.get_set_self]
    exact Nat.mod_eq_of_lt hr
  · rw [State.trainPassed, State.get_seeds, State.raise_get, State.setB, State.get_set_self]
    cases quick <;> rfl
  · rw [State.trainPassed, State.get_seeds, State.raise_get, State.setB,
      State.get_set_ne _ _ (key_ne_of_addr_ne (by simp) (by simp) (by simp)), State.get_set_ne _ _ (key_ne_of_lo_ne (by decide))]
  · rw [State.trainPassed, h, State.seeds, if_neg Bool.false_ne_true, State.ch_updCh_self _ _ hc]
    rfl

/-- A channel but for its repairs and whether it is trained. -/
def DramCh.unended (x : DramCh) : DramCh := { x.unrepaired with trained := false }

/-- The registers of the end of a training: its repairs, and the state of a channel that they fail. -/
def endKeys (c : Nat) : List Nat := (Reg.DCH_STAT_FAIL_CAUSE c).key :: (Reg.DCH_STAT_STATE c).key :: (Reg.DCH_GEN_GEN c).key :: repairKeys c

theorem State.Noted.setChState {look : DramCh → DramCh} {keys : List Nat} (h : s.Noted look keys c t) {d : Nat}
    (hstate : (Reg.DCH_STAT_STATE d).key ∈ keys) (hgen : (Reg.DCH_GEN_GEN d).key ∈ keys) (st : Nat) :
    s.Noted look keys c (t.setChState d st) := by
  unfold State.setChState
  split
  · exact h
  · exact .raise (.set (.set h hstate _) hgen _) _ _ _

theorem repairKeys_sub_endKeys {k : Nat} (h : k ∈ repairKeys c) : k ∈ endKeys c :=
  List.mem_cons_of_mem _ (List.mem_cons_of_mem _ (List.mem_cons_of_mem _ h))

theorem State.noted_repaired (hc : c < 8) (s : State) (spares : List Bool) :
    s.Noted DramCh.unended (endKeys c) c (s.repaired c spares) := by
  have hrep := ((State.noted_repair hc s spares).mono fun _ => repairKeys_sub_endKeys).coarse DramCh.unended
    (look' := DramCh.unended) fun _ => rfl
  refine .ite (.setChState (hrep.set ?_ _) ?_ ?_ _) (hrep.updCh hc ?_)
  · exact List.mem_cons_self
  · simp [endKeys]
  · simp [endKeys]
  · exact fun _ => rfl

theorem State.chState_of_noted_repair {spares : List Bool} (hc : c < 8) (s : State) : (s.repair c spares).1.chState c = s.chState c :=
  (State.noted_repair hc s spares).get _ (by simp [repairKeys, Field.key]; omega)

/-- A channel whose repairs fail is FAILED with cause 6; another is trained. -/
theorem State.repaired_outcome (hc : c < 8) (s : State) (spares : List Bool) :
    ((s.repaired c spares).chState c = chFailed ∧ (s.repaired c spares).get (Reg.DCH_STAT_FAIL_CAUSE c) = 6) ∨
    ((s.repaired c spares).chState c = s.chState c ∧ ((s.repaired c spares).ch c).trained = true) := by
  unfold State.repaired
  split
  · refine .inl ⟨State.chState_setChState (by decide) _ c, ?_⟩
    exact (State.get_setChState_ne (key_ne_of_lo_ne (by decide)) (key_ne_of_addr_ne (by simp) (by simp) (by simp)) _ _).trans
      (State.get_set_self _ _ _)
  · refine .inr ⟨?_, ?_⟩
    · rw [State.chState, State.updCh_get]
      exact s.chState_of_noted_repair hc
    · rw [State.ch_updCh_self _ _ hc]

theorem State.repaired_nil (h : (s.ch c).pendingRows = []) (spares : List Bool) :
    s.repaired c spares = (s.showRepairs c).updCh c fun x => { x with trained := true } := by
  rw [State.repaired, State.repair_nil h]
  exact if_neg Bool.false_ne_true

theorem State.repaired_nil_outcome (hc : c < 8) (h : (s.ch c).pendingRows = []) (spares : List Bool) :
    (s.repaired c spares).chState c = s.chState c ∧ ((s.repaired c spares).ch c).trained = true ∧
    ((s.repaired c spares).ch c).retired = (s.ch c).retired := by
  have hstate : (s.showRepairs c).chState c = s.chState c :=
    State.noted_showRepairs s |>.get _ (by simp [repairKeys, Field.key]; omega)
  rw [State.repaired_nil h, State.ch_updCh_self _ _ hc]
  exact ⟨hstate, rfl, rfl⟩

/-! ### What follows the end (R149, R152) -/

/-- A channel that returns is zeroed once it is trained. -/
def State.zeroes (s : State) (c : Nat) : State :=
  if s.chState c = chReturning && (s.ch c).trained then
    s.updCh c fun x => { x with work := { x.work with
      jobs := x.work.jobs ++ [⟨.zero, none, (s.framesPerChannel - x.retired.length) * 65536⟩] } }
  else s

theorem exec_dramTrainingDone (hrun : s.running = true) (c : Fin 8) (h : s.chState c = chTraining ∨
    (s.chState c = chReturning ∧ (s.ch c).trained = false)) (o : TrainOutcome) :
    exec (.dramTrainingDone c o) s = .next ((s.trainEnd c o).zeroes c).updOffline :=
  (State.engines_of_running hrun).trans (if_pos (by simpa using h))

theorem exec_dramTrainingDone_none (hrun : s.running = true) (c : Fin 8) (h : s.chState c ≠ chTraining)
    (h' : ¬ (s.chState c = chReturning ∧ (s.ch c).trained = false)) (o : TrainOutcome) : exec (.dramTrainingDone c o) s = .next s :=
  (State.engines_of_running hrun).trans (if_neg (by simpa [h] using h'))

/-- A channel but for the work queued on it. -/
def DramCh.idle (x : DramCh) : DramCh := { x with work := .none }

/-- The close of a training: a returning channel's zeroing, and the mask of channels out of service. -/
theorem State.noted_close (hc : c < 8) (s : State) :
    s.Noted DramCh.idle [Reg.SCORE_STAT_OFFLINE_MASK.key] c (s.zeroes c).updOffline := by
  refine .set (.ite (.updCh (.refl s) hc ?_) (.refl s)) List.mem_cons_self _
  exact fun _ => rfl

theorem State.close_jobs (hc : c < 8) (hstate : s.chState c = chReturning) (htrained : (s.ch c).trained = true) :
    (((s.zeroes c).updOffline).ch c).work.jobs = (s.ch c).work.jobs ++
      [⟨.zero, none, (s.framesPerChannel - (s.ch c).retired.length) * 65536⟩] := by
  have hreturns : (s.chState c = chReturning && (s.ch c).trained) = true := by simp [hstate, htrained]
  rw [State.updOffline, State.set_ch, State.zeroes, if_pos hreturns, State.ch_updCh_self _ _ hc]

/-! ### The whole of a training that passes -/

theorem State.framesPerChannel_congr (hranks : t.get (Reg.DCH_STAT_RANKS 0) = s.get (Reg.DCH_STAT_RANKS 0))
    (hwidth : t.get (Reg.DCH_STAT_WIDTH 0) = s.get (Reg.DCH_STAT_WIDTH 0))
    (hdensity : t.get (Reg.DCH_STAT_DENSITY 0) = s.get (Reg.DCH_STAT_DENSITY 0)) : t.framesPerChannel = s.framesPerChannel := by
  rw [State.framesPerChannel, State.framesPerChannel, State.fpr, State.fpr, State.rowsPerBank, State.rowsPerBank, hranks, hwidth, hdensity]

/-- A training that passes, from its temperature read to its repairs. -/
def State.trainWhole (s : State) (c : Nat) (o : TrainOutcome) (seeded quick : Bool) (result : Nat) : State :=
  (((s.tempRead c (o.temp :: o.temps)).trainShown c o seeded quick).trainPassed c o result quick)

theorem State.noted_trainWhole (hc : c < 8) (s : State) (o : TrainOutcome) (seeded quick : Bool) (result : Nat) :
    s.Noted DramCh.untrained (tempKeys c ++ trainKeys c) c (s.trainWhole c o seeded quick result) :=
  ((State.noted_tempRead hc s _).mono fun _ => List.mem_append_left _).trans
    (((State.noted_trainShown _ o seeded quick).trans (State.noted_trainPassed hc _ o result quick)).mono fun _ =>
      List.mem_append_right _)

theorem State.trainWhole_outcome (hc : c < 8) (s : State) (o : TrainOutcome) (seeded quick : Bool) {result : Nat} (hr : result < 16) :
    (s.trainWhole c o seeded quick result).get (Reg.DCH_TRAIN_RESULT c) = result ∧
    (s.trainWhole c o seeded quick result).get (Reg.DCH_STAT_SEEDED c) = bit quick ∧
    (s.trainWhole c o seeded quick result).get (Reg.DCH_TRAIN_MARGIN c) = o.margin.val ∧
    (s.trainWhole c o seeded quick result).get (Reg.DCH_TEMP_VALID c) = 1 ∧
    (quick = false → ((s.trainWhole c o seeded quick result).ch c).seedNew.isSome = true) := by
  obtain ⟨h, hhot⟩ := hottest_cons o.temp o.temps
  obtain ⟨hvalid, -⟩ := State.tempRead_outcome hc hhot s
  have hshown := State.noted_trainShown (c := c) (s.tempRead c (o.temp :: o.temps)) o seeded quick
  have hmargin : ((s.tempRead c (o.temp :: o.temps)).trainShown c o seeded quick).get (Reg.DCH_TRAIN_MARGIN c) = o.margin.val :=
    (State.get_set_self _ _ _).trans (Nat.mod_eq_of_lt o.margin.isLt)
  unfold State.trainWhole
  generalize (s.tempRead c (o.temp :: o.temps)).trainShown c o seeded quick = u at hshown hmargin
  have hpassed := State.noted_trainPassed hc u o result quick
  obtain ⟨hresult, hseeded, hkeep, hseed⟩ := State.trainPassed_outcome hc u o quick hr
  have hno : (Reg.DCH_TEMP_VALID c).key ∉ trainKeys c := by
    simp [trainKeys, Field.key]
    omega
  exact ⟨hresult, hseeded, hkeep.trans hmargin, (hpassed.get _ hno).trans ((hshown.get _ hno).trans hvalid), hseed⟩

/-- What a passed training leaves, whatever its repairs. -/
theorem State.trained_outcome (hc : c < 8) (s : State) (o : TrainOutcome) (seeded quick : Bool) {result : Nat} (hr : result < 16)
    (ht : t = (((s.trainWhole c o seeded quick result).repaired c o.spares).zeroes c).updOffline) :
    t.get (Reg.DCH_TRAIN_RESULT c) = result ∧ t.get (Reg.DCH_STAT_SEEDED c) = bit quick ∧
    t.get (Reg.DCH_TRAIN_MARGIN c) = o.margin.val ∧ t.get (Reg.DCH_TEMP_VALID c) = 1 ∧
    (quick = false → (t.ch c).seedNew.isSome = true) ∧
    ((t.chState c = chFailed ∧ t.get (Reg.DCH_STAT_FAIL_CAUSE c) = 6) ∨ (t.chState c = s.chState c ∧ (t.ch c).trained = true)) ∧
    ((s.ch c).pendingRows = [] → t.chState c = s.chState c ∧ (t.ch c).trained = true ∧
      (s.chState c = chReturning → (t.ch c).work.jobs = (s.ch c).work.jobs ++
        [⟨.zero, none, (s.framesPerChannel - (s.ch c).retired.length) * 65536⟩])) := by
  obtain ⟨hresult, hseeded, hmargin, hvalid, hseed⟩ := State.trainWhole_outcome hc s o seeded quick hr
  have hwhole := State.noted_trainWhole hc s o seeded quick result
  generalize s.trainWhole c o seeded quick result = p at *
  have hend := State.noted_repaired hc p o.spares
  have halt := State.repaired_outcome hc p o.spares
  have hnil := fun h => State.repaired_nil_outcome (s := p) hc h o.spares
  generalize p.repaired c o.spares = r at *
  have hclose := State.noted_close hc r
  have hjobs := State.close_jobs (s := r) hc
  rw [← ht] at hclose hjobs
  have hget (a lo w : Nat) (hlo : lo < 32) (ha : 0x40000 ≤ a) : t.get ⟨a, lo, w⟩ = r.get ⟨a, lo, w⟩ :=
    hclose.get _ (by simp [Field.key]; omega)
  have hstate : p.chState c = s.chState c := hwhole.get _ (by simp [tempKeys, trainKeys, Field.key]; omega)
  have hstate' : t.chState c = r.chState c := hget _ _ _ (by decide) (by omega)
  have htrained : (t.ch c).trained = (r.ch c).trained := hclose.field DramCh.trained fun _ => rfl
  have hframes : r.framesPerChannel = s.framesPerChannel := by
    refine State.framesPerChannel_congr ?_ ?_ ?_ <;>
      exact (hend.get _ (by simp [endKeys, repairKeys, Field.key]; omega)).trans
        (hwhole.get _ (by simp [tempKeys, trainKeys, Field.key]; omega))
  refine ⟨?_, ?_, ?_, ?_, fun h => ?_, ?_, fun h => ?_⟩
  · exact (hget _ _ _ (by decide) (by omega)).trans ((hend.get _ (by simp [endKeys, repairKeys, Field.key]; omega)).trans hresult)
  · exact (hget _ _ _ (by decide) (by omega)).trans ((hend.get _ (by simp [endKeys, repairKeys, Field.key]; omega)).trans hseeded)
  · exact (hget _ _ _ (by decide) (by omega)).trans ((hend.get _ (by simp [endKeys, repairKeys, Field.key]; omega)).trans hmargin)
  · exact (hget _ _ _ (by decide) (by omega)).trans ((hend.get _ (by simp [endKeys, repairKeys, Field.key]; omega)).trans hvalid)
  · rw [hclose.field DramCh.seedNew fun _ => rfl, hend.field DramCh.seedNew fun _ => rfl]
    exact hseed h
  · rw [hstate', htrained, ← hstate, hget _ _ _ (by decide) (by omega)]
    exact halt
  · rw [← hwhole.field DramCh.pendingRows fun _ => rfl] at h
    obtain ⟨hsame, hdone, hretired⟩ := hnil h
    refine ⟨hstate'.trans (hsame.trans hstate), htrained.trans hdone, fun hret => ?_⟩
    rw [hjobs (hsame.trans (hstate.trans hret)) hdone, hframes, hretired, hwhole.field DramCh.retired fun _ => rfl,
      hend.field (fun x => x.work.jobs) fun _ => rfl, hwhole.field (fun x => x.work.jobs) fun _ => rfl]

/-- Settles O17: a training by its checks in their order, and a pending row by its spare and the frames it retires. -/
theorem dramTraining : Obligations.DramTraining := by
  unfold Obligations.DramTraining
  refine ⟨fun c o s hrun => ⟨fun h h' => exec_dramTrainingDone_none hrun c h h' o, fun h => ?_⟩,
    fun c e spare failed s => ⟨fun hspare => ?_, fun new hspare hnew => ?_⟩⟩
  · have hexec := exec_dramTrainingDone hrun c h o
    have hlt := c.isLt
    have hfailed {v : State} {cause detail : Nat} (hcause : cause < 16) :
        (((v.trainFail c cause detail).zeroes c).updOffline).chState c = chFailed ∧
        (((v.trainFail c cause detail).zeroes c).updOffline).get (Reg.DCH_STAT_FAIL_CAUSE c) = cause := by
      have hclose := State.noted_close hlt (v.trainFail c cause detail)
      obtain ⟨hstate, hget⟩ := v.trainFail_outcome c hcause detail
      exact ⟨(hclose.get _ (by simp [Field.key]; omega)).trans hstate, (hclose.get _ (by simp [Field.key]; omega)).trans hget⟩
    refine ⟨fun hspd => ?_, fun valid quick hspd hvalid hquick => ⟨fun hpass => ?_, fun hq hfull => ?_⟩⟩
    · rw [State.trainEnd_spd hspd] at hexec
      exact ⟨_, hexec, hfailed (by decide)⟩
    · rw [State.trainEnd_pass hspd hvalid hquick hpass] at hexec
      refine ⟨_, hexec, State.trained_outcome hlt s o valid quick ?_ rfl⟩
      cases quick <;> cases valid <;> decide
    · rw [State.trainEnd_fail hspd hvalid hquick hq hfull] at hexec
      obtain ⟨hresult, hstep⟩ := State.trainFails_outcome ((s.tempRead c (o.temp :: o.temps)).trainShown c o valid quick) c o.failStep
      have hclose := State.noted_close hlt ((((s.tempRead c (o.temp :: o.temps)).trainShown c o valid quick).trainFails c o.failStep))
      obtain ⟨hstate, hcause⟩ := hfailed (v := (((s.tempRead c (o.temp :: o.temps)).trainShown c o valid quick).set
        (Reg.DCH_TRAIN_RESULT c) 4).set (Reg.DCH_TRAIN_FAIL_STEP c) o.failStep) (cause := 1) (detail := o.failStep) (by decide)
      exact ⟨_, hexec, (hclose.get _ (by simp [Field.key]; omega)).trans hresult,
        (hclose.get _ (by simp [Field.key]; omega)).trans hstep, hstate, hcause⟩
  · subst hspare
    refine ⟨_, State.repairRow_spare s c e failed, ?_, ?_, get_count_once _ _, rfl⟩
    · rw [State.raise_ch, State.count_ch, State.rowSettled, State.ch_updCh_self _ _ c.isLt]
    · rw [State.raise_ch, State.count_ch, State.rowSettled, State.ch_updCh_self _ _ c.isLt]
  · subst hspare hnew
    refine ⟨fun h => ⟨_, State.repairRow_retire h failed, ?_, ?_, rfl⟩, fun h => State.repairRow_past h failed⟩
    · rw [State.ch_rowRetired c.isLt]
    · rw [State.ch_rowRetired c.isLt]
      rfl

end Sys2Proof.Machine
end

section
/-! PROOFS. The CXL mailbox: the shutdown state, poison, health and event logs of an LD (R133, R161, R166, R187 to R189, R192, R420). -/

namespace Sys2Proof.Machine

variable {s : State} {port : Fin 4} {ld : Fin 16}

/-! ### An LD that exists, and one that does not (R166) -/

/-- The mailbox answers an LD. -/
def State.mailboxed (s : State) (port : Fin 4) (ld : Fin 16) (code : Nat) (data : List Byte) : State :=
  s.send (.mailbox port ld code data)

theorem exec_setShutdownState (hon : s.on = true) (hld : s.ldExists port ld = true) (v : Bool) : exec (.setShutdownState port ld v) s =
    .next ((s.prsPut 5 0 s.keystoneSeq (withBit s.flash.ldShutdown (s.ldIndex port ld) v)).mailboxed port ld mbOk []) :=
  (s.powered_of_on hon).trans (if_pos hld)

theorem exec_setShutdownState_noLd (hon : s.on = true) (hld : s.ldExists port ld = false) (v : Bool) :
    exec (.setShutdownState port ld v) s = .next (s.mailboxed port ld mbInvalid []) :=
  (s.powered_of_on hon).trans (if_neg (ne_true_of_eq_false hld))

theorem exec_getPoisonList_noLd (hon : s.on = true) (hld : s.ldExists port ld = false) (dpa len : Nat) :
    exec (.getPoisonList port ld dpa len) s = .next (s.mailboxed port ld mbInvalid []) :=
  (s.powered_of_on hon).trans (if_neg (ne_true_of_eq_false hld))

theorem exec_getHealthInfo_noLd (hon : s.on = true) (hld : s.ldExists port ld = false) :
    exec (.getHealthInfo port ld) s = .next (s.mailboxed port ld mbInvalid []) :=
  (s.powered_of_on hon).trans (if_pos (by rw [hld]; rfl))

theorem exec_cdatRead (hon : s.on = true) :
    exec (.cdatRead port ld) s = .next (s.send (.port port ld (if s.ldExists port ld then s.cdat port ld else []))) :=
  s.powered_of_on hon

theorem exec_clearEventRecords (hon : s.on = true) (hld : s.ldExists port ld = true) (log : CxlLogId) (n : Nat) :
    exec (.clearEventRecords port ld log n) s = .next ((s.clearLog port ld log n).mailboxed port ld mbOk []) :=
  (s.powered_of_on hon).trans (if_pos hld)

theorem exec_clearEventRecords_noLd (hon : s.on = true) (hld : s.ldExists port ld = false) (log : CxlLogId) (n : Nat) :
    exec (.clearEventRecords port ld log n) s = .next (s.mailboxed port ld mbInvalid []) :=
  (s.powered_of_on hon).trans (if_neg (ne_true_of_eq_false hld))

/-! ### The shutdown state (R192, R420) -/

theorem State.prsPut_none (h : s.prsPlace = none) (kind cause seq lds : Nat) : s.prsPut kind cause seq lds = s := by
  unfold State.prsPut
  rw [h]

/-- The ring's sector is made ready for an entry at its first position. -/
def State.prsReady (s : State) (i : Nat) : State := if i % 64 = 0 then s.eraseNow (4102 + i / 64) else s

/-- A new entry of the persistence record changes flash alone, and the shutdown states are those it carries. -/
theorem State.prsPut_outcome {i : Nat} (h : s.prsPlace = some i) (kind cause seq lds : Nat) :
    s.onlyFlash (s.prsPut kind cause seq lds) ∧ (s.prsPut kind cause seq lds).flash.ldShutdown = lds ∧
    (s.prsPut kind cause seq lds).flash.prsSeq = s.flash.prsSeq + 1 := by
  have hready : s.onlyFlash (s.prsReady i) := by
    unfold State.prsReady
    split
    · exact State.onlyFlash_eraseNow s _
    · exact State.onlyFlash_refl s
  have hput : s.prsPut kind cause seq lds = (((s.prsReady i).flashPut (prsAt i) (prsBytes (s.flash.prsSeq + 1) kind cause lds
      ((s.prsReady i).get Reg.TILE_DSC_COUNT) seq ((s.prsReady i).get Reg.OP_SECONDS_SECONDS)
      ((s.prsReady i).get Reg.PWR_CYCLES_CYCLES))).flashPut (prsAt i + 0x38) donePrs).updFlash fun x =>
        { x with prsPos := (i + 1) % 512, prsSeq := s.flash.prsSeq + 1, ldShutdown := lds } := by
    unfold State.prsPut
    rw [h]
    rfl
  rw [hput]
  exact ⟨State.onlyFlash_trans hready (State.onlyFlash_trans (State.onlyFlash_updFlash _ _)
    (State.onlyFlash_trans (State.onlyFlash_updFlash _ _) (State.onlyFlash_updFlash _ _))), rfl, rfl⟩

/-! ### Poison (R133, R161, R189) -/

/-- The ranges of an LD's poison list that meet the one asked for. -/
def State.poisonHits (s : State) (port : Fin 4) (ld : Fin 16) (dpa len : Nat) : List (Nat × Nat) :=
  (s.poisonList port ld).filter fun e => decide (e.1 < dpa + len) && decide (dpa < e.1 + e.2)

theorem exec_getPoisonList (hon : s.on = true) (hld : s.ldExists port ld = true) (dpa len : Nat) :
    exec (.getPoisonList port ld dpa len) s = .next (s.mailboxed port ld mbOk
      (leBytes 2 (min 256 (s.poisonHits port ld dpa len).length) ++ leBytes 1 (bit (decide (256 < (s.poisonHits port ld dpa len).length)))
        ++ ((s.poisonHits port ld dpa len).take 256).flatMap fun e => leBytes 8 e.1 ++ leBytes 4 e.2)) := by
  rw [← List.length_take]
  exact (s.powered_of_on hon).trans (if_pos hld)

section Poison

variable {dpa f i : Nat}

theorem exec_poison_forbidden (hon : s.on = true) (h : s.poisonAllowed port = false) :
    exec (.injectPoison port ld dpa) s = .next (s.mailboxed port ld mbUnsupported []) ∧
    ∀ data, exec (.clearPoison port ld dpa data) s = .next (s.mailboxed port ld mbUnsupported []) := by
  have hno : (!s.poisonAllowed port) = true := by rw [h]; rfl
  exact ⟨(s.powered_of_on hon).trans (if_pos hno), fun _ => (s.powered_of_on hon).trans (if_pos hno)⟩

theorem exec_poison_noLine (hon : s.on = true) (h : s.poisonAllowed port = true) (hline : s.lineOfDpa port ld dpa = none) :
    exec (.injectPoison port ld dpa) s = .next (s.mailboxed port ld mbInvalid []) ∧
    ∀ data, exec (.clearPoison port ld dpa data) s = .next (s.mailboxed port ld mbInvalid []) := by
  have hno : ¬ (!s.poisonAllowed port) = true := by simp [h]
  refine ⟨(s.powered_of_on hon).trans ((if_neg hno).trans ?_), fun _ => (s.powered_of_on hon).trans ((if_neg hno).trans ?_)⟩
  · rw [hline]
    rfl
  · rw [hline]
    rfl

theorem exec_injectPoison (hon : s.on = true) (h : s.poisonAllowed port = true) (hline : s.lineOfDpa port ld dpa = some (f, i)) :
    exec (.injectPoison port ld dpa) s = .next ((s.mark (f % 8) f i).mailboxed port ld mbOk []) := by
  refine (s.powered_of_on hon).trans ((if_neg (by simp [h])).trans ?_)
  rw [hline]
  rfl

/-- A marker is set, counted and told. -/
theorem State.mark_outcome (s : State) (c f i : Nat) : (s.mark c f i).poisoned f i = true ∧ (s.mark c f i).dram.bytes = s.dram.bytes ∧
    (s.mark c f i).get (Reg.DCH_ECC_UE_MARKS c) =
      min (s.get (Reg.DCH_ECC_UE_MARKS c) + 1) (2 ^ (Reg.DCH_ECC_UE_MARKS c).width - 1) ∧
    (∃ e ∈ (s.mark c f i).raised, e.src = srcDram c 2) ∧ (s.mark c f i).outs = s.outs :=
  ⟨Store.get_set_self false true _ _, rfl, get_count_once (s.setPoison f i true) (Reg.DCH_ECC_UE_MARKS c),
    ⟨_, List.mem_append_right _ List.mem_cons_self, rfl⟩, rfl⟩

/-- A line whose marker goes is stored, and its tile counts as written. -/
def State.unmarked (s : State) (f i tile : Nat) (data : List Byte) : State :=
  let s := (s.setPoison f i false).writeFrame f (i * 64) (mergeLine [] data (List.replicate 64 true))
  if decide (s.code tile ≤ 9) then (s.moveCode tile (s.hotCode tile)).staleFlight tile else s

theorem exec_clearPoison {tile : Nat} (hon : s.on = true) (h : s.poisonAllowed port = true)
    (hline : s.lineOfDpa port ld dpa = some (f, i)) (htile : s.tileOfFrame f = some tile) (data : List Byte) :
    exec (.clearPoison port ld dpa data) s = .next ((s.unmarked f i tile data).mailboxed port ld mbOk []) := by
  refine (s.powered_of_on hon).trans ((if_neg (by simp [h])).trans ?_)
  simp only [hline, Option.map_some, Option.getD_some, htile]
  rfl

theorem mergeLine_all {data : List Byte} (h : data.length = 64) : mergeLine [] data (List.replicate 64 true) = data := by
  refine List.ext_getElem (by simp [mergeLine, h]) fun k hk hk' => ?_
  have hk64 : k < 64 := by omega
  have hmask : (List.replicate 64 true).getD k false = true := by
    rw [List.getD_eq_getElem _ _ (by rwa [List.length_replicate]), List.getElem_replicate]
  simp only [mergeLine, List.getElem_map, List.getElem_range, hmask, if_true, List.getD_eq_getElem _ _ hk']

theorem State.unmarked_outcome (s : State) (f i tile : Nat) {data : List Byte} (h : data.length = 64) :
    (s.unmarked f i tile data).poisoned f i = false ∧ (s.unmarked f i tile data).readLine f i = data ∧
    (s.unmarked f i tile data).outs = s.outs := by
  have hwritten : ∃ u : State, s.unmarked f i tile data = u ∧
      u.dram = ((s.setPoison f i false).writeFrame f (i * 64) data).dram ∧ u.outs = s.outs := by
    refine ⟨_, rfl, ?_⟩
    unfold State.unmarked
    rw [mergeLine_all h]
    dsimp only
    split
    · obtain ⟨_, _, hmove⟩ := ((s.setPoison f i false).writeFrame f (i * 64) data).moveCode_frame tile
        (((s.setPoison f i false).writeFrame f (i * 64) data).hotCode tile)
      rw [hmove]
      exact ⟨rfl, rfl⟩
    · exact ⟨rfl, rfl⟩
  obtain ⟨u, heq, hdram, houts⟩ := hwritten
  rw [heq, State.poisoned, State.readLine, hdram]
  exact ⟨Store.get_set_self false false _ _, State.readLine_writeFrame h _, houts⟩

end Poison

/-! ### Health (R189) -/

/-- The health information of the device. -/
def State.healthInfo (s : State) : List Byte :=
  leBytes 4 (s.get Reg.TILE_DSC_COUNT) ++ leBytes 1 (bit s.assured) ++ leBytes 1 (s.get Reg.TILE_STAT_CAUSE)
    ++ leBytes 1 (s.get Reg.DECK_LIFE_USED_PCT) ++ leBytes 1 (s.get Reg.PACK_EFC_LIFE_PCT)

theorem exec_getHealthInfo (hon : s.on = true) (hld : s.ldExists port ld = true) :
    exec (.getHealthInfo port ld) s = .next (s.mailboxed port ld mbOk s.healthInfo) :=
  (s.powered_of_on hon).trans (if_neg (by simp [hld]))

theorem State.healthInfo_fields (s : State) : leAt s.healthInfo 0 4 = s.get Reg.TILE_DSC_COUNT % 2 ^ 32 ∧
    leAt s.healthInfo 4 1 = bit s.assured ∧ leAt s.healthInfo 6 1 = s.get Reg.DECK_LIFE_USED_PCT % 256 ∧
    leAt s.healthInfo 7 1 = s.get Reg.PACK_EFC_LIFE_PCT % 256 := by
  have hbit : bit s.assured % 256 = bit s.assured := by cases s.assured <;> rfl
  unfold State.healthInfo
  rw [← List.append_nil (leBytes 1 (s.get Reg.PACK_EFC_LIFE_PCT))]
  simp only [List.append_assoc]
  refine ⟨leAt_leBytes_append _ _ _, ?_, ?_, ?_⟩
  · rw [leAt_leBytes_append_right _ _ (by decide), leAt_leBytes_append, Nat.pow_one, hbit]
  · rw [leAt_leBytes_append_right _ _ (by decide), leAt_leBytes_append_right _ _ (by decide),
      leAt_leBytes_append_right _ _ (by decide), leAt_leBytes_append, Nat.pow_one]
  · rw [leAt_leBytes_append_right _ _ (by decide), leAt_leBytes_append_right _ _ (by decide),
      leAt_leBytes_append_right _ _ (by decide), leAt_leBytes_append_right _ _ (by decide), leAt_leBytes_append, Nat.pow_one]

/-! ### Event logs (R188) -/

/-- Keeping the others and then some of one's own keeps those of one's own. -/
theorem filter_others_append {α : Type} (p : α → Bool) (l keep : List α) (h : ∀ x ∈ keep, p x = true) :
    (l.filter (fun x => !p x) ++ keep).filter p = keep ∧
    (l.filter (fun x => !p x) ++ keep).filter (fun x => !p x) = l.filter fun x => !p x := by
  have hself : keep.filter p = keep := List.filter_eq_self.mpr h
  have hnone : keep.filter (fun x => !p x) = [] := List.filter_eq_nil_iff.mpr fun x hx => by simp [h x hx]
  rw [List.filter_append, List.filter_append, List.filter_filter, List.filter_filter, hself, hnone]
  simp

theorem State.clearLog_outcome (s : State) (port : Fin 4) (ld : Fin 16) (log : CxlLogId) (n : Nat) :
    Store.get 0 (s.clearLog port ld log n).cxl.overflow (logKey port ld log) = 0 ∧
    ((s.clearLog port ld log n).cxl.logs.filter fun x => x.port = port.val && x.ld = ld.val && x.log = log) =
      (s.cxl.logs.filter fun x => x.port = port.val && x.ld = ld.val && x.log = log).drop n ∧
    ((s.clearLog port ld log n).cxl.logs.filter fun x => !(x.port = port.val && x.ld = ld.val && x.log = log)) =
      (s.cxl.logs.filter fun x => !(x.port = port.val && x.ld = ld.val && x.log = log)) ∧
    (s.clearLog port ld log n).outs = s.outs ∧ { s.clearLog port ld log n with cxl := s.cxl } = s := by
  obtain ⟨hmine, hothers⟩ := filter_others_append (fun x : LogEntry => x.port = port.val && x.ld = ld.val && x.log = log) s.cxl.logs
    ((s.cxl.logs.filter fun x => x.port = port.val && x.ld = ld.val && x.log = log).drop n)
    fun x hx => (List.mem_filter.mp (List.mem_of_mem_drop hx)).2
  exact ⟨Store.get_set_self 0 0 _ _, hmine, hothers, rfl, rfl⟩

/-- Settles O30: each command by its LD, its privilege and the line or log it names. -/
theorem cxlMailboxCommands : Obligations.CxlMailboxCommands := by
  unfold Obligations.CxlMailboxCommands
  intro port ld s hon
  refine ⟨fun hno => ⟨fun v => exec_setShutdownState_noLd hon hno v, fun dpa len => exec_getPoisonList_noLd hon hno dpa len,
      exec_getHealthInfo_noLd hon hno, ?_, fun log n => exec_clearEventRecords_noLd hon hno log n⟩,
    fun v hld => ⟨fun hplace => ?_, fun i hplace => ?_⟩,
    fun dpa len hld => ⟨_, exec_getPoisonList hon hld dpa len, rfl⟩,
    fun dpa => ⟨fun h => exec_poison_forbidden hon h, fun h hline => exec_poison_noLine hon h hline,
      fun f i h hline => ⟨?_, fun data tile hlen htile => ?_⟩⟩,
    fun hld => ⟨_, exec_getHealthInfo hon hld, s.healthInfo_fields⟩, fun hld => ?_, fun log n hld => ?_⟩
  · rw [exec_cdatRead hon, if_neg (ne_true_of_eq_false hno)]
  · rw [exec_setShutdownState hon hld, State.prsPut_none hplace]
    rfl
  · obtain ⟨⟨hframe, hget⟩, hlds, hseq⟩ := State.prsPut_outcome hplace 5 0 s.keystoneSeq
      (withBit s.flash.ldShutdown (s.ldIndex port ld) v)
    have hexec := exec_setShutdownState hon hld v
    generalize s.prsPut 5 0 s.keystoneSeq (withBit s.flash.ldShutdown (s.ldIndex port ld) v) = u at hframe hget hlds hseq hexec
    refine ⟨_, hexec, hlds, hseq, hget _ (by decide), ?_, ?_, ?_⟩
    · rw [← congrArg State.outs hframe]
      rfl
    · rw [← congrArg State.dram hframe]
      rfl
    · rw [← congrArg State.tile hframe]
      rfl
  · obtain ⟨hmark, hbytes, hcount, hraised, houts⟩ := s.mark_outcome (f % 8) f i
    have hexec := exec_injectPoison hon h hline
    generalize s.mark (f % 8) f i = u at *
    exact ⟨_, hexec, hmark, hbytes, hcount, hraised, by rw [State.mailboxed, State.send_outs, houts]⟩
  · obtain ⟨hclear, hread, houts⟩ := s.unmarked_outcome f i tile hlen
    have hexec := exec_clearPoison hon h hline htile data
    generalize s.unmarked f i tile data = u at hclear hread houts hexec
    exact ⟨_, hexec, hclear, hread, by rw [State.mailboxed, State.send_outs, houts]⟩
  · rw [exec_cdatRead hon, if_pos hld]
  · obtain ⟨hover, hmine, hothers, houts, hframe⟩ := s.clearLog_outcome port ld log n
    have hexec := exec_clearEventRecords hon hld log n
    generalize s.clearLog port ld log n = u at *
    refine ⟨_, hexec, hover, hmine, hothers, ?_, ?_⟩
    · rw [State.mailboxed, State.send_outs, houts]
    · rw [← houts]
      exact hframe

end Sys2Proof.Machine
end

section
/-! PROOFS. The lines that a read of the copy engine met with errors: what they change, which of them are kept for a marker, and the
bytes that are read all the same (R131, R134, R208). -/

namespace Sys2Proof.Machine

variable {s t u : State} {c f : Nat}

/-! ### The errors of a frame's read -/

/-- One line of such a read. -/
def readError (x8 : Bool) (f : Nat) (who : Requester) (st : State × List (Nat × List Byte)) (e : Fin 1024 × LineRead) :
    State × List (Nat × List Byte) :=
  if st.1.poisoned f e.1 then st else match e.2.decode x8 with
    | .clean => st
    | .corrected d => (st.1.correctable (f % 8) f e.1 d (e.2.kept x8), st.2)
    | .uncorrectable => (st.1.uncorrectable (f % 8) f e.1 who, st.2 ++ [(e.1.val, e.2.kept x8)])

theorem State.readErrors_eq (s : State) (f : Nat) (who : Requester) (l : List (Fin 1024 × LineRead)) :
    s.readErrors f who l = l.foldl (readError (s.x8 (f % 8)) f who) (s, []) := rfl

/-- Is a line found uncorrectable that carries no marker? -/
def State.lineFails (s : State) (x8 : Bool) (f : Nat) (e : Fin 1024 × LineRead) : Bool :=
  !(s.poisoned f e.1) && decide (e.2.decode x8 = .uncorrectable)

theorem State.lineFails_iff {x8 : Bool} {e : Fin 1024 × LineRead} :
    s.lineFails x8 f e = true ↔ s.poisoned f e.1 = false ∧ e.2.decode x8 = .uncorrectable := by
  simp [State.lineFails]

theorem State.lineFails_congr {x8 : Bool} (h : t.dram.poison = s.dram.poison) (e : Fin 1024 × LineRead) :
    t.lineFails x8 f e = s.lineFails x8 f e := by
  rw [State.lineFails, State.lineFails, State.poisoned, State.poisoned, h]

theorem noted_readError (x8 : Bool) (f : Nat) (who : Requester) (st : State × List (Nat × List Byte)) (e : Fin 1024 × LineRead) :
    st.1.Noted DramCh.bare (errorKeys (f % 8)) (f % 8) (readError x8 f who st e).1 := by
  have hc : f % 8 < 8 := Nat.mod_lt _ (by decide)
  unfold readError
  split
  · exact .refl _
  · split
    · exact .refl _
    · dsimp only
      exact State.errs_correctable hc _ _ _
    · refine (State.errs_uncorrectable hc _ _ _).coarse DramCh.bare ?_
      exact fun _ => rfl

theorem readError_lines (x8 : Bool) (f : Nat) (who : Requester) (st : State × List (Nat × List Byte)) (e : Fin 1024 × LineRead) :
    (readError x8 f who st e).2 = st.2 ++ if st.1.lineFails x8 f e = true then [(e.1.val, e.2.kept x8)] else [] := by
  unfold readError
  by_cases hp : st.1.poisoned f e.1 = true
  · have hno : ¬ st.1.lineFails x8 f e = true := fun h => by simp [State.lineFails_iff.mp h] at hp
    rw [if_pos hp, if_neg hno, List.append_nil]
  · rw [if_neg hp]
    cases he : e.2.decode x8 with
    | clean => simp [State.lineFails, he]
    | corrected d => simp [State.lineFails, he]
    | uncorrectable => simp [State.lineFails, he, hp]

/-- The reads of a frame note their errors, and the lines that fail are kept in order. -/
theorem State.readErrors_outcome (s : State) (f : Nat) (who : Requester) (l : List (Fin 1024 × LineRead)) :
    s.Noted DramCh.bare (errorKeys (f % 8)) (f % 8) (s.readErrors f who l).1 ∧
    (s.readErrors f who l).2 = (l.filter (s.lineFails (s.x8 (f % 8)) f)).map fun e => (e.1.val, e.2.kept (s.x8 (f % 8))) := by
  have hfold : ∀ (l : List (Fin 1024 × LineRead)) (st : State × List (Nat × List Byte)) (x8 : Bool),
      st.1.Noted DramCh.bare (errorKeys (f % 8)) (f % 8) (l.foldl (readError x8 f who) st).1 ∧
      (l.foldl (readError x8 f who) st).2 = st.2 ++ (l.filter (st.1.lineFails x8 f)).map fun e => (e.1.val, e.2.kept x8) := by
    intro l
    induction l with
    | nil => exact fun st _ => ⟨.refl _, (List.append_nil _).symm⟩
    | cons e l ih =>
      intro st x8
      have hstep := noted_readError x8 f who st e
      obtain ⟨hnoted, hlines⟩ := ih (readError x8 f who st e) x8
      have hsame : (readError x8 f who st e).1.lineFails x8 f = st.1.lineFails x8 f :=
        funext fun e' => State.lineFails_congr hstep.poison e'
      refine ⟨hstep.trans hnoted, ?_⟩
      rw [List.foldl_cons, hlines, readError_lines, hsame, List.filter_cons]
      split <;> simp
  rw [State.readErrors_eq]
  exact hfold l (s, []) (s.x8 (f % 8))

/-! ### The lines that wait for a marker -/

/-- Lines of a frame that wait for their marker. -/
def State.wantMarks (s : State) (f : Nat) (l : List (Nat × List Byte)) : State :=
  s.each l fun s e => s.wantMark (f % 8) f e.1 none e.2

theorem State.noted_wantMarks (s : State) (f : Nat) (l : List (Nat × List Byte)) :
    s.Noted DramCh.bare [] (f % 8) (s.wantMarks f l) :=
  State.each_related State.Noted.refl State.Noted.trans
    (fun s e => State.noted_wantMark (Nat.mod_lt _ (by decide)) s f e.1 none e.2) l s

theorem State.wantMark_keeps (hc : c < 8) {x : LineRef} (h : x ∈ (s.ch c).marks) (f i : Nat) (port : Option (Fin 4)) (data : List Byte) :
    x ∈ ((s.wantMark c f i port data).ch c).marks := by
  unfold State.wantMark
  split
  · exact h
  · rw [State.ch_updCh_self _ _ hc]
    exact List.mem_append_left _ h

theorem State.wantMarks_keeps {x : LineRef} (l : List (Nat × List Byte)) (h : x ∈ (s.ch (f % 8)).marks) :
    x ∈ ((s.wantMarks f l).ch (f % 8)).marks := by
  induction l generalizing s with
  | nil => exact h
  | cons e l ih => exact ih (State.wantMark_keeps (Nat.mod_lt _ (by decide)) h f e.1 none e.2)

theorem State.wantMarks_has {l : List (Nat × List Byte)} {e : Nat × List Byte} (h : e ∈ l) (s : State) :
    ∃ x ∈ ((s.wantMarks f l).ch (f % 8)).marks, x.frame = f ∧ x.line = e.1 := by
  obtain ⟨before, after, rfl⟩ := List.append_of_mem h
  obtain ⟨x, hx, hline⟩ := State.wantMark_has (Nat.mod_lt f (by decide)) (s.wantMarks f before) f e.1 none e.2
  refine ⟨x, ?_, hline⟩
  rw [State.wantMarks, State.each, List.foldl_append, List.foldl_cons]
  exact State.wantMarks_keeps after hx

/-! ### What is read all the same (R208) -/

/-- The same bytes and markers in DRAM, and the same relocation copies. -/
structure State.SameStore (s t : State) : Prop where
  bytes : t.dram.bytes = s.dram.bytes
  poison : t.dram.poison = s.dram.poison
  copying : ∀ d < 8, (t.ch d).copying = (s.ch d).copying

theorem State.SameStore.buffered (h : s.SameStore t) (f i : Nat) : t.buffered f i = s.buffered f i := by
  have hfind : ∀ l : List Nat, (∀ d ∈ l, d < 8) → (l.findSome? fun c => (t.ch c).copying.bind fun k =>
      if k.dst = f then (k.buf.find? (·.line = i)).map fun x => (c, x) else none) =
      l.findSome? fun c => (s.ch c).copying.bind fun k =>
        if k.dst = f then (k.buf.find? (·.line = i)).map fun x => (c, x) else none := by
    intro l hl
    induction l with
    | nil => rfl
    | cons d l ih =>
      rw [List.findSome?_cons, List.findSome?_cons, h.copying d (hl d List.mem_cons_self),
        ih fun e he => hl e (List.mem_cons_of_mem _ he)]
  exact hfind channels fun d hd => State.mem_channels.mp hd

theorem State.buffered_channel {i d : Nat} {x : CopiedLine} (h : s.buffered f i = some (d, x)) : d < 8 := by
  obtain ⟨e, he, hfound⟩ := List.exists_of_findSome?_eq_some h
  obtain ⟨k, -, hk⟩ := Option.bind_eq_some_iff.mp hfound
  split at hk
  · obtain ⟨_, -, hpair⟩ := Option.map_eq_some_iff.mp hk
    obtain rfl := (Prod.mk.inj hpair).1
    exact State.mem_channels.mp he
  · cases hk

theorem State.SameStore.writeHostLine (h : s.SameStore t) (f i : Nat) (data : List Byte) (mask : List Bool) :
    (s.writeHostLine f i data mask).SameStore (t.writeHostLine f i data mask) := by
  obtain ⟨hbytes, hpoison, hcopy⟩ := h
  have hmarked : t.poisoned f i = s.poisoned f i := by rw [State.poisoned, State.poisoned, hpoison]
  have hline : t.readLine f i = s.readLine f i := by rw [State.readLine, State.readLine, hbytes]
  unfold State.writeHostLine
  dsimp only
  rw [hmarked, hline]
  split
  · exact ⟨hbytes, hpoison, hcopy⟩
  · refine ⟨?_, ?_, hcopy⟩
    · exact congrArg (fun b => Store.setRange 0#8 b _ _) hbytes
    · exact congrArg (fun b => Store.set false b _ false) hpoison

theorem State.SameStore.landWrite (h : s.SameStore t) (r : HostReq) : (s.landWrite r).SameStore (t.landWrite r) := by
  unfold State.landWrite
  rw [h.buffered]
  cases hb : s.buffered r.frame r.line with
  | none => exact h.writeHostLine _ _ _ _
  | some x =>
    obtain ⟨d, x⟩ := x
    dsimp only
    refine State.SameStore.writeHostLine ?_ _ _ _ _
    have hd := State.buffered_channel hb
    have hwritten : ((s.updReloc d fun k => { k with buf := k.buf.filter (·.line ≠ r.line) }).writeFrame r.frame (r.line * 64)
        x.bytes).SameStore ((t.updReloc d fun k => { k with buf := k.buf.filter (·.line ≠ r.line) }).writeFrame r.frame (r.line * 64)
        x.bytes) := by
      refine ⟨congrArg (fun b => Store.setRange 0#8 b _ _) h.bytes, h.poison, fun e he => ?_⟩
      have hcopy (u : State) : (((u.updReloc d fun k => { k with buf := k.buf.filter (·.line ≠ r.line) }).writeFrame r.frame
          (r.line * 64) x.bytes).ch e).copying = if e = d then (u.ch d).copying.map fun k =>
            { k with buf := k.buf.filter (·.line ≠ r.line) } else (u.ch e).copying := by
        have hch : ((u.updReloc d fun k => { k with buf := k.buf.filter (·.line ≠ r.line) }).writeFrame r.frame (r.line * 64)
          x.bytes).ch e = (u.updReloc d fun k => { k with buf := k.buf.filter (·.line ≠ r.line) }).ch e := rfl
        rw [hch, State.updReloc]
        split_ifs with hde
        · rw [hde, State.ch_updCh_self _ _ hd]
        · rw [State.ch_updCh_ne _ _ he hde]
      rw [hcopy, hcopy, h.copying d hd, h.copying e he]
    split
    · exact ⟨hwritten.bytes, congrArg (fun b => Store.set false b _ true) hwritten.poison, hwritten.copying⟩
    · exact hwritten

theorem State.SameStore.landWrites (h : s.SameStore t) (l : List HostReq) :
    (s.each l State.landWrite).SameStore (t.each l State.landWrite) := by
  induction l generalizing s t with
  | nil => exact h
  | cons r l ih => exact ih (h.landWrite r)

/-- What is noted of a read's errors does not change what it read. -/
theorem State.Noted.readTile {keys : List Nat} (h : s.Noted DramCh.bare keys (f % 8) t)
    (hcycles : Reg.PWR_CYCLES_CYCLES.key ∉ keys) (tile : Nat) : t.readTile tile f = s.readTile tile f := by
  have hc : f % 8 < 8 := Nat.mod_lt _ (by decide)
  have hstore : s.SameStore t := ⟨h.bytes, h.poison, fun d hd => by
    obtain rfl | hne := eq_or_ne d (f % 8)
    · exact h.field DramCh.copying fun _ => rfl
    · exact congrArg DramCh.copying (h.other d hd hne)⟩
  have hreqs : (t.ch (f % 8)).reqs = (s.ch (f % 8)).reqs := h.field DramCh.reqs fun _ => rfl
  have hlanded := hstore.landWrites ((s.ch (f % 8)).reqs.filter fun r => r.write && r.frame = f)
  have hdeck : t.deck = s.deck := by
    obtain ⟨_, _, _, _, rfl⟩ := h.rest
    rfl
  have hsave : t.save = s.save := by
    obtain ⟨_, _, _, _, rfl⟩ := h.rest
    rfl
  have hseq : t.nextSeq = s.nextSeq := by rw [State.nextSeq, State.nextSeq, h.get _ hcycles, hdeck]
  simp only [State.readTile, State.landed, hreqs, hseq, hsave, hlanded.bytes, hlanded.poison]

end Sys2Proof.Machine
end

section
/-! PROOFS. Cooling epochs, the cooling sweep, selection and copy reads (R134, R198, R200, R203, R204, R207, R208, R210, R211). -/

namespace Sys2Proof.Machine

variable {s t u : State}

/-! ### The epoch boundary (R204) -/

/-- An epoch boundary is due. -/
def State.epochDue (s : State) : Bool :=
  s.atDownbeat && s.bar % (256 * max 1 (s.get Reg.TILE_COOL_EPOCH_PHRASES)) = 0 && s.tile.epochAt ≠ s.bar

theorem exec_coolingEpochBoundary (hrun : s.running = true) :
    exec .coolingEpochBoundary s = if s.epochDue then .next s.epochBoundary else .next s := State.engines_of_running hrun

/-- The epoch counts and is told. -/
def State.epochCounted (s : State) : State :=
  let s := (s.bump Reg.TILE_COOL_EPOCH_EPOCHS).updTile fun x => { x with epochAt := s.bar }
  s.raise 0x14C [d2 (s.get Reg.TILE_COOL_EPOCH_EPOCHS), d4 (s.census (· = 0))]

theorem State.epochBoundary_eq (s : State) : s.epochBoundary =
    if s.epochCounted.saving || s.epochCounted.tile.sweepStopped then s.epochCounted
    else if s.epochCounted.tile.sweep.isSome then s.epochCounted.updTile fun x => { x with sweepNext := true }
    else (s.epochCounted.updTile fun x => { x with sweep := some 0, sweepStopped := false }).set Reg.TILE_STAT_SWEEP 1 := rfl

theorem State.saving_epochCounted (s : State) : s.epochCounted.saving = s.saving := by
  have hget : s.epochCounted.get Reg.TILE_SAVE_STAT_STATE = s.get Reg.TILE_SAVE_STAT_STATE :=
    State.get_set_ne _ _ (by decide)
  rw [State.saving, State.saving, hget]

theorem State.epochCounted_outcome (s : State) : s.epochCounted.tile = { s.tile with epochAt := s.bar } ∧
    s.epochCounted.get Reg.TILE_COOL_EPOCH_EPOCHS = (s.get Reg.TILE_COOL_EPOCH_EPOCHS + 1) % 65536 ∧
    (∃ e ∈ s.epochCounted.raised, e.src = 0x14C) ∧
    ∃ regs raised, s.epochCounted = { s with regs := regs, raised := raised, tile := { s.tile with epochAt := s.bar } } :=
  ⟨rfl, State.get_set_self _ _ _, ⟨_, List.mem_append_right _ List.mem_cons_self, rfl⟩, _, _, rfl⟩

theorem State.not_epochDue (h : s.tile.epochAt = s.bar) : s.epochDue = false := by simp [State.epochDue, h]

theorem State.running_of_frame {regs : _} {raised : _} {tile : _} (h : t = { s with regs := regs, raised := raised, tile := tile })
    (hpwr : t.get Reg.SYS_PWR_STATE_STATE = s.get Reg.SYS_PWR_STATE_STATE) (hrun : s.running = true) : t.running = true := by
  have hon : t.on = s.on := by rw [h]; rfl
  have hsys : t.sys = s.sys := by rw [h]
  rw [State.running, State.clocked, hon, hpwr, hsys]
  exact hrun

/-- What the boundary leaves whatever the sweep does. -/
theorem State.epochBoundary_frame (s : State) : ∃ u : State, s.epochBoundary = u ∧ u.tile.epochAt = s.bar ∧ u.tile.codes = s.tile.codes ∧
    u.get Reg.TILE_COOL_EPOCH_EPOCHS = (s.get Reg.TILE_COOL_EPOCH_EPOCHS + 1) % 65536 ∧ (∃ e ∈ u.raised, e.src = 0x14C) ∧
    u.get Reg.SYS_PWR_STATE_STATE = s.get Reg.SYS_PWR_STATE_STATE ∧
    ∃ regs raised tile, u = { s with regs := regs, raised := raised, tile := tile } := by
  obtain ⟨htile, hepochs, hraised, regs, raised, hframe⟩ := s.epochCounted_outcome
  have hpwr : s.epochCounted.get Reg.SYS_PWR_STATE_STATE = s.get Reg.SYS_PWR_STATE_STATE := State.get_set_ne _ _ (by decide)
  refine ⟨_, rfl, ?_⟩
  rw [State.epochBoundary_eq]
  generalize s.epochCounted = v at *
  split_ifs
  · exact ⟨by rw [htile], by rw [htile], hepochs, hraised, hpwr, _, _, _, hframe⟩
  · refine ⟨by rw [State.updTile_self, htile], by rw [State.updTile_self, htile], hepochs, hraised, hpwr, ?_⟩
    rw [hframe]
    exact ⟨_, _, _, rfl⟩
  · refine ⟨by rw [State.set_tile, State.updTile_self, htile], by rw [State.set_tile, State.updTile_self, htile], ?_, hraised, ?_, ?_⟩
    · exact (State.get_set_ne _ _ (by decide)).trans hepochs
    · exact (State.get_set_ne _ _ (by decide)).trans hpwr
    · rw [hframe]
      exact ⟨_, _, _, rfl⟩

theorem State.epochBoundary_sweep (s : State) :
    (s.saving = true ∨ s.tile.sweepStopped = true → s.epochBoundary.tile.sweep = s.tile.sweep ∧
      s.epochBoundary.tile.sweepNext = s.tile.sweepNext) ∧
    (s.saving = false → s.tile.sweepStopped = false → s.tile.sweep = none →
      s.epochBoundary.tile.sweep = some 0 ∧ s.epochBoundary.get Reg.TILE_STAT_SWEEP = 1) ∧
    (s.saving = false → s.tile.sweepStopped = false → s.tile.sweep ≠ none →
      s.epochBoundary.tile.sweep = s.tile.sweep ∧ s.epochBoundary.tile.sweepNext = true) := by
  obtain ⟨htile, -⟩ := s.epochCounted_outcome
  have hsaving := s.saving_epochCounted
  rw [State.epochBoundary_eq]
  generalize s.epochCounted = v at *
  refine ⟨fun h => ?_, fun hsave hstop hnone => ?_, fun hsave hstop hsome => ?_⟩
  · rw [if_pos (by simpa [hsaving, htile] using h), htile]
    exact ⟨rfl, rfl⟩
  · rw [if_neg (by simp [hsaving, hsave, htile, hstop]), if_neg (by simp [htile, hnone])]
    exact ⟨rfl, State.get_set_self _ _ _⟩
  · rw [if_neg (by simp [hsaving, hsave, htile, hstop]), if_pos (by simpa [htile, Option.isSome_iff_ne_none] using hsome)]
    exact ⟨by rw [State.updTile_self, htile], rfl⟩

/-! ### Reading a word of tile states (R203) -/

/-- What an uncorrectable word leaves of the tile engine beside codes: the sweep that waits, and the number of copies in flight. -/
def State.sweepAndFlights (s : State) : Bool × Nat := (s.tile.sweepNext, s.tile.flights.length)

theorem State.sweepAndFlights_moveCode (s : State) (k c : Nat) : (s.moveCode k c).sweepAndFlights = s.sweepAndFlights := by
  obtain ⟨_, _, h⟩ := s.moveCode_frame k c
  rw [h]
  rfl

theorem State.sweepAndFlights_forgotten (s : State) (k : Nat) : (s.forgotten k).sweepAndFlights = s.sweepAndFlights := by
  have hframe (u : State) : (u.setFrame k none).sweepAndFlights = u.sweepAndFlights := rfl
  have hhome (u : State) : (u.setHomeless k false).sweepAndFlights = u.sweepAndFlights := rfl
  have hrec (u : State) : (u.setRec k .lost).sweepAndFlights = u.sweepAndFlights := rfl
  have hdirtied (u : State) : u.dirtied.sweepAndFlights = u.sweepAndFlights := rfl
  rw [State.forgotten, hdirtied, hrec, hhome, hframe]

theorem State.sweepAndFlights_loseTile (s : State) (k : Nat) : (s.loseTile k).sweepAndFlights = s.sweepAndFlights := by
  have hplaced : ((s.dropCopies (· = k)).staleFlight k).sweepAndFlights = s.sweepAndFlights := by
    obtain ⟨_, _, h⟩ := s.dropCopies_frame (· = k)
    rw [h]
    simp [State.sweepAndFlights, State.staleFlight, State.updTile]
  have hvacate (u : State) (f : Nat) : (u.vacate f).sweepAndFlights = u.sweepAndFlights := rfl
  have hlost (u : State) : ((u.moveCode k codeLost).forgotten k).sweepAndFlights = u.sweepAndFlights := by
    rw [State.sweepAndFlights_forgotten, State.sweepAndFlights_moveCode]
  unfold State.loseTile
  dsimp only
  split
  · exact (hlost _).trans ((hvacate _ _).trans hplaced)
  · exact (hlost _).trans hplaced

theorem State.sweepAndFlights_loseInSave (s : State) (k cause : Nat) : (s.loseInSave k cause).sweepAndFlights = s.sweepAndFlights := by
  have hsave (u : State) (x : SaveState) (d : List DField) :
      ((State.count { u with save := x } Reg.TILE_SAVE_LOST_TILES).raise 0x153 d).sweepAndFlights = u.sweepAndFlights := rfl
  obtain h | ⟨save, d, h⟩ := s.loseInSave_cases k cause
  · rw [h, State.sweepAndFlights_loseTile]
  · rw [h, hsave, State.sweepAndFlights_loseTile]

theorem State.sweepAndFlights_wordUe (s : State) (w : Nat) : (s.wordUe w).sweepAndFlights = s.sweepAndFlights := by
  obtain ⟨d, h⟩ := s.wordUe_eq w
  have hlost : (s.wordLost w).sweepAndFlights = s.sweepAndFlights :=
    (foldl_unchanged (look := State.sweepAndFlights) (fun u k _ => u.sweepAndFlights_moveCode k codeUnmapped) _).trans
      (foldl_unchanged (look := State.sweepAndFlights) (fun u k _ => u.sweepAndFlights_loseInSave k 4) s)
  have hraise (u : State) : ((u.count Reg.TILE_STATE_ERR_UE).raise 0x149 d).sweepAndFlights = u.sweepAndFlights := rfl
  rw [h, hraise, hlost]

theorem mem_word {w k : Nat} : k ∈ (List.range 16).map (16 * w + ·) ↔ k / 16 = w := by
  rw [List.mem_map]
  refine ⟨fun ⟨i, hi, he⟩ => ?_, fun h => ⟨k % 16, List.mem_range.mpr (Nat.mod_lt _ (by decide)), by omega⟩⟩
  rw [List.mem_range] at hi
  omega

/-- Tiles that are lost or unmapped one by one: the others keep their codes. -/
theorem State.code_each_ne {step : State → Nat → State} (hstep : ∀ (u : State) (j k : Nat), k ≠ j → (step u j).code k = u.code k)
    {l : List Nat} {k : Nat} (h : k ∉ l) (s : State) : (s.each l step).code k = s.code k :=
  foldl_unchanged (look := fun u : State => u.code k) (fun u _ hj => hstep u _ k fun he => h (he ▸ hj)) s

theorem State.code_loseInSave_ne (s : State) {j k : Nat} (cause : Nat) (h : k ≠ j) : (s.loseInSave j cause).code k = s.code k := by
  rw [State.code_loseInSave, if_neg h]

/-- An uncorrectable word touches its own tiles' codes alone. -/
theorem State.code_wordUe_ne {w k : Nat} (h : k / 16 ≠ w) (s : State) : (s.wordUe w).code k = s.code k := by
  obtain ⟨d, heq⟩ := s.wordUe_eq w
  have hout (p : Nat → Bool) : k ∉ ((List.range 16).map (16 * w + ·)).filter p := fun hk => h (mem_word.mp (List.mem_of_mem_filter hk))
  have hin : k ∉ (s.wordTiles w).filter fun t => s.code t ≠ codeLost := fun hk => hout _ (List.mem_of_mem_filter hk)
  rw [heq, State.raise_code, State.count_code, State.wordLost,
    State.code_each_ne (fun u j k hk => u.code_moveCode_ne codeUnmapped hk) (hout _),
    State.code_each_ne (fun u j k hk => u.code_loseInSave_ne 4 hk) hin]

/-- A tile of an uncorrectable word is LOST where it lies in a region, and unmapped where not. -/
theorem State.code_wordUe {w k : Nat} (h : k / 16 = w) (s : State) :
    (s.wordUe w).code k = if (s.regionOfTile k).isSome then codeLost else codeUnmapped := by
  obtain ⟨d, heq⟩ := s.wordUe_eq w
  rw [heq, State.raise_code, State.count_code]
  split_ifs with hr
  · exact s.code_wordLost (h ▸ State.mem_wordTiles hr)
  · have hno : k ∉ s.wordTiles w := fun hk => hr (List.mem_filter.mp hk).2
    have hmem : k ∈ ((List.range 16).map (16 * w + ·)).filter fun t => !((s.wordTiles w).contains t) :=
      List.mem_filter.mpr ⟨mem_word.mpr h, by simpa using hno⟩
    obtain ⟨before, after, hsplit⟩ := List.append_of_mem hmem
    have hkeep (l : List Nat) (u : State) (hu : u.code k = codeUnmapped) :
        (u.each l fun u t => u.moveCode t codeUnmapped).code k = codeUnmapped :=
      State.each_related (R := fun u v => u.code k = codeUnmapped → v.code k = codeUnmapped) (fun _ h => h) (fun h h' hu => h' (h hu))
        (fun u j hu => by
          obtain rfl | hne := eq_or_ne k j
          · exact State.code_moveCode_self _ _ _
          · rw [u.code_moveCode_ne codeUnmapped hne, hu]) l u hu
    rw [State.wordLost, hsplit, State.each, List.foldl_append, List.foldl_cons]
    exact hkeep after _ (State.code_moveCode_self _ _ _)

/-! ### The cooling sweep (R204) -/

/-- A tile is cooled by one step, unless it is unmapped. -/
def State.coolTile (s : State) (k : Nat) : State := if s.code k = codeUnmapped then s else s.setCode k (Machine.cooled (s.code k))

/-- The tiles of a word are cooled. -/
def State.coolWord (s : State) (w : Nat) : State := s.each ((List.range 16).map (16 * w + ·)) State.coolTile

/-- The sweep goes on to the next word, begins the sweep that waits, or ends. -/
def State.sweepOn (s : State) (w : Nat) : State :=
  if w < s.lastWord then s.updTile fun x => { x with sweep := some (w + 1) }
  else if s.tile.sweepNext then s.updTile fun x => { x with sweep := some 0, sweepNext := false }
  else (s.updTile fun x => { x with sweep := none, sweepStopped := false }).set Reg.TILE_STAT_SWEEP 0

theorem State.sweepStep_eq {w : Nat} (h : s.tile.sweep = some w) (e : SecDed) :
    s.sweepStep e = ((s.readState w e).coolWord w).sweepOn w := by
  unfold State.sweepStep State.sweepOn State.coolWord State.coolTile
  rw [h]

theorem State.sweepStep_none (h : s.tile.sweep = none) (e : SecDed) : s.sweepStep e = s := by
  unfold State.sweepStep
  rw [h]

theorem State.code_setCode_ne (s : State) {j k : Nat} (c : Nat) (h : k ≠ j) : (s.setCode j c).code k = s.code k :=
  Store.get_set_ne _ _ _ h

theorem State.code_coolTile (s : State) (j k : Nat) :
    (s.coolTile j).code k = if k = j then Machine.cooled (s.code k) else s.code k := by
  unfold State.coolTile
  obtain rfl | hne := eq_or_ne k j
  · rw [if_pos rfl]
    split
    · next h => rw [h]; rfl
    · exact State.code_setCode_self _ _ _
  · rw [if_neg hne]
    split
    · rfl
    · exact s.code_setCode_ne _ hne

theorem State.coolTile_frame (s : State) (k : Nat) : ∃ codes, s.coolTile k = { s with tile := { s.tile with codes := codes } } := by
  unfold State.coolTile
  split
  · exact ⟨_, rfl⟩
  · exact ⟨_, rfl⟩

theorem State.coolWord_frame (s : State) (w : Nat) : ∃ codes, s.coolWord w = { s with tile := { s.tile with codes := codes } } := by
  have hlist : ∀ (l : List Nat) (u : State), ∃ codes, u.each l State.coolTile = { u with tile := { u.tile with codes := codes } } := by
    intro l
    induction l with
    | nil => exact fun u => ⟨_, rfl⟩
    | cons k l ih =>
      intro u
      obtain ⟨_, hk⟩ := u.coolTile_frame k
      obtain ⟨_, hl⟩ := ih (u.coolTile k)
      exact ⟨_, hl.trans (by rw [hk])⟩
  exact hlist _ s

theorem State.code_coolWord (s : State) (w k : Nat) :
    (s.coolWord w).code k = if k / 16 = w then Machine.cooled (s.code k) else s.code k := by
  have hkeep {l : List Nat} (h : k ∉ l) (u : State) : (u.each l State.coolTile).code k = u.code k :=
    State.code_each_ne (fun u j k hk => by rw [State.code_coolTile, if_neg hk]) h u
  split_ifs with h
  · obtain ⟨before, after, hsplit⟩ := List.append_of_mem (mem_word.mpr h)
    have hnd : ((List.range 16).map (16 * w + ·)).Nodup := List.nodup_range.map fun _ _ he => Nat.add_left_cancel he
    rw [hsplit] at hnd
    obtain ⟨-, hafter, hdisjoint⟩ := List.nodup_append.mp hnd
    rw [State.coolWord, hsplit, State.each, List.foldl_append, List.foldl_cons]
    refine (hkeep (List.nodup_cons.mp hafter).1 _).trans ?_
    rw [State.code_coolTile, if_pos rfl]
    exact congrArg Machine.cooled (hkeep (fun hk => hdisjoint k hk k List.mem_cons_self rfl) s)
  · exact hkeep (fun hk => h (mem_word.mp hk)) s

/-- How the sweep goes on, by the last word in use. -/
theorem State.sweepOn_outcome (s : State) (w : Nat) : (s.sweepOn w).tile.codes = s.tile.codes ∧ (s.sweepOn w).raised = s.raised ∧
    (∀ f : Field, f.key ≠ Reg.TILE_STAT_SWEEP.key → (s.sweepOn w).get f = s.get f) ∧
    (w < (s.sweepOn w).lastWord → (s.sweepOn w).tile.sweep = some (w + 1)) ∧
    ((s.sweepOn w).lastWord ≤ w → s.tile.sweepNext = true →
      (s.sweepOn w).tile.sweep = some 0 ∧ (s.sweepOn w).tile.sweepNext = false) ∧
    ((s.sweepOn w).lastWord ≤ w → s.tile.sweepNext = false →
      (s.sweepOn w).tile.sweep = none ∧ (s.sweepOn w).get Reg.TILE_STAT_SWEEP = 0) := by
  unfold State.sweepOn
  split_ifs with hlt hnext
  · refine ⟨rfl, rfl, fun _ _ => rfl, fun _ => rfl, fun hle => ?_, fun hle => ?_⟩ <;> exact absurd hlt (Nat.not_lt.mpr hle)
  · exact ⟨rfl, rfl, fun _ _ => rfl, fun h => absurd h hlt, fun _ _ => ⟨rfl, rfl⟩, fun _ hno => absurd hnext (by simp [hno])⟩
  · exact ⟨rfl, rfl, fun f hf => State.get_set_ne _ _ hf, fun h => absurd h hlt, fun _ h => absurd h hnext,
      fun _ _ => ⟨rfl, State.get_set_self _ _ _⟩⟩

/-- What a sweep step reads of a word before it cools it. -/
structure State.WordRead (s : State) (w : Nat) (e : SecDed) (v : State) : Prop where
  sweepNext : v.tile.sweepNext = s.tile.sweepNext
  flights : v.tile.flights.length = s.tile.flights.length
  bytes : v.dram.bytes = s.dram.bytes
  good : s.wordGood w = true → e ≠ .uncorrectable → v = s ∨ (e = .corrected ∧ v = s.count Reg.TILE_STATE_ERR_CE)
  corrected : s.wordGood w = true → e = .corrected → v = s.count Reg.TILE_STATE_ERR_CE
  bad : s.wordGood w = false ∨ e = .uncorrectable → (∃ x ∈ v.raised, x.src = 0x149) ∧
    ∀ k, k / 16 = w → v.code k = if (s.regionOfTile k).isSome then codeLost else codeUnmapped
  other : ∀ k, k / 16 ≠ w → v.code k = s.code k

theorem State.wordRead (s : State) (w : Nat) (e : SecDed) : s.WordRead w e (s.readState w e) := by
  by_cases hbad : e = .uncorrectable ∨ s.wordGood w = false
  · obtain ⟨hbytes, -, -, hraised, -⟩ := s.wordUe_outcome w
    have hkeep := s.sweepAndFlights_wordUe w
    rw [State.readState_bad hbad]
    refine ⟨congrArg Prod.fst hkeep, congrArg Prod.snd hkeep, hbytes, fun hgood hne => ?_, fun hgood he => ?_,
      fun _ => ⟨hraised, fun k hk => State.code_wordUe hk s⟩, fun k hk => State.code_wordUe_ne hk s⟩
    · exact absurd hgood (ne_true_of_eq_false (hbad.resolve_left hne))
    · obtain hu | hno := hbad
      · exact nomatch he.symm.trans hu
      · exact absurd hgood (ne_true_of_eq_false hno)
  · obtain ⟨hne, hno⟩ := not_or.mp hbad
    have hgood : s.wordGood w = true := eq_true_of_ne_false hno
    have hnot (h : s.wordGood w = false ∨ e = .uncorrectable) : False := hbad h.symm
    cases e with
    | clean =>
      rw [State.readState_clean hgood]
      exact ⟨rfl, rfl, rfl, fun _ _ => .inl rfl, fun _ h => (nomatch h), fun h => (hnot h).elim, fun _ _ => rfl⟩
    | corrected =>
      rw [State.readState_corrected hgood]
      exact ⟨rfl, rfl, rfl, fun _ _ => .inr ⟨rfl, rfl⟩, fun _ _ => rfl, fun h => (hnot h).elim, fun _ _ => rfl⟩
    | uncorrectable => exact absurd rfl hne

theorem exec_coolingSweepStep (hrun : s.running = true) (e : SecDed) :
    exec (.coolingSweepStep e) s = if s.tile.sweepStopped then .next s else .next (s.sweepStep e) := State.engines_of_running hrun

theorem cooled_lost_or_unmapped (b : Bool) :
    cooled (if b = true then codeLost else codeUnmapped) = if b = true then codeLost else codeUnmapped := by
  cases b <;> rfl

/-- A sweep step, by the word it reads. -/
theorem State.sweepStep_outcome {w : Nat} (h : s.tile.sweep = some w) (e : SecDed) :
    (s.wordGood w = true → e ≠ .uncorrectable → ∀ i, i < 16 → (s.sweepStep e).code (16 * w + i) =
      if s.code (16 * w + i) = codeUnmapped then codeUnmapped else Machine.cooled (s.code (16 * w + i))) ∧
    (s.wordGood w = true → e = .corrected →
      (s.sweepStep e).get Reg.TILE_STATE_ERR_CE = min (s.get Reg.TILE_STATE_ERR_CE + 1) (2 ^ 16 - 1)) ∧
    (s.wordGood w = false ∨ e = .uncorrectable → (∃ x ∈ (s.sweepStep e).raised, x.src = 0x149) ∧
      ∀ i, i < 16 → (s.sweepStep e).code (16 * w + i) = if (s.regionOfTile (16 * w + i)).isSome then codeLost else codeUnmapped) ∧
    (∀ tile, tile / 16 ≠ w → (s.sweepStep e).code tile = s.code tile) ∧
    (w < (s.sweepStep e).lastWord → (s.sweepStep e).tile.sweep = some (w + 1)) ∧
    ((s.sweepStep e).lastWord ≤ w → s.tile.sweepNext = true →
      (s.sweepStep e).tile.sweep = some 0 ∧ (s.sweepStep e).tile.sweepNext = false) ∧
    ((s.sweepStep e).lastWord ≤ w → s.tile.sweepNext = false →
      (s.sweepStep e).tile.sweep = none ∧ (s.sweepStep e).get Reg.TILE_STAT_SWEEP = 0) := by
  have hread := s.wordRead w e
  rw [State.sweepStep_eq h]
  generalize s.readState w e = v at hread
  obtain ⟨hnext, -, -, hgood, hcorrected, hbad, hother⟩ := hread
  have hcool := v.code_coolWord w
  obtain ⟨codes, hframe⟩ := v.coolWord_frame w
  have hnext' : (v.coolWord w).tile.sweepNext = s.tile.sweepNext := by rw [hframe]; exact hnext
  have hraised : (v.coolWord w).raised = v.raised := by rw [hframe]
  have hget (f : Field) : (v.coolWord w).get f = v.get f := by rw [hframe]; rfl
  generalize v.coolWord w = x at *
  obtain ⟨hcodes, hraised', hget', hsweep⟩ := x.sweepOn_outcome w
  have hcode (k : Nat) : (x.sweepOn w).code k = x.code k := by rw [State.code, State.code, hcodes]
  have hword (i : Nat) (hi : i < 16) : (16 * w + i) / 16 = w := by omega
  rw [← hnext']
  refine ⟨fun hg hne i hi => ?_, fun hg he => ?_, fun hb => ⟨?_, fun i hi => ?_⟩, fun k hk => ?_, hsweep⟩
  · have hsame : v.code (16 * w + i) = s.code (16 * w + i) := by
      obtain rfl | ⟨-, rfl⟩ := hgood hg hne
      · rfl
      · exact State.count_code _ _ _ _
    rw [hcode, hcool, if_pos (hword i hi), hsame]
    split
    · next hu => rw [hu]; rfl
    · rfl
  · rw [hget' _ (by decide), hget, hcorrected hg he]
    exact get_count_once _ _
  · rw [hraised', hraised]
    exact (hbad hb).1
  · rw [hcode, hcool, if_pos (hword i hi), (hbad hb).2 _ (hword i hi), cooled_lost_or_unmapped]
  · rw [hcode, hcool, if_neg hk, hother k hk]

/-! ### Selection (R207, R210, R211) -/

/-- What the scan stops at is eligible, and its frame lies on the channel. -/
theorem State.scanNext_eligible {c tile f : Nat} (h : s.scanNext c = some tile) (hf : s.frameOf tile = some f) :
    s.eligible (s.code tile) = true ∧ f % 8 = c := by
  have hmem : ∀ (l : List Nat) (p : Nat → Bool), (l.find? p <|> l.head?) = some tile → tile ∈ l := by
    intro l p hl
    cases hfind : l.find? p with
    | some k =>
      rw [hfind] at hl
      obtain rfl := Option.some.inj hl
      exact List.mem_of_find?_eq_some hfind
    | none =>
      rw [hfind] at hl
      exact List.mem_of_mem_head? hl
  have hok := (List.mem_filter.mp (hmem _ _ h)).2
  simp only [Bool.and_eq_true, hf, decide_eq_true_eq] at hok
  obtain ⟨⟨⟨heligible, -⟩, hframe⟩, -⟩ := hok
  exact ⟨heligible, hframe⟩

theorem State.scan_stops {c : Nat} (h : s.serving c = false ∨ s.saving = true ∨ s.rateAllows = false ∨ s.scanNext c = none) (e : SecDed) :
    s.scan c e = s := by
  unfold State.scan
  split
  · rfl
  · next hno =>
    simp only [Bool.or_eq_true, Bool.not_eq_true', not_or, Bool.not_eq_true, Bool.not_eq_false] at hno
    obtain ⟨⟨hserve, hsave⟩, hrate⟩ := hno
    have hnone : s.scanNext c = none := by
      obtain h | h | h | h := h
      · simp [h] at hserve
      · simp [h] at hsave
      · simp [h] at hrate
      · exact h
    rw [hnone]

section Select

variable {c tile f : Nat} (hserve : s.serving c = true) (hsave : s.saving = false) (hrate : s.rateAllows = true)
  (hnext : s.scanNext c = some tile)
include hserve hsave hrate hnext

/-- The tile that the scan stops at stays where its word, once read, makes it one that is not eligible. -/
theorem State.scan_passes {e : SecDed} (h : (s.readState (tile / 16) e).eligible ((s.readState (tile / 16) e).code tile) = false) :
    s.scan c e = s.readState (tile / 16) e := by
  unfold State.scan
  rw [if_neg (by simp [hserve, hsave, hrate]), hnext]
  exact if_pos (by rw [h]; rfl)

theorem State.scan_selects {e : SecDed} (h : (s.readState (tile / 16) e).eligible ((s.readState (tile / 16) e).code tile) = true)
    (hf : (s.readState (tile / 16) e).frameOf tile = some f) : s.scan c e = (s.readState (tile / 16) e).selectTile c tile f := by
  unfold State.scan
  rw [if_neg (by simp [hserve, hsave, hrate]), hnext]
  refine (if_neg (by rw [h]; exact Bool.false_ne_true)).trans ?_
  rw [hf]

end Select

theorem State.not_eligible {k : Nat} (h : 4 < k) : s.eligible k = false := by
  unfold State.eligible
  split
  · exact decide_eq_false (by omega)
  · exact decide_eq_false fun he => by simp [he, codeCold] at h

theorem State.eligible_count (s : State) (k : Nat) : (s.count Reg.TILE_STATE_ERR_CE).eligible k = s.eligible k := by
  have hget {f : Field} (h : f.key ≠ Reg.TILE_STATE_ERR_CE.key) : (s.count Reg.TILE_STATE_ERR_CE).flag f = s.flag f := by
    rw [State.flag, State.flag, State.get_count_ne _ _ h]
  rw [State.eligible, State.eligible, State.assured, State.assured, hget (by decide), hget (by decide)]

theorem State.expedited_count (s : State) : (s.count Reg.TILE_STATE_ERR_CE).expedited = s.expedited := by
  have hget {f : Field} (h : f.key ≠ Reg.TILE_STATE_ERR_CE.key) : (s.count Reg.TILE_STATE_ERR_CE).flag f = s.flag f := by
    rw [State.flag, State.flag, State.get_count_ne _ _ h]
  rw [State.expedited, State.expedited, hget (by decide), hget (by decide), hget (by decide)]

/-- A tile that is selected. -/
theorem State.selectTile_outcome {c : Nat} (hc : c < 8) (s : State) (tile f : Nat) :
    (s.selectTile c tile f).dram.bytes = s.dram.bytes ∧ (s.selectTile c tile f).code tile = codeFlight ∧
    (s.selectTile c tile f).tile.flights = s.tile.flights ++ [⟨tile, f, s.bar, false, none, none⟩] ∧
    ((s.selectTile c tile f).ch c).work.jobs = (s.ch c).work.jobs ++ [⟨.stream, some f, 65536 + 1024⟩] ∧
    (s.selectTile c tile f).tile.tokens = (if s.expedited then s.tile.tokens else s.tile.tokens - 655360) ∧
    ∀ x, x ≠ tile → (s.selectTile c tile f).code x = s.code x := by
  have hcode (x : Nat) : (s.selectTile c tile f).code x = (s.setCode tile codeFlight).code x := rfl
  refine ⟨rfl, (hcode tile).trans (State.code_setCode_self _ _ _), rfl, ?_, rfl,
    fun x hx => (hcode x).trans (s.code_setCode_ne codeFlight hx)⟩
  rw [State.selectTile, State.addJob, State.ch_updCh_self _ _ hc]
  rfl


theorem exec_tileSelect (hrun : s.running = true) (c : Fin 8) (e : SecDed) : exec (.tileSelect c e) s = .next (s.scan c e) :=
  State.engines_of_running hrun

/-- A tile in a word found uncorrectable is not selected. -/
theorem State.scan_bad {c : Fin 8} {tile : Nat} (hserve : s.serving c = true) (hsave : s.saving = false) (hrate : s.rateAllows = true)
    (hnext : s.scanNext c = some tile) : (s.scan c .uncorrectable).dram.bytes = s.dram.bytes ∧
      (s.scan c .uncorrectable).code tile ≠ codeFlight ∧ (s.scan c .uncorrectable).tile.flights.length = s.tile.flights.length := by
  have hread := s.wordRead (tile / 16) .uncorrectable
  have hcode : (s.readState (tile / 16) .uncorrectable).code tile = _ := (hread.bad (.inr rfl)).2 tile rfl
  have hover : 4 < (s.readState (tile / 16) .uncorrectable).code tile := by
    rw [hcode]
    split
    · decide
    · decide
  rw [State.scan_passes hserve hsave hrate hnext (State.not_eligible hover)]
  refine ⟨hread.bytes, ?_, hread.flights⟩
  rw [hcode]
  split
  · decide
  · decide

/-- A tile in a good word is selected; a corrected error counts and changes nothing else here. -/
theorem State.scan_good {c : Fin 8} {tile f : Nat} {e : SecDed} (hserve : s.serving c = true) (hsave : s.saving = false)
    (hrate : s.rateAllows = true) (hnext : s.scanNext c = some tile) (hgood : s.wordGood (tile / 16) = true)
    (hf : s.frameOf tile = some f) (he : e ≠ .uncorrectable) : (s.scan c e).dram.bytes = s.dram.bytes ∧ (s.scan c e).code tile = codeFlight ∧
      (s.scan c e).tile.flights = s.tile.flights ++ [⟨tile, f, s.bar, false, none, none⟩] ∧
      ((s.scan c e).ch c).work.jobs = (s.ch c).work.jobs ++ [⟨.stream, some f, 65536 + 1024⟩] ∧
      (s.scan c e).tile.tokens = (if s.expedited then s.tile.tokens else s.tile.tokens - 655360) ∧
      ∀ x, x ≠ tile → (s.scan c e).code x = s.code x := by
  have heligible := (State.scanNext_eligible hnext hf).1
  have hscan := State.scan_selects (f := f) (e := e) hserve hsave hrate hnext
  obtain hread | ⟨-, hread⟩ := (s.wordRead (tile / 16) e).good hgood he
  · rw [hread] at hscan
    rw [hscan heligible hf]
    exact State.selectTile_outcome c.isLt s tile f
  · rw [hread, State.count_code, State.eligible_count] at hscan
    rw [hscan heligible hf, ← s.expedited_count]
    exact State.selectTile_outcome c.isLt (s.count Reg.TILE_STATE_ERR_CE) tile f

/-! ### Copy reads (R134, R200, R208) -/

theorem exec_tileCopyReadDone (hrun : s.running = true) (tile : Nat) (errs : List (Fin 1024 × LineRead)) :
    exec (.tileCopyReadDone tile errs) s = match s.tile.flights.find? fun k => k.tile = tile && k.copy.isNone with
      | none => .next s
      | some k => if s.jobLeft (k.frame % 8) .stream k.frame then .next s else .next (s.copyRead k errs) := by
  refine (State.engines_of_running hrun).trans ?_
  rfl

/-- A copy that ends leaves the flights, and its tile, if it is still its own, takes the code given. -/
theorem State.endFlight_outcome (s : State) (k : StreamCopy) (c : Nat) : (s.endFlight k c).dram = s.dram ∧
    k ∉ (s.endFlight k c).tile.flights ∧ (s.endFlight k c).deck = s.deck ∧
    (s.endFlight k c).code k.tile = if s.flies k then c else s.code k.tile := by
  have hgone : k ∉ s.tile.flights.filter fun y => y ≠ k := fun h => by simpa using (List.mem_filter.mp h).2
  unfold State.endFlight
  dsimp only
  split_ifs
  · have hcode := State.code_moveCode_self (s := s.updTile fun x => { x with flights := x.flights.filter fun y => y ≠ k }) k.tile c
    refine ⟨?_, ?_, ?_, hcode⟩
    all_goals
      obtain ⟨_, _, h⟩ := (s.updTile fun x => { x with flights := x.flights.filter fun y => y ≠ k }).moveCode_frame k.tile c
      rw [h]
    · rfl
    · exact hgone
    · rfl
  · exact ⟨rfl, hgone, rfl, rfl⟩

theorem State.flies_congr (h : t.tile = s.tile) (k : StreamCopy) : t.flies k = s.flies k := by
  rw [State.flies, State.flies, State.code, State.code, h]

theorem State.recOf_setRec_self (s : State) (k : Nat) (r : TileRec) : (s.setRec k r).recOf k = r := Store.get_set_self _ _ _ _

theorem State.recOf_congr (h : t.deck = s.deck) (k : Nat) : t.recOf k = s.recOf k := by rw [State.recOf, State.recOf, h]

theorem State.Noted.deck {look : DramCh → DramCh} {keys : List Nat} {c : Nat} (h : s.Noted look keys c t) : t.deck = s.deck := by
  obtain ⟨_, _, _, _, rfl⟩ := h.rest
  rfl

/-- The copy of a tile whose read failed ends here. -/
def State.copyFails (s : State) (k : StreamCopy) : State := (s.endFlight k codeCold).raise 0x14A [dTile k.tile, d1 1]

/-- The copy of a tile that reads as zero ends here. -/
def State.copyZero (s : State) (k : StreamCopy) : State :=
  (if s.flies k then (s.setRec k.tile .zero).count Reg.TILE_COUNT_ZEROED_TILES else s).endFlight k codeZero

/-- A copy holds its tile's contents. -/
def State.copyHeld (s : State) (k : StreamCopy) : State :=
  s.updTile fun x => { x with flights := x.flights.map fun z => if z = k then { z with copy := some (s.readTile k.tile k.frame) } else z }

theorem State.copyRead_eq (s : State) (k : StreamCopy) (errs : List (Fin 1024 × LineRead)) : s.copyRead k errs =
    if !(s.readErrors k.frame 4 errs).2.isEmpty then
      ((s.readErrors k.frame 4 errs).1.wantMarks k.frame (s.readErrors k.frame 4 errs).2).copyFails k
    else if ((s.readErrors k.frame 4 errs).1.readTile k.tile k.frame).isZero then (s.readErrors k.frame 4 errs).1.copyZero k
    else (s.readErrors k.frame 4 errs).1.copyHeld k := rfl

theorem State.copyFails_outcome (s : State) (k : StreamCopy) : (s.copyFails k).dram = s.dram ∧ (∃ x ∈ (s.copyFails k).raised, x.src = 0x14A) ∧
    k ∉ (s.copyFails k).tile.flights ∧ (s.copyFails k).code k.tile = if s.flies k then codeCold else s.code k.tile := by
  obtain ⟨hdram, hgone, -, hcode⟩ := s.endFlight_outcome k codeCold
  exact ⟨hdram, ⟨_, List.mem_append_right _ List.mem_cons_self, rfl⟩, hgone, hcode⟩

theorem State.copyZero_outcome (s : State) (k : StreamCopy) : (s.copyZero k).dram = s.dram ∧ k ∉ (s.copyZero k).tile.flights ∧
    (s.flies k = true → (s.copyZero k).code k.tile = codeZero ∧ (s.copyZero k).recOf k.tile = .zero) ∧
    (s.flies k = false → (s.copyZero k).code k.tile = s.code k.tile ∧ (s.copyZero k).recOf k.tile = s.recOf k.tile) := by
  unfold State.copyZero
  cases hflies : s.flies k with
  | true =>
    rw [if_pos rfl]
    have hsame : ((s.setRec k.tile .zero).count Reg.TILE_COUNT_ZEROED_TILES).flies k = true := hflies
    have hzero : ((s.setRec k.tile .zero).count Reg.TILE_COUNT_ZEROED_TILES).recOf k.tile = .zero := s.recOf_setRec_self _ _
    obtain ⟨hdram, hgone, hdeck, hcode⟩ := ((s.setRec k.tile .zero).count Reg.TILE_COUNT_ZEROED_TILES).endFlight_outcome k codeZero
    rw [if_pos hsame] at hcode
    exact ⟨hdram, hgone, fun _ => ⟨hcode, (State.recOf_congr hdeck k.tile).trans hzero⟩, fun h => (nomatch h)⟩
  | false =>
    rw [if_neg Bool.false_ne_true]
    obtain ⟨hdram, hgone, hdeck, hcode⟩ := s.endFlight_outcome k codeZero
    rw [if_neg (by simp [hflies])] at hcode
    exact ⟨hdram, hgone, fun h => (nomatch h), fun _ => ⟨hcode, State.recOf_congr hdeck k.tile⟩⟩

theorem State.copyHeld_outcome {k : StreamCopy} (h : k ∈ s.tile.flights) : (s.copyHeld k).dram = s.dram ∧
    (s.copyHeld k).code k.tile = s.code k.tile ∧
    ∃ z ∈ (s.copyHeld k).tile.flights, z.tile = k.tile ∧ z.copy = some (s.readTile k.tile k.frame) :=
  ⟨rfl, rfl, _, List.mem_map.mpr ⟨k, h, if_pos rfl⟩, rfl, rfl⟩

theorem cycles_not_errorKey (c : Nat) : Reg.PWR_CYCLES_CYCLES.key ∉ errorKeys c := by
  simp [errorKeys, noteKeys, Field.key]
  omega

/-- A copy whose read is done, by what the read met. -/
theorem State.copyRead_outcome {k : StreamCopy} (hk : k ∈ s.tile.flights) (errs : List (Fin 1024 × LineRead)) :
    let bad := ∃ x ∈ errs, s.poisoned k.frame x.1 = false ∧ x.2.decode (s.x8 (k.frame % 8)) = .uncorrectable
    (s.copyRead k errs).dram.bytes = s.dram.bytes ∧
    (bad → (∃ x ∈ (s.copyRead k errs).raised, x.src = 0x14A) ∧ k ∉ (s.copyRead k errs).tile.flights ∧
      (s.copyRead k errs).code k.tile = (if s.flies k then codeCold else s.code k.tile) ∧
      ∀ x ∈ errs, s.poisoned k.frame x.1 = false → x.2.decode (s.x8 (k.frame % 8)) = .uncorrectable →
        ∃ m ∈ ((s.copyRead k errs).ch (k.frame % 8)).marks, m.frame = k.frame ∧ m.line = x.1) ∧
    (¬ bad → (s.readTile k.tile k.frame).isZero = true → k ∉ (s.copyRead k errs).tile.flights ∧
      (s.flies k = true → (s.copyRead k errs).code k.tile = codeZero ∧ (s.copyRead k errs).recOf k.tile = .zero) ∧
      (s.flies k = false → (s.copyRead k errs).code k.tile = s.code k.tile ∧ (s.copyRead k errs).recOf k.tile = s.recOf k.tile)) ∧
    (¬ bad → (s.readTile k.tile k.frame).isZero = false → (s.copyRead k errs).code k.tile = s.code k.tile ∧
      ∃ z ∈ (s.copyRead k errs).tile.flights, z.tile = k.tile ∧ z.copy = some (s.readTile k.tile k.frame)) := by
  intro bad
  obtain ⟨hnoted, hlines⟩ := s.readErrors_outcome k.frame 4 errs
  rw [State.copyRead_eq]
  generalize s.readErrors k.frame 4 errs = r at *
  obtain ⟨u, l⟩ := r
  dsimp only at hnoted hlines ⊢
  have hbad : bad ↔ (!l.isEmpty) = true := by
    simp [bad, hlines, State.lineFails_iff, List.filter_eq_nil_iff]
  by_cases hb : bad
  · have hmarks := u.noted_wantMarks k.frame l
    have hall : ∀ x ∈ errs, s.poisoned k.frame x.1 = false → x.2.decode (s.x8 (k.frame % 8)) = .uncorrectable →
        ∃ m ∈ ((u.wantMarks k.frame l).ch (k.frame % 8)).marks, m.frame = k.frame ∧ m.line = x.1 := fun x hx hp he =>
      State.wantMarks_has (e := (x.1.val, x.2.kept (s.x8 (k.frame % 8)))) (hlines ▸ List.mem_map.mpr
        ⟨x, List.mem_filter.mpr ⟨hx, State.lineFails_iff.mpr ⟨hp, he⟩⟩, rfl⟩) u
    rw [if_pos (hbad.mp hb)]
    generalize u.wantMarks k.frame l = v at *
    have htile : v.tile = s.tile := hmarks.tile.trans hnoted.tile
    obtain ⟨hdram, hraised, hgone, hcode⟩ := v.copyFails_outcome k
    rw [State.flies_congr htile, State.code_of_tile htile] at hcode
    refine ⟨?_, fun _ => ⟨hraised, hgone, hcode, ?_⟩, fun h => absurd hb h, fun h => absurd hb h⟩
    · rw [hdram, hmarks.bytes, hnoted.bytes]
    · rw [State.ch, hdram]
      exact hall
  · have hread := hnoted.readTile (cycles_not_errorKey _) k.tile
    rw [if_neg (mt hbad.mpr hb), hread]
    have htile : u.tile = s.tile := hnoted.tile
    have hdeck : u.recOf k.tile = s.recOf k.tile := State.recOf_congr hnoted.deck k.tile
    have hflies := State.flies_congr htile k
    have hcode := State.code_of_tile htile k.tile
    by_cases hz : (s.readTile k.tile k.frame).isZero = true
    · obtain ⟨hdram, hgone, hyes, hno⟩ := u.copyZero_outcome k
      rw [hflies] at hyes hno
      rw [hcode, hdeck] at hno
      rw [if_pos hz]
      exact ⟨by rw [hdram, hnoted.bytes], fun h => absurd h hb, fun _ _ => ⟨hgone, hyes, hno⟩,
        fun _ h => nomatch hz.symm.trans h⟩
    · obtain ⟨hdram, hsame, hheld⟩ := State.copyHeld_outcome (htile ▸ hk)
      rw [hread] at hheld
      rw [if_neg hz]
      exact ⟨by rw [hdram, hnoted.bytes], fun h => absurd h hb, fun _ h => absurd h hz,
        fun _ _ => ⟨hsame.trans hcode, hheld⟩⟩

/-! ### The obligation -/

theorem State.epochDue_iff : s.epochDue = true ↔ s.atDownbeat = true ∧
    s.bar % (256 * max 1 (s.get Reg.TILE_COOL_EPOCH_PHRASES)) = 0 ∧ s.tile.epochAt ≠ s.bar := by
  simp [State.epochDue, and_assoc]

/-- Settles O31: the boundary by `epochBoundary_sweep`, a sweep step by the word it reads, a selection by `scan_good` and `scan_bad`, a
copy read by the lines that failed. -/
theorem coolingAndSelection : Obligations.CoolingAndSelection := by
  unfold Obligations.CoolingAndSelection
  refine ⟨fun s hrun => ⟨fun h => ?_, fun hdown hphrase hnew => ?_⟩, fun s e hrun => ⟨fun h => ?_, fun w hgo hw => ?_⟩,
    fun c s e hrun => ⟨fun h => ?_, fun tile f hserve hsave hrate hnext hgood hf => ?_⟩,
    fun tile errs s hrun => ⟨fun hnone => ?_, fun k hk => ⟨fun hleft => ?_, fun hleft => ?_⟩⟩⟩
  · rw [exec_coolingEpochBoundary hrun, if_neg]
    rw [State.epochDue_iff]
    rintro ⟨hdown, hphrase, hnew⟩
    obtain h | h | h := h
    · exact nomatch hdown.symm.trans h
    · exact h hphrase
    · exact hnew h
  · rw [exec_coolingEpochBoundary hrun, if_pos (State.epochDue_iff.mpr ⟨hdown, hphrase, hnew⟩)]
    have hsweep := s.epochBoundary_sweep
    obtain ⟨t, ht, hat, hcodes, hepochs, hraised, hpwr, regs, raised, x, hframe⟩ := s.epochBoundary_frame
    rw [ht] at hsweep ⊢
    obtain ⟨hstop, hstart, hagain⟩ := hsweep
    have hbar : t.bar = s.bar := by rw [hframe]
    refine ⟨t, rfl, hat, hcodes, hepochs, hraised, hstop, hstart, hagain, ?_⟩
    rw [exec_coolingEpochBoundary (State.running_of_frame hframe hpwr hrun), State.not_epochDue (hat.trans hbar.symm)]
    rfl
  · rw [exec_coolingSweepStep hrun]
    split_ifs with hstop
    · rfl
    · rw [State.sweepStep_none (h.resolve_left hstop)]
  · rw [exec_coolingSweepStep hrun, if_neg (by simp [hgo])]
    exact ⟨_, rfl, State.sweepStep_outcome hw e⟩
  · rw [exec_tileSelect hrun, State.scan_stops h]
  · refine ⟨(State.scanNext_eligible hnext hf).1, (State.scanNext_eligible hnext hf).2, _, exec_tileSelect hrun c e, ?_⟩
    obtain rfl | he := eq_or_ne e .uncorrectable
    · obtain ⟨hbytes, hcode, hflights⟩ := State.scan_bad hserve hsave hrate hnext
      exact ⟨hbytes, fun _ => ⟨hcode, hflights⟩, fun h => absurd rfl h⟩
    · obtain ⟨hbytes, hselected⟩ := State.scan_good hserve hsave hrate hnext hgood hf he
      exact ⟨hbytes, fun h => absurd h he, fun _ => hselected⟩
  · rw [exec_tileCopyReadDone hrun, hnone]
  · rw [exec_tileCopyReadDone hrun, hk]
    exact if_pos hleft
  · have hfound : (decide (k.tile = tile) && k.copy.isNone) = true :=
      List.find?_some (p := fun x : StreamCopy => decide (x.tile = tile) && x.copy.isNone) hk
    obtain rfl : k.tile = tile := of_decide_eq_true (Bool.and_eq_true_iff.mp hfound).1
    refine ⟨_, ?_, State.copyRead_outcome (List.mem_of_find?_eq_some hk) errs⟩
    rw [exec_tileCopyReadDone hrun, hk]
    exact if_neg (by simp [hleft])

end Sys2Proof.Machine
end

section
/-! PROOFS. A channel leaves service tile by tile, returns, or fails (R142, R143, R145, R147, R149, R150, R151). -/

namespace Sys2Proof.Machine

variable {s t u : State} {c : Nat}

/-! ### What follows a change of a channel's state -/

/-- The requests queued and issued on a channel. -/
def DramCh.requests (x : DramCh) : List HostReq × List HostReq := (x.reqs, x.issued)

/-- What later steps of a downbeat leave: every register of the DRAM channels, their requests, DRAM's bytes; and a tile keeps its frame,
has none, or gets one on a channel in service. -/
structure State.Settles (s t : State) : Prop where
  words : ∀ a, 0x40000 ≤ a → a < 0x60000 → State.KeepsWord a s t
  requests : ∀ d < 8, (t.ch d).requests = (s.ch d).requests
  bytes : t.dram.bytes = s.dram.bytes
  frames : ∀ tile f, t.frameOf tile = some f → s.frameOf tile = some f ∨ s.chState (f % 8) = chInService

theorem State.Settles.get (h : s.Settles t) (f : Field) (hlo : f.lo < 32) (hge : 0x40000 ≤ f.addr) (hlt : f.addr < 0x60000) :
    t.get f = s.get f := h.words f.addr hge hlt f hlo rfl

theorem State.Settles.chState (h : s.Settles t) {d : Nat} (hd : d < 8) : t.chState d = s.chState d :=
  h.get _ (by simp) (by simp) (by simp; omega)

theorem State.Settles.debt (h : s.Settles t) {d : Nat} (hd : d < 8) : t.debt d = s.debt d :=
  h.get _ (by simp) (by simp; omega) (by simp; omega)

theorem State.Settles.gen (h : s.Settles t) {d : Nat} (hd : d < 8) : t.get (Reg.DCH_GEN_GEN d) = s.get (Reg.DCH_GEN_GEN d) :=
  h.get _ (by simp) (by simp; omega) (by simp; omega)

theorem State.Settles.refl (s : State) : s.Settles s := ⟨fun a _ _ => .refl a s, fun _ _ => rfl, rfl, fun _ _ h => .inl h⟩

theorem State.Settles.trans (h : s.Settles t) (h' : t.Settles u) : s.Settles u where
  words a hge hlt := (h.words a hge hlt).trans (h'.words a hge hlt)
  requests d hd := (h'.requests d hd).trans (h.requests d hd)
  bytes := h'.bytes.trans h.bytes
  frames tile f hf := by
    obtain hold | hnew := h'.frames tile f hf
    · exact h.frames tile f hold
    · exact .inr ((h.chState (Nat.mod_lt f (by decide))).symm.trans hnew)

/-- A step that leaves registers, channels, bytes and the tile map alone. -/
theorem State.Settles.of_same (hregs : t.regs = s.regs) (hchans : t.dram.chans = s.dram.chans) (hbytes : t.dram.bytes = s.dram.bytes)
    (hmap : t.tile.map = s.tile.map) : s.Settles t :=
  ⟨fun _ _ _ => .of_regs hregs, fun d _ => by rw [State.ch, State.ch, hchans], hbytes,
    fun tile f hf => .inl (by rwa [State.frameOf, hmap] at hf)⟩

theorem State.Settles.set (s : State) (f : Field) (v : Nat) (hlo : f.lo < 32) (ha : f.addr < 0x40000 ∨ 0x60000 ≤ f.addr) :
    s.Settles (s.set f v) :=
  ⟨fun a hge hlt => (State.KeepsWord.refl a s).set f v hlo (by omega), fun _ _ => rfl, rfl, fun _ _ h => .inl h⟩

theorem State.Settles.raise (s : State) (n : Nat) (d : List DField) (l : List CxlRec) : s.Settles (s.raise n d l) := .of_same rfl rfl rfl rfl

theorem State.Settles.updCh (s : State) (d : Nat) {g : DramCh → DramCh} (hg : ∀ x, (g x).requests = x.requests) : s.Settles (s.updCh d g) := by
  refine ⟨fun _ _ _ => .of_regs rfl, fun e he => ?_, rfl, fun _ _ h => .inl h⟩
  obtain rfl | hne := eq_or_ne e d
  · rw [State.ch_updCh_self _ _ he, hg]
  · rw [State.ch_updCh_ne _ _ he hne]

theorem State.Settles.ite (h : s.Settles t) (h' : s.Settles u) (p : Prop) [Decidable p] : s.Settles (if p then t else u) := by
  split
  · exact h
  · exact h'

theorem State.Settles.each {α : Type} {step : State → α → State} (h : ∀ (s : State) (x : α), s.Settles (step s x)) (l : List α) (s : State) :
    s.Settles (s.each l step) := State.each_related State.Settles.refl State.Settles.trans h l s

/-! ### The next bar is planned again (R67) -/

/-- What planning a bar leaves: what `Settles` says, the tile engine, and the device's own state. -/
structure State.Plans (s t : State) : Prop where
  settles : s.Settles t
  tile : t.tile = s.tile
  sys : t.sys = s.sys

theorem State.Plans.refl (s : State) : s.Plans s := ⟨.refl s, rfl, rfl⟩

theorem State.Plans.trans (h : s.Plans t) (h' : t.Plans u) : s.Plans u :=
  ⟨h.settles.trans h'.settles, h'.tile.trans h.tile, h'.sys.trans h.sys⟩

theorem State.Plans.each {α : Type} {step : State → α → State} (h : ∀ (s : State) (x : α), s.Plans (step s x)) (l : List α) (s : State) :
    s.Plans (s.each l step) := State.each_related State.Plans.refl State.Plans.trans h l s

theorem State.Plans.set (h : s.Plans t) (f : Field) (v : Nat) (hlo : f.lo < 32) (ha : f.addr < 0x40000 ∨ 0x60000 ≤ f.addr) :
    s.Plans (t.set f v) := h.trans ⟨.set t f v hlo ha, rfl, rfl⟩

theorem State.plans_planPress (s : State) (x : VariantTab) (d : Nat) (fresh : Bool) : s.Plans (s.planPress x d fresh) := by
  have hpress (p : Press) : s.Plans (s.updCh d fun y => { y with press := p }) := ⟨.updCh s d fun _ => rfl, rfl, rfl⟩
  unfold State.planPress
  split
  · exact hpress .none
  · dsimp only
    split
    · exact (hpress _).trans ⟨.raise _ _ _ _, rfl, rfl⟩
    · exact hpress _

theorem State.plans_returnCredits (s : State) (p : Nat) (g : Grant) : s.Plans (s.returnCredits p g) := by
  unfold State.returnCredits
  split
  · exact .refl s
  · exact ⟨.of_same rfl rfl rfl rfl, rfl, rfl⟩

theorem State.plans_planBar (s : State) (switched forced saveFirst : Bool) : s.Plans (s.planBar switched forced saveFirst) := by
  unfold State.planBar
  cases s.playing with
  | none => exact .refl s
  | some x =>
    dsimp -zeta only
    extract_lets s1 again s2 s3 s4 void s5 s6 grants
    have h1 : s.Plans s1 := .each (fun u d => u.plans_planPress x d switched) channels s
    clear_value s1
    have h2 : s1.Plans s2 := by
      subst s2
      split
      · exact .refl s1
      · exact ⟨.of_same rfl rfl rfl rfl, rfl, rfl⟩
    clear_value s2
    have h3 : s2.Plans s3 := by
      refine State.Plans.each (fun u d => ?_) channels s2
      exact ⟨.updCh u d fun _ => rfl, rfl, rfl⟩
    clear_value s3
    have h4 : s3.Plans s4 := ⟨.of_same rfl rfl rfl rfl, rfl, rfl⟩
    clear_value s4
    have h5 : s4.Plans s5 := ((State.Plans.refl s4).set _ _ (by simp) (by simp)).set _ _ (by simp) (by simp)
    clear_value s5
    have h6 : s5.Plans s6 := ((State.Plans.refl s5).set _ _ (by simp) (by simp)).set _ _ (by simp) (by simp)
    clear_value s6
    have hlast := State.Plans.each (fun u p => u.plans_returnCredits p (grants.getD p ⟨0, 0⟩)) ports s6
    exact h1.trans (h2.trans (h3.trans (h4.trans (h5.trans (h6.trans hlast)))))

theorem State.plans_replan (s : State) : s.Plans s.replan := by
  unfold State.replan
  split
  · exact s.plans_planBar false false false
  · exact .refl s

theorem State.settles_updOffline (s : State) : s.Settles s.updOffline := .set _ _ _ (by simp) (by simp)

theorem State.settles_dropJobs (s : State) (d : Nat) (p : Job → Bool) : s.Settles (s.dropJobs d p) := .updCh s d fun _ => rfl

theorem State.settles_dropZeroing (s : State) (d : Nat) : s.Settles (s.dropZeroing d) := by
  have hqueue (z : List Nat) : s.Settles { s with dram := { s.dram with zeroQueue := z } } := .of_same rfl rfl rfl rfl
  exact (hqueue _).trans (State.settles_dropJobs _ d _)

/-! ### Frames of the pool (R118, R145) -/

/-- The next frame of the pool lies on a channel in service. -/
theorem State.nextFrame_inService {f : Nat} (h : s.nextFrame = some f) : s.chState (f % 8) = chInService := by
  have hbest : ∀ (l : List Nat) (b : Nat), (∀ d ∈ l, d < 8) → b < 8 →
      l.foldl (fun b d => if s.freeFrames b < s.freeFrames d then d else b) b < 8 := by
    intro l
    induction l with
    | nil => exact fun _ _ hb => hb
    | cons d l ih =>
      intro b hl hb
      refine ih _ (fun e he => hl e (List.mem_cons_of_mem _ he)) ?_
      dsimp only
      split
      · exact hl d List.mem_cons_self
      · exact hb
  have hlt := hbest channels 0 (fun d hd => State.mem_channels.mp hd) (by decide)
  unfold State.nextFrame at h
  dsimp only at h
  generalize channels.foldl _ 0 = best at h hlt
  split at h
  · cases h
  · next hfree =>
    obtain ⟨g, -, rfl⟩ := Option.map_eq_some_iff.mp h
    have hmod : (8 * g + best) % 8 = best := by omega
    rw [hmod]
    by_contra hno
    exact hfree (if_neg hno)

theorem State.frameOf_setFrame_self (s : State) (k : Nat) (f : Option Nat) : (s.setFrame k f).frameOf k = f := by
  unfold State.frameOf State.setFrame
  rw [Store.get_set_self]
  cases f with
  | none => rfl
  | some f => rfl

theorem State.frameOf_setFrame_ne (s : State) {j k : Nat} (h : j ≠ k) (f : Option Nat) : (s.setFrame k f).frameOf j = s.frameOf j := by
  unfold State.frameOf State.setFrame
  rw [Store.get_set_ne _ _ _ h]

theorem State.settles_setFrame (s : State) (k : Nat) (f : Option Nat) (h : ∀ g, f = some g → s.chState (g % 8) = chInService) :
    s.Settles (s.setFrame k f) := by
  refine ⟨fun _ _ _ => .of_regs rfl, fun _ _ => rfl, rfl, fun tile g hg => ?_⟩
  obtain rfl | hne := eq_or_ne tile k
  · rw [State.frameOf_setFrame_self] at hg
    exact .inr (h g hg)
  · rw [State.frameOf_setFrame_ne _ hne] at hg
    exact .inl hg

theorem State.settles_setHomeless (s : State) (k : Nat) (b : Bool) : s.Settles (s.setHomeless k b) := .of_same rfl rfl rfl rfl

theorem State.settles_rehome (s : State) (k : Nat) : s.Settles (s.rehome k) := by
  unfold State.rehome
  split
  · next f hf =>
    exact (s.settles_setFrame k (some f) fun g hg => Option.some.inj hg ▸ State.nextFrame_inService hf).trans
      (State.settles_setHomeless _ k false)
  · exact (s.settles_setFrame k none fun _ h => (nomatch h)).trans (State.settles_setHomeless _ k true)

theorem State.settles_moveCode (s : State) (k x : Nat) : s.Settles (s.moveCode k x) := by
  have hspares := s.spares_moveCode k x
  obtain ⟨_, _, h⟩ := s.moveCode_frame k x
  refine ⟨fun a hge hlt => hspares.keepsWord (by omega) (by omega), fun d _ => ?_, hspares.bytes, fun tile f hf => .inl ?_⟩
  · rw [h]
    rfl
  · rw [h] at hf
    exact hf

theorem State.settles_vacate (s : State) (f r p : Nat) : s.Settles (s.vacate f r p) := .of_same rfl rfl rfl rfl

theorem State.settles_dropCopy (s : State) (d : Nat) : s.Settles (s.dropCopy d) := by
  unfold State.dropCopy
  split
  · exact .refl s
  · refine State.Settles.trans (State.Settles.updCh s d ?_) (State.settles_vacate _ _ _ _)
    exact fun _ => rfl

theorem State.settles_dropCopies (s : State) (p : Nat → Bool) : s.Settles (s.dropCopies p) := by
  refine State.Settles.each (fun u d => ?_) channels s
  split
  · exact .ite (u.settles_dropCopy d) (.refl u) _
  · exact .refl u

theorem State.settles_forgotten (s : State) (k : Nat) : s.Settles (s.forgotten k) := by
  have hframe := s.settles_setFrame k none fun _ h => (nomatch h)
  have hrec (u : State) : u.Settles (u.setRec k .lost).dirtied := .of_same rfl rfl rfl rfl
  exact (hframe.trans (State.settles_setHomeless _ k false)).trans (hrec _)

theorem State.settles_loseTile (s : State) (k : Nat) : s.Settles (s.loseTile k) := by
  have hstale (u : State) : u.Settles (u.staleFlight k) := .of_same rfl rfl rfl rfl
  have hplaced : s.Settles ((s.dropCopies (· = k)).staleFlight k) := (s.settles_dropCopies _).trans (hstale _)
  have hlost (u : State) : u.Settles ((u.moveCode k codeLost).forgotten k) :=
    (u.settles_moveCode k codeLost).trans (State.settles_forgotten _ k)
  unfold State.loseTile
  dsimp only
  split
  · exact (hplaced.trans (State.settles_vacate _ _ _ _)).trans (hlost _)
  · exact hplaced.trans (hlost _)

theorem State.settles_loseInSave (s : State) (k cause : Nat) : s.Settles (s.loseInSave k cause) := by
  have hsave (u : State) (x : SaveState) (d : List DField) :
      u.Settles ((State.count { u with save := x } Reg.TILE_SAVE_LOST_TILES).raise 0x153 d) := by
    have hnew : u.Settles { u with save := x } := .of_same rfl rfl rfl rfl
    have hcount : State.Settles { u with save := x } (State.count { u with save := x } Reg.TILE_SAVE_LOST_TILES) := by
      refine ⟨fun a hge hlt f hlo hf => State.get_count_ne _ _ ?_, fun _ _ => rfl, rfl, fun _ _ h => .inl h⟩
      exact key_ne_of_addr_ne hlo (by simp) (by simp; omega)
    exact (hnew.trans hcount).trans (.raise _ _ _ _)
  obtain h | ⟨save, d, h⟩ := s.loseInSave_cases k cause
  · rw [h]
    exact s.settles_loseTile k
  · rw [h]
    exact (s.settles_loseTile k).trans (hsave _ _ _)

theorem State.settles_failTile (s : State) (k : Nat) : s.Settles (s.failTile k) := by
  unfold State.failTile
  dsimp only
  split_ifs
  · have hcode : s.Settles (s.setCode k codeAbsent) := .of_same rfl rfl rfl rfl
    exact hcode.trans (State.settles_rehome _ k)
  · exact s.settles_rehome k
  · exact s.settles_rehome k
  · exact s.settles_loseInSave k 2
  · exact s.settles_setFrame k none fun _ h => (nomatch h)


/-! ### The walk of a relocation (R145) -/

section Exec

variable (hrun : s.running = true)
include hrun

theorem exec_relocationTileCopy (x : WalkRead) : exec (.relocationTileCopy x) s =
    if s.chState x.chan = chRelocating then .next (s.relocStep x.chan x.errs) else .next s := State.engines_of_running hrun

theorem exec_relocationTileSwitch (c : Fin 8) : exec (.relocationTileSwitch c) s =
    if s.chState c = chRelocating && s.atDownbeat then .next (s.relocSwitch c) else .next s := State.engines_of_running hrun

theorem exec_relocationDone (c : Fin 8) : exec (.relocationDone c) s =
    if s.chState c = chRelocating && s.atDownbeat && (s.mappedFrames c).isEmpty && s.debt c = 0 then .next (s.relocDone c) else .next s :=
  State.engines_of_running hrun

theorem exec_channelReturnDone (c : Fin 8) : exec (.channelReturnDone c) s =
    if s.chState c = chReturning && s.atDownbeat && (s.ch c).trained && (s.jobOf c .zero).isNone && s.debt c = 0 then
      .next (s.returnDone c)
    else .next s := State.engines_of_running hrun

theorem exec_dramChannelFail {c : Fin 8} {cause b : Nat} (h : (s.ch c).failNext = some (cause, b)) : exec (.dramChannelFail c) s =
    if s.serving c && s.atDownbeat && decide (b < s.bar) then .next (s.failChannel c cause) else .next s := by
  have hexec : exec (.dramChannelFail c) s = match (s.ch c).failNext with
      | some (cause, b) => if s.serving c && s.atDownbeat && decide (b < s.bar) then .next (s.failChannel c cause) else .next s
      | none => .next s := State.engines_of_running hrun
  rw [hexec, h]

end Exec

section Walk

variable {tile f : Nat} (hcopy : (s.ch c).copying = none) (hnext : s.relocNext c = some tile) (hframe : s.nextFrame = some f)
include hcopy hnext hframe

theorem State.relocStep_zero (h : s.code tile = codeZero) (errs : List (Fin 1024 × LineRead)) : s.relocStep c errs = s.moveTile tile f := by
  unfold State.relocStep
  rw [hcopy, hnext, hframe]
  exact if_pos h

/-- A tile with contents is put under copy, and its lines' errors are noted. -/
theorem State.relocStep_copy (hc : c < 8) (h : s.code tile ≠ codeZero) (errs : List (Fin 1024 × LineRead)) :
    ((s.relocStep c errs).ch c).copying = some ⟨tile, f, 0, []⟩ ∧ (s.relocStep c errs).tile = s.tile ∧
    (s.relocStep c errs).dram.bytes = s.dram.bytes := by
  have heq : s.relocStep c errs = match s.frameOf tile with
      | none => s.updCh c fun x => { x with copying := some ⟨tile, f, 0, []⟩ }
      | some src => State.each ((s.updCh c fun x => { x with copying := some ⟨tile, f, 0, []⟩ }).readErrors src 4 errs).1
          ((s.updCh c fun x => { x with copying := some ⟨tile, f, 0, []⟩ }).readErrors src 4 errs).2
          fun (s : State) (e : Nat × List Byte) => s.wantMark c src e.1 none e.2 := by
    unfold State.relocStep
    rw [hcopy, hnext, hframe]
    exact if_neg h
  have hbegun : ((s.updCh c fun x => { x with copying := some ⟨tile, f, 0, []⟩ }).ch c).copying = some ⟨tile, f, 0, []⟩ := by
    rw [State.ch_updCh_self _ _ hc]
  have htile : (s.updCh c fun x => { x with copying := some ⟨tile, f, 0, []⟩ }).tile = s.tile := rfl
  have hbytes : (s.updCh c fun x => { x with copying := some ⟨tile, f, 0, []⟩ }).dram.bytes = s.dram.bytes := rfl
  rw [heq]
  generalize (s.updCh c fun x => { x with copying := some ⟨tile, f, 0, []⟩ }) = u at *
  cases s.frameOf tile with
  | none => exact ⟨hbegun, htile, hbytes⟩
  | some src =>
    dsimp only
    have hread := (u.readErrors_outcome src 4 errs).1
    have hmarks : (u.readErrors src 4 errs).1.Noted DramCh.bare [] c
        ((u.readErrors src 4 errs).1.each (u.readErrors src 4 errs).2 fun (s : State) (e : Nat × List Byte) => s.wantMark c src e.1 none e.2) :=
      State.each_related State.Noted.refl State.Noted.trans
        (fun (s : State) (e : Nat × List Byte) => State.noted_wantMark hc s src e.1 none e.2) _ _
    generalize (u.readErrors src 4 errs).1 = v at *
    have hread' : (v.ch c).copying = (u.ch c).copying := by
      obtain he | hne := eq_or_ne c (src % 8)
      · rw [he]
        exact hread.field DramCh.copying fun _ => rfl
      · rw [hread.other c hc hne]
    refine ⟨?_, ?_, ?_⟩
    · exact (hmarks.field DramCh.copying fun _ => rfl).trans (hread'.trans hbegun)
    · exact hmarks.tile.trans (hread.tile.trans htile)
    · exact hmarks.bytes.trans (hread.bytes.trans hbytes)

end Walk

/-- A tile that moves is at its new frame, and the old one is to be released. -/
theorem State.moveTile_outcome (s : State) (tile f : Nat) : (s.moveTile tile f).frameOf tile = some f ∧
    ∀ old, s.frameOf tile = some old → old ∈ (s.moveTile tile f).tile.releasing.map (·.frame) := by
  refine ⟨State.frameOf_setFrame_self _ tile (some f), fun old hold => ?_⟩
  have hmove : s.moveTile tile f = (s.vacate old).setFrame tile (some f) := by
    unfold State.moveTile
    rw [hold]
  rw [hmove]
  exact List.mem_map.mpr ⟨⟨old, 64, 0, s.bar⟩, List.mem_append_right _ List.mem_cons_self, rfl⟩

theorem State.relocSwitch_some {k : Reloc} (h : (s.ch c).copying = some k) : s.relocSwitch c =
    if k.done then (s.updCh c fun x => { x with copying := none }).moveTile k.tile k.dst else s := by
  unfold State.relocSwitch
  rw [h]

theorem Reloc.done_iff {k : Reloc} : k.done = true ↔ 1024 ≤ k.readAt ∧ k.buf = [] := by simp [Reloc.done]

/-! ### The end of a relocation (R147) -/

theorem State.setChState_tile (s : State) (c st : Nat) : (s.setChState c st).tile = s.tile := by
  obtain ⟨_, _, h⟩ := s.setChState_frame c st
  rw [h]

theorem State.setChState_bytes (s : State) (c st : Nat) : (s.setChState c st).dram.bytes = s.dram.bytes := by
  obtain ⟨_, _, h⟩ := s.setChState_frame c st
  rw [h]

/-- An empty channel is OFFLINE, with its result, and its generation counts once. -/
theorem State.relocDone_outcome (hc : c < 8) (h : s.chState c = chRelocating) : (s.relocDone c).chState c = chOffline ∧
    (s.relocDone c).get (Reg.DCH_RELOC_RESULT c) = 2 ∧
    (s.relocDone c).get (Reg.DCH_GEN_GEN c) = (s.get (Reg.DCH_GEN_GEN c) + 1) % 2 ^ (Reg.DCH_GEN_GEN c).width ∧
    (s.relocDone c).tile = s.tile ∧ (s.relocDone c).dram.bytes = s.dram.bytes := by
  have hafter (u : State) (d : List DField) : u.Settles (((u.dropZeroing c).raise (srcDram c 10) d).updOffline.replan) ∧
      (((u.dropZeroing c).raise (srcDram c 10) d).updOffline.replan).tile = u.tile := by
    have hdrop := (u.settles_dropZeroing c).trans (.raise _ (srcDram c 10) d [])
    have hsame : ((u.dropZeroing c).raise (srcDram c 10) d).updOffline.tile = u.tile := by
      rw [State.updOffline, State.set_tile, State.raise_tile]
      rfl
    generalize (u.dropZeroing c).raise (srcDram c 10) d = v at *
    have hplan := v.updOffline.plans_replan
    exact ⟨(hdrop.trans v.settles_updOffline).trans hplan.settles, hplan.tile.trans hsame⟩
  have hkept : ((s.keepRemain c).set (Reg.DCH_RELOC_RESULT c) 2).chState c = s.chState c := by
    rw [State.chState, State.get_set_ne _ _ (key_ne_of_addr_ne (by simp) (by simp) (by simp)), State.keepRemain,
      State.get_set_ne _ _ (key_ne_of_addr_ne (by simp) (by simp) (by simp))]
    rfl
  have hgen : ((s.keepRemain c).set (Reg.DCH_RELOC_RESULT c) 2).get (Reg.DCH_GEN_GEN c) = s.get (Reg.DCH_GEN_GEN c) := by
    rw [State.get_set_ne _ _ (key_ne_of_addr_ne (by simp) (by simp) (by simp)), State.keepRemain,
      State.get_set_ne _ _ (key_ne_of_addr_ne (by simp) (by simp) (by simp))]
  have hresult : ((s.keepRemain c).set (Reg.DCH_RELOC_RESULT c) 2).get (Reg.DCH_RELOC_RESULT c) = 2 := State.get_set_self _ _ _
  have htile : ((s.keepRemain c).set (Reg.DCH_RELOC_RESULT c) 2).tile = s.tile := rfl
  have hbytes : ((s.keepRemain c).set (Reg.DCH_RELOC_RESULT c) 2).dram.bytes = s.dram.bytes := rfl
  unfold State.relocDone
  dsimp only
  generalize (s.keepRemain c).set (Reg.DCH_RELOC_RESULT c) 2 = v at *
  obtain ⟨hsettles, hsame⟩ := hafter (v.setChState c chOffline) [d1 2, d4 ((v.setChState c chOffline).get (Reg.DCH_RELOC_REMAIN c))]
  have hbefore : v.chState c ≠ chOffline := by
    rw [hkept, h]
    decide
  refine ⟨?_, ?_, ?_, ?_, ?_⟩
  · exact (hsettles.chState hc).trans (State.chState_setChState (by decide) v c)
  · rw [hsettles.get _ (by simp) (by simp; omega) (by simp; omega),
      State.get_setChState_ne (key_ne_of_addr_ne (by simp) (by simp) (by simp)) (key_ne_of_addr_ne (by simp) (by simp) (by simp)), hresult]
  · rw [hsettles.gen hc, State.get_setChState_gen hbefore, hgen]
  · rw [hsame, State.setChState_tile, htile]
  · rw [hsettles.bytes, State.setChState_bytes, hbytes]

/-! ### The return of a channel (R149, R152, R182) -/

theorem Store.get_filter {α : Type} (d : α) (m : List (Nat × α)) (p : Nat → Bool) (k : Nat) :
    Store.get d (m.filter fun e => p e.1) k = if p k = true then Store.get d m k else d := by
  induction m with
  | nil => simp [Store.get]
  | cons e m ih =>
    rw [List.filter_cons]
    by_cases he : e.1 = k
    · subst he
      split
      · next hp => simp [Store.get]
      · next hp => simpa [hp] using ih
    · split
      · rw [Store.get, if_neg he, ih, Store.get, if_neg he]
      · rw [ih, Store.get, if_neg he]

theorem State.settles_joined (s : State) (f : Nat) : s.Settles (s.joined f) := by
  have htile : s.Settles (s.updTile fun x => { x with origins := x.origins.filter fun o => o.frame ≠ f }) := .of_same rfl rfl rfl rfl
  unfold State.joined
  dsimp only
  split
  · exact htile
  · exact .ite htile (htile.trans (.raise _ _ _ _)) _

theorem State.settles_grantHomeless (s : State) : s.Settles s.grantHomeless :=
  .each (fun u k => .ite (.refl u) (u.settles_rehome k) _) _ s

/-- The channel's bytes and markers are cleared. -/
def State.clearedChannel (s : State) (c : Nat) : State :=
  { s with dram := { s.dram with
      bytes := s.dram.bytes.filter fun e => e.1 / 65536 % 8 ≠ c
      poison := s.dram.poison.filter fun e => e.1 / 1024 % 8 ≠ c } }

/-- A returned channel serves, its frames zero, and its generation counts once. -/
theorem State.returnDone_outcome (hc : c < 8) (h : s.chState c = chReturning) : (s.returnDone c).chState c = chInService ∧
    (∀ a, a / 65536 % 8 = c → Store.get 0#8 (s.returnDone c).dram.bytes a = 0#8) ∧
    (∀ a, a / 65536 % 8 ≠ c → Store.get 0#8 (s.returnDone c).dram.bytes a = Store.get 0#8 s.dram.bytes a) ∧
    (s.returnDone c).get (Reg.DCH_GEN_GEN c) = (s.get (Reg.DCH_GEN_GEN c) + 1) % 2 ^ (Reg.DCH_GEN_GEN c).width := by
  have hafter (u : State) : u.Settles u.updOffline.grantHomeless.replan :=
    (u.settles_updOffline.trans (State.settles_grantHomeless _)).trans (State.plans_replan _).settles
  have hbefore (u : State) (p : Nat → Bool) : u.Settles
      ((((u.updCh c fun x => { x with trained := false }).dropJobs c (·.kind = .zero)).tile.origins.map (·.frame)).filter p |>.foldl
        State.joined ((u.updCh c fun x => { x with trained := false }).dropJobs c (·.kind = .zero))) := by
    have htrained : u.Settles (u.updCh c fun x => { x with trained := false }) := .updCh u c fun _ => rfl
    exact (htrained.trans (State.settles_dropJobs _ c _)).trans (.each State.settles_joined _ _)
  have hcleared : (s.clearedChannel c).chState c = s.chState c ∧
      (s.clearedChannel c).get (Reg.DCH_GEN_GEN c) = s.get (Reg.DCH_GEN_GEN c) := ⟨rfl, rfl⟩
  have hbytes (a : Nat) : Store.get 0#8 (s.clearedChannel c).dram.bytes a =
      if a / 65536 % 8 ≠ c then Store.get 0#8 s.dram.bytes a else 0#8 :=
    (Store.get_filter 0#8 s.dram.bytes (fun k => decide (k / 65536 % 8 ≠ c)) a).trans (by simp only [decide_eq_true_eq])
  unfold State.returnDone
  extract_lets dram v w x
  have hx : v.Settles x := hbefore v _
  have hv : v = s.clearedChannel c := rfl
  clear_value x v
  subst hv
  have hset := hafter (x.setChState c chInService)
  have hstate : x.chState c ≠ chInService := by
    rw [hx.chState hc, hcleared.1, h]
    decide
  have hdram : (x.setChState c chInService).updOffline.grantHomeless.replan.dram.bytes = (s.clearedChannel c).dram.bytes := by
    rw [hset.bytes, State.setChState_bytes, hx.bytes]
  refine ⟨?_, fun a ha => ?_, fun a ha => ?_, ?_⟩
  · rw [hset.chState hc, State.chState_setChState (by decide)]
  · rw [hdram, hbytes, if_neg (not_not.mpr ha)]
  · rw [hdram, hbytes, if_pos ha]
  · rw [hset.gen hc, State.get_setChState_gen hstate, hx.gen hc]
    rfl

/-! ### The failure of a channel (R150, R151, R154) -/

/-- What the abandoning of other relocations leaves of a channel: its state, its generation, and every tile's frame. -/
structure State.Departs (c : Nat) (s t : State) : Prop where
  stat : State.KeepsWord (0x40000 + 0x4000 * c) s t
  gen : State.KeepsWord (0x4003C + 0x4000 * c) s t
  map : t.tile.map = s.tile.map

theorem State.Departs.refl (c : Nat) (s : State) : State.Departs c s s := ⟨.refl _ s, .refl _ s, rfl⟩

theorem State.Departs.trans (h : State.Departs c s t) (h' : State.Departs c t u) : State.Departs c s u :=
  ⟨h.stat.trans h'.stat, h.gen.trans h'.gen, h'.map.trans h.map⟩

theorem State.Departs.of_same (hregs : t.regs = s.regs) (hmap : t.tile.map = s.tile.map) : State.Departs c s t :=
  ⟨.of_regs hregs, .of_regs hregs, hmap⟩

theorem State.Departs.set (s : State) (f : Field) (v : Nat) (hlo : f.lo < 32) (hstat : f.addr ≠ 0x40000 + 0x4000 * c)
    (hgen : f.addr ≠ 0x4003C + 0x4000 * c) : State.Departs c s (s.set f v) :=
  ⟨(State.KeepsWord.refl _ s).set f v hlo hstat, (State.KeepsWord.refl _ s).set f v hlo hgen, rfl⟩

theorem State.departs_updCh (s : State) (d : Nat) (g : DramCh → DramCh) : State.Departs c s (s.updCh d g) := .of_same rfl rfl

theorem State.departs_relocStop (s : State) (d : Nat) : State.Departs c s (s.relocStop d) := by
  have hcopy : State.Departs c s (s.dropCopy d) := by
    unfold State.dropCopy
    split
    · exact .refl c s
    · exact .of_same rfl rfl
  have hremain (u : State) : State.Departs c u (u.keepRemain d) := .set u (Reg.DCH_RELOC_REMAIN d) _ (by simp) (by simp; omega) (by simp; omega)
  have hresult (u : State) (l : List DField) : State.Departs c u ((u.set (Reg.DCH_RELOC_RESULT d) 4).raise (srcDram d 10) l) :=
    (State.Departs.set u (Reg.DCH_RELOC_RESULT d) 4 (by simp) (by simp; omega) (by simp; omega)).trans (.of_same rfl rfl)
  exact (hcopy.trans (hremain _)).trans (hresult _ _)

theorem State.departs_setChState {d : Nat} (hne : d ≠ c) (s : State) (st : Nat) : State.Departs c s (s.setChState d st) :=
  ⟨fun f hlo hf => State.get_setChState_ne (key_ne_of_addr_ne hlo (by simp) (by simp; omega))
      (key_ne_of_addr_ne hlo (by simp) (by simp; omega)) s st,
    fun f hlo hf => State.get_setChState_ne (key_ne_of_addr_ne hlo (by simp) (by simp; omega))
      (key_ne_of_addr_ne hlo (by simp) (by simp; omega)) s st,
    congrArg TileState.map (s.setChState_tile d st)⟩

theorem State.departs_relocAbandon {d : Nat} (hne : d ≠ c) (s : State) : State.Departs c s (s.relocAbandon d) := by
  unfold State.relocAbandon
  extract_lets v
  have hv : State.Departs c s v := s.departs_updCh d _
  clear_value v
  split_ifs
  · exact hv.trans ((v.departs_relocStop d).trans (State.departs_setChState hne _ _))
  · have hjobs : State.Departs c v ((v.updCh d fun x => { x with trained := false }).dropJobs d (·.kind = .zero)) := .of_same rfl rfl
    exact hv.trans (hjobs.trans (State.departs_setChState hne _ _))
  · exact hv

theorem State.Departs.each {α : Type} {l : List α} {step : State → α → State} (h : ∀ (s : State), ∀ x ∈ l, State.Departs c s (step s x))
    (s : State) : State.Departs c s (s.each l step) := by
  induction l generalizing s with
  | nil => exact .refl c s
  | cons x l ih => exact (h s x List.mem_cons_self).trans (ih (fun s y hy => h s y (List.mem_cons_of_mem _ hy)) _)

/-- The requests of a failed channel are answered, and none is left. -/
theorem State.failRequests_outcome (hc : c < 8) (s : State) : ((s.failRequests c).ch c).requests = ([], []) ∧
    State.Departs c s (s.failRequests c) := by
  have hanswer : ∀ (l : List HostReq) (u : State), (u.each l fun s r => s.respond r.port r.stamp
        (.readData r.port r.ld r.tag r.result true)).dram = u.dram ∧
      State.Departs c u (u.each l fun s r => s.respond r.port r.stamp (.readData r.port r.ld r.tag r.result true)) := fun l u =>
    State.each_related (R := fun u v => v.dram = u.dram ∧ State.Departs c u v) (fun u => ⟨rfl, .refl c u⟩)
      (fun h h' => ⟨h'.1.trans h.1, h.2.trans h'.2⟩)
      (fun u r => ⟨u.respond_dram _ _ _,
        fun f hlo hf => u.get_respond_ne (key_ne_of_addr_ne hlo (by simp) (by simp; omega))
          (key_ne_of_addr_ne hlo (by simp) (by simp; omega)),
        fun f hlo hf => u.get_respond_ne (key_ne_of_addr_ne hlo (by simp) (by simp; omega))
          (key_ne_of_addr_ne hlo (by simp) (by simp; omega)),
        congrArg TileState.map (u.respond_tile _ _ _)⟩) l u
  unfold State.failRequests
  extract_lets l v
  have hv : State.Departs c s v := s.departs_updCh c _
  have hnone : (v.ch c).requests = ([], []) := congrArg DramCh.requests (State.ch_updCh_self _ _ hc)
  clear_value v
  obtain ⟨hdram, hdeparts⟩ := hanswer l v
  refine ⟨?_, hv.trans hdeparts⟩
  rw [State.ch, hdram]
  exact hnone

/-- The tiles whose frames lie on a channel. -/
def State.tilesOn (s : State) (c : Nat) : List Nat := (s.tile.map.filter fun e => (e.2 - 1) % 8 = c).map (·.1)

theorem Store.mem_of_get_ne {α : Type} {d : α} {m : List (Nat × α)} {k : Nat} (h : Store.get d m k ≠ d) : (k, Store.get d m k) ∈ m := by
  induction m with
  | nil => exact absurd rfl h
  | cons e m ih =>
    by_cases he : e.1 = k
    · rw [Store.get, if_pos he] at *
      exact he ▸ List.mem_cons_self
    · rw [Store.get, if_neg he] at *
      exact List.mem_cons_of_mem _ (ih h)

theorem State.mem_tilesOn {tile f : Nat} (h : s.frameOf tile = some f) (hf : f % 8 = c) : tile ∈ s.tilesOn c := by
  have hget : Store.get 0 s.tile.map tile = f + 1 := by
    unfold State.frameOf at h
    split at h
    · cases h
    · next g hg => rw [hg, Option.some.inj h]
  have hmem := Store.mem_of_get_ne (d := 0) (m := s.tile.map) (k := tile) (by omega)
  rw [hget] at hmem
  exact List.mem_map.mpr ⟨_, List.mem_filter.mpr ⟨hmem, by simpa using hf⟩, rfl⟩

theorem State.frameOf_unmapped {l : List Nat} {tile : Nat} (h : tile ∈ l) (s : State) :
    (s.each l fun s t => s.setFrame t none).frameOf tile = none := by
  have hkeep (l : List Nat) (u : State) (hu : u.frameOf tile = none) : (u.each l fun s t => s.setFrame t none).frameOf tile = none :=
    State.each_related (R := fun u v => u.frameOf tile = none → v.frameOf tile = none) (fun _ h => h) (fun h h' hu => h' (h hu))
      (fun u j hu => by
        obtain rfl | hne := eq_or_ne tile j
        · exact State.frameOf_setFrame_self u tile none
        · rw [State.frameOf_setFrame_ne u hne, hu]) l u hu
  obtain ⟨before, after, rfl⟩ := List.append_of_mem h
  rw [State.each, List.foldl_append, List.foldl_cons]
  exact hkeep after _ (State.frameOf_setFrame_self _ tile none)

/-- The state a failing channel is in once the other relocations are abandoned and its own is stopped. -/
def State.departed (s : State) (c : Nat) : State :=
  let s := s.each (channels.filter (· ≠ c)) fun s d => if s.chState d = chRelocating then s.relocAbandon d else s
  if s.chState c = chRelocating then s.relocStop c else s

theorem State.departs_departed (s : State) (c : Nat) : State.Departs c s (s.departed c) := by
  have habandon : State.Departs c s (s.each (channels.filter (· ≠ c)) fun s d =>
      if s.chState d = chRelocating then s.relocAbandon d else s) := by
    refine .each (fun u d hd => ?_) s
    split
    · exact State.departs_relocAbandon (by simpa using (List.mem_filter.mp hd).2) u
    · exact .refl c u
  unfold State.departed
  dsimp only
  generalize State.each s (channels.filter (· ≠ c)) _ = v at *
  split
  · exact habandon.trans (v.departs_relocStop c)
  · exact habandon

/-- The failure itself: the requests answered, the cause and the state shown, the debt cleared. -/
def State.failed (s : State) (c cause : Nat) : State :=
  let s := (s.failRequests c).updCh c fun x => { x with failNext := none, leaving := false, restBars := 0, busy := 0, overruns := [] }
  (((s.set (Reg.DCH_STAT_FAIL_CAUSE c) cause).setChState c chFailed).debtClear c).dropZeroing c

/-- Its tiles are unmapped, each meets its fate, and the bar is planned again. -/
def State.unhomed (s : State) (tiles : List Nat) : State :=
  ((s.each tiles fun s t => s.setFrame t none).each tiles State.failTile).updOffline.replan

theorem State.failChannel_eq (s : State) (c cause : Nat) : ∃ d l, s.failChannel c cause =
    (((s.departed c).failed c cause).unhomed ((s.departed c).tilesOn c)).raise (srcDram c 11) d l := ⟨_, _, rfl⟩

theorem State.unhomed_outcome (s : State) (tiles : List Nat) :
    (s.each tiles fun s t => s.setFrame t none).Settles (s.unhomed tiles) :=
  ((State.Settles.each State.settles_failTile tiles _).trans (State.settles_updOffline _)).trans (State.plans_replan _).settles

theorem State.settles_unmapped (s : State) (tiles : List Nat) : s.Settles (s.each tiles fun s t => s.setFrame t none) :=
  .each (fun u k => u.settles_setFrame k none fun _ h => (nomatch h)) tiles s

/-- The debt is cleared, and the words of the channel's state, its generation and its cause stay. -/
theorem State.debtClear_outcome (s : State) (c : Nat) : (s.debtClear c).debt c = 0 ∧ State.Departs c s (s.debtClear c) ∧
    (s.debtClear c).dram = s.dram := by
  have hclear (u : State) (b : Bool) : State.Departs c u (((u.set (Reg.DCH_REF_DEBT_DEBT c) 0).set (Reg.DCH_REF_DEBT_INHERITED c) 0).setB
      Reg.SCORE_STAT_INHERITED_DEBT b) :=
    ((State.Departs.set u (Reg.DCH_REF_DEBT_DEBT c) 0 (by simp) (by simp) (by simp)).trans
      (.set _ (Reg.DCH_REF_DEBT_INHERITED c) 0 (by simp) (by simp) (by simp))).trans
      (.set _ Reg.SCORE_STAT_INHERITED_DEBT (bit b) (by simp) (by simp; omega) (by simp; omega))
  refine ⟨?_, hclear s _, rfl⟩
  unfold State.debtClear State.debt
  dsimp only
  rw [State.setB, State.get_set_ne _ _ (key_ne_of_addr_ne (by simp) (by simp) (by simp; omega)),
    State.get_set_ne _ _ (key_ne_of_lo_ne (by decide)),
    State.get_set_self]
  rfl

/-- What the failure shows. -/
theorem State.failed_outcome {cause : Nat} (hc : c < 8) (h : s.chState c ≠ chFailed) : (s.failed c cause).chState c = chFailed ∧
    (s.failed c cause).debt c = 0 ∧ ((s.failed c cause).ch c).requests = ([], []) ∧
    (s.failed c cause).get (Reg.DCH_GEN_GEN c) = (s.get (Reg.DCH_GEN_GEN c) + 1) % 2 ^ (Reg.DCH_GEN_GEN c).width := by
  obtain ⟨hreqs, hdeparts⟩ := State.failRequests_outcome hc s
  unfold State.failed
  extract_lets v
  have hv : State.Departs c s v := hdeparts.trans (State.departs_updCh _ c _)
  have hvreqs : (v.ch c).requests = ([], []) := (congrArg DramCh.requests (State.ch_updCh_self _ _ hc)).trans hreqs
  clear_value v
  have hstate : (v.set (Reg.DCH_STAT_FAIL_CAUSE c) cause).chState c ≠ chFailed := by
    rw [State.chState, State.get_set_ne _ _ (key_ne_of_lo_ne (by decide)), hv.stat _ (by simp) rfl]
    exact h
  have hgen : (v.set (Reg.DCH_STAT_FAIL_CAUSE c) cause).get (Reg.DCH_GEN_GEN c) = s.get (Reg.DCH_GEN_GEN c) := by
    rw [State.get_set_ne _ _ (key_ne_of_addr_ne (by simp) (by simp) (by simp)), hv.gen _ (by simp) rfl]
  have hch : ((v.set (Reg.DCH_STAT_FAIL_CAUSE c) cause).ch c).requests = ([], []) := hvreqs
  generalize v.set (Reg.DCH_STAT_FAIL_CAUSE c) cause = w at *
  obtain ⟨hdebt, hclear, hdram⟩ := (w.setChState c chFailed).debtClear_outcome c
  have hdrop := ((w.setChState c chFailed).debtClear c).settles_dropZeroing c
  refine ⟨?_, ?_, ?_, ?_⟩
  · rw [hdrop.chState hc, State.chState, hclear.stat _ (by simp) rfl]
    exact State.chState_setChState (by decide) w c
  · rw [hdrop.debt hc, hdebt]
  · rw [hdrop.requests c hc, State.ch, hdram, ← State.ch, State.setChState_ch, hch]
  · rw [hdrop.gen hc, hclear.gen _ (by simp) rfl, State.get_setChState_gen hstate, hgen]

/-- A channel that fails has no debt and no requests, and no tile that was mapped there is. -/
theorem State.failChannel_leaves {cause : Nat} (hc : c < 8) (h : s.serving c = true) : (s.failChannel c cause).debt c = 0 ∧
    ((s.failChannel c cause).ch c).reqs = [] ∧ ((s.failChannel c cause).ch c).issued = [] ∧
    (∀ tile f g, s.frameOf tile = some f → f % 8 = c → (s.failChannel c cause).frameOf tile = some g → g % 8 ≠ c) ∧
    (s.failChannel c cause).get (Reg.DCH_GEN_GEN c) = (s.get (Reg.DCH_GEN_GEN c) + 1) % 2 ^ (Reg.DCH_GEN_GEN c).width := by
  have hdeparts := s.departs_departed c
  have hbefore : (s.departed c).chState c ≠ chFailed := by
    rw [State.chState, hdeparts.stat _ (by simp) rfl]
    intro hfailed
    have hstate : s.chState c = chFailed := hfailed
    simp [State.serving, hstate, chFailed, chInService, chRelocating] at h
  have hframes (tile : Nat) : (s.departed c).frameOf tile = s.frameOf tile := by rw [State.frameOf, State.frameOf, hdeparts.map]
  have hgen := hdeparts.gen (Reg.DCH_GEN_GEN c) (by simp) rfl
  obtain ⟨d, l, heq⟩ := s.failChannel_eq c cause
  rw [heq]
  generalize s.departed c = u at *
  obtain ⟨hstate, hdebt, hreqs, hcount⟩ := State.failed_outcome (cause := cause) hc hbefore
  generalize u.failed c cause = v at *
  have hunmapped := v.settles_unmapped (u.tilesOn c)
  have hfates := v.unhomed_outcome (u.tilesOn c)
  have hall := hunmapped.trans hfates
  have hnone {tile : Nat} (htile : tile ∈ u.tilesOn c) := State.frameOf_unmapped htile v
  generalize v.each (u.tilesOn c) (fun s t => s.setFrame t none) = w at *
  generalize v.unhomed (u.tilesOn c) = x at *
  have hgone : (x.ch c).requests = ([], []) := (hall.requests c hc).trans hreqs
  refine ⟨(hall.debt hc).trans hdebt, congrArg Prod.fst hgone, congrArg Prod.snd hgone, fun tile f g hf hfc hg hgc => ?_, ?_⟩
  · have htile : tile ∈ u.tilesOn c := State.mem_tilesOn ((hframes tile).trans hf) hfc
    obtain hold | hnew := hfates.frames tile g hg
    · rw [hnone htile] at hold
      cases hold
    · rw [hgc, hunmapped.chState hc, hstate] at hnew
      cases hnew
  · rw [State.raise_get, hall.gen hc, hcount, hgen]

/-- Settles O19: a step of the walk by the code of its tile, the ends by the one change of state they make, and a failure by what it leaves
of the channel, whose frames no tile is given afterwards. -/
theorem channelsLeaveAndReturn : Obligations.ChannelsLeaveAndReturn := by
  unfold Obligations.ChannelsLeaveAndReturn
  refine fun c s hrun => ⟨fun errs => ⟨fun h => ?_, fun h hcopy tile f hnext hframe => ⟨fun hzero => ?_, fun hcode => ?_⟩⟩,
    s.moveTile_outcome, fun h hdown k hk => ⟨fun hwait => ?_, fun hread hbuf => ?_⟩, fun h => ⟨?_, ?_⟩,
    fun h hdown hmapped hdebt => ?_, fun h hstays => ?_, fun h hdown htrained hjob hdebt => ?_, fun h => ?_,
    fun cause b hfail => ⟨fun h => ?_, fun hcause hserve hdown hbar => ?_⟩⟩
  · rw [exec_relocationTileCopy hrun]
    exact if_neg h
  · rw [exec_relocationTileCopy hrun, if_pos h, State.relocStep_zero hcopy hnext hframe hzero errs]
  · rw [exec_relocationTileCopy hrun]
    exact ⟨_, if_pos h, State.relocStep_copy hcopy hnext hframe c.isLt hcode errs⟩
  · rw [exec_relocationTileSwitch hrun, if_pos (by simp [h, hdown]), State.relocSwitch_some hk, if_neg]
    rw [Reloc.done_iff]
    rintro ⟨hread, hbuf⟩
    obtain hmore | hmore := hwait
    · exact absurd hread (Nat.not_le.mpr hmore)
    · exact hmore hbuf
  · rw [exec_relocationTileSwitch hrun, if_pos (by simp [h, hdown]), State.relocSwitch_some hk, if_pos (Reloc.done_iff.mpr ⟨hread, hbuf⟩)]
  · rw [exec_relocationTileSwitch hrun]
    exact if_neg (by rcases h with h | h <;> simp [h])
  · rw [exec_relocationDone hrun]
    exact if_neg (by rcases h with h | h <;> simp [h])
  · rw [exec_relocationDone hrun]
    exact ⟨_, if_pos (by simp [h, hdown, hmapped, hdebt]), State.relocDone_outcome c.isLt h⟩
  · rw [exec_relocationDone hrun]
    exact if_neg (by rcases hstays with hstays | hstays <;> simp [hstays])
  · rw [exec_channelReturnDone hrun]
    exact ⟨_, if_pos (by simp [h, hdown, htrained, hjob, hdebt]), State.returnDone_outcome c.isLt h⟩
  · rw [exec_channelReturnDone hrun]
    refine if_neg ?_
    simp only [Bool.and_eq_true, decide_eq_true_eq, Option.isNone_iff_eq_none]
    rintro ⟨⟨⟨⟨hstate, hdown⟩, htrained⟩, hjob⟩, hdebt⟩
    obtain h | h | h | h | h := h
    · exact h hstate
    · exact nomatch hdown.symm.trans h
    · exact nomatch htrained.symm.trans h
    · exact h hjob
    · exact h hdebt
  · rw [exec_dramChannelFail hrun hfail]
    exact if_neg (by rcases h with h | h | h <;> simp [h])
  · obtain ⟨hstate, hshown⟩ := s.failChannel_outcome (cause := cause) c.isLt (by omega)
    refine ⟨_, ?_, hstate, hshown, State.failChannel_leaves c.isLt hserve⟩
    rw [exec_dramChannelFail hrun hfail]
    exact if_pos (by simp [hserve, hdown, hbar])

end Sys2Proof.Machine
end

section
/-! PROOFS. The registers of the device, the DRAM channels and the links through the steps that other engines take: what each leaves. -/

namespace Sys2Proof.Machine

variable {s t u : State} {keep keep' : Field → Prop}

/-! ### Registers that are left alone -/

/-- A field of SYS_STATE or of SYS_PWR_STATE. -/
def ofDevice (f : Field) : Prop := f.lo < 32 ∧ (f.addr = 0x4 ∨ f.addr = 0xC)

/-- A field of SYS_STATE, of SYS_PWR_STATE or of a DRAM channel's registers, or the state of a link. -/
def ofStartUp (f : Field) : Prop :=
  (f.lo < 32 ∧ ((f.addr = 0x4 ∨ f.addr = 0xC) ∨ (0x40000 ≤ f.addr ∧ f.addr < 0x60000))) ∨ ∃ p < 4, f = Reg.HPORT_STAT_LINK_STATE p

theorem ofStartUp_of_ofDevice {f : Field} (h : ofDevice f) : ofStartUp f := .inl ⟨h.1, .inl h.2⟩

theorem ofStartUp_channel {f : Field} (hlo : f.lo < 32) (hge : 0x40000 ≤ f.addr) (hlt : f.addr < 0x60000) : ofStartUp f :=
  .inl ⟨hlo, .inr ⟨hge, hlt⟩⟩

theorem ofStartUp_link {p : Nat} (hp : p < 4) : ofStartUp (Reg.HPORT_STAT_LINK_STATE p) := .inr ⟨p, hp, rfl⟩

theorem ofStartUp_lo {f : Field} (h : ofStartUp f) : f.lo < 32 := by
  obtain ⟨hlo, -⟩ | ⟨p, -, rfl⟩ := h
  · exact hlo
  · simp

/-- The other registers of the device, the score player's, and those from the tile engine's on. -/
def farAddr (a : Nat) : Prop := (0x10 ≤ a ∧ a < 0x40000) ∨ 0x70000 ≤ a

theorem key_ne_of_far {f g : Field} (hf : ofStartUp f) (hlo : g.lo < 32) (hg : farAddr g.addr) : f.key ≠ g.key := by
  unfold farAddr at hg
  obtain ⟨hflo, haddr⟩ | ⟨p, hp, rfl⟩ := hf
  · exact key_ne_of_addr_ne hflo hlo (by omega)
  · exact key_ne_of_addr_ne (by simp) hlo (by simp; omega)

/-- A port's fields beside the state of its link. -/
theorem key_ne_of_port {f g : Field} (hf : ofStartUp f) (hlo : g.lo < 32) (hne : g.lo ≠ 29) (hg : 0x60000 ≤ g.addr) : f.key ≠ g.key := by
  obtain ⟨hflo, haddr⟩ | ⟨p, hp, rfl⟩ := hf
  · exact key_ne_of_addr_ne hflo hlo (by omega)
  · simp only [Field.key]
    omega

theorem device_key_ne {f g : Field} (hf : ofDevice f) (hlo : g.lo < 32) (hg : 0x10 ≤ g.addr) : f.key ≠ g.key :=
  key_ne_of_addr_ne hf.1 hlo (by have := hf.2; omega)

/-- A step that keeps some registers, the events raised, and the device's own state. -/
structure State.Quiet (keep : Field → Prop) (s t : State) : Prop where
  get : ∀ f, keep f → t.get f = s.get f
  raised : ∀ e ∈ s.raised, e ∈ t.raised
  sys : t.sys = s.sys

theorem State.Quiet.refl (s : State) : State.Quiet keep s s := ⟨fun _ _ => rfl, fun _ h => h, rfl⟩

theorem State.Quiet.trans (h : State.Quiet keep s t) (h' : State.Quiet keep t u) : State.Quiet keep s u :=
  ⟨fun f hf => (h'.get f hf).trans (h.get f hf), fun e he => h'.raised e (h.raised e he), h'.sys.trans h.sys⟩

theorem State.Quiet.mono (h : State.Quiet keep s t) (hsub : ∀ f, keep' f → keep f) : State.Quiet keep' s t :=
  ⟨fun f hf => h.get f (hsub f hf), h.raised, h.sys⟩

theorem State.Quiet.device (h : State.Quiet ofStartUp s t) : State.Quiet ofDevice s t := h.mono fun _ => ofStartUp_of_ofDevice

theorem State.Quiet.of_same (hregs : t.regs = s.regs) (hraised : t.raised = s.raised) (hsys : t.sys = s.sys) : State.Quiet keep s t :=
  ⟨fun f _ => by rw [State.get, hregs]; rfl, fun _ he => hraised ▸ he, hsys⟩

theorem State.Quiet.set (s : State) (f : Field) (v : Nat) (h : ∀ g, keep g → g.key ≠ f.key) : State.Quiet keep s (s.set f v) :=
  ⟨fun g hg => State.get_set_ne _ _ (h g hg), fun _ he => he, rfl⟩

theorem State.Quiet.count (s : State) (f : Field) (n : Nat) (h : ∀ g, keep g → g.key ≠ f.key) : State.Quiet keep s (s.count f n) :=
  ⟨fun g hg => State.get_count_ne _ _ (h g hg), fun _ he => he, rfl⟩

theorem State.Quiet.raise (s : State) (n : Nat) (d : List DField) (l : List CxlRec) : State.Quiet keep s (s.raise n d l) :=
  ⟨fun _ _ => rfl, fun _ he => List.mem_append_left _ he, rfl⟩

theorem State.Quiet.ite (h : State.Quiet keep s t) (h' : State.Quiet keep s u) (p : Prop) [Decidable p] :
    State.Quiet keep s (if p then t else u) := by
  split
  · exact h
  · exact h'

theorem State.Quiet.each {α : Type} {step : State → α → State} (h : ∀ (s : State) (x : α), State.Quiet keep s (step s x)) (l : List α)
    (s : State) : State.Quiet keep s (s.each l step) := State.each_related State.Quiet.refl State.Quiet.trans h l s

theorem State.Quiet.each_of_mem {α : Type} {l : List α} {step : State → α → State}
    (h : ∀ (s : State), ∀ x ∈ l, State.Quiet keep s (step s x)) (s : State) : State.Quiet keep s (s.each l step) := by
  induction l generalizing s with
  | nil => exact .refl s
  | cons x l ih => exact (h s x List.mem_cons_self).trans (ih (fun s y hy => h s y (List.mem_cons_of_mem _ hy)) _)

theorem State.quiet_far (s : State) (f : Field) (v : Nat) (hlo : f.lo < 32) (ha : farAddr f.addr) : State.Quiet ofStartUp s (s.set f v) :=
  .set s f v fun _ hg => key_ne_of_far hg hlo ha

theorem State.quiet_port (s : State) (f : Field) (v : Nat) (hlo : f.lo < 32) (hne : f.lo ≠ 29) (ha : 0x60000 ≤ f.addr) :
    State.Quiet ofStartUp s (s.set f v) := .set s f v fun _ hg => key_ne_of_port hg hlo hne ha

theorem State.quiet_above (s : State) (f : Field) (v : Nat) (hlo : f.lo < 32) (ha : 0x10 ≤ f.addr) :
    State.Quiet ofDevice s (s.set f v) := .set s f v fun _ hg => device_key_ne hg hlo ha

/-! ### The score player (R67, R101, R105) -/

theorem State.quiet_planBar (s : State) (switched forced saveFirst : Bool) : State.Quiet ofStartUp s (s.planBar switched forced saveFirst) := by
  refine ⟨fun f hf => ?_, (s.swapKeeps_planBar switched forced saveFirst).raised, (s.plans_planBar switched forced saveFirst).sys⟩
  have ha : f.addr ≠ 0x20004 := by
    obtain ⟨-, haddr⟩ | ⟨p, hp, rfl⟩ := hf
    · omega
    · simp
      omega
  exact s.keepsWord_planBar ha switched forced saveFirst f (ofStartUp_lo hf) rfl

theorem State.quiet_replan (s : State) : State.Quiet ofStartUp s s.replan := .ite (s.quiet_planBar false false false) (.refl s) _

theorem State.quiet_publishScore (s : State) (g : Score) : State.Quiet ofStartUp s (s.publishScore g) := by
  refine (s.quiet_far Reg.SCORE_VARIANT_PRESENT g.variantMask (by simp) (by simp [farAddr])).trans (.each_of_mem (fun u p hp => ?_) _)
  have hp : p < 4 := List.mem_range.mp hp
  extract_lets u1 u2 u3
  have h1 : State.Quiet ofStartUp u u1 := (u.quiet_far (Reg.SCORE_BOUND_READ_NS p) _ (by simp) (by simp [farAddr]; omega)).trans
    (State.quiet_far _ (Reg.SCORE_BOUND_WRITE_NS p) _ (by simp) (by simp [farAddr]; omega))
  clear_value u1
  have h2 : State.Quiet ofStartUp u1 u2 := (u1.quiet_port (Reg.HPORT_STAT_ISOCH_IMAGE p) _ (by simp) (by simp) (by simp)).trans
    (State.quiet_port _ (Reg.HPORT_STAT_ISOCH p) _ (by simp) (by simp) (by simp))
  clear_value u2
  have h3 : State.Quiet ofStartUp u2 u3 := u2.quiet_port (Reg.HPORT_STAT_PRESENT p) _ (by simp) (by simp) (by simp)
  clear_value u3
  exact ((h1.trans h2).trans h3).trans ((u3.quiet_port (Reg.HPORT_CREDITS_REQ_POOL p) _ (by simp) (by simp) (by simp; omega)).trans
    (State.quiet_port _ (Reg.HPORT_CREDITS_RWD_POOL p) _ (by simp) (by simp) (by simp; omega)))

theorem State.quiet_beginScore (s : State) (g : Score) : State.Quiet ofStartUp s (s.beginScore g) := by
  obtain ⟨v, hbegin⟩ := s.beginScore_eq g
  have hplay : State.Quiet ofStartUp s (s.updSeq fun q => { q with play := g }) := .of_same rfl rfl rfl
  have hchecked (u : State) : State.Quiet ofStartUp u (u.reqChecked g) :=
    .ite ((State.Quiet.raise u _ _ _).trans (State.quiet_far _ Reg.SCORE_VARIANT_REQ 0 (by simp) (by simp [farAddr]))) (.refl u) _
  have hswitch (u : State) : State.Quiet ofStartUp u (u.switchTo v false) := by
    rw [State.switchTo_unforced]
    exact (((u.quiet_far Reg.SCORE_VARIANT_ACTIVE _ (by simp) (by simp [farAddr])).trans
      (State.quiet_far _ Reg.SCORE_VARIANT_REQ_PENDING _ (by simp) (by simp [farAddr]))).trans
      (State.quiet_far _ Reg.SCORE_VARIANT_HOT_CAP _ (by simp) (by simp [farAddr]))).trans (.raise _ _ _ _)
  rw [hbegin]
  exact ((hplay.trans (State.quiet_publishScore _ g)).trans (hchecked _)).trans (hswitch _)

theorem State.quiet_publishBounds (s : State) : State.Quiet ofStartUp s s.publishBounds := by
  have hfar (u : State) (f : Field) (v : Nat) (hlo : f.lo < 32) (ha : 0x70000 ≤ f.addr) : State.Quiet ofStartUp u (u.set f v) :=
    u.quiet_far f v hlo (.inr ha)
  unfold State.publishBounds
  extract_lets s1 s2 old s3 new
  have h1 : State.Quiet ofStartUp s s1 := hfar s Reg.TILE_HOLD_BOUND_MARGIN _ (by simp) (by simp)
  clear_value s1
  have h2 : State.Quiet ofStartUp s1 s2 := hfar s1 Reg.TILE_HOLD_BOUND_BOUND_US _ (by simp) (by simp)
  clear_value s2
  have h3 : State.Quiet ofStartUp s2 s3 := by
    have htouch (n m : Nat) : State.Quiet ofStartUp s2 ((s2.set Reg.TILE_TOUCH_BOUND_BARS n).set Reg.TILE_TOUCH_BOUND_BOUND_US m) :=
      (hfar s2 Reg.TILE_TOUCH_BOUND_BARS _ (by simp) (by simp)).trans (hfar _ Reg.TILE_TOUCH_BOUND_BOUND_US _ (by simp) (by simp))
    subst s3
    split
    · exact htouch _ _
    · exact htouch _ _
  clear_value s3
  exact (h1.trans (h2.trans h3)).trans (.ite (.refl s3) (.raise _ _ _ _) _)

theorem State.quiet_updGpf (s : State) : State.Quiet ofStartUp s s.updGpf := by
  obtain ⟨hget, hraised, -⟩ := State.onlyLogs_outcome s.onlyLogs_updGpf
  refine ⟨fun f _ => hget f, hraised, ?_⟩
  obtain ⟨_, _, h⟩ := s.onlyLogs_updGpf
  rw [h]

/-! ### Host requests (R171, R203, R215, R263) -/

theorem State.quiet_respond (s : State) (p : Fin 4) (stamp : Nat) (o : Out) : State.Quiet ofStartUp s (s.respond p stamp o) := by
  refine ⟨fun f hf => s.get_respond_ne (key_ne_of_port hf (by simp) (by simp) (by simp))
      (key_ne_of_port hf (by simp) (by simp) (by simp; omega)),
    fun e he => ?_, ?_⟩
  · rw [State.respond_raised]
    exact he
  · obtain ⟨_, _, _, _, h⟩ := s.respond_frame p stamp o
    rw [h]

theorem State.Spares.quiet (h : s.Spares t) (hsys : t.sys = s.sys) : State.Quiet ofStartUp s t :=
  ⟨fun f hf => h.get f (key_ne_of_far hf (by simp) (by simp [farAddr])) (key_ne_of_far hf (by simp) (by simp [farAddr])), h.raised, hsys⟩

theorem State.quiet_moveCode (s : State) (k x : Nat) : State.Quiet ofStartUp s (s.moveCode k x) := by
  refine (s.spares_moveCode k x).quiet ?_
  obtain ⟨_, _, h⟩ := s.moveCode_frame k x
  rw [h]
  rfl

theorem State.sys_loseTile (s : State) (k : Nat) : (s.loseTile k).sys = s.sys := by
  have hplaced : ((s.dropCopies (· = k)).staleFlight k).sys = s.sys := by
    obtain ⟨_, _, h⟩ := s.dropCopies_frame (· = k)
    rw [h]
    rfl
  have hrec (u : State) : ((u.setRec k .lost).dirtied).sys = u.sys := rfl
  have hframe (u : State) : ((u.setFrame k none).setHomeless k false).sys = u.sys := rfl
  have hforgotten (u : State) : (u.forgotten k).sys = u.sys := by rw [State.forgotten, hrec, hframe]
  have hlost (u : State) : ((u.moveCode k codeLost).forgotten k).sys = u.sys := by
    rw [hforgotten, (u.quiet_moveCode k codeLost).sys]
  have hvacate (u : State) (f : Nat) : (u.vacate f).sys = u.sys := rfl
  unfold State.loseTile
  dsimp only
  split
  · exact (hlost _).trans ((hvacate _ _).trans hplaced)
  · exact (hlost _).trans hplaced

theorem State.quiet_loseInSave (s : State) (k cause : Nat) : State.Quiet ofStartUp s (s.loseInSave k cause) := by
  refine (s.spares_loseInSave k cause).quiet ?_
  have hsave (u : State) (x : SaveState) (d : List DField) :
      ((State.count { u with save := x } Reg.TILE_SAVE_LOST_TILES).raise 0x153 d).sys = u.sys := rfl
  obtain h | ⟨save, d, h⟩ := s.loseInSave_cases k cause
  · rw [h, State.sys_loseTile]
  · rw [h, hsave, State.sys_loseTile]

theorem State.quiet_countFar (s : State) (f : Field) (n : Nat) (hlo : f.lo < 32) (ha : farAddr f.addr) :
    State.Quiet ofStartUp s (s.count f n) := .count s f n fun _ hg => key_ne_of_far hg hlo ha

theorem State.quiet_wordUe (s : State) (w : Nat) : State.Quiet ofStartUp s (s.wordUe w) := by
  obtain ⟨d, h⟩ := s.wordUe_eq w
  have hlost : State.Quiet ofStartUp s (s.wordLost w) :=
    (State.Quiet.each (fun u k => u.quiet_loseInSave k 4) _ s).trans (.each (fun u k => u.quiet_moveCode k codeUnmapped) _ _)
  rw [h]
  exact (hlost.trans (State.quiet_countFar _ Reg.TILE_STATE_ERR_UE 1 (by simp) (by simp [farAddr]))).trans (.raise _ _ _ _)

theorem State.quiet_readState (s : State) (w : Nat) (e : SecDed) : State.Quiet ofStartUp s (s.readState w e) := by
  unfold State.readState
  dsimp only
  split
  · exact s.quiet_wordUe w
  · split
    · exact .refl s
    · exact s.quiet_countFar _ _ (by simp) (by simp [farAddr])
    · exact s.quiet_wordUe w

theorem State.quiet_readMap (s : State) (k : Nat) (e : SecDed) : State.Quiet ofStartUp s (s.readMap k e) := by
  have hstray (u : State) (f : Nat) : State.Quiet ofStartUp u
      ((u.setFrame k none).updTile fun x => { x with strayFrames := x.strayFrames ++ [f] }) := .of_same rfl rfl rfl
  unfold State.readMap
  split
  · exact .refl s
  · split
    · exact .refl s
    · exact s.quiet_countFar _ _ (by simp) (by simp [farAddr])
    · dsimp only
      refine State.Quiet.trans (State.Quiet.trans ?_ (State.quiet_loseInSave _ k 3)) (.raise _ _ _ _)
      split
      · exact hstray s _
      · exact .refl s

theorem State.quiet_updTouchStat (s : State) : State.Quiet ofStartUp s s.updTouchStat :=
  (s.quiet_far Reg.TILE_TOUCH_STAT_OUTSTANDING _ (by simp) (by simp [farAddr])).trans
    (State.quiet_far _ Reg.TILE_TOUCH_STAT_WAITING _ (by simp) (by simp [farAddr]))

theorem State.quiet_wantFetch (s : State) (k stamp : Nat) : State.Quiet ofStartUp s (s.wantFetch k stamp) := by
  obtain ⟨fetches, chans, -, h⟩ := s.wantFetch_eq k stamp
  rw [h]
  refine State.Quiet.trans ?_ (State.quiet_updTouchStat _)
  exact .of_same rfl rfl rfl

theorem State.quiet_updExpedited (s : State) : State.Quiet ofStartUp s s.updExpedited :=
  s.quiet_far Reg.TILE_STAT_EXPEDITED _ (by simp) (by simp [farAddr])

theorem State.quiet_updHeld (s : State) : State.Quiet ofStartUp s s.updHeld := by
  unfold State.updHeld
  extract_lets tiles s1 s2
  have h1 : State.Quiet ofStartUp s s1 := s.quiet_far Reg.TILE_HOLD_STAT_HELD_TILES _ (by simp) (by simp [farAddr])
  clear_value s1
  have h2 : State.Quiet ofStartUp s1 s2 :=
    .each (fun u p => u.quiet_port (Reg.HPORT_HOLD_HELD_NOW p) _ (by simp) (by simp) (by simp; omega)) ports s1
  clear_value s2
  exact (h1.trans h2).trans ((s2.quiet_far Reg.TILE_STAT_HOLD _ (by simp) (by simp [farAddr])).trans (State.quiet_updExpedited _))

theorem State.quiet_hold (s : State) (r : HostReq) : State.Quiet ofStartUp s (s.hold r) := by
  unfold State.hold
  extract_lets s1 s2
  have h1 : State.Quiet ofStartUp s s1 := by
    subst s1
    split
    · have htile (u : State) : State.Quiet ofStartUp u (u.updTile fun x => { x with heldCount := 0, heldLongest := 0 }) := .of_same rfl rfl rfl
      exact (State.Quiet.raise s _ _ _).trans (htile _)
    · exact .refl s
  clear_value s1
  have h2 : State.Quiet ofStartUp s1 s2 := .of_same rfl rfl rfl
  clear_value s2
  have hcount : State.Quiet ofStartUp s2 (s2.count (Reg.HPORT_HOLD_HELD r.port)) :=
    .count s2 _ 1 fun _ hg => key_ne_of_port hg (by simp) (by simp) (by simp; omega)
  exact (h1.trans h2).trans (hcount.trans (State.quiet_updHeld _))

theorem State.quiet_answerBad (s : State) (r : HostReq) : State.Quiet ofStartUp s (s.answerBad r) := s.quiet_respond _ _ _

theorem State.quiet_lostAccess (s : State) (r : HostReq) : State.Quiet ofStartUp s (s.lostAccess r) := by
  unfold State.lostAccess
  dsimp only
  split
  · exact (State.Quiet.raise s _ _ _).trans (State.quiet_answerBad _ r)
  · have hlog (u : State) (x : CxlRec) : State.Quiet ofStartUp u (u.logOnly x) :=
      ⟨fun _ _ => rfl, fun _ he => List.mem_append_left _ he, rfl⟩
    exact (State.Quiet.each hlog _ s).trans (State.quiet_answerBad _ r)

theorem State.quiet_queueAt (s : State) (r : HostReq) (f : Nat) : State.Quiet ofStartUp s (s.queueAt r f) := by
  unfold State.queueAt
  dsimp only
  split
  · exact .of_same rfl rfl rfl
  · exact .of_same rfl rfl rfl

theorem State.quiet_enqueue (s : State) (r : HostReq) (f : Nat) : State.Quiet ofStartUp s (s.enqueue r f) := by
  unfold State.enqueue
  dsimp only
  split
  · exact (s.quiet_queueAt r f).trans (.ite (State.quiet_queueAt _ r _) (.refl _) _)
  · exact s.quiet_queueAt r f

theorem State.quiet_acceptWrite (s : State) (r : HostReq) : State.Quiet ofStartUp s (s.acceptWrite r) := by
  unfold State.acceptWrite
  split
  · exact .refl s
  · next f hf =>
    extract_lets s1 s2
    have hstale (u : State) : State.Quiet ofStartUp u (u.staleFlight r.tile) := .of_same rfl rfl rfl
    have h1 : State.Quiet ofStartUp s s1 := ((s.quiet_moveCode r.tile (s.hotCode r.tile)).trans (hstale _)).trans (State.quiet_enqueue _ r f)
    clear_value s1
    have h2 : State.Quiet ofStartUp s1 s2 := by
      have hsave : State.Quiet ofStartUp s1 (s1.updSave fun x => { x with admitted := x.admitted + 1 }) := .of_same rfl rfl rfl
      exact .ite hsave (.refl s1) _
    clear_value s2
    exact (h1.trans h2).trans (s2.quiet_respond _ _ _)

theorem State.quiet_dispatch (s : State) (r : HostReq) : State.Quiet ofStartUp s (s.dispatch r) := by
  have hwait (u : State) : State.Quiet ofStartUp u (u.updTile fun x => { x with waits := x.waits ++ [r] }) := .of_same rfl rfl rfl
  unfold State.dispatch
  dsimp only
  split_ifs
  · exact s.quiet_lostAccess r
  · exact (State.Quiet.raise s _ _ _).trans (State.quiet_answerBad _ r)
  · exact (s.quiet_wantFetch _ _).trans (State.quiet_hold _ r)
  · exact (s.quiet_wantFetch _ _).trans (hwait _)
  · unfold State.serve State.tryWrite
    split
    · exact .ite (s.quiet_acceptWrite r) (s.quiet_hold r) _
    · split
      · exact s.quiet_enqueue r _
      · exact .refl s

theorem State.quiet_violation (s : State) (r : HostReq) (dpa len : Nat) : State.Quiet ofStartUp s (s.violation r dpa len) := by
  have hcount : State.Quiet ofStartUp s (s.count (Reg.HPORT_VIOL_COUNT_COUNT r.port)) :=
    .count s _ 1 fun _ hg => key_ne_of_port hg (by simp) (by simp) (by simp; omega)
  exact (hcount.trans (.raise _ _ _ _)).trans (State.quiet_respond _ _ _ _)

theorem State.quiet_lookUp (s : State) (a : HostAccess) (stamp : Nat) (write : Bool) (data : List Byte) (mask : List Bool) :
    State.Quiet ofStartUp s (s.lookUp a stamp write data mask) := by
  unfold State.lookUp
  dsimp only
  split
  · exact s.quiet_violation _ _ _
  · split
    · exact s.quiet_violation _ _ _
    · exact ((s.quiet_readState _ _).trans (State.quiet_readMap _ _ _)).trans (State.quiet_dispatch _ _)

end Sys2Proof.Machine
end

section
/-! PROOFS. The parts of which start-up and the power states are made (R105, R123, R223, R254, R259, R278, R350, R527, R530). -/

namespace Sys2Proof.Machine

variable {s t u : State}

/-! ### Folds over channels and ports -/

/-- A fold that changes, at each member of a list, what is seen there alone. -/
theorem State.each_look {β : Type} {look : State → Nat → β} {inv : State → Prop} {step : State → Nat → State} {v : Nat → β → β}
    {l : List Nat} (hnd : l.Nodup) (hinv : ∀ u, inv u → ∀ d ∈ l, inv (step u d))
    (hself : ∀ u, inv u → ∀ d ∈ l, look (step u d) d = v d (look u d))
    (hother : ∀ u, ∀ d ∈ l, ∀ c, c ≠ d → look (step u d) c = look u c) (h : inv s) (c : Nat) :
    look (s.each l step) c = if c ∈ l then v c (look s c) else look s c := by
  induction l generalizing s with
  | nil => rfl
  | cons d l ih =>
    obtain ⟨hd, hl⟩ := List.nodup_cons.mp hnd
    have hrest := ih hl (fun u hu e he => hinv u hu e (List.mem_cons_of_mem _ he))
      (fun u hu e he => hself u hu e (List.mem_cons_of_mem _ he)) (fun u e he => hother u e (List.mem_cons_of_mem _ he))
      (hinv s h d List.mem_cons_self)
    refine hrest.trans ?_
    obtain rfl | hne := eq_or_ne c d
    · rw [if_neg hd, if_pos List.mem_cons_self, hself s h c List.mem_cons_self]
    · rw [hother s d List.mem_cons_self c hne]
      simp only [List.mem_cons, hne, false_or]

theorem nodup_channels : channels.Nodup := List.nodup_range

theorem nodup_ports : ports.Nodup := List.nodup_range

theorem State.mem_populated {c : Nat} : c ∈ s.populated ↔ c < 8 ∧ bitAt s.card.dchMask c = true := by
  rw [State.populated, List.mem_filter, State.mem_channels]

/-! ### A change of a channel's state (R142) -/

theorem chState_key_inj {c d : Nat} (h : c ≠ d) : (Reg.DCH_STAT_STATE c).key ≠ (Reg.DCH_STAT_STATE d).key :=
  key_ne_of_addr_ne (by simp) (by simp) (by simp; omega)

theorem State.chState_setChState_ne {c d : Nat} (h : c ≠ d) (s : State) (st : Nat) : (s.setChState d st).chState c = s.chState c :=
  State.get_setChState_ne (chState_key_inj h) (key_ne_of_addr_ne (by simp) (by simp) (by simp; omega)) s st

theorem State.quiet_setChState (s : State) (c st : Nat) : State.Quiet ofDevice s (s.setChState c st) := by
  refine ⟨fun f hf => State.get_setChState_ne (device_key_ne hf (by simp) (by simp; omega)) (device_key_ne hf (by simp) (by simp; omega)) s st,
    fun e he => ?_, ?_⟩
  · unfold State.setChState
    split
    · exact he
    · exact List.mem_append_left _ he
  · obtain ⟨_, _, h⟩ := s.setChState_frame c st
    rw [h]

/-! ### Training begins (R123) -/

/-- A field of the device's state, or the state of a DRAM channel. -/
def ofTraining (f : Field) : Prop := ofDevice f ∨ ∃ c, f = Reg.DCH_STAT_STATE c

theorem key_ne_of_training {f g : Field} (hf : ofTraining f) (hlo : g.lo < 32) (hne : g.lo ≠ 29) (hg : 0x10 ≤ g.addr) : f.key ≠ g.key := by
  obtain hdev | ⟨c, rfl⟩ := hf
  · exact device_key_ne hdev hlo hg
  · simp only [Field.key]
    omega

theorem State.quiet_training (s : State) (f : Field) (v : Nat) (hlo : f.lo < 32) (hne : f.lo ≠ 29) (ha : 0x10 ≤ f.addr) :
    State.Quiet ofTraining s (s.set f v) := .set s f v fun _ hg => key_ne_of_training hg hlo hne ha

theorem State.Quiet.chState {keep : Field → Prop} (h : State.Quiet keep s t) {c : Nat} (hc : keep (Reg.DCH_STAT_STATE c)) :
    t.chState c = s.chState c := h.get _ hc

theorem State.quiet_loadRecord (s : State) (c : Nat) : State.Quiet ofTraining s (s.loadRecord c) := by
  have hshow (u : State) : State.Quiet ofTraining u (u.showRepairs c) :=
    ((u.quiet_training (Reg.DCH_STAT_PPR_PENDING c) _ (by simp) (by simp) (by simp; omega)).trans
      (State.quiet_training _ (Reg.DCH_REPAIR_PENDING c) _ (by simp) (by simp) (by simp; omega))).trans
      (State.quiet_training _ (Reg.DCH_REPAIR_RETIRED c) _ (by simp) (by simp) (by simp; omega))
  unfold State.loadRecord
  split
  · exact .refl s
  · next k hk =>
    have hrows : State.Quiet ofTraining s (s.updCh c fun x => { x with pendingRows := k.pending, retired := k.retired }) := .of_same rfl rfl rfl
    exact (hrows.trans (State.quiet_training _ (Reg.DCH_REPAIR_PPR_DONE c) _ (by simp) (by simp) (by simp; omega))).trans (hshow _)

/-- A channel that begins to train is TRAINING, and no other channel's state changes. -/
theorem State.trainStart_outcome (s : State) (c : Nat) : (s.trainStart c).chState c = chTraining ∧
    (∀ d, d ≠ c → (s.trainStart c).chState d = s.chState d) ∧ State.Quiet ofDevice s (s.trainStart c) ∧
    (s.trainStart c).card = s.card := by
  have hload := s.quiet_loadRecord c
  have hcard : (s.loadRecord c).card = s.card := by
    unfold State.loadRecord
    split
    · rfl
    · rfl
  have hshown (u : State) (v : Nat) :
      State.Quiet ofTraining u ((u.updCh c fun x => { x with trained := false }).set (Reg.DCH_STAT_HOT c) v) := by
    have hrow : State.Quiet ofTraining u (u.updCh c fun x => { x with trained := false }) := .of_same rfl rfl rfl
    exact hrow.trans (State.quiet_training _ _ _ (by simp) (by simp) (by simp; omega))
  have hlast (u : State) (v : Nat) : ((u.updCh c fun x => { x with trained := false }).set (Reg.DCH_STAT_HOT c) v).card = u.card := rfl
  unfold State.trainStart State.setB
  generalize s.loadRecord c = v at *
  have hend := hshown (v.setChState c chTraining)
  refine ⟨?_, fun d hd => ?_, ?_, ?_⟩
  · rw [(hend _).chState (.inr ⟨c, rfl⟩)]
    exact State.chState_setChState (by decide) v c
  · rw [(hend _).chState (.inr ⟨d, rfl⟩), State.chState_setChState_ne hd, hload.chState (.inr ⟨d, rfl⟩)]
  · have hsub (f : Field) (hf : ofDevice f) : ofTraining f := .inl hf
    exact ((hload.mono hsub).trans (v.quiet_setChState c chTraining)).trans ((hend _).mono hsub)
  · obtain ⟨_, _, hframe⟩ := v.setChState_frame c chTraining
    rw [hlast, hframe]
    exact hcard

/-- The populated channels that are not out of service train. -/
theorem State.trainAll_outcome (s : State) : State.Quiet ofDevice s s.trainAll ∧ ∀ c : Fin 8, bitAt s.card.dchMask c = true →
    s.trainAll.chState c = if s.chState c ≤ chInService then chTraining else s.chState c := by
  refine ⟨.each (fun u c => (u.trainStart_outcome c).2.2.1) _ s, fun c hc => ?_⟩
  have hnd : (s.populated.filter fun c => decide (s.chState c ≤ chInService)).Nodup := (nodup_channels.filter _).filter _
  have heach := State.each_look (s := s) (look := State.chState) (inv := fun _ => True) (step := State.trainStart) (v := fun _ _ => chTraining)
    hnd (fun _ _ _ _ => trivial) (fun u _ d _ => (u.trainStart_outcome d).1) (fun u d _ e he => (u.trainStart_outcome d).2.1 e he)
    trivial c
  have hmem : c.val ∈ s.populated.filter (fun c => decide (s.chState c ≤ chInService)) ↔ s.chState c ≤ chInService := by
    rw [List.mem_filter, State.mem_populated, decide_eq_true_eq]
    exact ⟨And.right, fun h => ⟨⟨c.isLt, hc⟩, h⟩⟩
  rw [State.trainAll, heach]
  simp only [hmem]

/-! ### Halts, sequencer and wardens (R350, R388, R527) -/

theorem State.halt_outcome (h : s.flag Reg.SYS_STATE_HALT = false) (n reason : Nat) : (s.halt n reason).get Reg.SYS_STATE_HALT = 1 ∧
    (s.halt n reason).get Reg.SYS_STATE_HALT_STEP = n % 16 ∧ (s.halt n reason).get Reg.SYS_STATE_STEP = s.get Reg.SYS_STATE_STEP ∧
    (∀ e ∈ s.raised, e ∈ (s.halt n reason).raised) ∧ ∀ c, (s.halt n reason).chState c = s.chState c := by
  unfold State.halt
  rw [if_neg (by simp [h])]
  refine ⟨?_, State.get_set_self _ _ _, ?_, fun _ he => List.mem_append_left _ he, fun c => ?_⟩
  · exact (State.get_set_ne _ _ (by decide)).trans (State.get_set_self _ _ _)
  · exact (State.get_set_ne _ _ (by decide)).trans (State.get_set_ne _ _ (by decide))
  · exact (State.get_set_ne _ _ (key_ne_of_addr_ne (by simp) (by simp) (by simp; omega))).trans
      (State.get_set_ne _ _ (key_ne_of_addr_ne (by simp) (by simp) (by simp; omega)))

/-- Arming the power-up leaves the sequencer waiting, gate 1 driven, and the device's state alone. -/
theorem State.armPower_outcome (s : State) (stuck : Bool) : (s.armPower stuck).seqState = seqWait ∧
    (s.armPower stuck).get (Reg.GUARD_OUT_OUT 1) = 1 ∧ State.Quiet ofDevice s (s.armPower stuck) := by
  unfold State.armPower
  extract_lets s1 s2 s3
  have h1 : s1.seqState = seqWait ∧ s1.get (Reg.GUARD_OUT_OUT 1) = 1 ∧ State.Quiet ofDevice s s1 :=
    ⟨(State.get_set_ne _ _ (by decide)).trans (State.get_set_self _ _ _), State.get_set_self _ _ _,
      (s.quiet_above Reg.SEQ_STAT_STATE seqWait (by simp) (by simp)).trans (State.quiet_above _ (Reg.GUARD_OUT_OUT 1) 1 (by simp) (by simp))⟩
  clear_value s1
  have h2 : s2.seqState = seqWait ∧ s2.get (Reg.GUARD_OUT_OUT 1) = 1 ∧ State.Quiet ofDevice s s2 :=
    ⟨h1.1, h1.2.1, h1.2.2.trans (.of_same rfl rfl rfl)⟩
  clear_value s2
  have hset (v : State) (hv : v.seqState = seqWait ∧ v.get (Reg.GUARD_OUT_OUT 1) = 1 ∧ State.Quiet ofDevice s v) (f : Field) (n : Nat)
      (hlo : f.lo < 28) (ha : f.addr = 0xC8004) : (v.set f n).seqState = seqWait ∧ (v.set f n).get (Reg.GUARD_OUT_OUT 1) = 1 ∧
        State.Quiet ofDevice s (v.set f n) := by
    obtain ⟨hseq, hguard, hquiet⟩ := hv
    refine ⟨(State.get_set_ne _ _ ?_).trans hseq, (State.get_set_ne _ _ ?_).trans hguard, hquiet.trans (v.quiet_above f n (by omega) (by omega))⟩
    · simp only [Field.key]
      omega
    · exact key_ne_of_addr_ne (by simp) (by omega) (by simp; omega)
  have h3 : s3.seqState = seqWait ∧ s3.get (Reg.GUARD_OUT_OUT 1) = 1 ∧ State.Quiet ofDevice s s3 := by
    subst s3
    split
    · exact hset s2 h2 _ 2 (by simp) rfl
    · exact h2
  clear_value s3
  split
  · have hall := hset _ (hset _ (hset s3 h3 Reg.SEQ_STAT_PWR_GO 1 (by simp) rfl) Reg.SEQ_STAT_STUCK 2 (by simp) rfl) Reg.SEQ_STAT_CASCADE_NOW
      (bit (s3.flag Reg.SEQ_CTL_AUTO_CASCADE)) (by simp) rfl
    obtain ⟨hseq, hguard, hquiet⟩ := hall
    exact ⟨hseq, hguard, hquiet.trans (.raise _ _ _ _)⟩
  · exact h3

/-- Both wardens boot. -/
theorem State.bootUnits_outcome (s : State) : ((s.bootUnit 0).bootUnit 1).get Reg.WARDEN_STAT_A_STATE = unitBooting ∧
    ((s.bootUnit 0).bootUnit 1).get Reg.WARDEN_STAT_B_STATE = unitBooting ∧ State.Quiet ofDevice s ((s.bootUnit 0).bootUnit 1) := by
  have hboot (u : State) (n : Nat) : State.Quiet ofDevice u (u.bootUnit n) := by
    have hunit : State.Quiet ofDevice u (u.updUnit n fun x => { WardenUnitState.init with missed := x.missed, failedAt := x.failedAt }) :=
      .of_same rfl rfl rfl
    refine hunit.trans (State.quiet_above _ _ _ ?_ ?_)
    · unfold unitState
      split <;> simp
    · unfold unitState
      split <;> simp
  have hshown (u : State) (n : Nat) : (u.bootUnit n).get (unitState n) = unitBooting % 2 ^ (unitState n).width := State.get_set_self _ _ _
  have hother (u : State) (f : Field) (hf : f.key ≠ (unitState 1).key) : (u.bootUnit 1).get f = u.get f := State.get_set_ne _ _ hf
  exact ⟨(hother _ _ (by decide)).trans (hshown s 0), hshown _ 1, (hboot s 0).trans (hboot _ 1)⟩

/-! ### NAND channels enter service (R278, R289) -/

theorem State.quiet_setNch (s : State) (n st : Nat) : State.Quiet ofStartUp s (s.setNch n st) := by
  unfold State.setNch
  split
  · exact .refl s
  · extract_lets s1 s2
    have h1 : State.Quiet ofStartUp s s1 := (s.quiet_far (Reg.NCH_STAT_STATE n) _ (by simp) (by simp [farAddr]; omega)).trans
      (State.quiet_far _ (Reg.NCH_GEN_GEN n) _ (by simp) (by simp [farAddr]; omega))
    clear_value s1
    have h2 : State.Quiet ofStartUp s1 s2 := s1.quiet_far Reg.DECK_STAT_OUT_MASK _ (by simp) (by simp [farAddr])
    clear_value s2
    exact (h1.trans h2).trans (s2.quiet_far Reg.DECK_STAT_SUSPENDED _ (by simp) (by simp [farAddr]))

theorem State.quiet_startNand (s : State) (up : List Bool) : State.Quiet ofStartUp s (s.startNand up) := by
  have hfail (u : State) (n cause : Nat) : State.Quiet ofStartUp u ((u.setNch n 3).set (Reg.NCH_STAT_FAIL_CAUSE n) cause) :=
    (u.quiet_setNch n 3).trans (State.quiet_far _ _ _ (by simp) (by simp [farAddr]; omega))
  refine .each (fun u n => ?_) _ s
  split
  · exact hfail u n _
  · exact .ite (u.quiet_setNch n 1) ((hfail u n 1).trans (.raise _ _ _ _)) _

/-! ### The ports open, restore begins, persistence (R223, R225, R254, R259) -/

theorem State.quiet_firstBudget (s : State) : State.Quiet ofStartUp s s.firstBudget := by
  have htile (u : State) (f : Field) (v : Nat) (hlo : f.lo < 32) (ha : 0x80000 ≤ f.addr) : State.Quiet ofStartUp u (u.set f v) :=
    u.quiet_far f v hlo (.inr (by omega))
  have hbudget : State.Quiet ofStartUp s s.publishBudget := by
    unfold State.publishBudget
    extract_lets e r h nt ne s1 s2
    clear_value e r nt ne
    have h1 : State.Quiet ofStartUp s s1 := ((htile s Reg.TILE_DMAX_T_TILES _ (by simp) (by simp)).trans
      (htile _ Reg.TILE_DMAX_E_TILES _ (by simp) (by simp))).trans (htile _ Reg.TILE_DMAX_TILES _ (by simp) (by simp))
    clear_value s1
    have h2 : State.Quiet ofStartUp s1 s2 := htile s1 Reg.TILE_DMAX_LIMIT _ (by simp) (by simp)
    clear_value s2
    exact (h1.trans h2).trans (.of_same rfl rfl rfl)
  have hover (u : State) : State.Quiet ofStartUp u u.updOverWindow := by
    unfold State.updOverWindow
    dsimp only
    split
    · exact .refl u
    · exact (htile u Reg.TILE_STAT_OVER_WINDOW _ (by simp) (by simp)).trans (.raise _ _ _ _)
  unfold State.firstBudget
  extract_lets s1 x
  have h1 : State.Quiet ofStartUp s s1 := hbudget.trans (hover _)
  clear_value s1
  exact ((h1.trans (htile s1 Reg.TILE_STAT_ASSURED _ (by simp) (by simp))).trans (htile _ Reg.TILE_STAT_CAUSE _ (by simp) (by simp))).trans
    (State.quiet_updExpedited _)

theorem State.raised_syncJournal (s : State) : s.syncJournal.raised = s.raised := by
  unfold State.syncJournal
  split
  · rw [State.set_raised, State.set_raised, State.set_raised]
  · rw [State.set_raised, State.set_raised, State.set_raised]

theorem State.raised_puts {α : Type} (s : State) (l : List α) (place : α → Nat) (bytes : α → List Byte) :
    (s.each l fun s x => s.flashPut (place x) (bytes x)).raised = s.raised := by
  refine foldl_unchanged (look := State.raised) ?_ s
  exact fun _ _ _ => rfl

theorem State.raised_flashPut (s : State) (a : Nat) (bytes : List Byte) : (s.flashPut a bytes).raised = s.raised := rfl

theorem State.raised_clearSector (s : State) (n : Nat) : (s.clearSector n).raised = s.raised := rfl

theorem State.raised_switchJournal (s : State) (j : Nat) : (s.switchJournal j).raised = s.raised := by
  unfold State.switchJournal
  dsimp only
  rw [State.raised_flashPut, State.raised_puts, State.raised_clearSector]

theorem State.raised_journalErase {sector : Nat} (h : s.journalErase sector = some t) : t.raised = s.raised := by
  unfold State.journalErase at h
  cases hj : s.journal with
  | none =>
    rw [hj] at h
    cases h
    rfl
  | some j =>
    rw [hj] at h
    dsimp only at h
    split_ifs at h
    case pos =>
      cases h
      rfl
    all_goals
      obtain ⟨i, -, rfl⟩ := Option.map_eq_some_iff.mp h
      rw [State.raised_syncJournal, State.raised_flashPut]
    exact s.raised_switchJournal j

theorem State.raised_eraseNow (s : State) (sector : Nat) : (s.eraseNow sector).raised = s.raised := by
  have herase (u : State) : (u.eraseVerified sector).raised = u.raised := by
    unfold State.eraseVerified
    extract_lets v
    have hv : v.raised = u.raised := rfl
    clear_value v
    split
    · exact hv
    · rw [State.raised_syncJournal, State.raised_puts, hv]
  unfold State.eraseNow
  split
  · next t ht => exact (herase t).trans (State.raised_journalErase ht)
  · rfl

theorem State.raised_prsAdd (s : State) (kind cause seq : Nat) : (s.prsAdd kind cause seq).raised = s.raised := by
  have hupd (u : State) (f : FlashState → FlashState) : (u.updFlash f).raised = u.raised := rfl
  unfold State.prsAdd State.prsPut
  split
  · rfl
  · dsimp only
    rw [hupd, State.raised_flashPut, State.raised_flashPut]
    split
    · exact s.raised_eraseNow _
    · rfl

theorem State.quiet_of_onlyFlash (h : s.onlyFlash t) (hraised : t.raised = s.raised) : State.Quiet ofStartUp s t := by
  obtain ⟨hframe, hget⟩ := h
  refine ⟨fun f hf => hget f ?_, fun e he => hraised ▸ he, by rw [← hframe]⟩
  obtain ⟨hlo, haddr⟩ | ⟨p, hp, rfl⟩ := hf
  · simp only [Field.key]
    omega
  · simp only [Field.key]
    omega

theorem State.quiet_prsAdd (s : State) (kind cause seq : Nat) : State.Quiet ofStartUp s (s.prsAdd kind cause seq) := by
  refine State.quiet_of_onlyFlash ?_ (s.raised_prsAdd kind cause seq)
  unfold State.prsAdd
  cases hplace : s.prsPlace with
  | none =>
    rw [State.prsPut_none hplace]
    exact State.onlyFlash_refl s
  | some i => exact (State.prsPut_outcome hplace kind cause seq s.flash.ldShutdown).1

theorem State.quiet_beginRestore (s : State) : State.Quiet ofStartUp s s.beginRestore := by
  have htile (u : State) (f : Field) (v : Nat) (hlo : f.lo < 32) (ha : 0x80000 ≤ f.addr) : State.Quiet ofStartUp u (u.set f v) :=
    u.quiet_far f v hlo (.inr (by omega))
  have hdone (u : State) : State.Quiet ofStartUp u u.checkRestoreDone :=
    .ite ((htile u Reg.TILE_RESTORE_STAT_STATE 4 (by simp) (by simp)).trans (.raise _ _ _ _)) (.refl u) _
  unfold State.beginRestore
  split
  · exact .refl s
  · extract_lets s1 s2 s3
    have h1 : State.Quiet ofStartUp s s1 := (htile s Reg.TILE_RESTORE_STAT_STATE _ (by simp) (by simp)).trans
      (htile _ Reg.TILE_RESTORE_DONE_TILES _ (by simp) (by simp))
    clear_value s1
    have h2 : State.Quiet ofStartUp s1 s2 := .of_same rfl rfl rfl
    clear_value s2
    have h3 : State.Quiet ofStartUp s2 s3 := .raise _ _ _ _
    clear_value s3
    exact ((h1.trans h2).trans h3).trans (hdone s3)

theorem State.quiet_notAssured (s : State) (cause : Nat) : State.Quiet ofStartUp s (s.notAssured cause) := by
  unfold State.notAssured
  extract_lets s1 s2
  have h1 : State.Quiet ofStartUp s s1 := (s.quiet_far Reg.TILE_STAT_ASSURED _ (by simp) (by simp [farAddr])).trans
    (State.quiet_far _ Reg.TILE_STAT_CAUSE _ (by simp) (by simp [farAddr]))
  clear_value s1
  have h2 : State.Quiet ofStartUp s1 s2 := .raise _ _ _ _
  clear_value s2
  exact (h1.trans h2).trans s2.quiet_updExpedited

/-- A port below CXL.mem trains where it may; nothing but the states of the links changes, so whether a port may train does not. -/
theorem State.trainPorts_outcome (s : State) : State.Quiet (fun f => f.addr < 0x60000 ∧ f.lo < 32) s (s.each ports State.trainPort) ∧
    ∀ p : Fin 4, (s.each ports State.trainPort).get (Reg.HPORT_STAT_LINK_STATE p) =
      if s.get (Reg.HPORT_STAT_LINK_STATE p) ≤ 1 then bit ((s.each ports State.trainPort).mayTrain p)
      else s.get (Reg.HPORT_STAT_LINK_STATE p) := by
  have hport (u : State) (d : Nat) : State.Quiet (fun f => f.addr < 0x60000 ∧ f.lo < 32) u (u.trainPort d) :=
    .ite (.set u _ _ fun g hg => key_ne_of_addr_ne hg.2 (by simp) (by have := hg.1; simp; omega)) (.refl u) _
  have hlink (u : State) (d : Nat) (f : Field) (hf : f.key ≠ (Reg.HPORT_STAT_LINK_STATE d).key) : (u.trainPort d).get f = u.get f := by
    unfold State.trainPort
    split
    · exact State.get_set_ne _ _ hf
    · rfl
  have hseq (u : State) (d : Nat) : (u.trainPort d).seq = u.seq := by
    unfold State.trainPort
    split
    · rfl
    · rfl
  have hmay (u : State) (d p : Nat) : (u.trainPort d).mayTrain p = u.mayTrain p := by
    have hstep := hlink u d Reg.SYS_STATE_STEP (key_ne_of_addr_ne (by simp) (by simp) (by simp; omega))
    have henable := hlink u d (Reg.HPORT_CFG_ENABLE p) (by simp [Field.key]; omega)
    simp only [State.mayTrain, State.portsUp, State.flag, hstep, henable, hseq]
  have hmays (p : Nat) : (s.each ports State.trainPort).mayTrain p = s.mayTrain p :=
    foldl_unchanged (look := fun u : State => u.mayTrain p) (fun u d _ => hmay u d p) s
  refine ⟨.each hport ports s, fun p => ?_⟩
  have heach := State.each_look (s := s) (look := fun u p => u.get (Reg.HPORT_STAT_LINK_STATE p))
    (inv := fun u => ∀ p, u.mayTrain p = s.mayTrain p) (v := fun p x => if x ≤ 1 then bit (s.mayTrain p) else x) nodup_ports
    (fun u hu d _ p => (hmay u d p).trans (hu p)) (fun u hu d _ => ?_)
    (fun u d _ c hne => hlink u d _ (key_ne_of_addr_ne (by simp) (by simp) (by simp; omega)))
    (fun _ => rfl) p
  · refine heach.trans ?_
    rw [if_pos (show p.val ∈ ports from List.mem_range.mpr p.isLt), hmays]
  · unfold State.trainPort
    split
    · rw [State.get_set_self, hu d]
      cases s.mayTrain d <;> rfl
    · rfl

/-! ### Power states (R530) -/

theorem State.setPower_outcome (s : State) {new limit : Nat} (hnew : new < 8) :
    (s.setPower new limit).get Reg.SYS_PWR_STATE_STATE = new ∧ (s.setPower new limit).get Reg.SYS_PWR_STATE_LIMIT = limit % 16 ∧
    (∀ f : Field, f.lo < 32 → f.addr ≠ 0xC → (s.setPower new limit).get f = s.get f) ∧
    (∀ e ∈ s.raised, e ∈ (s.setPower new limit).raised) ∧
    (s.get Reg.SYS_PWR_STATE_STATE ≠ new → ∃ e ∈ (s.setPower new limit).raised, e.src = 0x005) ∧
    (s.setPower new limit).sys = s.sys ∧ (s.setPower new limit).seq = s.seq := by
  unfold State.setPower
  extract_lets old v
  have hlimit : v.get Reg.SYS_PWR_STATE_LIMIT = limit % 16 := State.get_set_self _ _ _
  have hold : v.get Reg.SYS_PWR_STATE_STATE = old := State.get_set_ne _ _ (by decide)
  have hkeep (f : Field) (hlo : f.lo < 32) (hf : f.addr ≠ 0xC) : v.get f = s.get f :=
    State.get_set_ne _ _ (key_ne_of_addr_ne hlo (by simp) hf)
  have hraised : v.raised = s.raised := rfl
  have hsys : v.sys = s.sys := rfl
  have hseq : v.seq = s.seq := rfl
  clear_value v
  split
  · next h => exact ⟨hold.trans h, hlimit, hkeep, fun e he => hraised ▸ he, fun hne => absurd h hne, hsys, hseq⟩
  · refine ⟨?_, ?_, fun f hlo hf => ?_, fun e he => List.mem_append_left _ (hraised ▸ he),
      fun _ => ⟨_, List.mem_append_right _ List.mem_cons_self, rfl⟩, hsys, hseq⟩
    · rw [State.raise_get, State.get_set_self]
      exact Nat.mod_eq_of_lt hnew
    · rw [State.raise_get, State.get_set_ne _ _ (by decide), State.get_set_ne _ _ (by decide), hlimit]
    · rw [State.raise_get, State.get_set_ne _ _ (key_ne_of_addr_ne hlo (by simp) hf), State.get_set_ne _ _ (key_ne_of_addr_ne hlo (by simp) hf),
        hkeep f hlo hf]

theorem State.quiet_gate2 (s : State) (v : Nat) : State.Quiet ofDevice s (s.gate2 v) :=
  (s.quiet_above (Reg.GUARD_OUT_OUT 2) v (by simp) (by simp)).trans (State.quiet_above _ (Reg.GUARD_OUT_HW 2) 0 (by simp) (by simp))

theorem State.quiet_selfRefreshOn (s : State) : State.Quiet ofDevice s s.selfRefreshOn := by
  have hseq (q : SeqState → SeqState) : State.Quiet ofDevice s (s.updSeq q) := .of_same rfl rfl rfl
  have hslept (u : State) : State.Quiet ofDevice u u.slept :=
    (u.quiet_gate2 1).trans (.each (fun v c => v.quiet_above _ _ (by simp) (by simp; omega)) _ _)
  rw [State.selfRefreshOn_eq]
  split_ifs
  · exact (hseq _).trans (State.quiet_replan _).device
  · exact hseq _
  · exact (hseq _).trans (hslept _)

theorem State.quiet_selfRefreshOff (s : State) : State.Quiet ofDevice s s.selfRefreshOff := by
  cases hdown : s.atDownbeat with
  | false =>
    rw [State.selfRefreshOff_later hdown]
    exact .of_same rfl rfl rfl
  | true =>
    have hmaint (u : State) (c : Nat) : State.Quiet ofDevice u (u.addMaint c .temp) := by
      unfold State.addMaint
      split
      · exact .refl u
      · exact .of_same rfl rfl rfl
    have hwoken (u : State) (c : Nat) : State.Quiet ofDevice u (u.woken c) :=
      (u.quiet_above (Reg.DCH_STAT_SELF_REFRESH c) 0 (by simp) (by simp; omega)).trans (hmaint _ c)
    have hseq : State.Quiet ofDevice s (s.updSeq fun q => { q with selfRefreshWait := false, selfRefreshExit := false }) := .of_same rfl rfl rfl
    rw [State.selfRefreshOff_eq hdown]
    exact (hseq.trans (State.quiet_gate2 _ 0)).trans (.each hwoken _ _)

end Sys2Proof.Machine
end

section
/-! PROOFS. Start-up's steps, and the choice of power states, the ways out of them and out of H (R123, R388, R524 to R535). -/

namespace Sys2Proof.Machine

variable {s t u : State}

/-! ### A step that ends (R526) -/

theorem exec_startupStepDone (hon : s.on = true) (r : StepReport) :
    exec (.startupStepDone r) s = if s.stepMay then .next (s.stepDone r) else .next s := s.powered_of_on hon

/-- The end of a step is told. -/
theorem State.endStep_outcome (s : State) (ms : Nat) : (∃ e ∈ (s.endStep ms).raised, e.src = 0x001) ∧
    (∀ e ∈ s.raised, e ∈ (s.endStep ms).raised) ∧ (∀ f, (s.endStep ms).get f = s.get f) :=
  ⟨⟨_, List.mem_append_right _ List.mem_cons_self, rfl⟩, fun _ he => List.mem_append_left _ he, fun _ => rfl⟩

theorem mem_raised_of_src {n : Nat} {l l' : List Event} (h : ∃ e ∈ l, e.src = n) (hsub : ∀ e ∈ l, e ∈ l') : ∃ e ∈ l', e.src = n := by
  obtain ⟨e, he, hsrc⟩ := h
  exact ⟨e, hsub e he, hsrc⟩

/-- A step that may halt is told to have ended where it did not. -/
def State.endTold (t : State) (step : Nat) (s : State) (ms : Nat) : State :=
  if t.flag Reg.SYS_STATE_HALT then t
  else (t.raise 0x001 [d1 step, d2 ms]).updSys fun x => { x with totalMs := x.totalMs + ms, stepBar := s.bar }

section StepDone

variable (r : StepReport)

theorem State.stepDone_one (h : s.get Reg.SYS_STATE_STEP = 1) : s.stepDone r = (s.endStep r.ms).step1 := by
  unfold State.stepDone
  simp only [h]
  rfl

theorem State.stepDone_two (h : s.get Reg.SYS_STATE_STEP = 2) : s.stepDone r = (s.endStep r.ms).step2 r := by
  unfold State.stepDone
  simp only [h]
  rfl

theorem State.stepDone_three (h : s.get Reg.SYS_STATE_STEP = 3) : s.stepDone r = (s.step3 r).endTold 3 s r.ms := by
  unfold State.stepDone State.endTold
  simp only [h]
  cases (s.step3 r).flag Reg.SYS_STATE_HALT <;> rfl

theorem State.stepDone_four (h : s.get Reg.SYS_STATE_STEP = 4) : s.stepDone r = (s.endStep r.ms).step4 := by
  unfold State.stepDone
  simp only [h]
  rfl

theorem State.stepDone_five (h : s.get Reg.SYS_STATE_STEP = 5) : s.stepDone r = (s.step5 r).endTold 5 s r.ms := by
  unfold State.stepDone State.endTold
  simp only [h]
  cases (s.step5 r).flag Reg.SYS_STATE_HALT <;> rfl

theorem State.stepDone_seven (h : s.get Reg.SYS_STATE_STEP = 7) (hset : s.sys.tilesSet = true) (hdone : s.restoring = false) :
    s.stepDone r = (s.endStep r.ms).openPorts := by
  have hlist : [3, 5, 6].contains 7 = false := rfl
  unfold State.stepDone
  simp only [h, hset, if_true, hdone, Bool.false_eq_true, if_false, hlist, Bool.false_and]

theorem State.stepDone_eight (h : s.get Reg.SYS_STATE_STEP = 8) : s.stepDone r = (s.endStep r.ms).step8 := by
  unfold State.stepDone
  simp only [h]
  rfl

end StepDone


theorem State.endTold_outcome (t : State) (step : Nat) (s : State) (ms : Nat) : (∀ f, (t.endTold step s ms).get f = t.get f) ∧
    (∀ e ∈ t.raised, e ∈ (t.endTold step s ms).raised) ∧
    (t.flag Reg.SYS_STATE_HALT = false → ∃ e ∈ (t.endTold step s ms).raised, e.src = 0x001) := by
  unfold State.endTold
  split
  · next h => exact ⟨fun _ => rfl, fun _ he => he, fun hno => absurd h (ne_true_of_eq_false hno)⟩
  · exact ⟨fun _ => rfl, fun _ he => List.mem_append_left _ he, fun _ => ⟨_, List.mem_append_right _ List.mem_cons_self, rfl⟩⟩

/-! ### Steps 1 and 2 (R388, R525) -/

theorem State.get_toStep (s : State) {n : Nat} (hn : n < 16) : (s.toStep n).get Reg.SYS_STATE_STEP = n :=
  (State.get_set_self _ _ _).trans (Nat.mod_eq_of_lt hn)

theorem State.get_toStep_ne (s : State) (n : Nat) {f : Field} (h : f.key ≠ Reg.SYS_STATE_STEP.key) : (s.toStep n).get f = s.get f :=
  State.get_set_ne _ _ h

theorem State.flag_setB (s : State) (f : Field) (b : Bool) (hw : f.width = 1) : (s.setB f b).flag f = b := by
  rw [State.flag, State.setB, State.get_set_self, hw]
  cases b <;> rfl

theorem State.step1_outcome (s : State) : s.step1.get Reg.SYS_STATE_STEP = 2 ∧ s.step1.flag Reg.TILE_SAVE_STAT_PFAIL = s.save.pfailPin ∧
    s.step1.raised = s.raised := by
  refine ⟨State.get_toStep _ (by decide), ?_, rfl⟩
  have hpfail := s.flag_setB Reg.TILE_SAVE_STAT_PFAIL s.save.pfailPin rfl
  rw [State.flag, State.step1, State.get_toStep_ne _ _ (by decide)]
  exact hpfail

theorem State.step2_eq (s : State) (r : StepReport) : ∃ u, s.step2 r = ((State.toStep u 3).bootUnit 0).bootUnit 1 := ⟨_, rfl⟩

theorem State.step2_outcome (s : State) (r : StepReport) : (s.step2 r).get Reg.SYS_STATE_STEP = 3 ∧
    (s.step2 r).get Reg.WARDEN_STAT_A_STATE = unitBooting ∧ (s.step2 r).get Reg.WARDEN_STAT_B_STATE = unitBooting := by
  obtain ⟨u, h⟩ := s.step2_eq r
  obtain ⟨ha, hb, hquiet⟩ := (u.toStep 3).bootUnits_outcome
  rw [h]
  exact ⟨(hquiet.get _ (by simp [ofDevice])).trans (u.get_toStep (by decide)), ha, hb⟩

/-! ### Step 3 (R347, R350, R527) -/

section Step3

variable (r : StepReport)

theorem State.step3_defaults (h : s.flag Reg.FL_OPTION_DEFAULTS = true) : s.step3 r = s.halt 2 1 := if_pos h

variable (h : s.flag Reg.FL_OPTION_DEFAULTS = false)
include h

theorem State.step3_fails {f : VFail} (hf : bootVerify s.cardCfg s.bootGraph = some f) : ∃ d, s.step3 r = (s.raise 0x058 d).halt 3 3 := by
  unfold State.step3
  rw [if_neg (by simp [h]), hf]
  exact ⟨_, rfl⟩

/-- A verified boot score leaves the power-up armed, and started at most. -/
theorem State.step3_arms (hf : bootVerify s.cardCfg s.bootGraph = none) : ∃ v stuck,
    v = State.armPower ((s.toStep 4).setB Reg.SEQ_STAT_PWR_GO r.pwrGo) stuck ∧
    (s.step3 r = v ∨ s.step3 r = (v.set Reg.SEQ_STAT_START_SRC 1).updPwr fun x => { x with go := true }) := by
  unfold State.step3
  rw [if_neg (by simp [h]), hf]
  refine ⟨_, r.pwrGo && (s.get Reg.SYS_RESET_CAUSE_KIND = 0 && !(s.flag Reg.PACK_OFF_VALID)), rfl, ?_⟩
  dsimp only
  split
  · exact .inr rfl
  · exact .inl rfl

theorem State.step3_arms_outcome (hf : bootVerify s.cardCfg s.bootGraph = none) : (s.step3 r).get Reg.SYS_STATE_STEP = 4 ∧
    (s.step3 r).seqState = seqWait ∧ (s.step3 r).get (Reg.GUARD_OUT_OUT 1) = 1 ∧
    (s.step3 r).flag Reg.SYS_STATE_HALT = s.flag Reg.SYS_STATE_HALT := by
  obtain ⟨v, stuck, hv, hstep⟩ := State.step3_arms r h hf
  have harmed := ((s.toStep 4).setB Reg.SEQ_STAT_PWR_GO r.pwrGo).armPower_outcome stuck
  rw [← hv] at harmed
  obtain ⟨hseq, hguard, hquiet⟩ := harmed
  have hgo : State.Quiet ofDevice (s.toStep 4) ((s.toStep 4).setB Reg.SEQ_STAT_PWR_GO r.pwrGo) := State.quiet_above _ _ _ (by simp) (by simp)
  have hall := hgo.trans hquiet
  have hnum : v.get Reg.SYS_STATE_STEP = 4 := (hall.get _ (by simp [ofDevice])).trans (s.get_toStep (by decide))
  have hhalt : v.flag Reg.SYS_STATE_HALT = s.flag Reg.SYS_STATE_HALT := by
    rw [State.flag, hall.get _ (by simp [ofDevice]), s.get_toStep_ne 4 (by decide)]
    rfl
  obtain hstep | hstep := hstep
  · rw [hstep]
    exact ⟨hnum, hseq, hguard, hhalt⟩
  · rw [hstep]
    have hget (f : Field) (hf : f.key ≠ Reg.SEQ_STAT_START_SRC.key) :
        ((v.set Reg.SEQ_STAT_START_SRC 1).updPwr fun x => { x with go := true }).get f = v.get f := by
      rw [State.updPwr_get, State.get_set_ne _ _ hf]
    exact ⟨(hget _ (by decide)).trans hnum, (hget _ (by decide)).trans hseq, (hget _ (by decide)).trans hguard,
      (congrArg (fun n => decide (n ≠ 0)) (hget Reg.SYS_STATE_HALT (by decide))).trans hhalt⟩

end Step3

/-! ### Step 4 (R123, R354) -/

theorem State.step4_outcome (s : State) : s.step4.get Reg.SYS_STATE_STEP = 5 ∧ (∀ e ∈ s.raised, e ∈ s.step4.raised) ∧
    ∀ c : Fin 8, bitAt s.card.dchMask c = true → s.step4.chState c = if s.chState c ≤ chInService then chTraining else s.chState c := by
  obtain ⟨hquiet, hstates⟩ := (s.toStep 5).trainAll_outcome
  have hsame (c : Nat) : (s.toStep 5).chState c = s.chState c := s.get_toStep_ne 5 (key_ne_of_addr_ne (by simp) (by simp) (by simp; omega))
  refine ⟨(hquiet.get _ (by simp [ofDevice])).trans (s.get_toStep (by decide)), hquiet.raised, fun c hc => ?_⟩
  have hc' := hstates c hc
  rw [hsame] at hc'
  exact hc'

/-! ### Step 5 (R105, R142, R278, R527) -/

/-- The trained channels serve. -/
def State.trainedServe (s : State) : State :=
  s.each (s.populated.filter fun c => s.chState c = chTraining) fun s c =>
    (s.setChState c chInService).updCh c fun x => { x with trained := false, zqBar := s.bar, dqsBar := s.bar }

theorem State.trainedServe_outcome (s : State) : State.Quiet ofDevice s s.trainedServe ∧ ∀ c : Fin 8, bitAt s.card.dchMask c = true →
    s.trainedServe.chState c = if s.chState c = chTraining then chInService else s.chState c := by
  have hrow (u : State) (c : Nat) (g : DramCh → DramCh) : State.Quiet ofDevice u ((u.setChState c chInService).updCh c g) :=
    (u.quiet_setChState c chInService).trans (.of_same rfl rfl rfl)
  refine ⟨.each (fun u c => hrow u c _) _ s, fun c hc => ?_⟩
  have hnd : (s.populated.filter fun c => s.chState c = chTraining).Nodup := (nodup_channels.filter _).filter _
  have heach := State.each_look (s := s) (look := State.chState) (inv := fun _ => True) (v := fun _ _ => chInService)
    (step := fun u c => (u.setChState c chInService).updCh c fun x => { x with trained := false, zqBar := u.bar, dqsBar := u.bar }) hnd
    (fun _ _ _ _ => trivial) (fun u _ d _ => State.chState_setChState (by decide) u d) (fun u d _ e he => State.chState_setChState_ne he u _)
    trivial c
  have hmem : c.val ∈ s.populated.filter (fun c => s.chState c = chTraining) ↔ s.chState c = chTraining := by
    rw [List.mem_filter, State.mem_populated, decide_eq_true_eq]
    exact ⟨And.right, fun h => ⟨⟨c.isLt, hc⟩, h⟩⟩
  refine heach.trans ?_
  simp only [hmem]

/-- NAND channels enter service, and their gates are driven. -/
def State.nandServes (s : State) (r : StepReport) : State :=
  let s := (s.startNand r.nandUp).updOffline
  let gates := (nandChannels.map fun n => if s.nchServing n then 2 ^ n else 0).sum
  let s := (s.set (Reg.GUARD_OUT_OUT 3) gates).set (Reg.GUARD_OUT_HW 3) 0
  s.set Reg.SYS_STARTUP_TRAIN_MS (satW 16 r.ms)

/-- The boot score plays, and the Deck scan begins. -/
def State.scanBegins (s : State) : State := ((s.playBoot.toStep 6).set Reg.DECK_STAT_STATE 1).set Reg.TILE_RESTORE_STAT_STATE 1

theorem State.step5_eq (s : State) (r : StepReport) : ∃ u, (u = s ∨ u = s.firstUse 1) ∧ s.step5 r =
    if !(channels.any (u.trainedServe.nandServes r).serving) then (u.trainedServe.nandServes r).halt 5 7
    else (u.trainedServe.nandServes r).scanBegins := by
  refine ⟨s.when (s.populated.any s.noSeed) fun s => s.firstUse 1, ?_, rfl⟩
  unfold State.when
  split
  · exact .inr rfl
  · exact .inl rfl

theorem State.quiet_nandServes (s : State) (r : StepReport) : State.Quiet ofStartUp s (s.nandServes r) := by
  unfold State.nandServes
  extract_lets s1 gates s2
  have h1 : State.Quiet ofStartUp s s1 := (s.quiet_startNand r.nandUp).trans (State.quiet_far _ _ _ (by simp) (by simp [farAddr]))
  clear_value s1 gates
  have h2 : State.Quiet ofStartUp s1 s2 := (s1.quiet_far (Reg.GUARD_OUT_OUT 3) _ (by simp) (by simp [farAddr])).trans
    (State.quiet_far _ (Reg.GUARD_OUT_HW 3) _ (by simp) (by simp [farAddr]))
  clear_value s2
  exact (h1.trans h2).trans (s2.quiet_far Reg.SYS_STARTUP_TRAIN_MS _ (by simp) (by simp [farAddr]))

/-- The boot score plays, and is told. -/
theorem State.playBoot_outcome (s : State) : State.Quiet ofStartUp s s.playBoot ∧ s.playBoot.get Reg.SCORE_STAT_BOOT = 1 ∧
    ∃ e ∈ s.playBoot.raised, e.src = 0x057 := by
  unfold State.playBoot
  extract_lets s1 s2 s3 s4
  have h1 : State.Quiet ofStartUp s s1 := s.quiet_beginScore _
  clear_value s1
  have h2 : State.Quiet ofStartUp s1 s2 := .of_same rfl rfl rfl
  clear_value s2
  have h3 : State.Quiet ofStartUp s2 s3 := ((s2.quiet_far Reg.SCORE_STAT_BOOT _ (by simp) (by simp [farAddr])).trans
    (State.quiet_far _ Reg.SCORE_STAT_ARMED _ (by simp) (by simp [farAddr]))).trans
    (State.quiet_far _ Reg.SCORE_LOAD_STAT_STATE _ (by simp) (by simp [farAddr]))
  have hboot3 : s3.get Reg.SCORE_STAT_BOOT = 1 := (State.get_set_ne _ _ (by decide)).trans
    ((State.get_set_ne _ _ (by decide)).trans (State.get_set_self _ _ _))
  clear_value s3
  have h4 : State.Quiet ofStartUp s3 s4 := ((s3.quiet_far Reg.SCORE_PLAY_ID_ID _ (by simp) (by simp [farAddr])).trans
    (State.quiet_far _ Reg.SCORE_PLAY_REV_REV _ (by simp) (by simp [farAddr]))).trans (.raise _ _ _ _)
  have hboot4 : s4.get Reg.SCORE_STAT_BOOT = 1 := by
    subst s4
    rw [State.raise_get, State.get_set_ne _ _ (by decide), State.get_set_ne _ _ (by decide), hboot3]
  have htold : ∃ e ∈ s4.raised, e.src = 0x057 := ⟨_, List.mem_append_right _ List.mem_cons_self, rfl⟩
  clear_value s4
  have hend : State.Quiet ofStartUp s4 (s4.planBar true false false).publishBounds.updGpf :=
    ((s4.quiet_planBar true false false).trans (State.quiet_publishBounds _)).trans (State.quiet_updGpf _)
  have hkeeps : State.SwapKeeps s4 (s4.planBar true false false).publishBounds.updGpf :=
    ((s4.swapKeeps_planBar true false false).trans (State.swapKeeps_publishBounds _)).trans (State.onlyLogs_updGpf _).swapKeeps
  exact ⟨((h1.trans h2).trans (h3.trans h4)).trans hend, (hkeeps.get _ (by decide)).trans hboot4, mem_raised_of_src htold hend.raised⟩

theorem State.scanBegins_outcome (s : State) : s.scanBegins.get Reg.SYS_STATE_STEP = 6 ∧ s.scanBegins.get Reg.SCORE_STAT_BOOT = 1 ∧
    (∃ e ∈ s.scanBegins.raised, e.src = 0x057) ∧ ∀ c, c < 8 → s.scanBegins.chState c = s.chState c := by
  obtain ⟨hquiet, hboot, htold⟩ := s.playBoot_outcome
  unfold State.scanBegins
  generalize s.playBoot = v at *
  have hget (f : Field) (hd : f.key ≠ Reg.DECK_STAT_STATE.key) (hr : f.key ≠ Reg.TILE_RESTORE_STAT_STATE.key) :
      (((v.toStep 6).set Reg.DECK_STAT_STATE 1).set Reg.TILE_RESTORE_STAT_STATE 1).get f = (v.toStep 6).get f :=
    (State.get_set_ne _ _ hr).trans (State.get_set_ne _ _ hd)
  refine ⟨?_, ?_, htold, fun c hc => ?_⟩
  · exact (hget _ (by decide) (by decide)).trans (v.get_toStep (by decide))
  · rw [hget _ (by decide) (by decide), v.get_toStep_ne 6 (by decide), hboot]
  · rw [State.chState, hget _ (key_ne_of_addr_ne (by simp) (by simp) (by simp; omega)) (key_ne_of_addr_ne (by simp) (by simp) (by simp; omega)),
      v.get_toStep_ne 6 (key_ne_of_addr_ne (by simp) (by simp) (by simp; omega)),
      hquiet.get _ (ofStartUp_channel (by simp) (by simp) (by simp; omega))]
    rfl

theorem State.any_serving_congr (h : ∀ c < 8, t.chState c = s.chState c) : channels.any t.serving = channels.any s.serving := by
  rw [Bool.eq_iff_iff, List.any_eq_true, List.any_eq_true]
  refine exists_congr fun c => and_congr_right fun hc => ?_
  rw [State.serving, State.serving, h c (State.mem_channels.mp hc)]

/-- Step 5 by whether a channel serves. -/
theorem State.step5_outcome (r : StepReport) (h : s.get Reg.SYS_STATE_STEP = 5) (hhalt : s.flag Reg.SYS_STATE_HALT = false) :
    (∀ c : Fin 8, bitAt s.card.dchMask c = true →
      (s.step5 r).chState c = if s.chState c = chTraining then chInService else s.chState c) ∧
    (channels.any (s.step5 r).serving = true → (s.step5 r).get Reg.SYS_STATE_STEP = 6 ∧ (s.step5 r).get Reg.SCORE_STAT_BOOT = 1 ∧
      ∃ e ∈ (s.step5 r).raised, e.src = 0x057) ∧
    (channels.any (s.step5 r).serving = false → (s.step5 r).get Reg.SYS_STATE_STEP = 5 ∧ (s.step5 r).get Reg.SYS_STATE_HALT = 1 ∧
      (s.step5 r).get Reg.SYS_STATE_HALT_STEP = 5) := by
  obtain ⟨u, hu, hstep⟩ := s.step5_eq r
  have hsame : (∀ c, u.chState c = s.chState c) ∧ u.card = s.card ∧ u.get Reg.SYS_STATE_STEP = 5 ∧
      u.flag Reg.SYS_STATE_HALT = false := by
    obtain rfl | rfl := hu
    · exact ⟨fun _ => rfl, rfl, h, hhalt⟩
    · have hfirst (f : Field) (hf : f.key ≠ Reg.SYS_STATE_FIRST_USE.key) : (s.firstUse 1).get f = s.get f := State.get_set_ne _ _ hf
      refine ⟨fun c => hfirst _ (key_ne_of_addr_ne (by simp) (by simp) (by simp; omega)), rfl, (hfirst _ (by decide)).trans h, ?_⟩
      rw [State.flag, hfirst _ (by decide)]
      exact hhalt
  obtain ⟨hstates, hcard, hnum, hhalt'⟩ := hsame
  rw [hstep]
  obtain ⟨hquiet, hserve⟩ := u.trainedServe_outcome
  have hall := hquiet.trans (u.trainedServe.quiet_nandServes r).device
  have hchan (c : Nat) (hc : c < 8) : (u.trainedServe.nandServes r).chState c = u.trainedServe.chState c :=
    (u.trainedServe.quiet_nandServes r).chState (ofStartUp_channel (by simp) (by simp) (by simp; omega))
  have hv (c : Fin 8) (hc : bitAt s.card.dchMask c = true) : (u.trainedServe.nandServes r).chState c =
      if s.chState c = chTraining then chInService else s.chState c := by
    rw [hchan c c.isLt, hserve c (hcard ▸ hc), hstates]
  generalize u.trainedServe.nandServes r = v at *
  have hvnum : v.get Reg.SYS_STATE_STEP = 5 := (hall.get _ (by simp [ofDevice])).trans hnum
  have hvhalt : v.flag Reg.SYS_STATE_HALT = false := by
    rw [State.flag, hall.get _ (by simp [ofDevice])]
    exact hhalt'
  cases hany : channels.any v.serving with
  | false =>
    obtain ⟨hset, hwhere, hkept, -, hchans⟩ := State.halt_outcome hvhalt 5 7
    have hno := (State.any_serving_congr fun c _ => hchans c).trans hany
    rw [Bool.not_false, if_pos rfl]
    exact ⟨fun c hc => (hchans c).trans (hv c hc), fun hyes => absurd hyes (ne_true_of_eq_false hno), fun _ => ⟨hkept.trans hvnum, hset, hwhere⟩⟩
  | true =>
    obtain ⟨hsix, hboot, htold, hchans⟩ := v.scanBegins_outcome
    have hyes := (State.any_serving_congr hchans).trans hany
    rw [Bool.not_true, if_neg Bool.false_ne_true]
    exact ⟨fun c hc => (hchans c c.isLt).trans (hv c hc), fun _ => ⟨hsix, hboot, htold⟩, fun hno => absurd hyes (ne_true_of_eq_false hno)⟩


/-! ### Step 7 (R193, R223, R526) -/

theorem State.openPorts_outcome (s : State) : s.openPorts.get Reg.SYS_STATE_STEP = 8 ∧ (∀ e ∈ s.raised, e ∈ s.openPorts.raised) ∧
    ∀ p : Fin 4, s.openPorts.get (Reg.HPORT_STAT_LINK_STATE p) = if s.get (Reg.HPORT_STAT_LINK_STATE p) ≤ 1 then bit (s.openPorts.mayTrain p)
      else s.get (Reg.HPORT_STAT_LINK_STATE p) := by
  have hbudget := (s.toStep 8).quiet_firstBudget
  unfold State.openPorts
  generalize (s.toStep 8).firstBudget = v at *
  obtain ⟨hquiet, hlinks⟩ := v.trainPorts_outcome
  have hlink (p : Fin 4) : v.get (Reg.HPORT_STAT_LINK_STATE p) = s.get (Reg.HPORT_STAT_LINK_STATE p) :=
    (hbudget.get _ (ofStartUp_link p.isLt)).trans (s.get_toStep_ne 8 (key_ne_of_addr_ne (by simp) (by simp) (by simp; omega)))
  refine ⟨?_, fun e he => hquiet.raised e (hbudget.raised e he), fun p => ?_⟩
  · rw [hquiet.get _ (by simp), hbudget.get _ (ofStartUp_of_ofDevice (by simp [ofDevice])), s.get_toStep (by decide)]
  · rw [hlinks p, hlink p]

/-! ### Step 8, and the end of an exit from H (R254, R259, R526, R534, R535) -/

/-- Ports that are fenced carry CXL.mem. -/
def State.unfenced (s : State) (l : List Nat) : State :=
  s.each l fun s p => (s.set (Reg.HPORT_STAT_LINK_STATE p) 3).raise (srcPort p 14) [d1 0]

theorem State.unfenced_outcome {l : List Nat} (hnd : l.Nodup) (s : State) :
    (∀ p, (s.unfenced l).get (Reg.HPORT_STAT_LINK_STATE p) = if p ∈ l then 3 else s.get (Reg.HPORT_STAT_LINK_STATE p)) ∧
    (∀ e ∈ s.raised, e ∈ (s.unfenced l).raised) := by
  have hstep (u : State) (p : Nat) : State.Quiet ofDevice u ((u.set (Reg.HPORT_STAT_LINK_STATE p) 3).raise (srcPort p 14) [d1 0]) :=
    (u.quiet_above _ 3 (by simp) (by simp; omega)).trans (.raise _ _ _ _)
  have hall : State.Quiet ofDevice s (s.unfenced l) := .each hstep l s
  refine ⟨fun p => ?_, hall.raised⟩
  exact State.each_look (s := s) (look := fun u p => u.get (Reg.HPORT_STAT_LINK_STATE p)) (inv := fun _ => True) (v := fun _ _ => 3)
    (step := fun u p => (u.set (Reg.HPORT_STAT_LINK_STATE p) 3).raise (srcPort p 14) [d1 0]) hnd
    (fun _ _ _ _ => trivial) (fun u _ d _ => State.get_set_self u (Reg.HPORT_STAT_LINK_STATE d) 3)
    (fun u d _ c hne => by
      rw [State.raise_get]
      exact State.get_set_ne _ _ (key_ne_of_addr_ne (by simp) (by simp) (by simp; omega))) trivial p

/-- What an exit from H that ends leaves: the step, the links, and the events raised. -/
theorem State.endHExit_outcome {cause bar : Nat} (h : s.sys.hExit = some (cause, bar)) :
    s.endHExit.get Reg.SYS_STATE_STEP = s.get Reg.SYS_STATE_STEP ∧
    (∀ p < 4, s.endHExit.get (Reg.HPORT_STAT_LINK_STATE p) = s.get (Reg.HPORT_STAT_LINK_STATE p)) ∧
    s.endHExit.sys.hExit = none ∧ ∀ e ∈ s.raised, e ∈ s.endHExit.raised := by
  have hserve (u : State) : State.Quiet ofStartUp (u.updSys fun x => { x with hReqs := [] }) u.serveHReqs :=
    .each (fun v (x : HReq) => v.quiet_lookUp x.acc x.stamp x.write x.data x.mask) _ _
  unfold State.endHExit
  rw [h]
  dsimp only
  have hstart : (s.updSys fun x => { x with hExit := none, wakes := [] }).sys.hExit = none := rfl
  have hget (f : Field) : (s.updSys fun x => { x with hExit := none, wakes := [] }).get f = s.get f := rfl
  have hraised : (s.updSys fun x => { x with hExit := none, wakes := [] }).raised = s.raised := rfl
  generalize (s.updSys fun x => { x with hExit := none, wakes := [] }) = u at *
  have htold (d d' : List DField) (b : Bool) : State.Quiet ofStartUp u ((u.raise 0x008 d).when b fun s => s.raise 0x009 d') := by
    unfold State.when
    exact .ite ((State.Quiet.raise _ _ _ _).trans (.raise _ _ _ _)) (.raise _ _ _ _) _
  have htold := htold [d1 cause, d4 ((s.bar - bar) * 39 / 10 / 1000)] [d1 4, d4 ((s.bar - bar) * 39 / 10)]
    (decide (300000 < (s.bar - bar) * 39 / 10))
  generalize (u.raise 0x008 _).when _ _ = v at *
  obtain ⟨-, -, hkeep, hmono, -, hsys, -⟩ := v.setPower_outcome (new := 0) (limit := 1) (by decide)
  generalize v.setPower 0 1 = w at *
  have hlast := hserve w
  have hnone : (w.updSys fun x => { x with hReqs := [] }).sys.hExit = none := by
    show w.sys.hExit = none
    rw [hsys, htold.sys, hstart]
  refine ⟨?_, fun p hp => ?_, ?_, fun e he => ?_⟩
  · rw [hlast.get _ (ofStartUp_of_ofDevice (by simp [ofDevice])), State.updSys_get, hkeep _ (by simp) (by simp),
      htold.get _ (ofStartUp_of_ofDevice (by simp [ofDevice])), hget]
  · rw [hlast.get _ (ofStartUp_link hp), State.updSys_get, hkeep _ (by simp) (by simp; omega), htold.get _ (ofStartUp_link hp), hget]
  · rw [hlast.sys, hnone]
  · exact hlast.raised e (hmono e (htold.raised e (hraised ▸ he)))

/-- What step 8 does before it looks whether it ends an exit from H. -/
def State.step8Shown (s : State) : State :=
  let l := ports.filter fun p => s.get (Reg.HPORT_STAT_LINK_STATE p) = 4
  let s := (((s.prsAdd 1 0 s.keystoneSeq).unfenced l).beginRestore).toStep 15
  if s.assured then s else s.notAssured (s.get Reg.TILE_STAT_CAUSE)

theorem State.step8_eq (s : State) : s.step8 = if s.step8Shown.sys.hExit.isSome then s.step8Shown.endHExit
    else (s.step8Shown.set Reg.SYS_STARTUP_TOTAL_MS (satW 16 s.step8Shown.sys.totalMs)).raise 0x002
      [d2 ((s.step8Shown.set Reg.SYS_STARTUP_TOTAL_MS (satW 16 s.step8Shown.sys.totalMs)).get Reg.SYS_STARTUP_TOTAL_MS),
        d1 ((s.step8Shown.set Reg.SYS_STARTUP_TOTAL_MS (satW 16 s.step8Shown.sys.totalMs)).get Reg.SYS_STATE_FIRST_USE)] := rfl

theorem State.step8Shown_outcome (s : State) : s.step8Shown.get Reg.SYS_STATE_STEP = 15 ∧
    (∀ p < 4, s.step8Shown.get (Reg.HPORT_STAT_LINK_STATE p) ≠ 4) ∧ ∀ e ∈ s.raised, e ∈ s.step8Shown.raised := by
  unfold State.step8Shown
  extract_lets l v
  have hentry := s.quiet_prsAdd 1 0 s.keystoneSeq
  obtain ⟨hlinks, hraised⟩ := State.unfenced_outcome (l := l) (nodup_ports.filter _) (s.prsAdd 1 0 s.keystoneSeq)
  have hrestore := ((s.prsAdd 1 0 s.keystoneSeq).unfenced l).quiet_beginRestore
  have hstep : v.get Reg.SYS_STATE_STEP = 15 := State.get_toStep _ (by decide)
  have hlink (p : Nat) (hp : p < 4) : v.get (Reg.HPORT_STAT_LINK_STATE p) ≠ 4 := by
    have hv : v.get (Reg.HPORT_STAT_LINK_STATE p) = if p ∈ l then 3 else s.get (Reg.HPORT_STAT_LINK_STATE p) :=
      (State.get_toStep_ne _ 15 (key_ne_of_addr_ne (by simp) (by simp) (by simp; omega))).trans
        ((hrestore.get _ (ofStartUp_link hp)).trans ((hlinks p).trans (by rw [hentry.get _ (ofStartUp_link hp)])))
    rw [hv]
    split_ifs with hmem
    · decide
    · exact fun hfour => hmem (List.mem_filter.mpr ⟨List.mem_range.mpr hp, decide_eq_true hfour⟩)
  have hmono (e : Event) (he : e ∈ s.raised) : e ∈ v.raised := hrestore.raised e (hraised e (hentry.raised e he))
  clear_value v
  split
  · exact ⟨hstep, hlink, hmono⟩
  · have hlast := v.quiet_notAssured (v.get Reg.TILE_STAT_CAUSE)
    refine ⟨(hlast.get _ (ofStartUp_of_ofDevice (by simp [ofDevice]))).trans hstep, fun p hp => ?_, fun e he => hlast.raised e (hmono e he)⟩
    rw [hlast.get _ (ofStartUp_link hp)]
    exact hlink p hp

theorem State.step8_outcome (s : State) : s.step8.get Reg.SYS_STATE_STEP = 15 ∧
    (∀ p : Fin 4, s.step8.get (Reg.HPORT_STAT_LINK_STATE p) ≠ 4) ∧ s.step8.sys.hExit = none ∧ ∀ e ∈ s.raised, e ∈ s.step8.raised := by
  obtain ⟨hstep, hlinks, hmono⟩ := s.step8Shown_outcome
  rw [State.step8_eq]
  generalize s.step8Shown = v at *
  cases hexit : v.sys.hExit with
  | some x =>
    obtain ⟨cause, bar⟩ := x
    obtain ⟨hkept, hlink, hnone, hraised⟩ := State.endHExit_outcome hexit
    rw [Option.isSome_some, if_pos rfl]
    exact ⟨hkept.trans hstep, fun p => by rw [hlink p p.isLt]; exact hlinks p p.isLt, hnone, fun e he => hraised e (hmono e he)⟩
  | none =>
    rw [Option.isSome_none, if_neg Bool.false_ne_true]
    have htotal := v.quiet_far Reg.SYS_STARTUP_TOTAL_MS (satW 16 v.sys.totalMs) (by simp) (by simp [farAddr])
    generalize v.set Reg.SYS_STARTUP_TOTAL_MS (satW 16 v.sys.totalMs) = w at *
    refine ⟨?_, fun p => ?_, ?_, fun e he => List.mem_append_left _ (htotal.raised e (hmono e he))⟩
    · rw [State.raise_get, htotal.get _ (ofStartUp_of_ofDevice (by simp [ofDevice])), hstep]
    · rw [State.raise_get, htotal.get _ (ofStartUp_link p.isLt)]
      exact hlinks p p.isLt
    · show w.sys.hExit = none
      rw [htotal.sys, hexit]

/-! ### The choice of a power state (R533) -/

/-- What is chosen: A1 after a wake without work, and else the state of the procedure. -/
def State.choice (s : State) : Nat × Nat := if s.save.wake && !s.working then (1, 2) else s.choosePower

/-- T_known is shown, the idle phrases are counted, and the choice counts for this phrase. -/
def State.beforeChoice (s : State) : State :=
  let x := s.set Reg.SYS_PWR_STATE_T_KNOWN_MS (satW 16 (s.tKnown / 1000))
  let y := x.updSys fun z => { z with idle := if x.working || x.save.wake then 0 else z.idle + 1, chosenAt := x.bar + 1 }
  if y.saving then y else y.updSave fun z => { z with wake := false }

theorem exec_powerStateSelect (hon : s.on = true) : exec .powerStateSelect s =
    if !s.phraseStart || !s.atDownbeat || s.sys.chosenAt = s.bar + 1 || s.get Reg.SYS_STATE_STEP ≠ 15 || s.inH then .next s
    else .next (s.beforeChoice.toPower (s.set Reg.SYS_PWR_STATE_T_KNOWN_MS (satW 16 (s.tKnown / 1000))).choice.1
      (s.set Reg.SYS_PWR_STATE_T_KNOWN_MS (satW 16 (s.tKnown / 1000))).choice.2) := s.powered_of_on hon

theorem State.choosePower_le (s : State) : s.choosePower.1 ≤ 4 := by
  unfold State.choosePower
  dsimp only
  split_ifs <;> simp

theorem State.choice_eq (s : State) : s.choice = if s.save.wake = true ∧ s.working = false then (1, 2) else s.choosePower := by
  simp only [State.choice, Bool.and_eq_true, Bool.not_eq_true']

theorem State.choice_le (s : State) : s.choice.1 ≤ 4 := by
  unfold State.choice
  split
  · decide
  · exact s.choosePower_le

theorem State.beforeChoice_outcome (s : State) : s.beforeChoice.sys.chosenAt = s.bar + 1 ∧
    s.beforeChoice.get Reg.SYS_PWR_STATE_STATE = s.get Reg.SYS_PWR_STATE_STATE ∧ s.beforeChoice.save.latched = s.save.latched := by
  unfold State.beforeChoice
  extract_lets x y
  have hstate : y.get Reg.SYS_PWR_STATE_STATE = s.get Reg.SYS_PWR_STATE_STATE := State.get_set_ne s _ (by decide)
  have hchosen : y.sys.chosenAt = s.bar + 1 := rfl
  have hlatched : y.save.latched = s.save.latched := rfl
  clear_value y
  split
  · exact ⟨hchosen, hstate, hlatched⟩
  · exact ⟨hchosen, hstate, hlatched⟩

theorem State.quiet_latchGuard (s : State) (cause : Nat) : State.Quiet ofDevice s (s.latchGuard cause) ∧ (s.latchGuard cause).save = s.save := by
  unfold State.latchGuard
  split
  · exact ⟨.refl s, rfl⟩
  · exact ⟨(s.quiet_above (Reg.GUARD_OUT_OUT 0) _ (by simp) (by simp)).trans
      (State.quiet_above _ (Reg.GUARD_OUT_HW 0) _ (by simp) (by simp)), rfl⟩

theorem State.latchSave_outcome (s : State) (cause : Nat) (off : Bool) : State.Quiet ofDevice s (s.latchSave cause off) ∧
    (s.latchSave cause off).save.latched = s.save.latched ++ [(cause, off)] := by
  unfold State.latchSave
  extract_lets v
  have hv : State.Quiet ofDevice s v ∧ v.save = s.save := by
    subst v
    split
    · exact s.quiet_latchGuard cause
    · exact ⟨.refl s, rfl⟩
  clear_value v
  refine ⟨hv.1.trans (.of_same rfl rfl rfl), ?_⟩
  show v.save.latched ++ [(cause, off)] = _
  rw [hv.2]

/-- H is entered through a latched cause 6. -/
theorem State.toPower_hibernate (s : State) (limit : Nat) : (s.toPower 4 limit).sys = s.sys ∧
    (s.toPower 4 limit).get Reg.SYS_PWR_STATE_LIMIT = 0 ∧
    (s.toPower 4 limit).get Reg.SYS_PWR_STATE_STATE = s.get Reg.SYS_PWR_STATE_STATE ∧
    (s.save.latched = [] → (s.toPower 4 limit).save.latched = [(6, false)]) := by
  have hlimit : (s.set Reg.SYS_PWR_STATE_LIMIT 0).get Reg.SYS_PWR_STATE_LIMIT = 0 := State.get_set_self _ _ _
  have hstate : (s.set Reg.SYS_PWR_STATE_LIMIT 0).get Reg.SYS_PWR_STATE_STATE = s.get Reg.SYS_PWR_STATE_STATE := State.get_set_ne _ _ (by decide)
  have hsys : (s.set Reg.SYS_PWR_STATE_LIMIT 0).sys = s.sys := rfl
  have hsave : (s.set Reg.SYS_PWR_STATE_LIMIT 0).save = s.save := rfl
  unfold State.toPower
  rw [if_pos rfl]
  dsimp only
  generalize s.set Reg.SYS_PWR_STATE_LIMIT 0 = v at *
  split
  · obtain ⟨hquiet, hlatched⟩ := v.latchSave_outcome 6 false
    refine ⟨hquiet.sys.trans hsys, (hquiet.get _ (by simp [ofDevice])).trans hlimit,
      (hquiet.get _ (by simp [ofDevice])).trans hstate, fun h => ?_⟩
    rw [hlatched, hsave, h]
    rfl
  · next hno =>
    refine ⟨hsys, hlimit, hstate, fun h => absurd ?_ hno⟩
    rw [hsave, h]
    rfl

/-- Every other state is shown at once. -/
theorem State.toPower_shown (s : State) {new : Nat} (hnew : new < 4) (limit : Nat) : (s.toPower new limit).sys = s.sys ∧
    (s.toPower new limit).get Reg.SYS_PWR_STATE_STATE = new ∧ (s.toPower new limit).get Reg.SYS_PWR_STATE_LIMIT = limit % 16 := by
  have hdoze : State.Quiet ofDevice s (if 2 ≤ new then s.selfRefreshOn else s.selfRefreshOff) :=
    .ite s.quiet_selfRefreshOn s.quiet_selfRefreshOff _
  unfold State.toPower
  rw [if_neg (by omega)]
  dsimp only
  generalize (if 2 ≤ new then s.selfRefreshOn else s.selfRefreshOff) = v at *
  obtain ⟨hstate, hlimit, -, -, -, hsys, -⟩ := v.setPower_outcome (new := new) (limit := limit) (by omega)
  exact ⟨hsys.trans hdoze.sys, hstate, hlimit⟩

/-! ### The way out of A1, D1 and D2 (R122, R530, R533) -/

/-- Does something bring the device out of its power state? -/
def State.wakes (s : State) : Bool :=
  s.working || s.save.wake ||
    (decide (2 ≤ s.get Reg.SYS_PWR_STATE_STATE) && decide (s.tKnown * 10 ≤ exitLatency (s.get Reg.SYS_PWR_STATE_STATE)))

/-- The device is awake, in A0; an exit past its latency is told. -/
def State.awake (s : State) (us : Nat) : State :=
  let v := (s.updSys fun x => { x with idle := 0 }).selfRefreshOff
  let w := if exitLatency (s.get Reg.SYS_PWR_STATE_STATE) < us * 10 then v.raise 0x009 [d1 (s.get Reg.SYS_PWR_STATE_STATE), d4 us] else v
  w.setPower 0 1

theorem exec_powerStateWake (hon : s.on = true) (us : Nat) : exec (.powerStateWake us) s =
    if 1 ≤ s.get Reg.SYS_PWR_STATE_STATE && s.get Reg.SYS_PWR_STATE_STATE ≤ 3 && s.wakes then .next (s.awake us) else .next s :=
  s.powered_of_on hon

theorem State.awake_outcome (h : s.get Reg.SYS_PWR_STATE_STATE ≠ 0) (us : Nat) : (s.awake us).get Reg.SYS_PWR_STATE_STATE = 0 ∧
    (s.awake us).sys.idle = 0 ∧ (∃ e ∈ (s.awake us).raised, e.src = 0x005) ∧ (s.awake us).seq.selfRefreshWait = false ∧
    (s.atDownbeat = true → ∀ c : Fin 8, (s.awake us).flag (Reg.DCH_STAT_SELF_REFRESH c) = false) ∧
    (s.atDownbeat = false → ((s.awake us).seq.selfRefreshExit = true ↔ ∃ c ∈ channels, s.flag (Reg.DCH_STAT_SELF_REFRESH c) = true)) ∧
    (exitLatency (s.get Reg.SYS_PWR_STATE_STATE) < us * 10 → ∃ e ∈ (s.awake us).raised, e.src = 0x009) := by
  unfold State.awake
  extract_lets v w
  have hoff := (s.updSys fun x => { x with idle := 0 }).quiet_selfRefreshOff
  have hidle : v.sys.idle = 0 := congrArg SysState.idle hoff.sys
  have hstate : v.get Reg.SYS_PWR_STATE_STATE = s.get Reg.SYS_PWR_STATE_STATE := hoff.get _ (by simp [ofDevice])
  have hseq : v.seq.selfRefreshWait = false ∧ (s.atDownbeat = true → ∀ c : Fin 8, v.get (Reg.DCH_STAT_SELF_REFRESH c) = 0) ∧
      (s.atDownbeat = false → (v.seq.selfRefreshExit = true ↔ ∃ c ∈ channels, s.flag (Reg.DCH_STAT_SELF_REFRESH c) = true)) := by
    cases hdown : s.atDownbeat with
    | false =>
      have hv : v.seq = _ := congrArg State.seq (State.selfRefreshOff_later (s := s.updSys fun x => { x with idle := 0 }) hdown)
      refine ⟨by rw [hv], fun hno => (nomatch hno), fun _ => ?_⟩
      rw [hv]
      exact List.any_eq_true
    | true =>
      obtain ⟨-, hv, hflags⟩ := State.selfRefreshOff_outcome (s := s.updSys fun x => { x with idle := 0 }) hdown
      exact ⟨congrArg SeqState.selfRefreshWait hv, fun _ c => (hflags c).1, fun hno => (nomatch hno)⟩
  clear_value v
  obtain ⟨hwait, hflags, hexit⟩ := hseq
  have hw : w.sys = v.sys ∧ w.seq = v.seq ∧ (∀ f, w.get f = v.get f) ∧
      (exitLatency (s.get Reg.SYS_PWR_STATE_STATE) < us * 10 → ∃ e ∈ w.raised, e.src = 0x009) := by
    subst w
    split
    · exact ⟨rfl, rfl, fun _ => rfl, fun _ => ⟨_, List.mem_append_right _ List.mem_cons_self, rfl⟩⟩
    · next hno => exact ⟨rfl, rfl, fun _ => rfl, fun hyes => absurd hyes hno⟩
  clear_value w
  obtain ⟨hwsys, hwseq, hwget, hlate⟩ := hw
  obtain ⟨hzero, -, hkeep, hmono, htold, hsys, hseq⟩ := w.setPower_outcome (new := 0) (limit := 1) (by decide)
  refine ⟨hzero, ?_, htold ?_, ?_, fun hdown c => ?_, fun hdown => ?_, fun hlong => mem_raised_of_src (hlate hlong) hmono⟩
  · rw [hsys, hwsys, hidle]
  · rw [hwget, hstate]
    exact h
  · rw [hseq, hwseq, hwait]
  · rw [State.flag, hkeep _ (by simp) (by simp; omega), hwget, hflags hdown c]
    rfl
  · rw [hseq, hwseq]
    exact hexit hdown

/-! ### The way out of H (R535) -/

/-- What a power-down of DRAM and the Deck, and the rails coming up again, leave: the device's state and those of the DRAM channels, the
time, and what the card is made of. -/
structure State.Survives (s t : State) : Prop where
  quiet : State.Quiet ofTraining s t
  bar : t.bar = s.bar
  card : t.card = s.card

theorem State.Survives.refl (s : State) : s.Survives s := ⟨.refl s, rfl, rfl⟩

theorem State.Survives.trans (h : s.Survives t) (h' : t.Survives u) : s.Survives u :=
  ⟨h.quiet.trans h'.quiet, h'.bar.trans h.bar, h'.card.trans h.card⟩

theorem State.Survives.each {α : Type} {step : State → α → State} (h : ∀ (s : State) (x : α), s.Survives (step s x)) (l : List α)
    (s : State) : s.Survives (s.each l step) := State.each_related State.Survives.refl State.Survives.trans h l s

theorem State.Survives.set (h : s.Survives t) (f : Field) (v : Nat) (hlo : f.lo < 29) (ha : 0x10 ≤ f.addr) : s.Survives (t.set f v) :=
  h.trans ⟨t.quiet_training f v (by omega) (by omega) ha, rfl, rfl⟩

theorem State.survives_updPwr (s : State) (f : SeqPwr → SeqPwr) : s.Survives (s.updPwr f) := ⟨.of_same rfl rfl rfl, rfl, rfl⟩

theorem State.survives_updDeck (s : State) (f : DeckState → DeckState) : s.Survives (s.updDeck f) := ⟨.of_same rfl rfl rfl, rfl, rfl⟩

theorem State.survives_updCh (s : State) (c : Nat) (g : DramCh → DramCh) : s.Survives (s.updCh c g) := ⟨.of_same rfl rfl rfl, rfl, rfl⟩

theorem State.survives_debtClear (s : State) (c : Nat) : s.Survives (s.debtClear c) := by
  unfold State.debtClear
  extract_lets v
  have hv : s.Survives v := ((State.Survives.refl s).set (Reg.DCH_REF_DEBT_DEBT c) 0 (by simp) (by simp; omega)).set
    (Reg.DCH_REF_DEBT_INHERITED c) 0 (by simp) (by simp; omega)
  clear_value v
  exact hv.set Reg.SCORE_STAT_INHERITED_DEBT _ (by simp) (by simp)

theorem State.survives_dramOff (s : State) : s.Survives s.dramOff := by
  unfold State.dramOff
  extract_lets dram v w
  have hw : s.Survives w := ⟨.of_same rfl rfl rfl, rfl, rfl⟩
  clear_value w
  exact hw.trans (.each (fun u c => (u.survives_updCh c _).trans (State.survives_debtClear _ c)) channels w)

theorem State.survives_deckCut (s : State) : s.Survives s.deckCut := by
  have hrings : s.Survives s.cutRings := .each (fun u _ => u.survives_updDeck _) nandChannels s
  unfold State.deckCut
  exact hrings.trans (State.survives_updDeck _ _)

theorem State.survives_powerOn (s : State) : s.Survives s.powerOn := by
  have hsets : s.Survives (((s.set Reg.SEQ_STAT_STATE seqOn).set Reg.SEQ_STAT_SEQ_OUT 1).set Reg.SEQ_LAST_UP_TICKS s.tickNow) :=
    (((State.Survives.refl s).set Reg.SEQ_STAT_STATE seqOn (by simp) (by simp)).set Reg.SEQ_STAT_SEQ_OUT 1 (by simp) (by simp)).set
      Reg.SEQ_LAST_UP_TICKS s.tickNow (by simp) (by simp)
  exact hsets.trans ⟨.raise _ _ _ _, rfl, rfl⟩

theorem State.survives_railsUpFromH (s : State) : s.Survives s.railsUpFromH := by
  unfold State.railsUpFromH
  extract_lets off rail v w x
  have hv : s.Survives v := by
    refine .each (fun u n => ?_) off s
    exact ((((State.Survives.refl u).set Reg.SEQ_STAT_GOOD _ (by simp) (by simp)).set Reg.SEQ_LIVE_PG _ (by simp) (by simp)).set
      Reg.SEQ_DIS_DIS _ (by simp) (by simp)).trans (State.survives_updPwr _ _)
  clear_value v
  have hw : v.Survives w := ((State.Survives.refl v).set (Reg.GUARD_OUT_OUT 1) _ (by simp) (by simp)).trans (State.survives_updPwr _ _)
  clear_value w
  have hx : w.Survives x := (State.Survives.refl w).set Reg.SEQ_STAT_STATE seqUp (by simp) (by simp)
  clear_value x
  have hall := (hv.trans hw).trans hx
  split
  · exact hall.trans x.survives_powerOn
  · exact hall

/-- The exit from H begins: rails up, and step 5 with the channels training. -/
def State.leavesH (s : State) (cause : Nat) : State :=
  let v := (s.dramOff.deckCut).railsUpFromH
  let w := v.updSys fun x => { x with hExit := some (cause, v.bar), stepBar := v.bar }
  ((w.updSys fun x => { x with tilesSet := false }).toStep 5).trainAll

theorem exec_hibernateExit (hon : s.on = true) (cause : Fin 6) : exec (.hibernateExit cause) s =
    if s.get Reg.SYS_PWR_STATE_STATE = 4 && s.sys.hExit.isNone && !s.save.shut && s.exitCause cause then .next (s.leavesH cause.val)
    else .next s := s.powered_of_on hon

theorem State.leavesH_outcome (s : State) (cause : Nat) : (s.leavesH cause).sys.hExit = some (cause, s.bar) ∧
    (s.leavesH cause).get Reg.SYS_STATE_STEP = 5 ∧ ∀ c : Fin 8, bitAt s.card.dchMask c = true →
      (s.leavesH cause).chState c = if s.chState c ≤ chInService then chTraining else s.chState c := by
  unfold State.leavesH
  extract_lets v w
  have hv : s.Survives v := (s.survives_dramOff.trans s.dramOff.survives_deckCut).trans s.dramOff.deckCut.survives_railsUpFromH
  clear_value v
  obtain ⟨hquiet, hbar, hcard⟩ := hv
  have hw (c : Nat) : ((w.updSys fun x => { x with tilesSet := false }).toStep 5).chState c = s.chState c :=
    (State.get_toStep_ne _ 5 (key_ne_of_addr_ne (by simp) (by simp) (by simp; omega))).trans (hquiet.chState (.inr ⟨c, rfl⟩))
  have hexit : ((w.updSys fun x => { x with tilesSet := false }).toStep 5).sys.hExit = some (cause, v.bar) := rfl
  have hboard : ((w.updSys fun x => { x with tilesSet := false }).toStep 5).card = v.card := rfl
  have hstep : ((w.updSys fun x => { x with tilesSet := false }).toStep 5).get Reg.SYS_STATE_STEP = 5 := State.get_toStep _ (by decide)
  generalize (w.updSys fun x => { x with tilesSet := false }).toStep 5 = x at *
  obtain ⟨htrain, hstates⟩ := x.trainAll_outcome
  refine ⟨?_, (htrain.get _ (by simp [ofDevice])).trans hstep, fun c hc => ?_⟩
  · rw [htrain.sys, hexit, hbar]
  · rw [hstates c (by rw [hboard, hcard]; exact hc), hw]

/-! ### The obligation -/

/-- What a step that may end is free of. -/
theorem State.stepMay_iff (h : s.stepMay = true) : s.flag Reg.SYS_STATE_HALT = false ∧
    (s.get Reg.SYS_STATE_STEP = 7 → s.sys.tilesSet = true → s.restoring = false) := by
  unfold State.stepMay at h
  simp only [Bool.and_eq_true, Bool.not_eq_true', decide_eq_true_eq] at h
  obtain ⟨⟨⟨hhalt, -⟩, -⟩, hstep⟩ := h
  refine ⟨hhalt, fun hseven hset => ?_⟩
  rw [hseven] at hstep
  simpa [hset] using hstep

section Steps

variable (r : StepReport)

theorem State.stepDone_three_outcome (h : s.get Reg.SYS_STATE_STEP = 3) (hhalt : s.flag Reg.SYS_STATE_HALT = false) :
    (s.flag Reg.FL_OPTION_DEFAULTS = true → (s.stepDone r).get Reg.SYS_STATE_STEP = 3 ∧ (s.stepDone r).get Reg.SYS_STATE_HALT = 1 ∧
      (s.stepDone r).get Reg.SYS_STATE_HALT_STEP = 2) ∧
    (s.flag Reg.FL_OPTION_DEFAULTS = false →
      ((bootVerify s.cardCfg s.bootGraph).isSome = true → (s.stepDone r).get Reg.SYS_STATE_STEP = 3 ∧
        (s.stepDone r).get Reg.SYS_STATE_HALT = 1 ∧ (s.stepDone r).get Reg.SYS_STATE_HALT_STEP = 3 ∧
        ∃ e ∈ (s.stepDone r).raised, e.src = 0x058) ∧
      (bootVerify s.cardCfg s.bootGraph = none → (s.stepDone r).get Reg.SYS_STATE_STEP = 4 ∧ (s.stepDone r).seqState = seqWait ∧
        (s.stepDone r).get (Reg.GUARD_OUT_OUT 1) = 1 ∧ ∃ e ∈ (s.stepDone r).raised, e.src = 0x001)) := by
  obtain ⟨hget, hmono, htold⟩ := (s.step3 r).endTold_outcome 3 s r.ms
  rw [State.stepDone_three r h, State.seqState]
  generalize (s.step3 r).endTold 3 s r.ms = t at *
  simp only [hget]
  refine ⟨fun hdef => ?_, fun hdef => ⟨fun hfail => ?_, fun hok => ?_⟩⟩
  · obtain ⟨hset, hwhere, hkept, -, -⟩ := State.halt_outcome hhalt 2 1
    rw [State.step3_defaults r hdef]
    exact ⟨hkept.trans h, hset, hwhere⟩
  · obtain ⟨f, hf⟩ := Option.isSome_iff_exists.mp hfail
    obtain ⟨d, hstep⟩ := State.step3_fails r hdef hf
    have htold' : ∃ e ∈ (s.raise 0x058 d).raised, e.src = 0x058 := ⟨_, List.mem_append_right _ List.mem_cons_self, rfl⟩
    obtain ⟨hset, hwhere, hkept, hraised, -⟩ := State.halt_outcome (s := s.raise 0x058 d) hhalt 3 3
    rw [hstep] at hmono ⊢
    exact ⟨hkept.trans h, hset, hwhere, mem_raised_of_src (mem_raised_of_src htold' hraised) hmono⟩
  · obtain ⟨hstep, hseq, hguard, hflag⟩ := State.step3_arms_outcome r hdef hok
    exact ⟨hstep, hseq, hguard, htold (hflag.trans hhalt)⟩

theorem State.stepDone_five_outcome (h : s.get Reg.SYS_STATE_STEP = 5) (hhalt : s.flag Reg.SYS_STATE_HALT = false) :
    (∀ c : Fin 8, bitAt s.card.dchMask c = true →
      (s.stepDone r).chState c = if s.chState c = chTraining then chInService else s.chState c) ∧
    (channels.any (s.stepDone r).serving = true → (s.stepDone r).get Reg.SYS_STATE_STEP = 6 ∧ (s.stepDone r).get Reg.SCORE_STAT_BOOT = 1 ∧
      ∃ e ∈ (s.stepDone r).raised, e.src = 0x057) ∧
    (channels.any (s.stepDone r).serving = false → (s.stepDone r).get Reg.SYS_STATE_STEP = 5 ∧
      (s.stepDone r).get Reg.SYS_STATE_HALT = 1 ∧ (s.stepDone r).get Reg.SYS_STATE_HALT_STEP = 5) := by
  obtain ⟨hget, hmono, -⟩ := (s.step5 r).endTold_outcome 5 s r.ms
  obtain ⟨hstates, hyes, hno⟩ := State.step5_outcome r h hhalt
  rw [State.stepDone_five r h]
  generalize (s.step5 r).endTold 5 s r.ms = t at *
  have hchans (c : Nat) : t.chState c = (s.step5 r).chState c := hget _
  have hany : channels.any t.serving = channels.any (s.step5 r).serving := State.any_serving_congr fun c _ => hchans c
  simp only [hget, hchans, hany]
  refine ⟨hstates, fun h => ?_, hno⟩
  obtain ⟨hstep, hboot, htold⟩ := hyes h
  exact ⟨hstep, hboot, mem_raised_of_src htold hmono⟩

end Steps

/-- Settles O56: each step by what it sets last, the choice by whether H is entered, a wake by the power state it leaves, and the exit from H
by the training that starts. -/
theorem startUpStepsAndPowerStates : Obligations.StartUpStepsAndPowerStates := by
  unfold Obligations.StartUpStepsAndPowerStates
  refine fun s hon => ⟨fun r => ⟨fun hno => ?_, fun hmay => ?_⟩, fun h => ?_, fun hstart hdown hchosen hstep hh => ?_,
    fun us => ⟨fun h => ?_, fun hone hthree hup => ?_⟩, fun cause => ⟨fun h => ?_, fun hstate hnone hshut harisen => ?_⟩⟩
  · rw [exec_startupStepDone hon, hno]
    rfl
  · obtain ⟨hhalt, hrestored⟩ := State.stepMay_iff hmay
    obtain ⟨htold, -, hget⟩ := s.endStep_outcome r.ms
    have hlink (p : Fin 4) : (s.endStep r.ms).get (Reg.HPORT_STAT_LINK_STATE p) = s.get (Reg.HPORT_STAT_LINK_STATE p) := hget _
    have hchan (c : Fin 8) : (s.endStep r.ms).chState c = s.chState c := hget _
    rw [exec_startupStepDone hon, if_pos hmay]
    refine ⟨fun h => ⟨_, rfl, ?_⟩, fun h => ⟨_, rfl, ?_⟩, fun h => ⟨_, rfl, State.stepDone_three_outcome r h hhalt⟩,
      fun h => ⟨_, rfl, ?_⟩, fun h => ⟨_, rfl, State.stepDone_five_outcome r h hhalt⟩, fun h hset => ⟨_, rfl, ?_⟩, fun h => ⟨_, rfl, ?_⟩⟩
    · obtain ⟨hstep, hpfail, hraised⟩ := (s.endStep r.ms).step1_outcome
      rw [State.stepDone_one r h, hraised]
      exact ⟨hstep, hpfail, htold⟩
    · rw [State.stepDone_two r h]
      exact (s.endStep r.ms).step2_outcome r
    · obtain ⟨hstep, hraised, hstates⟩ := (s.endStep r.ms).step4_outcome
      rw [State.stepDone_four r h]
      exact ⟨hstep, fun c hc => (hstates c hc).trans (by rw [hchan c]), mem_raised_of_src htold hraised⟩
    · obtain ⟨hstep, hraised, hlinks⟩ := (s.endStep r.ms).openPorts_outcome
      rw [State.stepDone_seven r h hset (hrestored h hset)]
      exact ⟨hstep, fun p => (hlinks p).trans (by rw [hlink p]), mem_raised_of_src htold hraised⟩
    · obtain ⟨hstep, hlinks, hexit, hraised⟩ := (s.endStep r.ms).step8_outcome
      rw [State.stepDone_eight r h]
      exact ⟨hstep, hlinks, hexit, mem_raised_of_src htold hraised⟩
  · rw [exec_powerStateSelect hon]
    refine if_pos ?_
    rcases h with h | h | h | h | h <;> simp [h, State.phraseStart]
  · obtain ⟨hat, hold, hlatched⟩ := s.beforeChoice_outcome
    have hle := (s.set Reg.SYS_PWR_STATE_T_KNOWN_MS (satW 16 (s.tKnown / 1000))).choice_le
    dsimp only
    rw [exec_powerStateSelect hon, if_neg (by simp [State.phraseStart, hstart, hdown, hchosen, hstep, hh]), ← State.choice_eq]
    refine ⟨_, rfl, ?_⟩
    generalize (s.set Reg.SYS_PWR_STATE_T_KNOWN_MS (satW 16 (s.tKnown / 1000))).choice = c at *
    obtain ⟨new, limit⟩ := c
    dsimp only at hle ⊢
    obtain rfl | hne := eq_or_ne new 4
    · obtain ⟨hsys, hlimit, hstate, hsave⟩ := s.beforeChoice.toPower_hibernate limit
      exact ⟨by rw [hsys, hat], fun hne => absurd rfl hne, fun _ => ⟨hlimit, hstate.trans hold, fun hempty => hsave (hlatched.trans hempty)⟩⟩
    · obtain ⟨hsys, hstate, hlimit⟩ := s.beforeChoice.toPower_shown (new := new) (by omega) limit
      exact ⟨by rw [hsys, hat], fun _ => ⟨hstate.trans (Nat.mod_eq_of_lt (by omega)).symm, hlimit⟩, fun h => absurd h hne⟩
  · rw [exec_powerStateWake hon]
    refine if_neg ?_
    simp only [Bool.and_eq_true, decide_eq_true_eq]
    rintro ⟨⟨hone, hthree⟩, hup⟩
    obtain h | h | h := h
    · omega
    · omega
    · exact nomatch hup.symm.trans h
  · have hwakes : s.wakes = true := hup
    rw [exec_powerStateWake hon, if_pos (by simp [hone, hthree, hwakes])]
    exact ⟨_, rfl, State.awake_outcome (by omega) us⟩
  · rw [exec_hibernateExit hon]
    refine if_neg ?_
    simp only [Bool.and_eq_true, decide_eq_true_eq, Bool.not_eq_true', Option.isNone_iff_eq_none]
    rintro ⟨⟨⟨hstate, hnone⟩, hshut⟩, harisen⟩
    obtain h | h | h | h := h
    · exact h hstate
    · rw [hnone] at h
      cases h
    · exact nomatch hshut.symm.trans h
    · exact nomatch harisen.symm.trans h
  · rw [exec_hibernateExit hon, if_pos (by simp [hstate, hnone, hshut, harisen])]
    exact ⟨_, rfl, s.leavesH_outcome cause.val⟩

end Sys2Proof.Machine
end

section
/-! PROOFS. Global Persistent Flush: a Phase 1 answered, a Phase 2 that enters its port's list, and one that completes (R166, R190, R191). -/

namespace Sys2Proof.Machine

section Flush

variable {s : State} {port : Fin 4}

/-! ### Phase 1 (R190) -/

theorem exec_gpfPhase1 (hon : s.on = true) : exec (.gpfPhase1 port) s = .next (s.send (.port port 0 [1#8])) := s.powered_of_on hon

/-! ### A Phase 2 request (R166, R190, R191) -/

@[simp] theorem State.at_ldExists (s : State) (k p l : Nat) : (s.at k).ldExists p l = s.ldExists p l := by
  simp [State.ldExists, State.ldCount]

@[simp] theorem State.at_flag (s : State) (k : Nat) (f : Field) : (s.at k).flag f = s.flag f := by simp [State.flag]
@[simp] theorem State.at_assured (s : State) (k : Nat) : (s.at k).assured = s.assured := by simp [State.assured]

theorem exec_gpfPhase2_ignored (hon : s.on = true) {ld : Fin 16}
    (h : s.get (Reg.HPORT_STAT_LINK_STATE port) < 3 ∨ s.ldExists port ld = false) (slot : Fin 6240) :
    exec (.gpfPhase2 port ld slot) s = .next (s.at slot) := by
  refine (s.powered_of_on hon).trans (if_pos ?_)
  simpa using h

theorem exec_gpfPhase2_taken (hon : s.on = true) {ld : Fin 16} (hlink : 3 ≤ s.get (Reg.HPORT_STAT_LINK_STATE port))
    (hld : s.ldExists port ld = true) (slot : Fin 6240) :
    exec (.gpfPhase2 port ld slot) s = .next ((s.at slot).gpfPhase2 port ld) := by
  refine (s.powered_of_on hon).trans (if_neg ?_)
  simpa [hld] using hlink

/-- A Phase 2 enters its port's list, and GPF_PH2 counts it. -/
def State.gpfListed (s : State) (p ld : Nat) : State :=
  (s.updPort p fun x => { x with gpf := x.gpf ++ [⟨ld, s.flag (Reg.HPORT_STAT_GPF_MODE p), s.now⟩] }).bump (Reg.HPORT_GPF_PH2_COUNT p)

@[simp] theorem State.gpfListed_dram (s : State) (p ld : Nat) : (s.gpfListed p ld).dram = s.dram := rfl
@[simp] theorem State.gpfListed_tile (s : State) (p ld : Nat) : (s.gpfListed p ld).tile = s.tile := rfl
@[simp] theorem State.gpfListed_outs (s : State) (p ld : Nat) : (s.gpfListed p ld).outs = s.outs := rfl
@[simp] theorem State.gpfListed_save (s : State) (p ld : Nat) : (s.gpfListed p ld).save = s.save := rfl
@[simp] theorem State.gpfListed_bar (s : State) (p ld : Nat) : (s.gpfListed p ld).bar = s.bar := rfl
@[simp] theorem State.gpfListed_raised (s : State) (p ld : Nat) : (s.gpfListed p ld).raised = s.raised := rfl

theorem State.gpfListed_outcome (s : State) (ld : Nat) :
    (s.gpfListed port ld).get (Reg.HPORT_GPF_PH2_COUNT port) =
        (s.get (Reg.HPORT_GPF_PH2_COUNT port) + 1) % 2 ^ (Reg.HPORT_GPF_PH2_COUNT port).width ∧
      ((s.gpfListed port ld).portState port).gpf =
        (s.portState port).gpf ++ [⟨ld, s.flag (Reg.HPORT_STAT_GPF_MODE port), s.now⟩] := by
  refine ⟨State.get_set_self _ _ _, ?_⟩
  rw [State.gpfListed, State.bump_portState, State.portState_updPort_self _ _ port.isLt]

/-- SAVE mode: the save's cause 2 is latched, which a warden decides and not the hardware (R190, R376). -/
theorem State.gpfPhase2_save (h : s.flag (Reg.HPORT_STAT_GPF_MODE port) = true) (ld : Nat) : s.gpfPhase2 port ld =
    (s.gpfListed port ld).updSave fun x => { x with latched := x.latched ++ [(2, false)] } := if_pos h

/-- FLUSH mode with assured persistence: the request waits, and nothing else. -/
theorem State.gpfPhase2_assured (h : s.flag (Reg.HPORT_STAT_GPF_MODE port) = false) (ha : s.assured = true) (ld : Nat) :
    s.gpfPhase2 port ld = s.gpfListed port ld := by
  have ha' : (s.gpfListed port ld).assured = true := by
    rw [← ha, State.assured, State.flag, State.gpfListed, State.bump,
      State.get_set_ne _ _ (key_ne_of_addr_ne (by decide) (by simp) (by simp; omega))]
    rfl
  exact (if_neg (ne_true_of_eq_false h)).trans (if_pos ha')

/-- FLUSH mode without assured persistence: NOT_PERSIST counts it, and k = 8 carries its Persistence record (R191). -/
theorem State.gpfPhase2_unassured (h : s.flag (Reg.HPORT_STAT_GPF_MODE port) = false) (ha : s.assured = false) (ld : Nat) :
    s.gpfPhase2 port ld = ((s.gpfListed port ld).bump (Reg.HPORT_GPF_NOT_PERSIST port)).raise (srcPort port 8) [dLd port ld]
      [⟨some (port.val, ld), .failure, .vendorPersistence, 0⟩] := by
  have ha' : (s.gpfListed port ld).assured = false := by
    rw [← ha, State.assured, State.flag, State.gpfListed, State.bump,
      State.get_set_ne _ _ (key_ne_of_addr_ne (by decide) (by simp) (by simp; omega))]
    rfl
  exact (if_neg (ne_true_of_eq_false h)).trans (if_neg (ne_true_of_eq_false ha'))

theorem State.gpfListed_notPersist (s : State) (ld : Nat) :
    ((s.gpfListed port ld).bump (Reg.HPORT_GPF_NOT_PERSIST port)).get (Reg.HPORT_GPF_NOT_PERSIST port) =
        (s.get (Reg.HPORT_GPF_NOT_PERSIST port) + 1) % 2 ^ (Reg.HPORT_GPF_NOT_PERSIST port).width ∧
      ((s.gpfListed port ld).bump (Reg.HPORT_GPF_NOT_PERSIST port)).get (Reg.HPORT_GPF_PH2_COUNT port) =
        (s.gpfListed port ld).get (Reg.HPORT_GPF_PH2_COUNT port) := by
  refine ⟨?_, State.get_set_ne _ _ (key_ne_of_lo_ne (by decide))⟩
  rw [State.bump, State.get_set_self, State.gpfListed, State.bump, State.get_set_ne _ _ (key_ne_of_lo_ne (by decide)),
    State.updPort_get]

/-- What a Phase 2 request leaves, by the port's mode and by whether persistence is assured. -/
theorem State.gpfPhase2_outcome (s : State) (ld : Nat) :
    let t := s.gpfPhase2 port ld
    t.get (Reg.HPORT_GPF_PH2_COUNT port) = (s.get (Reg.HPORT_GPF_PH2_COUNT port) + 1) % 2 ^ (Reg.HPORT_GPF_PH2_COUNT port).width ∧
      (t.portState port).gpf = (s.portState port).gpf ++ [⟨ld, s.flag (Reg.HPORT_STAT_GPF_MODE port), s.now⟩] ∧
      t.dram = s.dram ∧ t.tile = s.tile ∧ t.outs = s.outs ∧
      (s.flag (Reg.HPORT_STAT_GPF_MODE port) = true → t.save.latched = s.save.latched ++ [(2, false)] ∧ t.raised = s.raised) ∧
      (s.flag (Reg.HPORT_STAT_GPF_MODE port) = false → t.save = s.save ∧ (s.assured = true → t.raised = s.raised) ∧
        (s.assured = false →
          t.get (Reg.HPORT_GPF_NOT_PERSIST port) =
              (s.get (Reg.HPORT_GPF_NOT_PERSIST port) + 1) % 2 ^ (Reg.HPORT_GPF_NOT_PERSIST port).width ∧
            t.raised = s.raised ++ [⟨srcPort port 8, [⟨1, ld, .ld port⟩], s.bar,
              [⟨some (port.val, ld), .failure, .vendorPersistence, 0⟩]⟩])) := by
  obtain ⟨hcount, hlist⟩ := s.gpfListed_outcome (port := port) ld
  obtain ⟨hnot, hkept⟩ := s.gpfListed_notPersist (port := port) ld
  dsimp only
  cases hmode : s.flag (Reg.HPORT_STAT_GPF_MODE port) with
  | true =>
    rw [State.gpfPhase2_save hmode]
    simp [hcount, hlist, hmode]
  | false =>
    cases hassured : s.assured with
    | true =>
      rw [State.gpfPhase2_assured hmode hassured]
      simp [hcount, hlist, hmode]
    | false =>
      rw [State.gpfPhase2_unassured hmode hassured]
      simp [hcount, hlist, hmode, hnot, hkept, dLd]

/-! ### A Phase 2 completes (R190, R219) -/

theorem exec_gpfPhase2Complete (hon : s.on = true) (slot : Fin 6240) :
    exec (.gpfPhase2Complete port slot) s = .next ((s.at slot).gpfComplete port) := s.powered_of_on hon

@[simp] theorem State.at_gpfReady (s : State) (k p : Nat) (g : Gpf) : (s.at k).gpfReady p g = s.gpfReady p g := by
  simp [State.gpfReady]

theorem State.gpfComplete_none (h : (s.portState port).gpf = []) : s.gpfComplete port = s := by
  rw [State.gpfComplete, h]

theorem State.gpfComplete_waits {g : Gpf} {l : List Gpf} (h : (s.portState port).gpf = g :: l) (hready : s.gpfReady port g = false) :
    s.gpfComplete port = s := by
  rw [State.gpfComplete, h]
  exact if_neg (ne_true_of_eq_false hready)

/-- The oldest Phase 2 of a port leaves the list, after `us` microseconds. -/
def State.gpfTimed (s : State) (p : Nat) (l : List Gpf) (us : Nat) : State :=
  ((s.updPort p fun x => { x with gpf := l }).set (Reg.HPORT_GPF_LAST_US p) (satW 8 us)).peak (Reg.HPORT_GPF_MAX_MAX_US p) us

theorem State.gpfComplete_ready {g : Gpf} {l : List Gpf} (h : (s.portState port).gpf = g :: l) (hready : s.gpfReady port g = true) :
    s.gpfComplete port = ((s.gpfTimed port l (slotsUs (s.now - g.stamp))).raise (srcPort port 7)
      [d1 (bit g.save), d4 (slotsUs (s.now - g.stamp))]).send (.port port g.ld [2#8]) := by
  rw [State.gpfComplete, h]
  exact if_pos hready

/-- LAST_US shows the time of the last Phase 2, and MAX_US the longest one. -/
theorem State.gpfTimed_outcome (s : State) (l : List Gpf) (us : Nat) :
    ((s.gpfTimed port l us).portState port).gpf = l ∧ (s.gpfTimed port l us).get (Reg.HPORT_GPF_LAST_US port) = min us 255 ∧
      (s.gpfTimed port l us).get (Reg.HPORT_GPF_MAX_MAX_US port) =
        max (s.get (Reg.HPORT_GPF_MAX_MAX_US port)) (min us (2 ^ 32 - 1)) % 2 ^ 32 := by
  have hkeys : (Reg.HPORT_GPF_LAST_US port).key ≠ (Reg.HPORT_GPF_MAX_MAX_US port).key :=
    key_ne_of_addr_ne (by simp) (by simp) (by simp)
  refine ⟨?_, ?_, ?_⟩
  · rw [State.gpfTimed, State.peak_portState, State.set_portState, State.portState_updPort_self _ _ port.isLt]
  · rw [State.gpfTimed, State.get_peak_ne _ _ hkeys, State.get_set_self]
    exact satW_mod 8 us
  · refine (State.get_set_self _ _ _).trans ?_
    rw [State.get_set_ne _ _ hkeys.symm, State.updPort_get]
    rfl

end Flush

/-- Settles O29: Phase 1 and an ignored Phase 2 at once, a Phase 2 that is taken by the port's GPF_MODE, and its end by what it waits for. -/
theorem persistentFlush : Obligations.PersistentFlush := by
  unfold Obligations.PersistentFlush
  intro port s hon
  refine ⟨exec_gpfPhase1 hon, fun ld slot => ⟨fun h => exec_gpfPhase2_ignored hon h slot, fun hlink hld => ?_⟩,
    fun slot => ⟨fun h => ?_, fun g l h => ⟨fun hready => ?_, fun hready => ?_⟩⟩⟩
  · have hout := (s.at slot).gpfPhase2_outcome (port := port) ld
    simp only [State.at_get, State.at_portState, State.at_flag, State.at_assured, State.now_at, State.at_dram, State.at_tile,
      State.at_outs, State.at_save, State.at_raised, State.at_bar] at hout
    exact ⟨_, exec_gpfPhase2_taken hon hlink hld slot, hout⟩
  all_goals
    rw [exec_gpfPhase2Complete hon]
    rw [← s.at_portState slot] at h
  · rw [State.gpfComplete_none h]
  · rw [State.gpfComplete_waits h (by simpa using hready)]
  · rw [State.gpfComplete_ready h (by simpa using hready), State.now_at]
    obtain ⟨hlist, hlast, hmax⟩ := (s.at slot).gpfTimed_outcome (port := port) l (slotsUs (s.bar * 6240 + slot - g.stamp))
    rw [State.at_get] at hmax
    refine ⟨_, rfl, hlist, hlast, hmax, ?_, ⟨_, List.mem_append_right _ List.mem_cons_self, rfl⟩, ?_, ?_⟩
    · exact congrArg (· ++ _) (s.at_outs slot)
    · exact s.at_dram slot
    · exact s.at_tile slot

end Sys2Proof.Machine
end

section
/-! PROOFS. Links that come up, retrain and fall, the factor and term they have at the downbeat, and HDM decoders (R162, R163, R164, R165,
R167, R193). -/

namespace Sys2Proof.Machine

section Links

variable {s t : State} {port : Fin 4}

/-- An update of one port leaves the others alone. -/
theorem State.portState_updPort_ne {p q : Nat} (f : PortState → PortState) (hq : q < 4) (h : q ≠ p) (s : State) :
    (s.updPort p f).portState q = s.portState q :=
  setAt_ne 4 PortState.init _ _ hq h

/-! ### Factor and term at the downbeat (R163) -/

theorem linkTerm_lt (rate width : Nat) : (linkTerm rate width).1 < 4 ∧ (linkTerm rate width).2 < 65536 := by
  unfold linkTerm
  split
  · decide
  · split <;> decide

/-- The link that waits for the downbeat, and the factor and term in force. -/
def State.linkOf (s : State) (p : Nat) : Option (Nat × Nat) × Nat × Nat :=
  ((s.portState p).relink, s.get (Reg.HPORT_STAT_BOUND_SCALE p), s.get (Reg.HPORT_BOUND_ADJ_SLOTS p))

theorem State.cxl_cdatChange (s : State) (p : Nat) (lds : List Nat) : (s.cdatChange p lds).cxl = s.cxl :=
  foldl_unchanged (step := fun (u : State) l => u.logOnly (vendorRec p l .vendorCdat)) (look := State.cxl) (fun _ _ _ => rfl) s

theorem State.linkOf_cdatChange (s : State) (p : Nat) (lds : List Nat) (q : Nat) : (s.cdatChange p lds).linkOf q = s.linkOf q := by
  obtain ⟨hget, -⟩ := State.onlyLogs_outcome (s.onlyLogs_cdatChange p lds)
  rw [State.linkOf, hget, hget, State.portState, s.cxl_cdatChange]
  rfl

/-- The figure of the GPF DVSEC is no part of a link. -/
theorem State.linkOf_updGpf {q : Nat} (hq : q < 4) (s : State) : s.updGpf.linkOf q = s.linkOf q := by
  refine foldl_unchanged (look := fun u : State => u.linkOf q) (fun u p _ => ?_) s
  dsimp only
  split
  · rfl
  rw [State.linkOf_cdatChange, State.linkOf, State.linkOf, State.updPort_get, State.updPort_get]
  by_cases h : q = p
  · subst h
    rw [State.portState_updPort_self _ _ hq]
  · rw [State.portState_updPort_ne _ hq h]

/-- What a port's step at the downbeat does with its link. -/
def State.relinkPort (s : State) (p : Nat) : State :=
  match (s.portState p).relink with
  | some (r, w) => (s.updPort p fun x => { x with relink := none }).takeLink p r w
  | none => s

theorem State.relinkPorts_eq (s : State) : s.relinkPorts = s.each ports State.relinkPort := rfl

/-- A link's factor and term are taken up in its own port's registers. -/
theorem State.linkOf_takeLink {q : Nat} (hq : q < 4) (s : State) (p rate width : Nat) : (s.takeLink p rate width).linkOf q =
    if q = p then ((s.portState p).relink, linkTerm rate width) else s.linkOf q := by
  obtain ⟨hscale, hadj⟩ := linkTerm_lt rate width
  unfold State.takeLink
  rw [State.linkOf_updGpf hq, State.linkOf_cdatChange, State.linkOf, State.set_portState, State.set_portState,
    State.get_set_ne _ _ (key_ne_of_addr_ne (by simp) (by simp) (by simp; omega))]
  split
  · next h =>
    subst h
    rw [State.get_set_self, State.get_set_self]
    exact congrArg _ (Prod.ext (Nat.mod_eq_of_lt hscale) (Nat.mod_eq_of_lt hadj))
  · next h =>
    rw [State.get_set_ne _ _ (key_ne_of_addr_ne (by simp) (by simp) (by simp; omega)),
      State.get_set_ne _ _ (key_ne_of_addr_ne (by simp) (by simp) (by simp; omega)),
      State.get_set_ne _ _ (key_ne_of_addr_ne (by simp) (by simp) (by simp; omega)), State.linkOf]

theorem State.linkOf_relinkPort_ne {p q : Nat} (hq : q < 4) (h : q ≠ p) (s : State) : (s.relinkPort p).linkOf q = s.linkOf q := by
  unfold State.relinkPort
  split
  · rw [State.linkOf_takeLink hq, if_neg h, State.linkOf, State.portState_updPort_ne _ hq h, State.updPort_get, State.updPort_get,
      State.linkOf]
  · rfl

/-- The link that waited has its factor and term in force after the downbeat. -/
theorem State.relinkPorts_outcome {rate width : Nat} (h : (s.portState port).relink = some (rate, width)) :
    (s.relinkPorts.get (Reg.HPORT_STAT_BOUND_SCALE port), s.relinkPorts.get (Reg.HPORT_BOUND_ADJ_SLOTS port)) =
      linkTerm rate width := by
  have hp := port.isLt
  obtain ⟨before, after, hb, ha, heq⟩ := foldl_around (σ := State) (name := id) (l := ports) (by decide)
    (x := port.val) (List.mem_range.mpr hp)
  have hbefore : (before.foldl State.relinkPort s).linkOf port = s.linkOf port :=
    foldl_unchanged (look := fun u : State => u.linkOf port) (fun u q hq => u.linkOf_relinkPort_ne hp (hb q hq).symm) s
  have hafter (u : State) : (after.foldl State.relinkPort u).linkOf port = u.linkOf port :=
    foldl_unchanged (look := fun u : State => u.linkOf port) (fun u q hq => u.linkOf_relinkPort_ne hp (ha q hq).symm) u
  have hwaits : ((before.foldl State.relinkPort s).portState port).relink = some (rate, width) :=
    (congrArg Prod.fst hbefore).trans h
  have hlink : s.relinkPorts.linkOf port = (none, linkTerm rate width) := by
    rw [s.relinkPorts_eq, State.each, heq, hafter, State.relinkPort, hwaits]
    dsimp only
    rw [State.linkOf_takeLink hp, if_pos rfl, State.portState_updPort_self _ _ hp]
  exact congrArg Prod.snd hlink

/-! ### A link comes up (R162, R193) -/

theorem State.mayTrain_of (hup : s.portsUp = true) (hen : s.flag (Reg.HPORT_CFG_ENABLE port) = true)
    (hpresent : (s.seq.play.port port).present = true) : s.mayTrain port = true := by
  rw [State.mayTrain, hup, hen, hpresent]
  rfl

theorem exec_linkUp_stays (hon : s.on = true)
    (h : s.mayTrain port = false ∨ 2 ≤ s.get (Reg.HPORT_STAT_LINK_STATE port)) (rate width : Fin 3) :
    exec (.linkUp port rate width) s = .next s := by
  refine (s.powered_of_on hon).trans (if_neg ?_)
  simp only [Bool.and_eq_true, decide_eq_true_eq, not_and, Nat.not_le]
  exact fun hmay => h.resolve_left (ne_false_of_eq_true hmay)

theorem exec_linkUp_trains (hon : s.on = true) (hmay : s.mayTrain port = true) (h : s.get (Reg.HPORT_STAT_LINK_STATE port) ≤ 1)
    (rate width : Fin 3) : exec (.linkUp port rate width) s = .next (s.linkUp port rate width) := by
  refine (s.powered_of_on hon).trans (if_pos ?_)
  simpa [hmay] using h

theorem State.OnlyReg.saving {a : Nat} (h : State.OnlyReg a s t) (ha : 0x80100 ≠ a) : t.saving = s.saving := by
  rw [State.saving, State.saving, h.other Reg.TILE_SAVE_STAT_STATE ha (by decide)]

/-- HPORT_n_STAT shows the rate and width of a link. -/
def State.rateShown (s : State) (p rate width : Nat) : State := (s.set (Reg.HPORT_STAT_RATE p) rate).set (Reg.HPORT_STAT_WIDTH p) width

theorem State.onlyReg_rateShown (s : State) (p rate width : Nat) :
    State.OnlyReg (0x60000 + 0x4000 * p) s (s.rateShown p rate width) :=
  ((State.OnlyReg.refl _ s).set (Reg.HPORT_STAT_RATE p) rate).set (Reg.HPORT_STAT_WIDTH p) width

theorem State.get_rateShown (s : State) (rate width : Fin 3) :
    (s.rateShown port rate width).get (Reg.HPORT_STAT_RATE port) = rate ∧
      (s.rateShown port rate width).get (Reg.HPORT_STAT_WIDTH port) = width ∧
      (s.rateShown port rate width).get (Reg.HPORT_STAT_BOUND_SCALE port) = s.get (Reg.HPORT_STAT_BOUND_SCALE port) ∧
      (s.rateShown port rate width).get (Reg.HPORT_STAT_LINK_STATE port) = s.get (Reg.HPORT_STAT_LINK_STATE port) := by
  have hrate : rate.val % 4 = rate := Nat.mod_eq_of_lt (by omega)
  have hwidth : width.val % 4 = width := Nat.mod_eq_of_lt (by omega)
  simp [State.rateShown, State.get_set, Field.key, hrate, hwidth]

/-- HPORT_n_STAT of a link that trains: its rate and width, and the LDs its port presents. -/
def State.trained (s : State) (p rate width : Nat) : State :=
  ((s.rateShown p rate width).setB (Reg.HPORT_STAT_MLD p) ((s.rateShown p rate width).flag (Reg.HPORT_CFG_MLD p))).showLds p

theorem State.onlyReg_trained (s : State) (p rate width : Nat) : State.OnlyReg (0x60000 + 0x4000 * p) s (s.trained p rate width) :=
  ((s.onlyReg_rateShown p rate width).set (Reg.HPORT_STAT_MLD p) _).set (Reg.HPORT_STAT_LD_COUNT p) _

theorem State.get_trained (s : State) (rate width : Fin 3) :
    (s.trained port rate width).get (Reg.HPORT_STAT_RATE port) = rate ∧
      (s.trained port rate width).get (Reg.HPORT_STAT_WIDTH port) = width ∧
      (s.trained port rate width).get (Reg.HPORT_STAT_BOUND_SCALE port) = s.get (Reg.HPORT_STAT_BOUND_SCALE port) := by
  obtain ⟨hrate, hwidth, hscale, -⟩ := s.get_rateShown (port := port) rate width
  have hkept {f : Field} (hmld : f.key ≠ (Reg.HPORT_STAT_MLD port).key) (hlds : f.key ≠ (Reg.HPORT_STAT_LD_COUNT port).key) :
      (s.trained port rate width).get f = (s.rateShown port rate width).get f :=
    (State.get_set_ne _ _ hlds).trans (State.get_set_ne _ _ hmld)
  exact ⟨(hkept (key_ne_of_lo_ne (by decide)) (key_ne_of_lo_ne (by decide))).trans hrate,
    (hkept (key_ne_of_lo_ne (by decide)) (key_ne_of_lo_ne (by decide))).trans hwidth,
    (hkept (key_ne_of_lo_ne (by decide)) (key_ne_of_lo_ne (by decide))).trans hscale⟩

/-- A link that carries CXL.mem: its state, its scale and term for the downbeat, and k = 0 (R163, R197, R253). -/
theorem State.memUp_outcome (s : State) (rate width : Nat) :
    let t := s.memUp port rate width
    t.get (Reg.HPORT_STAT_LINK_STATE port) = (if s.saving || s.save.entry.isSome then 4 else 3) ∧
      (∀ f : Field, f.key ≠ (Reg.HPORT_STAT_LINK_STATE port).key → t.get f = s.get f) ∧
      t.portState port = { s.portState port with relink := some (rate, width) } ∧
      t.raised = s.raised ++ [⟨srcPort port 0, [⟨1, rate, .plain⟩, ⟨1, width, .plain⟩], s.bar, []⟩] ∧
      ∃ regs raised cxl, t = { s with regs := regs, raised := raised, cxl := cxl } := by
  refine ⟨(State.get_set_self s _ _).trans ?_, fun f hf => State.get_set_ne s _ hf, ?_, rfl, _, _, _, rfl⟩
  · split <;> rfl
  · rw [State.memUp, State.raise_portState, State.crossLink, State.portState_updPort_self _ _ port.isLt, State.set_portState]

theorem State.linkUp_mem {rate width : Nat} (h : memLink rate width = true) (s : State) : s.linkUp port rate width =
    ((s.trained port rate width).updPort port fun x => { x with freed := (0, 0) }).memUp port rate width := if_pos h

theorem State.linkUp_io {rate width : Nat} (h : memLink rate width = false) (s : State) : ∃ d, s.linkUp port rate width =
    ((s.trained port rate width).set (Reg.HPORT_STAT_LINK_STATE port) 2).raise (srcPort port 2) d :=
  ⟨_, if_neg (ne_true_of_eq_false h)⟩

theorem State.linkUp_outcome (s : State) (rate width : Fin 3) :
    let t := s.linkUp port rate width
    t.get (Reg.HPORT_STAT_RATE port) = rate ∧ t.get (Reg.HPORT_STAT_WIDTH port) = width ∧
      t.get (Reg.HPORT_STAT_BOUND_SCALE port) = s.get (Reg.HPORT_STAT_BOUND_SCALE port) ∧
      { t with regs := s.regs, raised := s.raised, cxl := s.cxl } = s ∧
      (memLink rate width = true →
        t.get (Reg.HPORT_STAT_LINK_STATE port) = (if s.saving || s.save.entry.isSome then 4 else 3) ∧
        (t.portState port).relink = some (rate.val, width.val) ∧ (t.portState port).freed = (0, 0) ∧
        t.raised = s.raised ++ [⟨srcPort port 0, [⟨1, rate, .plain⟩, ⟨1, width, .plain⟩], s.bar, []⟩]) ∧
      (memLink rate width = false → t.get (Reg.HPORT_STAT_LINK_STATE port) = 2 ∧ t.cxl = s.cxl ∧
        ∃ e ∈ t.raised, e.src = srcPort port 2) := by
  dsimp only
  have hshown := s.onlyReg_trained port rate width
  obtain ⟨hrate, hwidth, hscale⟩ := s.get_trained (port := port) rate width
  obtain ⟨regs, hframe⟩ := hshown.frame
  cases hmem : memLink rate width with
  | true =>
    rw [State.linkUp_mem hmem]
    obtain ⟨u, hu⟩ : ∃ u, u = (s.trained port rate width).updPort port fun x => { x with freed := (0, 0) } := ⟨_, rfl⟩
    rw [← hu]
    obtain ⟨hstate, hother, hport, hraised, hkept⟩ := u.memUp_outcome (port := port) rate width
    obtain ⟨_, _, _, hkept⟩ := hkept
    have huframe : ∃ cxl, u = { s with regs := regs, cxl := cxl } := ⟨_, by rw [hu, hframe]; rfl⟩
    have huget (f : Field) : u.get f = (s.trained port rate width).get f := by rw [hu, State.updPort_get]
    have hsaving : u.saving = s.saving := by
      rw [← hshown.saving (by omega), hu]
      rfl
    have hfreed : (u.portState port).freed = (0, 0) := by rw [hu, State.portState_updPort_self _ _ port.isLt]
    obtain ⟨_, huframe⟩ := huframe
    refine ⟨?_, ?_, ?_, ?_, fun _ => ⟨?_, ?_, ?_, ?_⟩, fun h => absurd h (by decide)⟩
    · rw [hother _ (key_ne_of_lo_ne (by decide)), huget, hrate]
    · rw [hother _ (key_ne_of_lo_ne (by decide)), huget, hwidth]
    · rw [hother _ (key_ne_of_lo_ne (by decide)), huget, hscale]
    · rw [hkept, huframe]
    · rw [hstate, hsaving, huframe]
    · rw [hport]
    · rw [hport, hfreed]
    · rw [hraised, huframe]
  | false =>
    obtain ⟨d, hd⟩ := State.linkUp_io hmem s (port := port)
    rw [hd]
    simp only [State.raise_get]
    refine ⟨?_, ?_, ?_, ?_, fun h => absurd h (by decide), fun _ => ⟨State.get_set_self _ _ _, ?_,
      ⟨_, List.mem_append_right _ List.mem_cons_self, rfl⟩⟩⟩
    · rw [State.get_set_ne _ _ (key_ne_of_lo_ne (by decide)), hrate]
    · rw [State.get_set_ne _ _ (key_ne_of_lo_ne (by decide)), hwidth]
    · rw [State.get_set_ne _ _ (key_ne_of_lo_ne (by decide)), hscale]
    · rw [hframe]
      rfl
    · rw [hframe]
      rfl

/-! ### A link retrains (R164) -/

theorem exec_linkRetrain_down (hon : s.on = true) (h : s.get (Reg.HPORT_STAT_LINK_STATE port) < 2) (rate width : Fin 3) :
    exec (.linkRetrain port rate width) s = .next s := (s.powered_of_on hon).trans (if_pos h)

theorem exec_linkRetrain_up (hon : s.on = true) (h : 2 ≤ s.get (Reg.HPORT_STAT_LINK_STATE port)) (rate width : Fin 3) :
    exec (.linkRetrain port rate width) s = .next (s.retrain port rate width) :=
  (s.powered_of_on hon).trans (if_neg (Nat.not_lt.mpr h))

theorem State.retrain_same {rate width : Nat} (hrate : s.get (Reg.HPORT_STAT_RATE port) = rate)
    (hwidth : s.get (Reg.HPORT_STAT_WIDTH port) = width) : s.retrain port rate width = s := if_pos (by simp [hrate, hwidth])

theorem State.retrain_other {rate width : Nat}
    (h : s.get (Reg.HPORT_STAT_RATE port) ≠ rate ∨ s.get (Reg.HPORT_STAT_WIDTH port) ≠ width) :
    ∃ d, s.retrain port rate width =
      let u := (s.rateShown port rate width).raise (srcPort port 2) d
      if !(memLink rate width) then u.set (Reg.HPORT_STAT_LINK_STATE port) 2
      else if s.get (Reg.HPORT_STAT_LINK_STATE port) = 2 then u.memUp port rate width
      else u.crossLink port rate width :=
  ⟨_, if_neg (by simpa [← not_and_or] using h)⟩

/-- The new link is shown and k = 2 raised; what the link carries decides the rest. -/
theorem State.retrain_outcome {rate width : Fin 3}
    (h : s.get (Reg.HPORT_STAT_RATE port) ≠ rate ∨ s.get (Reg.HPORT_STAT_WIDTH port) ≠ width) :
    let t := s.retrain port rate width
    t.get (Reg.HPORT_STAT_RATE port) = rate ∧ t.get (Reg.HPORT_STAT_WIDTH port) = width ∧
      (∃ e ∈ t.raised, e.src = srcPort port 2) ∧ t.dram = s.dram ∧ t.tile = s.tile ∧
      t.get (Reg.HPORT_STAT_BOUND_SCALE port) = s.get (Reg.HPORT_STAT_BOUND_SCALE port) ∧
      (memLink rate width = true → (t.portState port).relink = some (rate.val, width.val) ∧
        t.get (Reg.HPORT_STAT_LINK_STATE port) = (if s.get (Reg.HPORT_STAT_LINK_STATE port) = 2 then
          (if s.saving || s.save.entry.isSome then 4 else 3) else s.get (Reg.HPORT_STAT_LINK_STATE port))) ∧
      (memLink rate width = false → t.get (Reg.HPORT_STAT_LINK_STATE port) = 2) := by
  dsimp only
  obtain ⟨d, hd⟩ := State.retrain_other h
  obtain ⟨u, hu⟩ : ∃ u, u = (s.rateShown port rate width).raise (srcPort port 2) d := ⟨_, rfl⟩
  rw [hd, ← hu]
  have hshown := s.onlyReg_rateShown port rate width
  obtain ⟨hrate, hwidth, hscale, hlink⟩ := s.get_rateShown (port := port) rate width
  obtain ⟨regs, hframe⟩ := hshown.frame
  have huframe : ∃ raised, u = { s with regs := regs, raised := raised } := ⟨_, by rw [hu, hframe]; rfl⟩
  obtain ⟨_, huframe⟩ := huframe
  have huget (f : Field) : u.get f = (s.rateShown port rate width).get f := by rw [hu, State.raise_get]
  have hraised : ∃ e ∈ u.raised, e.src = srcPort port 2 := by
    rw [hu]
    exact ⟨_, List.mem_append_right _ List.mem_cons_self, rfl⟩
  cases hmem : memLink rate width with
  | false =>
    refine ⟨?_, ?_, hraised, ?_, ?_, ?_, fun h => absurd h (by decide), fun _ => State.get_set_self _ _ _⟩
    · exact (State.get_set_ne _ _ (key_ne_of_lo_ne (by decide))).trans ((huget _).trans hrate)
    · exact (State.get_set_ne _ _ (key_ne_of_lo_ne (by decide))).trans ((huget _).trans hwidth)
    · rw [huframe]
      rfl
    · rw [huframe]
      rfl
    · exact (State.get_set_ne _ _ (key_ne_of_lo_ne (by decide))).trans ((huget _).trans hscale)
  | true =>
    simp only [Bool.not_true, Bool.false_eq_true, if_false]
    split
    · next hio =>
      obtain ⟨hstate, hother, hport, hevents, hkept⟩ := u.memUp_outcome (port := port) rate width
      obtain ⟨_, _, _, hkept⟩ := hkept
      have hsaving : u.saving = s.saving := by
        rw [← hshown.saving (by omega), hu]
        rfl
      refine ⟨?_, ?_, ?_, ?_, ?_, ?_, fun _ => ⟨?_, ?_⟩, fun h => absurd h (by decide)⟩
      · rw [hother _ (key_ne_of_lo_ne (by decide)), huget, hrate]
      · rw [hother _ (key_ne_of_lo_ne (by decide)), huget, hwidth]
      · obtain ⟨e, he, hsrc⟩ := hraised
        exact ⟨e, hevents ▸ List.mem_append_left _ he, hsrc⟩
      · rw [hkept, huframe]
      · rw [hkept, huframe]
      · rw [hother _ (key_ne_of_lo_ne (by decide)), huget, hscale]
      · rw [hport]
      · rw [hstate, hsaving, huframe]
    · refine ⟨?_, ?_, hraised, ?_, ?_, ?_, fun _ => ⟨?_, ?_⟩, fun h => absurd h (by decide)⟩
      · rw [State.crossLink, State.updPort_get, huget, hrate]
      · rw [State.crossLink, State.updPort_get, huget, hwidth]
      · rw [huframe]
        rfl
      · rw [huframe]
        rfl
      · rw [State.crossLink, State.updPort_get, huget, hscale]
      · rw [State.crossLink, State.portState_updPort_self _ _ port.isLt]
      · rw [State.crossLink, State.updPort_get, huget, hlink]

/-! ### A link falls (R165, R193) -/

theorem exec_linkDown_already (hon : s.on = true) (h : s.get (Reg.HPORT_STAT_LINK_STATE port) = 0) :
    exec (.linkDown port) s = .next s := (s.powered_of_on hon).trans (if_pos h)

theorem exec_linkDown_falls (hon : s.on = true) (h : s.get (Reg.HPORT_STAT_LINK_STATE port) ≠ 0) :
    exec (.linkDown port) s = .next (s.linkDown port) := (s.powered_of_on hon).trans (if_neg h)

/-- The link is gone: what waits for it is dropped, and HPORT_n_STAT shows none. -/
def State.linkLost (s : State) (p : Nat) : State :=
  (((s.updPort p fun x => { x with dropBefore := s.now + 1, gpf := [], relink := none }).set (Reg.HPORT_STAT_LINK_STATE p) 0).set
    (Reg.HPORT_STAT_RATE p) 0).set (Reg.HPORT_STAT_WIDTH p) 0

theorem State.get_linkLost (s : State) : (s.linkLost port).get (Reg.HPORT_STAT_LINK_STATE port) = 0 ∧
    (s.linkLost port).get (Reg.HPORT_STAT_RATE port) = 0 ∧ (s.linkLost port).get (Reg.HPORT_STAT_WIDTH port) = 0 := by
  simp [State.linkLost, State.get_set, Field.key]

theorem State.portState_linkLost (s : State) : (s.linkLost port).portState port =
    { s.portState port with dropBefore := s.now + 1, gpf := [], relink := none } := by
  rw [State.linkLost, State.set_portState, State.set_portState, State.set_portState, State.portState_updPort_self _ _ port.isLt]

theorem State.onlyReg_linkLost (s : State) : State.OnlyReg (0x60000 + 0x4000 * port)
    (s.updPort port fun x => { x with dropBefore := s.now + 1, gpf := [], relink := none }) (s.linkLost port) :=
  (((State.OnlyReg.refl _ _).set (Reg.HPORT_STAT_LINK_STATE port) 0).set (Reg.HPORT_STAT_RATE port) 0).set
    (Reg.HPORT_STAT_WIDTH port) 0

theorem State.mayTrain_linkLost (s : State) : (s.linkLost port).mayTrain port = s.mayTrain port := by
  have hlost := s.onlyReg_linkLost (port := port)
  have hstep : (s.linkLost port).get Reg.SYS_STATE_STEP = s.get Reg.SYS_STATE_STEP := hlost.other _ (by simp; omega) (by decide)
  have henable : (s.linkLost port).get (Reg.HPORT_CFG_ENABLE port) = s.get (Reg.HPORT_CFG_ENABLE port) :=
    hlost.other _ (by simp) (by simp)
  rw [State.mayTrain, State.portsUp, State.flag, hstep, henable]
  rfl

/-- A link that is down trains where it may (R193). -/
theorem State.linkDown_eq (s : State) : ∃ d, s.linkDown port =
    ((s.linkLost port).set (Reg.HPORT_STAT_LINK_STATE port) (bit (s.mayTrain port))).raise (srcPort port 1) d := by
  have htrain : (s.linkLost port).trainPort port =
      (s.linkLost port).set (Reg.HPORT_STAT_LINK_STATE port) (bit (s.mayTrain port)) := by
    rw [State.trainPort, s.get_linkLost.1, if_pos (by decide), s.mayTrain_linkLost]
  exact ⟨_, congrArg (State.raise · _ _) htrain⟩

theorem State.linkDown_outcome (s : State) :
    let t := s.linkDown port
    t.get (Reg.HPORT_STAT_LINK_STATE port) = bit (s.mayTrain port) ∧ t.get (Reg.HPORT_STAT_RATE port) = 0 ∧
      t.get (Reg.HPORT_STAT_WIDTH port) = 0 ∧ (t.portState port).dropBefore = s.now + 1 ∧ (t.portState port).relink = none ∧
      t.dram = s.dram ∧ t.tile = s.tile ∧ t.outs = s.outs ∧ ∃ e ∈ t.raised, e.src = srcPort port 1 := by
  dsimp only
  obtain ⟨d, hd⟩ := s.linkDown_eq (port := port)
  obtain ⟨-, hrate, hwidth⟩ := s.get_linkLost (port := port)
  rw [hd]
  simp only [State.raise_get, State.raise_portState, State.set_portState, s.portState_linkLost, State.raise_dram, State.set_dram,
    State.raise_tile, State.set_tile, State.raise_outs, State.set_outs]
  refine ⟨?_, ?_, ?_, trivial, trivial, rfl, rfl, rfl, _, List.mem_append_right _ List.mem_cons_self, rfl⟩
  · rw [State.get_set_self]
    cases s.mayTrain port <;> rfl
  · rw [State.get_set_ne _ _ (key_ne_of_lo_ne (by decide)), hrate]
  · rw [State.get_set_ne _ _ (key_ne_of_lo_ne (by decide)), hwidth]

/-! ### A port resets (R165), and a decoder commits (R162, R167) -/

theorem exec_portReset (hon : s.on = true) : exec (.portReset port) s =
    .next (s.updPort port fun x => { x with decoders := [], acked := [] }) := s.powered_of_on hon

/-- The decoder stands where it commits, and is absent where it does not. -/
def State.committed (s : State) (p ld dec : Nat) (k : Decoder) (ok : Bool) : State :=
  (s.updPort p fun x => { x with decoders := Store.set none x.decoders (ld * 2 + dec) (if ok then some k else none) }).send
    (.port p ld (leBytes 1 (bit ok)))

theorem exec_hdmDecoderCommit (hon : s.on = true) (ld : Fin 16) (dec : Fin 2) (base size ways gran : Nat) :
    exec (.hdmDecoderCommit port ld dec base size ways gran) s = .next (s.committed port ld dec ⟨base, size, ways, gran⟩
      (s.decoderCommits port ld ⟨base, size, ways, gran⟩)) := s.powered_of_on hon

theorem State.committed_decoders (s : State) (ld dec : Nat) (k : Decoder) (ok : Bool) :
    ((s.committed port ld dec k ok).portState port).decoders =
      Store.set none (s.portState port).decoders (ld * 2 + dec) (if ok then some k else none) := by
  rw [State.committed, State.send_portState, State.portState_updPort_self _ _ port.isLt]

theorem State.decodersOf_alone {p ld : Nat} {k : Decoder} (dec : Fin 2)
    (hmine : Store.get none (s.portState p).decoders (ld * 2 + dec) = some k)
    (hother : Store.get none (s.portState p).decoders (ld * 2 + (1 - dec.val)) = none) : s.decodersOf p ld = [k] := by
  unfold State.decodersOf
  match dec with
  | 0 | 1 => simp_all

/-- A decoder of one way, alone in its LD, turns its addresses into DPAs from 0 (R167, notes/assumptions/11.md). -/
theorem State.dpaFor_committed {ld : Nat} {dec : Fin 2} {base size gran : Nat}
    (halone : Store.get none (s.portState port).decoders (ld * 2 + (1 - dec.val)) = none) {off : Nat} (hoff : off < size) :
    (s.committed port ld dec ⟨base, size, 1, gran⟩ true).dpaFor port ld (base + off) = some off := by
  have hmine : Store.get none ((s.committed port ld dec ⟨base, size, 1, gran⟩ true).portState port).decoders (ld * 2 + dec) =
      some ⟨base, size, 1, gran⟩ := by
    rw [State.committed_decoders, Store.get_set_self, if_pos rfl]
  have hother : Store.get none ((s.committed port ld dec ⟨base, size, 1, gran⟩ true).portState port).decoders
      (ld * 2 + (1 - dec.val)) = none := by
    rw [State.committed_decoders, Store.get_set_ne _ _ _ (by omega), halone]
  have hlist := State.decodersOf_alone dec hmine hother
  have hdpa : (⟨base, size, 1, gran⟩ : Decoder).dpa 0 (base + off) = some off := by
    simp [Decoder.dpa, hoff, Nat.div_add_mod']
  rw [State.dpaFor, hlist, Decoder.translate, hdpa]

end Links

/-- Settles O26: the downbeat's step by the link that waits, a link that comes up or retrains by what it carries, and a decoder by whether
it may commit. -/
theorem linksAndDecoders : Obligations.LinksAndDecoders := by
  unfold Obligations.LinksAndDecoders
  intro port s
  refine ⟨fun rate width h => Prod.ext_iff.mp (State.relinkPorts_outcome h), fun hon => ⟨fun rate width =>
    ⟨fun h => exec_linkUp_stays hon h rate width, fun hup hen hpresent hdown => ?_⟩, fun rate width =>
    ⟨fun h => exec_linkRetrain_down hon h rate width, fun hlink => ⟨fun hrate hwidth => ?_, fun hnew => ?_⟩⟩,
    fun h => exec_linkDown_already hon h, fun h => ⟨_, exec_linkDown_falls hon h, s.linkDown_outcome⟩,
    ⟨_, exec_portReset hon, ?_, ?_, rfl⟩, fun ld dec base size ways gran => ?_⟩⟩
  · exact ⟨_, exec_linkUp_trains hon (State.mayTrain_of hup hen hpresent) hdown rate width, s.linkUp_outcome rate width⟩
  · rw [exec_linkRetrain_up hon hlink, State.retrain_same hrate hwidth]
  · exact ⟨_, exec_linkRetrain_up hon hlink rate width, State.retrain_outcome hnew⟩
  · rw [State.portState_updPort_self _ _ port.isLt]
  · rw [State.portState_updPort_self _ _ port.isLt]
  · refine ⟨_, exec_hdmDecoderCommit hon ld dec base size ways gran, rfl, fun h => ?_, fun h => ?_⟩
    · rw [h, State.committed_decoders, Store.get_set_self]
      exact ⟨rfl, rfl, fun hways halone off hoff => hways ▸ State.dpaFor_committed halone hoff⟩
    · rw [h, State.committed_decoders, Store.get_set_self]
      exact ⟨rfl, rfl⟩

end Sys2Proof.Machine
end

section
/-! PROOFS. Register writes that wait for the downbeat under rules of their own: HPORT_n_LD_l, HPORT_n_CFG, EVT_MASK_w, EVT_ROUTE_w and the
sequencing table (R166, R184, R194, R195, R364, R436, R438, R461, R462). -/

namespace Sys2Proof.Machine

section TableWrites

variable {s : State} {src : Src} {v : Nat}

/-! ### A word that is written (R14, R27, R537) -/

/-- Outside the blocks that hold still in H, no register is frozen (R537). -/
theorem State.not_frozen {a : Nat} (h : a < 0x20000 ∨ (0x60000 ≤ a ∧ a < 0x80000) ∨ 0xC0000 ≤ a) (s : State) : s.frozen a = false := by
  simp only [State.frozen, Bool.and_eq_false_iff, Bool.or_eq_false_iff, decide_eq_false_iff_not]
  omega

theorem tableReg_range {a : Nat} (h : tableReg a = true) : 0xC8000 ≤ a ∧ a < 0xC8300 := by
  simp only [tableReg, Bool.or_eq_true, Bool.and_eq_true, decide_eq_true_eq] at h
  omega

theorem not_tableReg {a : Nat} (h : a < 0xC8000) : tableReg a = false :=
  Bool.eq_false_iff.mpr fun ht => Nat.not_le.mpr h (tableReg_range ht).1

/-- Management privilege writes EVT and HPORT (R27). -/
theorem writePriv_mgmt {a : Nat} (h : a < 0x20000 ∨ (0x60000 ≤ a ∧ a < 0x80000)) : writePriv a = .mgmt := by
  unfold writePriv
  split
  · rfl
  · rw [if_neg (by omega), if_pos (by omega)]

/-- A 32-bit write by a source with the privilege, at a word address. -/
theorem State.write_of_lt {a v : Nat} {p : Priv} (hp : s.holds src p = true) (hpriv : writePriv a = p) (ha : a % 4 = 0)
    (hv : v < 2 ^ 32) : s.write src a 4 v = s.writeWord src a v := by
  subst hpriv
  rw [State.write_word hp ha, Nat.mod_eq_of_lt hv]

/-- A register that is neither frozen nor one of GUARD, of the flash or SCORE_VARIANT goes by the rules of the tables. -/
theorem State.writeWord_tables {a : Nat} (hlow : a < 0x20000 ∨ (0x60000 ≤ a ∧ a < 0xD0000)) (hf : s.frozen a = false) (v : Nat) :
    s.writeWord src a v =
      if 0x10400 ≤ a ∧ a < 0x10600 then s.writeRoute src ((a - 0x10400) / 4) v
      else if 0x10080 ≤ a ∧ a < 0x100C0 then s.writeMask ((a - 0x10080) / 4) v
      else if tableReg a then s.writeTable src a v
      else if 0x60000 ≤ a ∧ a < 0x70000 ∧ a % 0x4000 = 4 then s.writeCfg src ((a - 0x60000) / 0x4000) v
      else if ldReg a then s.writeLdSize src ((a - 0x60000) / 0x4000) ((a % 0x4000 - 0x40) / 4) v
      else if rangeOk a v then s.plainWrite a v
      else s.badAccess src a := by
  have hguard : guardReg a = false := by
    simp only [guardReg, Bool.and_eq_false_iff, decide_eq_false_iff_not]
    omega
  have hflash : flashSteps.contains a = false := by
    simp only [flashSteps, List.contains_eq_mem, List.mem_cons, List.not_mem_nil, or_false, decide_eq_false_iff_not]
    omega
  have hvariant : a ≠ 0x20008 := by omega
  simp only [State.writeWord, hf, hguard, hflash, if_neg hvariant, Bool.false_eq_true, if_false]

/-! ### HPORT_n_LD_l (R166, R184, R195) -/

theorem exec_hportLdSizeWrite (hon : s.on = true) (hv : v < 2 ^ 32) (hp : s.holds src .mgmt = true) (p : Fin 4) (l : Fin 16) :
    exec (.hportLdSizeWrite src p l v) s = .next (s.writeLdSize src p l v) := by
  have ha : 0x60040 + 0x4000 * p.val + 4 * l.val < 0x70000 := by omega
  have hld : ldReg (0x60040 + 0x4000 * p.val + 4 * l.val) = true := by
    simp only [ldReg, Bool.and_eq_true, decide_eq_true_eq]
    omega
  have hport : (0x60040 + 0x4000 * p.val + 4 * l.val - 0x60000) / 0x4000 = p := by omega
  have hplace : ((0x60040 + 0x4000 * p.val + 4 * l.val) % 0x4000 - 0x40) / 4 = l := by omega
  refine (s.powered_of_on hon).trans (congrArg _ ?_)
  rw [State.write_of_lt hp (writePriv_mgmt (by omega)) (by omega) hv,
    State.writeWord_tables (.inr (by omega)) (s.not_frozen (.inr (.inl (by omega)))), if_neg (by omega), if_neg (by omega),
    if_neg (ne_true_of_eq_false (not_tableReg (by omega))), if_neg (by omega), if_pos hld, hport, hplace]

/-- A size for one LD cuts a region of that LD alone (R184). -/
theorem State.cutsRegion_size (s : State) (p l z : Nat) :
    s.cutsRegion p (s.ldCount p) (fun k => if k = l then z else s.get (Reg.HPORT_LD_LD_SIZE p k)) = true ↔
      ∃ x ∈ s.tile.regions, x.active = true ∧ x.port = p ∧ x.ld = l ∧ z < s.get (Reg.HPORT_LD_LD_SIZE p l) ∧ z < x.base + x.size := by
  rw [State.cutsRegion, List.any_eq_true]
  refine exists_congr fun x => and_congr_right fun _ => ?_
  have hcount : ¬ (s.ldExists p x.ld = true ∧ s.ldCount p ≤ x.ld) := by
    simp only [State.ldExists, Bool.and_eq_true, decide_eq_true_eq]
    omega
  simp only [Bool.and_eq_true, Bool.or_eq_true, decide_eq_true_eq, hcount, false_or, and_assoc]
  refine and_congr_right fun _ => and_congr_right fun _ => ?_
  by_cases hl : x.ld = l
  · simp [hl]
  · simp [hl]

theorem State.writeLdSize_bad {p l v : Nat} (h : 2048 < v % 4096 ∨ ∃ x ∈ s.tile.regions, x.active = true ∧ x.port = p ∧ x.ld = l ∧
      v % 4096 < s.get (Reg.HPORT_LD_LD_SIZE p l) ∧ v % 4096 < x.base + x.size) :
    s.writeLdSize src p l v = s.badAccess src (Reg.HPORT_LD_LD_SIZE p l).addr := by
  rw [← s.cutsRegion_size] at h
  refine if_pos ?_
  simpa [bitsAt] using h

theorem State.writeLdSize_later {p l v : Nat} (h : ¬ (2048 < v % 4096 ∨ ∃ x ∈ s.tile.regions, x.active = true ∧ x.port = p ∧
      x.ld = l ∧ v % 4096 < s.get (Reg.HPORT_LD_LD_SIZE p l) ∧ v % 4096 < x.base + x.size)) :
    s.writeLdSize src p l v = { s with writes := s.writes ++ [(Reg.HPORT_LD_LD_SIZE p l, v % 4096)] } := by
  rw [← s.cutsRegion_size] at h
  refine (if_neg ?_).trans ?_
  · simpa [bitsAt] using h
  · simp [State.later, bitsAt]

/-! ### Plain writes of RW registers (R9, R20) -/

/-- Where no field is W1C, a plain write is what waits for the downbeat. -/
theorem State.plainWrite_waits {a : Nat} (h : ∀ d ∈ fieldsAt a, d.access ≠ .w1c) (s : State) (v : Nat) :
    s.plainWrite a v = { s with writes := s.writes ++
      ((fieldsAt a).filter (·.access = .rw)).map fun d => ((⟨a, d.lo, d.width⟩ : Field), bitsAt v d.lo d.width) } := by
  rw [State.plainWrite_eq]
  generalize fieldsAt a = ds at h
  induction ds generalizing s with
  | nil => simp
  | cons d ds ih =>
    rw [List.foldl_cons, ih _ fun e he => h e (List.mem_cons_of_mem d he)]
    rcases s.writeField_cases a v d with ⟨hw, he⟩ | ⟨hw, -⟩ | ⟨hw, -, he⟩
    · simp [he, hw, waiting, bitsAt]
    · exact absurd hw (h d List.mem_cons_self)
    · simp [he, hw]

/-! ### HPORT_n_CFG (R166, R184, R194) -/

theorem exec_hportCfgWrite (hon : s.on = true) (hv : v < 2 ^ 32) (hp : s.holds src .mgmt = true) (p : Fin 4) :
    exec (.hportCfgWrite src p v) s = .next (s.writeCfg src p v) := by
  refine (s.powered_of_on hon).trans (congrArg _ ?_)
  have hport : (0x60004 + 0x4000 * p.val - 0x60000) / 0x4000 = p := by omega
  rw [cfgWord, State.write_of_lt hp (writePriv_mgmt (by omega)) (by omega) hv,
    State.writeWord_tables (.inr (by omega)) (s.not_frozen (.inr (.inl (by omega)))), if_neg (by omega), if_neg (by omega),
    if_neg (ne_true_of_eq_false (not_tableReg (by omega))), if_pos (by omega), hport]

theorem State.countBad_iff (s : State) (p n : Nat) : s.countBad p n = true ↔
    16 < n + ((ports.filter (· ≠ p)).map fun q => max 1 (s.comingWord (0x60004 + 0x4000 * q) / 2 ^ 25 % 32)).sum := by
  rw [State.countBad, Bool.or_eq_true, decide_eq_true_eq, decide_eq_true_eq]
  exact or_iff_right_of_imp fun h => Nat.lt_of_lt_of_le h (Nat.le_add_right _ _)

/-- A count of LDs cuts a region where its LD goes (R184). -/
theorem State.cutsRegion_count (s : State) (p n : Nat) :
    s.cutsRegion p n (fun l => s.get (Reg.HPORT_LD_LD_SIZE p l)) = true ↔
      ∃ x ∈ s.tile.regions, x.active = true ∧ x.port = p ∧ s.ldExists p x.ld = true ∧ n ≤ x.ld := by
  simp [State.cutsRegion, List.any_eq_true, and_assoc]

theorem State.writeCfg_bad {p v : Nat} (h : s.countBad p (countOf v) = true ∨
      s.cutsRegion p (presents v) (fun l => s.get (Reg.HPORT_LD_LD_SIZE p l)) = true) :
    s.writeCfg src p v = s.badAccess src (cfgWord p) := if_pos (by simpa using h)

theorem State.writeCfg_later (p : Fin 4) {v : Nat} (hv : v < 2 ^ 32) (h : ¬ (s.countBad p (countOf v) = true ∨
      s.cutsRegion p (presents v) (fun l => s.get (Reg.HPORT_LD_LD_SIZE p l)) = true)) :
    s.writeCfg src p v = { s with writes := s.writes ++
      [(Reg.HPORT_CFG_ENABLE p, v / 2 ^ 31), (Reg.HPORT_CFG_MLD p, v / 2 ^ 30 % 2), (Reg.HPORT_CFG_LD_COUNT p, v / 2 ^ 25 % 32),
        (Reg.HPORT_CFG_ISOCH p, v / 2 ^ 24 % 2), (Reg.HPORT_CFG_GPF_MODE p, v / 2 ^ 23 % 2)] } := by
  have hfields : ∀ p : Fin 4, fieldsAt (cfgWord p) =
      [⟨31, 1, .rw, .opt⟩, ⟨30, 1, .rw, .opt⟩, ⟨25, 5, .rw, .opt⟩, ⟨24, 1, .rw, .opt⟩, ⟨23, 1, .rw, .opt⟩] := by decide +kernel
  have henable : v / 2 ^ 31 % 2 = v / 2 ^ 31 := by omega
  refine (if_neg (by simpa using h)).trans ?_
  rw [State.plainWrite_waits (by simp [hfields]), hfields]
  simpa [bitsAt, cfgWord] using henable

/-! ### EVT_MASK_w (R436, R462) -/

theorem exec_evtMaskRegisterWrite (hon : s.on = true) (hv : v < 2 ^ 32) (hp : s.holds src .mgmt = true) (w : Fin 16) :
    exec (.evtMaskRegisterWrite src w v) s = .next (s.writeMask w v) := by
  refine (s.powered_of_on hon).trans (congrArg _ ?_)
  rw [State.write_of_lt hp (writePriv_mgmt (by omega)) (by omega) hv,
    State.writeWord_tables (.inl (by omega)) (s.not_frozen (.inl (by omega))), if_neg (by omega), if_pos (by omega)]
  congr 1
  omega

/-- A mask word is taken without the bit of 0x1FA, which no mask reaches (R436). -/
theorem State.writeMask_eq (hv : v < 2 ^ 32) (s : State) (w : Nat) : s.writeMask w v = (({ s with writes := s.writes ++
    [(Reg.EVT_MASK_MASK w, if w = 15 ∧ v / 2 ^ 26 % 2 = 1 then v - 2 ^ 26 else v)] } : State).set Reg.EVT_GEN_GEN
      (s.get Reg.EVT_GEN_GEN + 1)) := by
  have hword : maskWord w v = if w = 15 ∧ v / 2 ^ 26 % 2 = 1 then v - 2 ^ 26 else v := by simp [maskWord, bitAt]
  have hlt : maskWord w v % 2 ^ 32 = maskWord w v := by
    rw [hword]
    split <;> omega
  rw [← hword, ← hlt]
  rfl

/-! ### EVT_ROUTE_w (R174, R438, R461, R462) -/

theorem exec_evtRouteRegisterWrite (hon : s.on = true) (hv : v < 2 ^ 32) (hp : s.holds src .mgmt = true) (w : Fin 128) :
    exec (.evtRouteRegisterWrite src w v) s = .next (s.writeRoute src w v) := by
  refine (s.powered_of_on hon).trans (congrArg _ ?_)
  rw [State.write_of_lt hp (writePriv_mgmt (by omega)) (by omega) hv,
    State.writeWord_tables (.inl (by omega)) (s.not_frozen (.inl (by omega))), if_pos (by omega)]
  congr 1
  omega

theorem bitsAt_byte (v j : Nat) : bitsAt v (8 * j) 8 = v / 256 ^ j % 256 := by
  rw [bitsAt, pow_mul, show 2 ^ 8 = 256 from rfl]

theorem State.writeRoute_bad {w v : Nat} (h : ∃ j < 4, 128 ≤ v / 256 ^ j % 256) :
    s.writeRoute src w v = s.badAccess src (0x10400 + 4 * w) := by
  refine if_pos ?_
  simpa [bitsAt_byte, List.any_eq_true] using h

/-- Bytes that ask for what R174 refuses are counted. -/
def State.routeCounted (s : State) (w v : Nat) : State :=
  s.each (List.range 4) fun s j =>
    s.when (routeRefused (4 * w + j) (bitsAt v (8 * j) 8)) fun s => s.count Reg.EVT_ROUTE_REFUSED_COUNT

theorem State.onlyCounts_routeCounted (s : State) (w v : Nat) : s.onlyCounts (s.routeCounted w v) := by
  refine s.onlyCounts_foldl (fun s j => ?_) _
  unfold State.when
  split
  · exact s.onlyCounts_count _ _
  · exact s.onlyCounts_refl

theorem State.get_routeCounted_ne (s : State) (w v : Nat) {f : Field} (h : f.key ≠ Reg.EVT_ROUTE_REFUSED_COUNT.key) :
    (s.routeCounted w v).get f = s.get f := by
  refine foldl_unchanged (look := fun u : State => u.get f) (fun u j _ => ?_) s
  unfold State.when
  split
  · exact u.get_count_ne _ h
  · rfl

/-- The word of four route bytes that a write sets. -/
def State.routeWord (s : State) (w v : Nat) (expert : Bool) : Nat :=
  ((List.range 4).map fun j => newRoute (4 * w + j) (s.routeByte (4 * w + j)) (v / 256 ^ j % 256) expert * 256 ^ j).sum

theorem State.writeRoute_taken {w v : Nat} (h : ∀ j < 4, v / 256 ^ j % 256 < 128) : s.writeRoute src w v =
    ((s.routeCounted w v).later (Reg.EVT_ROUTE_ROUTE w) (s.routeWord w v (s.holds src .expert))).bump Reg.EVT_GEN_GEN := by
  have hbytes (j : Nat) (hj : j < 4) : (s.routeCounted w v).routeByte (4 * w + j) = s.routeByte (4 * w + j) := by
    have hkey : (Reg.EVT_ROUTE_ROUTE ((4 * w + j) / 4)).key ≠ Reg.EVT_ROUTE_REFUSED_COUNT.key :=
      key_ne_of_addr_ne (by simp) (by decide) (by simp; omega)
    rw [State.routeByte, s.get_routeCounted_ne w v hkey, State.routeByte]
  have hholds : (s.routeCounted w v).holds src .expert = s.holds src .expert := by
    obtain ⟨_, _, hu⟩ := s.onlyCounts_routeCounted w v
    rw [hu]
    rfl
  have hword : ((List.range 4).map fun j => newRoute (4 * w + j) ((s.routeCounted w v).routeByte (4 * w + j)) (bitsAt v (8 * j) 8)
      ((s.routeCounted w v).holds src .expert) * 2 ^ (8 * j)).sum = s.routeWord w v (s.holds src .expert) := by
    refine congrArg List.sum (List.map_congr_left fun j hj => ?_)
    rw [hbytes j (List.mem_range.mp hj), hholds, bitsAt_byte, pow_mul, show 2 ^ 8 = 256 from rfl]
  refine (if_neg ?_).trans (congrArg (fun x => ((s.routeCounted w v).later _ x).bump _) hword)
  simpa [bitsAt_byte, List.any_eq_true] using h

/-- A write of route bytes waits for the downbeat, and counts in EVT_GEN. -/
theorem State.routeTaken_outcome (s : State) (w v x : Nat) :
    let t := ((s.routeCounted w v).later (Reg.EVT_ROUTE_ROUTE w) x).bump Reg.EVT_GEN_GEN
    t.writes = s.writes ++ [(Reg.EVT_ROUTE_ROUTE w, x % 2 ^ 32)] ∧ t.get Reg.EVT_GEN_GEN = (s.get Reg.EVT_GEN_GEN + 1) % 2 ^ 16 ∧
      (∀ f : Field, f.key ≠ Reg.EVT_GEN_GEN.key → f.key ≠ Reg.EVT_ROUTE_REFUSED_COUNT.key → t.get f = s.get f) ∧
      { t with regs := s.regs, slotIncs := s.slotIncs, writes := s.writes } = s := by
  dsimp only
  have hget {f : Field} (hf : f.key ≠ Reg.EVT_ROUTE_REFUSED_COUNT.key) :
      ((s.routeCounted w v).later (Reg.EVT_ROUTE_ROUTE w) x).get f = s.get f := s.get_routeCounted_ne w v hf
  refine ⟨?_, ?_, fun f hgen hf => (State.get_set_ne _ _ hgen).trans (hget hf), ?_⟩
  · obtain ⟨_, _, hu⟩ := s.onlyCounts_routeCounted w v
    rw [hu]
    rfl
  · rw [State.bump, State.get_set_self, hget (by decide)]
  · obtain ⟨_, _, hu⟩ := s.onlyCounts_routeCounted w v
    rw [hu]
    rfl

/-- A route byte as it is taken: RECORDER and WARDEN in expert form alone (R461). -/
theorem newRoute_low {source : Nat} (h : source < 0x100) {v : Nat} (hv : v < 128) (old : Nat) (expert : Bool) :
    newRoute source old v expert = if expert then v else Nat.land v 0x67 + Nat.land old 0x18 := by
  have hviolation : violationSource source = false := by
    simp only [violationSource, Bool.and_eq_false_iff, decide_eq_false_iff_not]
    omega
  rw [newRoute, fixRoute, hviolation, if_neg Bool.false_ne_true, if_neg (by omega), if_neg (by omega), Nat.mod_eq_of_lt hv]

/-- No host bit of a violation source is taken (R174). -/
theorem newRoute_violation (n : Fin 4) (old v : Nat) (expert : Bool) : newRoute (0x103 + 16 * n.val) old v expert % 4 = 0 := by
  have hviolation : violationSource (0x103 + 16 * n.val) = true := by
    simp only [violationSource, Bool.and_eq_true, decide_eq_true_eq]
    omega
  rw [newRoute, fixRoute, if_pos hviolation, Nat.mul_mod_left]

/-- 0x1FA goes to the recorder whatever is written, and 0x1FB never (R438). -/
theorem newRoute_fixed (old v : Nat) (expert : Bool) :
    bitAt (newRoute 0x1FA old v expert) 3 = true ∧ bitAt (newRoute 0x1FB old v expert) 3 = false := by
  have hfix (x : Nat) : bitAt (fixRoute 0x1FA x) 3 = true ∧ bitAt (fixRoute 0x1FB x) 3 = false := by
    have hrec : fixRoute 0x1FA x = x / 16 * 16 + 8 + x % 8 := rfl
    have hnot : fixRoute 0x1FB x = x / 16 * 16 + x % 8 := rfl
    rw [hrec, hnot, bitAt, bitAt, beq_iff_eq, beq_eq_false_iff_ne]
    omega
  exact hfix _

/-! ### The sequencing table (R364) -/

theorem exec_seqTableRegisterWrite (hon : s.on = true) (hv : v < 2 ^ 32) (hp : s.holds src .expert = true) {a : Fin 0x100000}
    (ht : tableReg a = true) (ha : a.val % 4 = 0) : exec (.seqTableRegisterWrite src a v) s = .next (s.writeTable src a v) := by
  obtain ⟨hge, hlt⟩ := tableReg_range ht
  have hpriv : writePriv a = .expert := by
    unfold writePriv
    iterate 5 rw [if_neg (by omega)]
  refine (s.powered_of_on hon).trans (congrArg _ ?_)
  rw [State.write_of_lt hp hpriv ha hv, State.writeWord_tables (.inr (by omega)) (s.not_frozen (.inr (.inr (by omega)))),
    if_neg (by omega), if_neg (by omega), if_pos ht]

/-- A word of a rail as it stands once this write has taken effect. -/
def State.railComing (s : State) (a v n o : Nat) : Nat := if a = railAt n o then v else s.comingWord (railAt n o)

/-- Is the word in range where it is written? -/
def State.tableOk (s : State) (a v : Nat) : Bool :=
  if a = 0xC8000 then true else if a = 0xC8008 then timingOk v else if a = 0xC800C then offOk v
  else railOk (s.railComing a v ((a - 0xC8100) / 0x20) 0) (s.railComing a v ((a - 0xC8100) / 0x20) 4)
    (s.railComing a v ((a - 0xC8100) / 0x20) 12)

theorem State.writeTable_eq (s : State) (src : Src) (a v : Nat) : s.writeTable src a v =
    if !(s.tableMay && s.tableOk a v) then s.badAccess src a else (s.plainWrite a v).tableChanged := rfl

theorem timingOk_iff (v : Nat) : timingOk v = true ↔ 1 ≤ v / 256 % 256 ∧ 1 ≤ v / 16 % 16 := by
  rw [timingOk, Bool.and_eq_true, decide_eq_true_eq, decide_eq_true_eq]
  rfl

theorem offOk_iff (v : Nat) : offOk v = true ↔ 100 ≤ v / 65536 % 65536 ∧ v / 65536 % 65536 ≤ 60000 := by
  rw [offOk, between, Bool.and_eq_true, decide_eq_true_eq, decide_eq_true_eq]
  rfl

theorem railOk_iff (cfg dis pmbus : Nat) : railOk cfg dis pmbus = true ↔
    cfg % 256 < dis / 16 % 256 ∧ (pmbus % 65536 = 0 ∨ dis / 2 ^ 20 % 4096 < pmbus % 65536) := by
  simp [railOk, bitsAt]

/-- The four words of a rail are table registers, and are judged together. -/
theorem rail_word {a k : Nat} {n : Fin 16} (hk : k < 4) (ha : a = railAt n (4 * k)) : tableReg a = true ∧ a % 4 = 0 ∧
    ∀ (s : State) (v : Nat), s.tableOk a v = railOk (s.railComing a v n 0) (s.railComing a v n 4) (s.railComing a v n 12) := by
  unfold railAt at ha
  have hplace : (a - 0xC8100) / 0x20 = n := by omega
  refine ⟨?_, by omega, fun s v => ?_⟩
  · simp only [tableReg, Bool.or_eq_true, Bool.and_eq_true, decide_eq_true_eq]
    omega
  · rw [State.tableOk, if_neg (by omega), if_neg (by omega), if_neg (by omega), hplace]

/-- A register of the sequencing table has no W1C field. -/
theorem table_not_w1c {a : Nat} (h : tableReg a = true) : ∀ d ∈ fieldsAt a, d.access ≠ .w1c := by
  have hall : ∀ r ∈ regTable, ∀ i < r.count, tableReg (r.base + i * r.stride) = true → ∀ d ∈ r.fields, d.access ≠ .w1c := by
    decide +kernel
  intro d hd
  obtain ⟨r, hr, i, hi, rfl, hdr, -⟩ := mem_fieldsAt hd
  exact hall r hr i hi h d hdr

/-- An accepted change waits for the downbeat, counts in SEQ_GEN and raises 0x1EE. -/
theorem State.tableTaken_outcome {a : Nat} (h : tableReg a = true) (s : State) (v : Nat) :
    let t := (s.plainWrite a v).tableChanged
    t.writes = s.writes ++ ((fieldsAt a).filter (·.access = .rw)).map
        (fun d => ((⟨a, d.lo, d.width⟩ : Field), bitsAt v d.lo d.width)) ∧
      t.get Reg.SEQ_GEN_GEN = (s.get Reg.SEQ_GEN_GEN + 1) % 2 ^ 16 ∧
      (∀ f : Field, f.key ≠ Reg.SEQ_GEN_GEN.key → t.get f = s.get f) ∧
      t.raised = s.raised ++ [⟨0x1EE, [⟨2, (s.get Reg.SEQ_GEN_GEN + 1) % 2 ^ 16, .plain⟩], s.bar, []⟩] ∧
      { t with regs := s.regs, writes := s.writes, raised := s.raised } = s := by
  dsimp only
  rw [State.plainWrite_waits (table_not_w1c h)]
  refine ⟨rfl, State.get_set_self s _ _, fun f hf => State.get_set_ne s _ hf, ?_, rfl⟩
  rw [← State.get_set_self s Reg.SEQ_GEN_GEN]
  rfl

end TableWrites

/-- Settles O6: each write by the rules of its register, the fixed bits of a route byte, and the sequencing table by its state and its
ranges. -/
theorem tableAndPortRegisterWrites : Obligations.TableAndPortRegisterWrites := by
  unfold Obligations.TableAndPortRegisterWrites
  refine ⟨fun src v s hon hv hp => ⟨fun p l => ?_, fun p count presented hcount hpresented => ?_, fun w => ?_, fun w => ?_⟩,
    fun old v expert hv => ⟨fun source h => newRoute_low h hv old expert, fun n => newRoute_violation n old v expert,
      newRoute_fixed old v expert⟩, fun src a v s cfg dis pmbus n hon hv hp => ⟨fun hmay ht ha => ?_, fun hmay => ?_⟩⟩
  · rw [exec_hportLdSizeWrite hon hv hp]
    exact ⟨fun h => congrArg _ (State.writeLdSize_bad h), fun h => congrArg _ (State.writeLdSize_later h)⟩
  · have hcountOf : count = countOf v := hcount
    have hpresents : presented = presents v := by simpa [presents, bitAt, ← hcountOf] using hpresented
    subst hcountOf hpresents
    rw [exec_hportCfgWrite hon hv hp, ← s.countBad_iff, ← s.cutsRegion_count]
    exact ⟨fun h => congrArg _ (State.writeCfg_bad h), fun h => congrArg _ (State.writeCfg_later p hv h)⟩
  · rw [exec_evtMaskRegisterWrite hon hv hp, State.writeMask_eq hv]
  · rw [exec_evtRouteRegisterWrite hon hv hp]
    exact ⟨fun h => congrArg _ (State.writeRoute_bad h),
      fun h => ⟨_, congrArg _ (State.writeRoute_taken h), s.routeTaken_outcome w v _⟩⟩
  · rw [exec_seqTableRegisterWrite hon hv hp ht ha, State.writeTable_eq, hmay]
    rfl
  · have hbad (ht : tableReg a = true) (ha : a.val % 4 = 0) (hok : s.tableOk a v = false) :
        exec (.seqTableRegisterWrite src a v) s = .next (s.badAccess src a) := by
      rw [exec_seqTableRegisterWrite hon hv hp ht ha, State.writeTable_eq, hmay, hok]
      rfl
    have htaken (ht : tableReg a = true) (ha : a.val % 4 = 0) (hok : s.tableOk a v = true) :
        exec (.seqTableRegisterWrite src a v) s = .next ((s.plainWrite a v).tableChanged) := by
      rw [exec_seqTableRegisterWrite hon hv hp ht ha, State.writeTable_eq, hmay, hok]
      rfl
    refine ⟨fun ha h => ?_, fun ha h => ?_, fun ha hcfg hdis hpmbus h => ?_, fun h => ?_⟩
    · refine hbad (by rw [ha]; rfl) (by rw [ha]) ?_
      rw [ha]
      exact Bool.eq_false_iff.mpr fun ht => h ((timingOk_iff v).mp ht)
    · refine hbad (by rw [ha]; rfl) (by rw [ha]) ?_
      rw [ha]
      exact Bool.eq_false_iff.mpr fun ht => h ((offOk_iff v).mp ht)
    · obtain ⟨k, hk, ha⟩ := ha
      obtain ⟨htable, hword, hok⟩ := rail_word hk ha
      refine hbad htable hword ((hok s v).trans (Bool.eq_false_iff.mpr fun ht => h ?_))
      rw [hcfg, hdis, hpmbus]
      exact (railOk_iff _ _ _).mp ht
    · have hok : tableReg a = true ∧ a.val % 4 = 0 ∧ s.tableOk a v = true := by
        rcases h with ha | ⟨ha, h⟩ | ⟨ha, h⟩ | ⟨⟨k, hk, ha⟩, hcfg, hdis, hpmbus, h⟩
        · rw [ha]
          exact ⟨rfl, rfl, rfl⟩
        · rw [ha]
          exact ⟨rfl, rfl, (timingOk_iff v).mpr h⟩
        · rw [ha]
          exact ⟨rfl, rfl, (offOk_iff v).mpr h⟩
        · obtain ⟨htable, hword, hok⟩ := rail_word hk ha
          rw [hcfg, hdis, hpmbus] at h
          exact ⟨htable, hword, (hok s v).trans ((railOk_iff _ _ _).mpr h)⟩
      obtain ⟨htable, hword, hok⟩ := hok
      exact ⟨_, htaken htable hword hok, State.tableTaken_outcome htable s v⟩

end Sys2Proof.Machine
end

section
/-! PROOFS. Regions: REGION_ASSIGN, REGION_RELEASE and REGION_QUERY, and the zeroing of released frames (R174 to R178, R476). -/

namespace Sys2Proof.Machine

section Regions

variable {s t u : State}

/-! ### A frame is zeroed (R118, R174) -/

theorem Store.get_clearRange {α : Type} (d : α) (m : List (Nat × α)) (lo hi k : Nat) :
    Store.get d (Store.clearRange m lo hi) k = if lo ≤ k ∧ k < hi then d else Store.get d m k := by
  rw [Store.clearRange, Store.get_filter d m (fun a => !(decide (lo ≤ a) && decide (a < hi)))]
  by_cases h : lo ≤ k ∧ k < hi
  · rw [if_pos h, if_neg (by simpa using h)]
  · rw [if_neg h, if_pos (by simpa [imp_iff_not_or] using h)]

theorem State.readLine_zeroFrame_self (s : State) (f : Nat) {i : Nat} (hi : i < 1024) : (s.zeroFrame f).readLine f i = zeroLine := by
  refine List.eq_replicate_iff.mpr ⟨by simp [State.readLine, Store.getRange], fun b hb => ?_⟩
  obtain ⟨j, hj, rfl⟩ := List.mem_map.mp hb
  have hj := List.mem_range.mp hj
  exact (Store.get_clearRange _ _ _ _ _).trans (if_pos ⟨by omega, by omega⟩)

theorem State.readLine_zeroFrame_ne (s : State) {f g i : Nat} (h : g ≠ f) (hi : i < 1024) :
    (s.zeroFrame f).readLine g i = s.readLine g i := by
  rw [State.readLine, State.readLine, Store.getRange, Store.getRange]
  refine List.map_congr_left fun j hj => ?_
  have hj := List.mem_range.mp hj
  exact (Store.get_clearRange _ _ _ _ _).trans (if_neg (by omega))

theorem State.poisoned_zeroFrame_self (s : State) (f : Nat) {i : Nat} (hi : i < 1024) : (s.zeroFrame f).poisoned f i = false :=
  (Store.get_clearRange _ _ _ _ _).trans (if_pos ⟨by omega, by omega⟩)

theorem State.poisoned_zeroFrame_ne (s : State) {f g i : Nat} (h : g ≠ f) (hi : i < 1024) :
    (s.zeroFrame f).poisoned g i = s.poisoned g i :=
  (Store.get_clearRange _ _ _ _ _).trans (if_neg (by omega))

/-! ### It joins the pool (R152, R178) -/

theorem State.joined_dram (s : State) (f : Nat) : (s.joined f).dram = s.dram := by
  unfold State.joined
  dsimp only
  split
  · rfl
  · split
    · rfl
    · rfl

theorem State.rehome_dram (s : State) (k : Nat) : (s.rehome k).dram = s.dram := by
  unfold State.rehome
  split
  · rfl
  · rfl

theorem State.grantHomeless_dram (s : State) : s.grantHomeless.dram = s.dram := by
  refine foldl_unchanged (look := State.dram) (fun u k _ => ?_) s
  split
  · rfl
  · exact u.rehome_dram k

theorem State.joinPool_dram (s : State) (f : Nat) : (s.joinPool f).dram = s.dram :=
  (State.grantHomeless_dram _).trans (s.joined_dram f)

/-- The frame is zeroed and leaves the zeroing queue. -/
def State.frameCleared (s : State) (f : Nat) : State :=
  { s.zeroFrame f with dram := { (s.zeroFrame f).dram with zeroQueue := s.dram.zeroQueue.filter (· ≠ f) } }

theorem State.zeroedFrame_none {c : Nat} (h : (s.dram.zeroQueue.filter fun f => f % 8 = c) = []) : s.zeroedFrame c = s := by
  rw [State.zeroedFrame, h]

theorem State.zeroedFrame_left {c f : Nat} {l : List Nat} (h : (s.dram.zeroQueue.filter fun f => f % 8 = c) = f :: l)
    (hleft : s.jobLeft c .zero f = true) : s.zeroedFrame c = s := by
  rw [State.zeroedFrame, h]
  exact if_neg (by simp [hleft])

theorem State.zeroedFrame_done {c f : Nat} {l : List Nat} (h : (s.dram.zeroQueue.filter fun f => f % 8 = c) = f :: l)
    (hdone : s.jobLeft c .zero f = false) : s.zeroedFrame c = (s.frameCleared f).joinPool f := by
  rw [State.zeroedFrame, h]
  exact if_pos (by simp [hdone])

/-- A frame that joined the pool reads zeros, without a marker, and every other line stands. -/
theorem State.joinPool_frameCleared_outcome (s : State) (f : Nat) :
    let t := (s.frameCleared f).joinPool f
    t.dram.zeroQueue = s.dram.zeroQueue.filter (fun g => decide (g ≠ f)) ∧
      (∀ i, i < 1024 → t.readLine f i = zeroLine ∧ t.poisoned f i = false) ∧
      ∀ g i, g ≠ f → i < 1024 → t.readLine g i = s.readLine g i ∧ t.poisoned g i = s.poisoned g i := by
  have hread (g i : Nat) : ((s.frameCleared f).joinPool f).readLine g i = (s.zeroFrame f).readLine g i := by
    rw [State.readLine, State.joinPool_dram]
    rfl
  have hpoison (g i : Nat) : ((s.frameCleared f).joinPool f).poisoned g i = (s.zeroFrame f).poisoned g i := by
    rw [State.poisoned, State.joinPool_dram]
    rfl
  simp only [hread, hpoison]
  exact ⟨congrArg DramState.zeroQueue (State.joinPool_dram _ f),
    fun i hi => ⟨s.readLine_zeroFrame_self f hi, s.poisoned_zeroFrame_self f hi⟩,
    fun g i h hi => ⟨s.readLine_zeroFrame_ne h hi, s.poisoned_zeroFrame_ne h hi⟩⟩

/-! ### Released frames enter the zeroing queue (R178, R182) -/

/-- Two states that differ in the zeroing work alone, and no frame left the zeroing queue. -/
structure State.Queues (s t : State) : Prop where
  frame : ∃ chans queue, t = { s with dram := { s.dram with chans := chans, zeroQueue := queue } }
  queue : ∀ f ∈ s.dram.zeroQueue, f ∈ t.dram.zeroQueue

theorem State.Queues.refl (s : State) : s.Queues s := ⟨⟨_, _, rfl⟩, fun _ => id⟩

theorem State.Queues.trans (h : s.Queues t) (h' : t.Queues u) : s.Queues u := by
  refine ⟨?_, fun f hf => h'.queue f (h.queue f hf)⟩
  obtain ⟨_, _, rfl⟩ := h.frame
  obtain ⟨chans, queue, rfl⟩ := h'.frame
  exact ⟨chans, queue, rfl⟩

/-- A released frame enters the zeroing queue, where its channel is in service. -/
def State.toZero (s : State) (o : FrameOrigin) : State := if s.outOfService (o.frame % 8) then s else s.queueZero o.frame

theorem State.queues_toZero (s : State) (o : FrameOrigin) : s.Queues (s.toZero o) := by
  unfold State.toZero
  split
  · exact .refl s
  · exact ⟨⟨_, _, rfl⟩, fun _ hf => List.mem_append_left _ hf⟩

theorem State.queues_each (l : List FrameOrigin) (s : State) : s.Queues (s.each l State.toZero) :=
  State.each_related State.Queues.refl State.Queues.trans State.queues_toZero l s

theorem State.mem_zeroQueue_each {l : List FrameOrigin} {o : FrameOrigin} (ho : o ∈ l) (hserves : s.outOfService (o.frame % 8) = false) :
    o.frame ∈ (s.each l State.toZero).dram.zeroQueue := by
  obtain ⟨before, after, rfl⟩ := List.append_of_mem ho
  rw [State.each, List.foldl_append, List.foldl_cons]
  refine (State.queues_each after _).queue _ ?_
  have hstill : (before.foldl State.toZero s).outOfService (o.frame % 8) = false := by
    obtain ⟨_, _, h⟩ := (s.queues_each before).frame
    rw [← hserves, ← State.each, h]
    rfl
  rw [State.toZero, if_neg (ne_true_of_eq_false hstill)]
  exact List.mem_append_right _ (List.mem_singleton_self _)

/-- Has a released frame nothing that uses it any more, after its bar? -/
def State.unused (s : State) (o : FrameOrigin) : Bool := decide (o.bar < s.bar) && !(s.frameInUse o.frame)

theorem State.enterZeroing_eq (s : State) : s.enterZeroing =
    (s.updTile fun x => { x with releasing := x.releasing.filter fun o => !(s.unused o) }).each
      (s.tile.releasing.filter s.unused) State.toZero := rfl

theorem State.enterZeroing_outcome (s : State) : s.enterZeroing.dram.bytes = s.dram.bytes ∧ s.enterZeroing.regs = s.regs ∧
    s.enterZeroing.tile.releasing = s.tile.releasing.filter (fun o => !(s.unused o)) ∧
    ∀ o ∈ s.tile.releasing, s.unused o = true → s.outOfService (o.frame % 8) = false → o.frame ∈ s.enterZeroing.dram.zeroQueue := by
  rw [State.enterZeroing_eq]
  refine ⟨?_, ?_, ?_, fun o ho hunused hserves => State.mem_zeroQueue_each (List.mem_filter.mpr ⟨ho, hunused⟩) hserves⟩
  all_goals
    obtain ⟨_, _, h⟩ := (State.queues_each (s.tile.releasing.filter s.unused)
      (s.updTile fun x => { x with releasing := x.releasing.filter fun o => !(s.unused o) })).frame
    rw [h]
    rfl

/-! ### REGION_QUERY (R174, R484) -/

theorem State.length_regionEntry (s : State) (r : Nat) : (s.regionEntry r).length = 16 := by
  simp [State.regionEntry]

/-- The reply's head: two sizes and the number of entries, which is the number of those that follow. -/
theorem length_regionQuery_reply (a b : Nat) {l : List Nat} (h : l.length ≤ 64) (s : State) :
    let data := leBytes 4 a ++ leBytes 4 b ++ leBytes 1 l.length ++ leBytes 3 0 ++ l.flatMap s.regionEntry
    data.length = 12 + 16 * leAt data 8 1 ∧ data.take 4 = leBytes 4 a := by
  have hcount : leAt (leBytes 4 a ++ leBytes 4 b ++ leBytes 1 l.length ++ leBytes 3 0 ++ l.flatMap s.regionEntry) 8 1 = l.length := by
    simp only [List.append_assoc]
    rw [leAt_leBytes_append_right _ _ (by decide), leAt_leBytes_append_right _ _ (by decide), leAt_leBytes_append]
    omega
  have hentries : (l.flatMap s.regionEntry).length = 16 * l.length := by
    simp [List.length_flatMap, State.length_regionEntry, Nat.mul_comm]
  dsimp only
  refine ⟨?_, ?_⟩
  · rw [hcount]
    simp only [List.length_append, length_leBytes, hentries]
  · simp only [List.append_assoc]
    exact List.take_left' (length_leBytes 4 a)

/-- The regions that a query lists: those in its range, and to a host port without management privilege its own ACTIVE ones. -/
def State.queried (s : State) (p : Pkt) : List Nat :=
  let l := (List.range 64).filter fun r => decide (p.u8 0 ≤ r) && decide (r < p.u8 0 + p.u8 1)
  if s.holds p.src .mgmt then l else l.filter fun r =>
    (s.region r).active && (match p.src with | .hport n => (s.region r).port = n | _ => false)

theorem State.length_queried (s : State) (p : Pkt) : (s.queried p).length ≤ 64 := by
  have hrange (q : Nat → Bool) : ((List.range 64).filter q).length ≤ 64 := by
    simpa using (List.range 64).length_filter_le q
  unfold State.queried
  dsimp only
  split
  · exact hrange _
  · exact Nat.le_trans (List.length_filter_le _ _) (hrange _)

theorem opRegionQuery_eq (p : Pkt) (s : State) : opRegionQuery p s =
    .ok s (leBytes 4 (if s.holds p.src .mgmt then s.poolFrames else 0)
      ++ leBytes 4 (if s.holds p.src .mgmt then s.dram.zeroQueue.length else 0)
      ++ leBytes 1 (s.queried p).length ++ leBytes 3 0 ++ (s.queried p).flatMap s.regionEntry) := rfl

/-! ### The tiles of a region leave it (R178) -/

/-- What an answer to a request may change beside DRAM, the tiles and the Deck. -/
def State.onlyReplies (s t : State) : Prop := ∃ regs slotIncs cxl outs raised,
  t = { s with regs := regs, slotIncs := slotIncs, cxl := cxl, outs := outs, raised := raised }

theorem State.onlyReplies_refl (s : State) : s.onlyReplies s := ⟨_, _, _, _, _, rfl⟩

theorem State.onlyReplies_trans (h : s.onlyReplies t) (h' : t.onlyReplies u) : s.onlyReplies u := by
  obtain ⟨_, _, _, _, _, rfl⟩ := h
  obtain ⟨regs, slotIncs, cxl, outs, raised, rfl⟩ := h'
  exact ⟨regs, slotIncs, cxl, outs, raised, rfl⟩

theorem State.onlyReplies_respond (s : State) (p : Fin 4) (stamp : Nat) (o : Out) : s.onlyReplies (s.respond p stamp o) := by
  obtain ⟨_, _, _, _, h⟩ := s.respond_frame p stamp o
  exact ⟨_, _, _, _, s.raised, h⟩

theorem State.onlyReplies_figures (s : State) : s.onlyReplies s.updHeld.updTouchStat.updOverWindow := by
  obtain ⟨_, _, hcounts⟩ := State.onlyCounts_trans s.onlyCounts_updHeld s.updHeld.onlyCounts_updTouchStat
  obtain ⟨_, _, hwindow⟩ := s.updHeld.updTouchStat.updOverWindow_frame
  rw [hwindow, hcounts]
  exact ⟨_, _, _, _, _, rfl⟩

/-- The frames that leave the region `r` of `s`, by the tile map of `u`. -/
def State.freedFrames (s u : State) (r : Nat) : List FrameOrigin :=
  ((u.tile.map.filter fun e => (s.region r).hasTile e.1).map fun e => e.2 - 1).map fun f => ⟨f, r, (s.region r).port, u.bar⟩

/-- The tiles of a region leave the tables; `u` is the state without the relocation copies of them. -/
def State.untabled (s u : State) (r : Nat) : State :=
  let mine := (s.region r).hasTile
  let v := u.updTile fun y => { y with
    fetches := y.fetches.filter fun f => !(mine f.tile)
    waits := y.waits.filter fun q => !(mine q.tile)
    held := y.held.filter fun h => !(mine h.req.tile)
    flights := y.flights.map fun k => if mine k.tile then { k with stale := true } else k
    map := y.map.filter fun e => !(mine e.1)
    codes := y.codes.filter fun e => !(mine e.1)
    homeless := y.homeless.filter fun e => !(mine e.1)
    releasing := y.releasing ++ s.freedFrames u r
    origins := y.origins ++ s.freedFrames u r }
  v.updDeck fun d => { d with loc := d.loc.filter fun e => !(mine e.1) }

/-- A request that waited for a tile of a released region is answered: a read with zeros, a write as done (R178). -/
def State.answerWait (s : State) (q : HostReq) : State :=
  s.respond q.port q.stamp (if q.write then .writeDone q.port q.ld q.tag else .readData q.port q.ld q.tag zeroLine false)

/-- A write held for such a tile is discarded, and answered as done (R178). -/
def State.answerHeld (s : State) (q : HostReq) : State := s.respond q.port q.stamp (.writeDone q.port q.ld q.tag)

theorem State.freeTiles_eq (s : State) (r : Nat) : ∃ waits held, s.freeTiles r =
    (((s.untabled (s.dropCopies (s.region r).hasTile) r).each waits State.answerWait).each held
      State.answerHeld).updHeld.updTouchStat.updOverWindow := ⟨_, _, rfl⟩

theorem State.freeTiles_replies (s : State) (r : Nat) :
    (s.untabled (s.dropCopies (s.region r).hasTile) r).onlyReplies (s.freeTiles r) := by
  obtain ⟨waits, held, h⟩ := s.freeTiles_eq r
  have hwaits (v : State) : v.onlyReplies (v.each waits State.answerWait) :=
    State.each_related State.onlyReplies_refl State.onlyReplies_trans (fun v q => v.onlyReplies_respond _ _ _) waits v
  have hheld (v : State) : v.onlyReplies (v.each held State.answerHeld) :=
    State.each_related State.onlyReplies_refl State.onlyReplies_trans (fun v q => v.onlyReplies_respond _ _ _) held v
  rw [h]
  exact State.onlyReplies_trans (State.onlyReplies_trans (hwaits _) (hheld _)) (State.onlyReplies_figures _)

/-- The tiles for which `mine` holds are unmapped, without a frame or a copy, and their frames are released; the other tiles and all
bytes stand. -/
structure State.Frees (mine : Nat → Bool) (s t : State) : Prop where
  code : ∀ k, t.code k = if mine k then codeUnmapped else s.code k
  frameOf : ∀ k, t.frameOf k = if mine k then none else s.frameOf k
  recOf : ∀ k, mine k = true → t.recOf k = .zero
  bytes : t.dram.bytes = s.dram.bytes
  released : ∀ e ∈ s.tile.map, mine e.1 = true → ∃ o ∈ t.tile.releasing, o.frame = e.2 - 1

/-- What stands of a state in its tiles' tables, its released frames and DRAM. -/
def State.tables (s : State) : List (Nat × Nat) × List (Nat × Nat) × List FrameOrigin × List (Nat × TileRec) × List (Nat × Byte) :=
  (s.tile.codes, s.tile.map, s.tile.releasing, s.deck.loc, s.dram.bytes)

theorem State.Frees.congr {mine : Nat → Bool} (h : State.Frees mine s t) (htables : u.tables = t.tables) : State.Frees mine s u := by
  simp only [State.tables, Prod.mk.injEq] at htables
  obtain ⟨hcodes, hmap, hreleasing, hloc, hbytes⟩ := htables
  refine ⟨fun k => ?_, fun k => ?_, fun k hk => ?_, hbytes.trans h.bytes, ?_⟩
  · rw [← h.code, State.code, hcodes]
    rfl
  · rw [← h.frameOf, State.frameOf, hmap]
    rfl
  · rw [← h.recOf k hk, State.recOf, hloc]
    rfl
  · rw [hreleasing]
    exact h.released

theorem State.tables_of_onlyReplies (h : s.onlyReplies t) : t.tables = s.tables ∧ t.tile.regions = s.tile.regions := by
  obtain ⟨_, _, _, _, _, rfl⟩ := h
  exact ⟨rfl, rfl⟩

theorem State.frees_untabled (s : State) (r : Nat) :
    State.Frees (s.region r).hasTile s (s.untabled (s.dropCopies (s.region r).hasTile) r) := by
  obtain ⟨chans, releasing, h⟩ := s.dropCopies_frame (s.region r).hasTile
  rw [h]
  have hget {α : Type} (d : α) (m : List (Nat × α)) (k : Nat) : Store.get d (m.filter fun e => !((s.region r).hasTile e.1)) k =
      if (s.region r).hasTile k then d else Store.get d m k := by
    rw [Store.get_filter d m fun a => !((s.region r).hasTile a)]
    cases (s.region r).hasTile k <;> rfl
  refine ⟨fun k => hget _ _ k, fun k => ?_, fun k hk => (hget _ _ k).trans (if_pos hk), rfl, fun e he hmine => ?_⟩
  · refine (congrArg (fun v => match v with | 0 => none | f + 1 => some f) (hget 0 s.tile.map k)).trans ?_
    cases (s.region r).hasTile k <;> rfl
  · refine ⟨⟨e.2 - 1, r, (s.region r).port, s.bar⟩, List.mem_append_right _ ?_, rfl⟩
    exact List.mem_map_of_mem (List.mem_map_of_mem (List.mem_filter.mpr ⟨he, hmine⟩))

theorem State.frees_freeTiles (s : State) (r : Nat) : State.Frees (s.region r).hasTile s (s.freeTiles r) :=
  (s.frees_untabled r).congr (State.tables_of_onlyReplies (s.freeTiles_replies r)).1

theorem State.region_congr (h : t.tile.regions = s.tile.regions) (q : Nat) : t.region q = s.region q := by
  rw [State.region, State.region, h]

theorem State.region_freeTiles (s : State) (r q : Nat) : (s.freeTiles r).region q = s.region q := by
  obtain ⟨chans, releasing, h⟩ := s.dropCopies_frame (s.region r).hasTile
  refine State.region_congr ((State.tables_of_onlyReplies (s.freeTiles_replies r)).2.trans ?_) q
  rw [h]
  rfl

/-! ### A region is released (R177, R178) -/

/-- A region without an owner: its generation alone stays. -/
def Region.freed (x : Region) : Region := ⟨false, 0, 0, 0, 0, 0, x.gen⟩

theorem State.releaseRegion_eq (s : State) (r : Nat) : ∃ d, s.releaseRegion r =
    ((s.freeTiles r).setRegion r (s.region r).freed).raise (srcPort (s.region r).port 5) d
      [vendorRec (s.region r).port (s.region r).ld .vendorRegion] := ⟨_, rfl⟩

/-- The region is free with its generation, its tiles unmapped, and k = 5 raised. -/
theorem State.releaseRegion_outcome {r : Nat} (hr : r < 64) (s : State) : (s.releaseRegion r).region r = (s.region r).freed ∧
    (∀ q, q < 64 → q ≠ r → (s.releaseRegion r).region q = s.region q) ∧ State.Frees (s.region r).hasTile s (s.releaseRegion r) ∧
      ∃ e ∈ (s.releaseRegion r).raised, e.src = srcPort (s.region r).port 5 := by
  obtain ⟨d, h⟩ := s.releaseRegion_eq r
  have hfrees := s.frees_freeTiles r
  have hregion := s.region_freeTiles r
  rw [h]
  generalize s.freeTiles r = u at hfrees hregion
  exact ⟨State.region_setRegion_self _ _ hr, fun q hq hne => (State.region_setRegion_ne _ _ hq hne).trans (hregion q),
    hfrees.congr rfl, _, List.mem_append_right _ List.mem_cons_self, rfl⟩

/-- REGION_RELEASE of an ACTIVE region: it is released, its generation advances, and the CDAT of its LD changes (R177). -/
def State.released (s : State) (r : Nat) : State :=
  ((s.releaseRegion r).bumpRegion r id).cdatChange (s.region r).port [(s.region r).ld]

theorem State.released_outcome {r : Nat} (hr : r < 64) (s : State) :
    (((s.released r).region r).active = false ∧ ((s.released r).region r).gen = ((s.region r).gen + 1) % 65536) ∧
      (∀ q, q < 64 → q ≠ r → (s.released r).region q = s.region q) ∧ State.Frees (s.region r).hasTile s (s.released r) ∧
      ∃ e ∈ (s.released r).raised, e.src = srcPort (s.region r).port 5 := by
  obtain ⟨hself, hother, hfrees, hraised⟩ := s.releaseRegion_outcome hr
  obtain ⟨_, _, h⟩ := ((s.releaseRegion r).bumpRegion r id).onlyLogs_cdatChange (s.region r).port [(s.region r).ld]
  rw [State.released, h]
  generalize s.releaseRegion r = u at hself hother hfrees hraised
  obtain ⟨e, he, hsrc⟩ := hraised
  have hnext : (u.bumpRegion r id).region r = { u.region r with gen := ((u.region r).gen + 1) % 65536 } :=
    State.region_setRegion_self _ _ hr
  rw [hself] at hnext
  exact ⟨⟨congrArg Region.active hnext, congrArg Region.gen hnext⟩,
    fun q hq hne => (State.region_setRegion_ne _ _ hq hne).trans (hother q hq hne), hfrees.congr rfl, e, List.mem_append_left _ he, hsrc⟩

/-- The port of a region may release it (R177). -/
def State.hostOwns (s : State) (p : Pkt) : Bool := match p.src with
  | .hport n => (s.region (p.u8 0)).active && (s.region (p.u8 0)).port = n
  | _ => false

theorem State.hostOwns_iff (s : State) (p : Pkt) : s.hostOwns p = true ↔
    (s.region (p.u8 0)).active = true ∧ ∃ n, p.src = .hport n ∧ (s.region (p.u8 0)).port = n.val := by
  unfold State.hostOwns
  cases h : p.src with
  | hport n => simp
  | span => simp
  | warden w => simp

theorem opRegionRelease_eq (p : Pkt) (s : State) : opRegionRelease p s =
    if !(s.holds p.src .mgmt) && !(s.hostOwns p) then .ok (s.noPriv p.src) (List.replicate 16 0#8)
    else if !(p.genOk (s.region (p.u8 0)).gen) then .refuse s stStale
    else if s.saving then .refuse s stForbids
    else if !(s.region (p.u8 0)).active then .ok s (s.regionEntry (p.u8 0))
    else .ok (s.released (p.u8 0)) ((s.released (p.u8 0)).regionEntry (p.u8 0)) := rfl

/-! ### A region is assigned (R176) -/

/-- Tile `k` holds ZERO, and no copy of it is in the Deck. -/
def State.isNew (s : State) (k : Nat) : Prop := s.code k = codeZero ∧ s.recOf k = .zero

theorem State.recOf_setRec_ne (s : State) {j k : Nat} (h : k ≠ j) (x : TileRec) : (s.setRec j x).recOf k = s.recOf k :=
  Store.get_set_ne _ _ _ h

theorem State.isNew_newTile_self (s : State) (k : Nat) : (s.newTile k).isNew k :=
  ⟨State.code_setCode_self _ k _, State.recOf_setRec_self _ k _⟩

theorem State.isNew_newTile {j k : Nat} (h : s.isNew k) : (s.newTile j).isNew k := by
  obtain rfl | hne := eq_or_ne k j
  · exact s.isNew_newTile_self k
  · exact ⟨(State.code_setCode_ne _ _ hne).trans h.1, (State.recOf_setRec_ne _ hne _).trans h.2⟩

theorem State.isNew_each (l : List Nat) {k : Nat} (h : s.isNew k) : (s.each l State.newTile).isNew k := by
  induction l generalizing s with
  | nil => exact h
  | cons j l ih =>
    rw [State.each, List.foldl_cons]
    exact ih (State.isNew_newTile h)

theorem State.isNew_each_of_mem {l : List Nat} {k : Nat} (hk : k ∈ l) (s : State) : (s.each l State.newTile).isNew k := by
  obtain ⟨before, after, rfl⟩ := List.append_of_mem hk
  rw [State.each, List.foldl_append, List.foldl_cons]
  exact State.isNew_each after (State.isNew_newTile_self _ k)

/-- Two states that differ in the tile map, the codes and the location table alone. -/
def State.onlyTables (s t : State) : Prop := ∃ map codes loc,
  t = { s with tile := { s.tile with map := map, codes := codes }, deck := { s.deck with loc := loc } }

theorem State.onlyTables_refl (s : State) : s.onlyTables s := ⟨_, _, _, rfl⟩

theorem State.onlyTables_trans (h : s.onlyTables t) (h' : t.onlyTables u) : s.onlyTables u := by
  obtain ⟨_, _, _, rfl⟩ := h
  obtain ⟨map, codes, loc, rfl⟩ := h'
  exact ⟨map, codes, loc, rfl⟩

theorem State.onlyTables_newTile (s : State) (k : Nat) : s.onlyTables (s.newTile k) := by
  rw [State.newTile]
  generalize s.nextFrame = frame
  exact ⟨_, _, _, rfl⟩

theorem State.onlyTables_each_newTile (l : List Nat) (s : State) : s.onlyTables (s.each l State.newTile) :=
  State.each_related State.onlyTables_refl State.onlyTables_trans State.onlyTables_newTile l s

theorem State.onlyTables_outcome (h : s.onlyTables t) : t.tile.regions = s.tile.regions ∧ t.dram = s.dram := by
  obtain ⟨_, _, _, rfl⟩ := h
  exact ⟨rfl, rfl⟩

/-- A region's entry as it is set up, before its tiles. -/
def State.entered (s : State) (r port ld base size b : Nat) : State :=
  s.bumpRegion r fun x => ⟨true, port, ld, base, size, b, x.gen⟩

/-- The region's entry and its tiles. -/
def State.peopled (s : State) (r port ld base size b : Nat) : State :=
  (s.entered r port ld base size b).each ((s.entered r port ld base size b).region r).tiles State.newTile

theorem State.peopled_outcome {r : Nat} (hr : r < 64) (port ld base size b : Nat) (s : State) :
    let t := s.peopled r port ld base size b
    t.region r = ⟨true, port, ld, base, size, b, ((s.region r).gen + 1) % 65536⟩ ∧
      (∀ i, i < 16384 * size → t.isNew (b + i)) ∧ (∀ q, q < 64 → q ≠ r → t.region q = s.region q) ∧
      t.dram.bytes = s.dram.bytes := by
  have hself : (s.entered r port ld base size b).region r = ⟨true, port, ld, base, size, b, ((s.region r).gen + 1) % 65536⟩ :=
    State.region_setRegion_self _ _ hr
  obtain ⟨hregions, hdram⟩ := State.onlyTables_outcome
    (State.onlyTables_each_newTile ((s.entered r port ld base size b).region r).tiles (s.entered r port ld base size b))
  refine ⟨(State.region_congr hregions r).trans hself, fun i hi => State.isNew_each_of_mem ?_ _, fun q hq hne => ?_,
    congrArg DramState.bytes hdram⟩
  · rw [hself]
    exact List.mem_map_of_mem (List.mem_range.mpr hi)
  · exact (State.region_congr hregions q).trans (State.region_setRegion_ne _ _ hq hne)

theorem State.assignRegion_eq (s : State) (r port ld base size b : Nat) : ∃ d, s.assignRegion r port ld base size b =
    ((s.peopled r port ld base size b).raise (srcPort port 4) d [vendorRec port ld .vendorRegion]).cdatChange port [ld] := ⟨_, rfl⟩

/-- The region is ACTIVE with the next generation, each tile of it ZERO, and k = 4 raised. -/
theorem State.assignRegion_outcome {r : Nat} (hr : r < 64) (port ld base size b : Nat) (s : State) :
    let t := s.assignRegion r port ld base size b
    t.region r = ⟨true, port, ld, base, size, b, ((s.region r).gen + 1) % 65536⟩ ∧
      (∀ i, i < 16384 * size → t.isNew (b + i)) ∧ (∀ q, q < 64 → q ≠ r → t.region q = s.region q) ∧
      t.dram.bytes = s.dram.bytes ∧ ∃ e ∈ t.raised, e.src = srcPort port 4 := by
  obtain ⟨hself, hnew, hother, hbytes⟩ := s.peopled_outcome hr port ld base size b
  obtain ⟨d, h⟩ := s.assignRegion_eq r port ld base size b
  rw [h]
  generalize s.peopled r port ld base size b = u at hself hnew hother hbytes
  obtain ⟨_, _, hlogs⟩ := (u.raise (srcPort port 4) d [vendorRec port ld .vendorRegion]).onlyLogs_cdatChange port [ld]
  rw [hlogs]
  exact ⟨hself, hnew, hother, hbytes, _, List.mem_append_left _ (List.mem_append_right _ List.mem_cons_self), rfl⟩

/-- An assignment first takes the region from the owner it has (R175, R177). -/
def State.disowned (s : State) (r : Nat) : State :=
  if (s.region r).active then (s.releaseRegion r).cdatChange (s.region r).port [(s.region r).ld] else s

theorem State.disowned_outcome {r : Nat} (hr : r < 64) (s : State) : ((s.disowned r).region r).gen = (s.region r).gen ∧
    (∀ q, q < 64 → q ≠ r → (s.disowned r).region q = s.region q) ∧ (s.disowned r).dram.bytes = s.dram.bytes := by
  unfold State.disowned
  split
  · obtain ⟨hself, hother, hfrees, -⟩ := s.releaseRegion_outcome hr
    obtain ⟨_, _, h⟩ := (s.releaseRegion r).onlyLogs_cdatChange (s.region r).port [(s.region r).ld]
    rw [h]
    generalize s.releaseRegion r = u at hself hother hfrees
    have hgen : (u.region r).gen = (s.region r).gen := by rw [hself, Region.freed]
    exact ⟨hgen, hother, hfrees.bytes⟩
  · exact ⟨rfl, fun _ _ _ => rfl, rfl⟩

/-- The assignment of the packet's region, at tile base `b`. -/
def State.assigned (s : State) (p : Pkt) (b : Nat) : State :=
  (s.disowned (p.u8 0)).assignRegion (p.u8 0) (p.u8 1) (p.u8 2) (p.u16 4) (p.u16 6) b

theorem State.assigned_outcome {p : Pkt} (hr : p.u8 0 < 64) (b : Nat) (s : State) : let t := s.assigned p b
    t.region (p.u8 0) = ⟨true, p.u8 1, p.u8 2, p.u16 4, p.u16 6, b, ((s.region (p.u8 0)).gen + 1) % 65536⟩ ∧
      (∀ i, i < 16384 * p.u16 6 → t.isNew (b + i)) ∧ (∀ q, q < 64 → q ≠ p.u8 0 → t.region q = s.region q) ∧
      t.dram.bytes = s.dram.bytes ∧ ∃ e ∈ t.raised, e.src = srcPort (p.u8 1) 4 := by
  obtain ⟨hgen, hregions, hbytes⟩ := s.disowned_outcome hr
  obtain ⟨hself, hnew, hother, hkept, hraised⟩ :=
    (s.disowned (p.u8 0)).assignRegion_outcome hr (p.u8 1) (p.u8 2) (p.u16 4) (p.u16 6) b
  rw [hgen] at hself
  exact ⟨hself, hnew, fun q hq hne => (hother q hq hne).trans (hregions q hq hne), hkept.trans hbytes, hraised⟩

/-- An assignment out of form (R175). -/
def State.assignBad (s : State) (p : Pkt) : Bool :=
  p.u16 6 = 0 || 2048 < p.u16 6 || !(s.ldExists (p.u8 1) (p.u8 2)) || s.get (Reg.HPORT_LD_LD_SIZE (p.u8 1) (p.u8 2)) < p.u16 4 + p.u16 6
    || s.rangeTaken (p.u8 0) (p.u8 1) (p.u8 2) (p.u16 4) (p.u16 6)

/-- The region is already its LD's (R175). -/
def State.assignOwn (s : State) (p : Pkt) : Bool :=
  (s.region (p.u8 0)).active && (s.region (p.u8 0)).port = p.u8 1 && (s.region (p.u8 0)).ld = p.u8 2

/-- The state in which the tile base is sought: the region's own tiles count as free (R176). -/
def State.assignFree (s : State) (p : Pkt) : State :=
  if (s.region (p.u8 0)).active then s.setRegion (p.u8 0) { s.region (p.u8 0) with active := false } else s

/-- An assignment in form to another owner: it takes effect, or lacks a run or frames (R176). -/
def State.placed (s : State) (p : Pkt) : OpResult :=
  match (s.assignFree p).freeRun (p.u16 6) with
  | none => ⟨s, stBusy, s.assignReply (p.u8 0) (s.frameShort (p.u16 6))⟩
  | some b =>
    if s.poolFrames < 16384 * p.u16 6 then ⟨s, stBusy, s.assignReply (p.u8 0) (s.frameShort (p.u16 6))⟩
    else .ok (s.assigned p b) ((s.assigned p b).assignReply (p.u8 0) 0)

theorem opRegionAssign_eq (p : Pkt) (s : State) : opRegionAssign p s =
    if !(p.genOk (s.region (p.u8 0)).gen) then .refuse s stStale
    else if s.saving then .refuse s stForbids
    else if s.assignBad p then .refuse s stInvalid
    else if s.assignOwn p then
      if (s.region (p.u8 0)).base = p.u16 4 && (s.region (p.u8 0)).size = p.u16 6 then .ok s (s.assignReply (p.u8 0) 0)
      else .refuse s stInvalid
    else s.placed p := rfl

theorem State.placed_busy {p : Pkt} (h : (s.assignFree p).freeRun (p.u16 6) = none ∨ s.poolFrames < 16384 * p.u16 6) :
    s.placed p = ⟨s, stBusy, s.assignReply (p.u8 0) (16384 * p.u16 6 - s.poolFrames)⟩ := by
  unfold State.placed
  cases hrun : (s.assignFree p).freeRun (p.u16 6) with
  | none => rfl
  | some b => exact if_pos (h.resolve_left (by simp [hrun]))

theorem State.placed_assigned {p : Pkt} {b : Nat} (hrun : (s.assignFree p).freeRun (p.u16 6) = some b)
    (hpool : 16384 * p.u16 6 ≤ s.poolFrames) :
    s.placed p = .ok (s.assigned p b) ((s.assigned p b).assignReply (p.u8 0) 0) := by
  rw [State.placed, hrun]
  exact if_neg (Nat.not_lt.mpr hpool)

theorem State.assignBad_iff (s : State) (p : Pkt) : s.assignBad p = true ↔ p.u16 6 = 0 ∨ 2048 < p.u16 6 ∨
    s.ldExists (p.u8 1) (p.u8 2) = false ∨ s.get (Reg.HPORT_LD_LD_SIZE (p.u8 1) (p.u8 2)) < p.u16 4 + p.u16 6 ∨
    s.rangeTaken (p.u8 0) (p.u8 1) (p.u8 2) (p.u16 4) (p.u16 6) = true := by
  simp [State.assignBad, or_assoc]

theorem State.assignOwn_iff (s : State) (p : Pkt) : s.assignOwn p = true ↔
    (s.region (p.u8 0)).active = true ∧ (s.region (p.u8 0)).port = p.u8 1 ∧ (s.region (p.u8 0)).ld = p.u8 2 := by
  simp [State.assignOwn, and_assoc]

/-! ### Where the packets reach their application -/

/-- An answer with data, whatever its status. -/
theorem PktOp.command_of_status {o : PktOp} {p : Pkt} (h : o.reaches p s = true) {st : Nat} {data : List Byte}
    (hrun : o.run (Pkt.as p o.opcode) s = ⟨t, st, data⟩) (hst : st ≠ stLater) : o.command p s = t.ended o p st data := by
  rw [PktOp.command_of_reaches h, hrun]
  exact if_neg hst

theorem regionAssign_number {p : Pkt} (h : regionAssignOp.reaches p s = true) : p.u8 0 < 64 := by
  have hparams := PktOp.paramsOk_of_reaches h
  simp only [regionAssignOp, Bool.and_eq_true, decide_eq_true_eq] at hparams
  obtain ⟨⟨⟨⟨-, hnumber⟩, -⟩, -⟩, -⟩ := hparams
  exact Nat.lt_succ_of_le hnumber

theorem regionRelease_number {p : Pkt} (h : regionReleaseOp.reaches p s = true) : p.u8 0 < 64 := by
  have hparams := PktOp.paramsOk_of_reaches h
  simp only [regionReleaseOp, Bool.and_eq_true, decide_eq_true_eq] at hparams
  obtain ⟨⟨-, hnumber⟩, -⟩ := hparams
  exact Nat.lt_succ_of_le hnumber

end Regions

/-- Settles O27: each packet by the branches of its row, in their order; then a released frame's way through the zeroing queue. -/
theorem regionsAreAssignedAndReleased : Obligations.RegionsAreAssignedAndReleased := by
  unfold Obligations.RegionsAreAssignedAndReleased
  refine ⟨?_, fun p s h => ?_, fun p s h => ?_, fun s hrun => ⟨?_, fun c => ⟨fun hnone => ?_, fun f l hqueue => ⟨fun hleft => ?_,
    fun hdone => ?_⟩⟩⟩⟩
  · rintro p s _ _ _ _ _ rfl rfl rfl rfl rfl h
    have hstatus {t : State} {st : Nat} {data : List Byte} (hrun : opRegionAssign p s = ⟨t, st, data⟩) (hst : st ≠ stLater) :
        exec (.regionAssign p) s = .next (t.ended regionAssignOp p st data) := congrArg _ (PktOp.command_of_status h hrun hst)
    rw [opRegionAssign_eq] at hstatus
    refine ⟨fun hgen => hstatus (if_pos (by simp [hgen])) (by decide), fun hgen hsave => ?_, fun hgen hsave => ?_⟩
    · exact hstatus ((if_neg (by simp [hgen])).trans (if_pos hsave)) (by decide)
    have hsave := ne_true_of_eq_false hsave
    rw [if_neg (by simp [hgen]), if_neg hsave] at hstatus
    simp only [← s.assignBad_iff, ← s.assignOwn_iff]
    refine ⟨fun hbad => hstatus (if_pos hbad) (by decide), fun hbad hown => ?_, fun hbad hown => ?_⟩
    · rw [if_neg hbad, if_pos hown] at hstatus
      refine ⟨fun hbase hsize => hstatus (if_pos (by simp [hbase, hsize])) (by decide), fun hother => ?_⟩
      refine hstatus (if_neg ?_) (by decide)
      simpa [imp_iff_not_or] using hother
    · rw [if_neg hbad, if_neg hown] at hstatus
      refine ⟨fun hlacks => hstatus (State.placed_busy hlacks) (by decide), fun b hb hpool => ?_⟩
      exact ⟨_, hstatus (State.placed_assigned hb hpool) (by decide), s.assigned_outcome (regionAssign_number h) b⟩
  · have hstatus {t : State} {st : Nat} {data : List Byte} (hrun : opRegionRelease p s = ⟨t, st, data⟩) (hst : st ≠ stLater) :
        exec (.regionRelease p) s = .next (t.ended regionReleaseOp p st data) := congrArg _ (PktOp.command_of_status h hrun hst)
    rw [opRegionRelease_eq] at hstatus
    simp only [← s.hostOwns_iff]
    refine ⟨fun hmay => hstatus (if_pos ?_) (by decide), fun hmay hgen => ?_, fun hmay hgen hsave => ?_,
      fun hmay hgen hsave hactive => ?_, fun hmay hgen hsave hactive => ?_⟩
    · simpa using hmay
    all_goals rw [if_neg (by simpa [imp_iff_or_not, or_comm] using hmay)] at hstatus
    · exact hstatus (if_pos (by simp [hgen])) (by decide)
    · exact hstatus ((if_neg (by simp [hgen])).trans (if_pos hsave)) (by decide)
    · rw [if_neg (by simp [hgen]), if_neg (ne_true_of_eq_false hsave)] at hstatus
      exact hstatus (if_pos (by simp [hactive])) (by decide)
    · rw [if_neg (by simp [hgen]), if_neg (ne_true_of_eq_false hsave)] at hstatus
      obtain ⟨⟨hfree, hnext⟩, hother, hfrees, hraised⟩ := s.released_outcome (regionRelease_number h)
      refine ⟨_, hstatus (if_neg (by simp [hactive])) (by decide), hfree, hnext, hother, hfrees.bytes, hraised,
        fun tile hmine => ⟨(hfrees.code tile).trans (if_pos hmine), (hfrees.frameOf tile).trans (if_pos hmine), hfrees.recOf tile hmine⟩,
        fun tile hmine => ?_, hfrees.released⟩
      have hmine := ne_true_of_eq_false hmine
      exact ⟨(hfrees.code tile).trans (if_neg hmine), (hfrees.frameOf tile).trans (if_neg hmine)⟩
  · obtain ⟨hlength, htake⟩ := length_regionQuery_reply (if s.holds p.src .mgmt then s.poolFrames else 0)
      (if s.holds p.src .mgmt then s.dram.zeroQueue.length else 0) (s.length_queried p) s
    exact ⟨_, congrArg _ (PktOp.command_of_ok h (opRegionQuery_eq _ s)), hlength, htake⟩
  · obtain ⟨hbytes, hregs, hreleasing, hqueue⟩ := s.enterZeroing_outcome
    refine ⟨_, State.engines_of_running hrun, hbytes, hregs, fun o ho hbar huse => ?_, fun o ho hkept => ?_⟩
    · have hunused : s.unused o = true := by simp [State.unused, hbar, huse]
      exact ⟨by simp [hreleasing, hunused], hqueue o ho hunused⟩
    · rw [hreleasing]
      refine List.mem_filter.mpr ⟨ho, ?_⟩
      simpa [State.unused, imp_iff_not_or] using hkept
  · exact (State.engines_of_running hrun).trans (congrArg _ (State.zeroedFrame_none hnone))
  · exact (State.engines_of_running hrun).trans (congrArg _ (State.zeroedFrame_left hqueue hleft))
  · exact ⟨_, (State.engines_of_running hrun).trans (congrArg _ (State.zeroedFrame_done hqueue hdone)), s.joinPool_frameCleared_outcome f⟩

end Sys2Proof.Machine
end
